-- ==== Sys2Proof/Word.lean ====
section
/-!
DEFINITION. The words of the device: a register is 32 bits wide, a Vilpi character and a CAN data byte 8 bits,
a value that passes a guarded crossing 16 bits (*Anatomy*, *Registers* and *Guarded crossings*).
-/
namespace Sys2Proof

/-- A register as REG sees it. -/
abbrev Word := BitVec 32
/-- A byte of a line, a frame or an audit record. -/
abbrev Byte := BitVec 8
/-- A value of a guarded crossing, in word form. -/
abbrev XWord := BitVec 16

end Sys2Proof
end

