-- ==== Sys2Proof/Syntax.lean ====
section
/-!
DEFINITION. The commands of the block: one constructor of `Instr` for each row of the table of operations and events,
in the table's order, and the types of their operands.  A row that is an event of the outside world (an analogue
value, a received frame, the passage of a time) carries what the outside world decides; a row that is a Vilpi verb
carries the line that spells it, already read into operands.
-/
namespace Sys2Proof

/-- The sessions of Table VIL-1 (R115), in session order (R177). -/
inductive Sess where
  | link0 | link1 | bus1 | bus2 | bus3 | bus4 | mac
  deriving DecidableEq, Repr

/-- The roles (R171), from the lowest. -/
inductive Role where
  | operator | installer | maker
  deriving DecidableEq, Repr

/-- Typed and framed lines (R137). -/
inductive LineMode where
  | typed | framed
  deriving DecidableEq, Repr

/-- Who sent a line: the session, the tag if any, and whether the line was framed (R131, R138). -/
structure Hdr where
  ses : Sess
  tag : Option Nat
  framed : Bool
  deriving DecidableEq, Repr

/-- The kinds of object that GET, SET and SHOW name (Table SCO-9 and the chapters' *Commands and attributes*);
the last rows are objects that only values name. -/
inductive ObjKind where
  | xing | pwr | leave | session | macroObj | sec | chan | fi | ic | fc | lc | conv | cell | counter | drive | prot
  | tf | tp | tmod | thm | loop | zone | sched | bus | filter | point | time | lan | seg | jrn | bst | moduleObj
  | onObj | macrosObj | li | feed | port
  deriving DecidableEq, Repr

/-- One object: its kind and its number (0 where the kind has one object). -/
structure Obj where
  kind : ObjKind
  n : Nat
  deriving DecidableEq, Repr

/-- An object, or an object range of one kind in ascending number (R173). -/
structure ObjRange where
  kind : ObjKind
  lo : Nat
  hi : Nat
  isRange : Bool
  deriving DecidableEq, Repr

/-- One token of a value (Table VIL-2).  A number keeps its sign, its digits without the point, the count of
decimals and its unit. -/
inductive Atom where
  | word (w : String)
  | num (neg : Bool) (digits : Nat) (decimals : Nat) (unit : String)
  | code (v : Nat)
  | tod (h m s : Nat) (secs : Bool)
  | date (y m d : Nat)
  | str (s : String)
  deriving DecidableEq, Repr

/-- A value: one token, or a list of two or more of them. -/
abbrev Tok := List Atom

/-- Where a drive is ordered to go (R196); a position in 1 % steps. -/
inductive MoveTo where
  | up | down | safe | to (pos : Nat)
  deriving DecidableEq, Repr

/-- The holders of leave (Lamplighter, *Parts*). -/
inductive Holder where
  | drive (d : Fin 32) | aux | lantern | cal | bist | freeze | charge
  deriving DecidableEq, Repr

/-- The classes of R88, from the highest. -/
inductive LClass where
  | urgent | manual | routine | service
  deriving DecidableEq, Repr

/-- The wake sources of Table PWR-5, as PWR_QUIET.SRC names them. -/
inductive WakeSrc where
  | link | can | channel | rtc | reset
  deriving DecidableEq, Repr

/-- The kinds of disturbance mark (Table PWR-7a). -/
inductive MarkKind where
  | sag | swell | trans | freq
  deriving DecidableEq, Repr

/-- The flags of a result word (R296); `trip` is the ODOUT trip bit. -/
structure WFlags where
  mark : Bool
  unset : Bool
  sat : Bool
  nosync : Bool
  out : Bool
  trip : Bool
  deriving DecidableEq, Repr

/-- An output of the over-current part of the Snuffer. -/
inductive TripOut where
  | feed (f : Fin 8) | port (p : Fin 4)
  deriving DecidableEq, Repr

/-- A pair of feeds or a port that has a dead time (R371, R373). -/
inductive DeadOut where
  | pair (q : Fin 4) | port (p : Fin 4)
  deriving DecidableEq, Repr

/-- The protections of R391. -/
inductive Prot where
  | wind | rain | frost | fire
  deriving DecidableEq, Repr

/-- A received CAN frame (Table BUS-1, R516): identifier, format, form, data and start-of-frame stamp. -/
structure CanFrame where
  ident : BitVec 29
  ext : Bool
  fdf : Bool
  brs : Bool
  esi : Bool
  remote : Bool
  data : List Byte
  sof : Nat
  sub : Fin 10
  deriving DecidableEq, Repr

/-- How a transmit attempt ends (R510). -/
inductive TxRes where
  | done | lost | error
  deriving DecidableEq, Repr

/-- What EXPORT sends (R210). -/
inductive ExportWhat where
  | ring | slot (n : Fin 4) | audit
  deriving DecidableEq, Repr

/-- The wakes of Table BUS-4, as BUS_WAKE.CAUSE names them. -/
inductive CanWakeKind where
  | pattern | frame | errors
  deriving DecidableEq, Repr

/-- The commands, one for each row of the table, in the table's order. -/
inductive Instr where
  -- Anatomy
  | epochBoundary
  | guardedArrival (x : Fin 240) (v : XWord) (ptick : Option Nat)
  | silenceExpiry (x : Fin 240)
  | heldHandshake
  | workerHeartbeat (w : Fin 2)
  | heartbeatWindowClose
  | workerRelease (crcOk : Bool)
  | safeAutoReturn
  | keeperWatchdogExpiry
  -- Power
  | mainGood
  | mainLost
  | mainsAbsent
  | zeroCrossing (raw : BitVec 20)
  | halfCycleReport (rms freq : BitVec 16)
  | absentHealthReport
  | transientDetect (slew : BitVec 16)
  | coreResetRelease
  | barrierLinkUp (lrev jrev : Byte)
  | versionCheck
  | quickSelfTestComplete (faults : BitVec 10) (feeds : BitVec 8) (ports : BitVec 4) (copyOk : Bool)
  | refSettled
  | resetPin (low : Nat)
  | brownOut (low : Nat)
  | holdAssert
  | flushComplete
  | quietidleExpiry
  | quietWake (src : WakeSrc)
  | wakeChannelSample (levels : BitVec 96)
  | rtcAlarm
  | auxTrip (ma : BitVec 16) (long : Bool)
  | auxRetry
  | vbatEvaluation (mv : Int)
  | fastChargeEnd (mv : Int)
  | pilotCutoffPending
  | pilotDead
  | vbatRecover
  | pilotStatePost
  -- Lamplighter
  | leaveRequest (h : Holder) (cls : LClass) (dur : Nat)
  | leaveTimeout (h : Holder)
  | grantExpiry (h : Holder)
  | grantReturn (h : Holder)
  | leaveWithdraw (h : Holder)
  | staggerElapsed
  -- Vilpi: lines
  | uartByte (p : Fin 2) (code : BitVec 9)
  | commandLine (s : Sess) (text : Option String)
  | partialTimeout (s : Sess)
  | ctrlC (s : Sess)
  | autobaudDetect (ch : Byte) (rate : Nat)
  | autobaudRearm (low : Nat)
  | rateChangeEffect (p : Fin 2)
  | ctsChange (asserted : Bool)
  | noticeSent (s : Sess)
  -- Vilpi: verbs
  | hello (q : Hdr) (mode : Option LineMode) (level : Option Nat)
  | authChallenge (q : Hdr) (r : Role)
  | authResponse (q : Hdr) (r : Role) (codes : List Word)
  | logout (q : Hdr)
  | key (q : Hdr) (r : Role) (codes : List Word)
  | version (q : Hdr)
  | status (q : Hdr)
  | help (q : Hdr) (word : Option String)
  | cancel (q : Hdr) (tag : Nat)
  | getAttr (q : Hdr) (o : ObjRange) (attrs : List String)
  | setAttr (q : Hdr) (o : ObjRange) (pairs : List (String × Tok))
  | showObj (q : Hdr) (o : Obj) (aspect : Option String)
  | defaultObj (q : Hdr) (o : Obj)
  | defaultAll (q : Hdr)
  | lockConfig (q : Hdr)
  | modeRun (q : Hdr)
  | modeSafe (q : Hdr)
  | modeQuiet (q : Hdr)
  | modeBench (q : Hdr)
  | modeRestart (q : Hdr)
  | restartReset
  | regRead (q : Hdr) (addr : Word) (count : Nat)
  | regWrite (q : Hdr) (addr value : Word) (mask : Option Word)
  | move (q : Hdr) (o : ObjRange) (dest : MoveTo) (tilt : Option Nat)
  | stop (q : Hdr) (o : Option ObjRange)
  | release (q : Hdr) (o : Option ObjRange)
  | learn (q : Hdr) (d : Fin 32)
  | ack (q : Hdr) (o : Obj) (fault : Option String)
  | calConverters (q : Hdr)
  | bist (q : Hdr) (dur : Option Nat)
  | repairFuse (q : Hdr)
  | timeSet (q : Hdr) (y mo d h mi sec : Nat) (unc : Option Nat)
  | send (q : Hdr) (ident : BitVec 29) (len : Nat) (data : List Word) (fd brs oneshot : Bool)
  | draw (q : Hdr) (full : Bool) (fill : Option Nat) (pairs : List (Fin 129 × Nat))
  | blink (q : Hdr) (seg : Fin 129) (period : Nat) (a b : Nat)
  | blinkOff (q : Hdr) (seg : Fin 129)
  | freeze (q : Hdr) (slot : Option (Fin 4)) (note : Option String)
  | exportData (q : Hdr) (what : ExportWhat)
  | load (q : Hdr) (slot : Fin 4) (sq : Nat) (data : List Word)
  | loadEnd (q : Hdr) (slot : Fin 4)
  | replayStart (q : Hdr) (slot : Fin 4)
  | replayStop (q : Hdr)
  | macroAdd (q : Hdr) (m : Fin 64) (line : String)
  | macroClear (q : Hdr) (m : Fin 64)
  | macroList (q : Hdr) (m : Fin 64)
  | macroRun (q : Hdr) (m : Fin 64)
  | onBind (q : Hdr) (event : String) (obj : Option String) (m : Fin 64)
  | onOff (q : Hdr) (event : String) (obj : Option String)
  | onList (q : Hdr)
  | wait (q : Hdr) (ms : Nat)
  | waitExpiry (s : Sess) (tag : Option Nat)
  | auditAck (q : Hdr) (n : Nat)
  | slotFree (q : Hdr) (n : Fin 4)
  | storeWriteComplete (ok : Bool)
  | macroLine (m : Fin 64)
  | macroTrigger (m : Fin 64)
  -- Worlds and roles
  | challengeExpiry (s : Sess)
  | roleInactivityExpiry (s : Sess)
  | authBlockExpiry (bus : Bool) (r : Role)
  | secViolation (w : Fin 2) (addr : Word)
  -- Converters
  | icFreeWindowEnd (raw : BitVec 20)
  | icResultRelease
  | icReleaseTimeout
  | drySample (levels : BitVec 96)
  | odTrip (c : Fin 96) (ma : BitVec 12)
  | groupTrip (g : Fin 12) (ma : BitVec 12)
  | fcTrigger (fi : Fin 32) (ct : Option (Fin 16))
  | fcBurstEnd (codes : List (BitVec 12))
  | lcSampleSet (sq : BitVec 16) (lv : XWord) (li : List XWord)
  | refFault
  | refRecover
  | calPhaseEnd (vals : List Int)
  -- Churn
  | churnWord (k : Fin 160) (w : XWord) (ext : BitVec 4) (f : WFlags)
  | snapshot
  | markReport (kind : MarkKind) (start : Nat) (stop : Option Nat)
  | peekLatch (k : Fin 160)
  -- Counters
  | pulseEdgeQualified (u : Fin 96) (rise : Bool)
  | counterAdvance (n : Fin 16)
  | linkedAction (n : Fin 16)
  | captureEdge (n : Fin 16)
  | captureRecordSend
  | sampleRecord (n : Fin 16)
  | filteredRecord (n : Fin 16)
  | compareWriteEffect (n : Fin 16)
  | counterClear (n : Fin 16)
  | captureTickLatch (n : Fin 16)
  | cntCmpWrite (n : Fin 16) (v : Word)
  -- Drives
  | feedCloseCommand (f : Fin 8)
  | feedOpen (f : Fin 8)
  | feedOpenTimeout (f : Fin 8)
  | deadTimeEnd (o : DeadOut)
  | rampEnd (p : Fin 4)
  | encoderEdge (p : Fin 4) (ea eb : Bool)
  | feedTrip (f : Fin 8) (ma : Nat)
  | portTrip (p : Fin 4) (mv : Int)
  | tripLatchClear (o : TripOut)
  | barrierHeartbeat
  | heartbeatLoss
  | barrierLinkLost
  | barrierLinkBack
  | travelEnd (d : Fin 32)
  | endstopCollapse (d : Fin 32)
  | endstopTimeout (d : Fin 32)
  | learnRunTimeout (d : Fin 32)
  | obstacleEvaluation (d : Fin 32)
  | stall (d : Fin 32)
  | sagStop
  | protectionOnDelay (p : Prot)
  | protectionOffDelay (p : Prot)
  | holdExpiry (d : Fin 32)
  -- Thermal
  | thermalStep (pe : List Int)
  | ambientWord
  | ambientTimeout
  | thermoClear (m : Fin 12)
  | thermalStateRecord
  -- Climate
  | loopRelease (l : Fin 96)
  | loopOutput (l : Fin 96) (done : Bool)
  | runonEnd (l : Fin 96)
  | occupancyExpiry (z : Fin 24)
  | overrideExpiry (z : Fin 24)
  | switchPoint (s : Fin 16)
  -- Bus
  | canFrameValid (f : CanFrame)
  | queueDrain (b : Bool)
  | userFrame (bf : Fin 48) (f : CanFrame)
  | canTxComplete (tb : Fin 8) (r : TxRes) (sof : Nat) (sub : Fin 10)
  | busErrorState (tec rec : Nat)
  | busOffDelayExpiry
  | busOffRecovered
  | busSleep
  | canWake (k : CanWakeKind)
  | busHeartbeatSend
  | heartbeatReceived (src : Fin 64)
  | pointPublish (p : Fin 32)
  | pointreq (src : Fin 64) (index : Byte)
  | tunnelOpen (src : Fin 64)
  | tunnelFragment (ses : Fin 4) (src : Fin 64) (sq : Fin 64) (bytes : List Byte)
  | tunnelAck (ses : Fin 4) (src : Fin 64) (next : Fin 64)
  | tunnelResend (ses : Fin 4)
  | tunnelClose (ses : Fin 4) (src : Fin 64)
  | tunnelIdle (ses : Fin 4)
  | sealedOrder (ident : BitVec 29) (fdf : Bool) (data : List Byte)
  -- Time
  | timerefSend
  | timerefReceived (src : Fin 64) (data : List Byte) (sof : Nat) (sub : Fin 10)
  | timefupReceived (src : Fin 64) (data : List Byte)
  | timeSample
  | masterClaim
  | timeSourceLost
  | slewComplete
  | timeStep
  | pulseStart
  | pulseEnd
  | holdlimExpiry
  | rtcWrite
  -- Lantern
  | pumpReady
  | pumpTimeout
  | lanFrameEnd
  | pumpDip
  | recoveryEnd
  | drawSupplyTimeout
  | blinkToggle (s : Fin 8)
  | lanternStatusPost
  -- Journal
  | anchorInterval
  | freezeBoundary
  | freezeCopyStart
  | freezeCopyComplete
  | journalStatusPost
  -- Self-test
  | bistStageEnd (faults : BitVec 10) (feeds : BitVec 8) (ports : BitVec 4) (rows : List (Fin 32 × Fin 256))
  | testStatusPost
  -- Register writes and latching reads with a row of their own
  | xingClrstat (v : Word)
  | xingNotes (v : Word)
  | xingDescriptorWrite (x : Fin 240) (r : Fin 4) (v mask : Word)
  | rstcauseClear (v : Word)
  | leaveClr (v : Word)
  | linkClr (v : Word)
  | chanClr (v : Word)
  | icClr (v : Word)
  | fcClr (v : Word)
  | probeClr (v : Word)
  | churnClr (v : Word)
  | cntClr (v : Word)
  | motClr (v : Word)
  | lineClr (v : Word)
  | snufferLimitWrite (o : TripOut) (v : Word)
  | thmThresholdWrite (m : Fin 13) (v mask : Word)
  | thmClr (v : Word)
  | busClr (v : Word)
  | timeClr (v : Word)
  | lanClr (v : Word)
  | jrnClr (v : Word)
  | tstClr (v : Word)
  | monoLatch
  | timeSecLatch
  | mainGoodQualification (rise : Bool)
  | lockedIslandsLock
  | busJoin
  | followedMasterUnheard
  deriving DecidableEq, Repr

end Sys2Proof
end

