-- ==== Sys2Proof/Config.lean ====
section
/-!
DEFINITION. What one device or one run fixes and the spec leaves open: constants with no body, so that nothing can
lean on their values.
-/
namespace Sys2Proof

/-- The `n`th value that the spec leaves free, `w` bits wide: `n` is the model's own counter `State.fresh`. -/
opaque Config.freeValue (w n : Nat) : BitVec w

/-- The grade of the module is X, and not S (Table ELC-1). -/
opaque Config.gradeX : Bool

/-- The rail V1 in mV at a tick, as the monitor of the core die measures it (Table BST-3): no command gives it. -/
opaque Config.v1mV (tick : Nat) : Nat

/-- The trimmed islands are within ±2 % of their nominal frequencies at a tick (R9, Table BST-3): no command gives it. -/
opaque Config.trimOk (tick : Nat) : Bool

/-- The serial number of the module (Table ELC-11), twelve characters. -/
opaque Config.serial : String

/-- Whether the device rounds a real result up: the spec gives the NTC and PT1000 conversions and the decay of a
model's state as real functions and states no rounding of them.  `place` is the function and its last place, `a` and `b`
its operands. -/
opaque Config.roundUp (place : Nat) (a b : Int) : Bool

/-- The code of an output DAC or of the probe DAC (`bits` wide) for a voltage in mV: the spec gives the codes no
weight (Tables CNV-13 and CNV-18). -/
opaque Config.dacCode (bits mV : Nat) : Nat

/-- The factory coefficient XTC of the crystal (R564), in 10^-9 ppm/°C². -/
opaque Config.xtc : Int

/-- The bytes of the state image that an anchor holds (R623), as a function of the anchor's number: the spec states
what the image holds and not its layout. -/
opaque Config.imageWord (anchor n : Nat) : Word

/-- The length of the state image of an anchor in bytes (R623): at most 24 KiB. -/
opaque Config.imageSize (anchor : Nat) : Nat

/-- The length in bytes and the bytes of the configuration image (R623), as functions of the configuration's number: the
spec states what the image holds and not its layout. -/
opaque Config.cfgSize (cfg : Nat) : Nat
opaque Config.cfgByte (cfg n : Nat) : Byte

/-- The code of the ROM release in a BOOT record (Table JRN-2): the spec gives none. -/
opaque Config.romWord : Nat

/-- What a byte of a ring page reads as before a record is written there (R632): the spec gives no value. -/
opaque Config.ringFill : Byte

/-- The output digest of one control island for one epoch (R622), by island and epoch. -/
opaque Config.outDigest (island epoch : Nat) : BitVec 64

end Sys2Proof
end

