-- ==== Sys2Proof/Machine/State.lean ====
section
/-!
DEFINITION. The state of the block: everything the spec gives the module, as plain data, with its value right after a
power-on reset of the core die (`State.reset`), and the queue of the commands that wait.
Ticks are of 125 ns (R11).  `State.now` is the model's own clock; a field that holds a tick holds one of that clock,
and monotonic time is `now - rel`.
-/
namespace Sys2Proof.Machine
open Sys2Proof

/-- Why the block stops. -/
inductive Fault where
  /-- VBAT_EVALUATION and the pilot steps: a cell voltage outside the absolute maximum ratings of Table ELC-1 (R688):
  the spec gives no behaviour there, beyond that the device may be damaged.  Safe: the model stops. -/
  | absoluteMaximum
  deriving DecidableEq, Repr

/-- Why a command has no meaning. -/
inductive Refusal where
  /-- Raised by an arm of `exec` whose command has no meaning yet.  Safe. -/
  | notModelled (mnemonic : String)
  deriving DecidableEq, Repr

/-- A sparse table: entries by number, absent entries at a default. -/
abbrev Tbl (α : Type) := List (Nat × α)

/-! ### Anatomy -/

/-- The device modes (Table SCO-9, Table ANA-6). -/
inductive Mode where
  | off | start | run | quiet | cooldown | safe | bench | replay | bist
  deriving DecidableEq, Repr

/-- The kinds of failure episode of a crossing (R17). -/
inductive XKind where
  | range | stale | silent
  deriving DecidableEq, Repr

/-- What a record tells WORK0 about its crossing's episode (R17). -/
inductive XEvent where
  | begins (k : XKind) | turns (k : XKind) | ends
  deriving DecidableEq, Repr

/-- A crossing's descriptor (Tables ANA-18 and ANA-19). -/
structure XDesc where
  filt : BitVec 4 := 0
  fpar : BitVec 8 := 0
  subk : BitVec 3 := 0
  note : Bool := true
  lo : BitVec 16 := 0
  hi : BitVec 16 := 0xFFFF
  silence : BitVec 16 := 0
  age : BitVec 16 := 0
  subv : BitVec 16 := 0
  deriving DecidableEq, Repr

/-- What a record carries beside its guarded value. -/
inductive Pay where
  | none
  /-- A snapshot record (R320): COUNT, FLAGS, MIN and MAX. -/
  | churn (count : Nat) (flags : BitVec 11) (min max : Int)
  /-- A counter record (Table CNT-5): KIND, MEMBER, OVERWR, MAKEUP and FROZEN. -/
  | count (kind member overwr : Nat) (makeup frozen : Bool)
  /-- A mains health record (R71): RMS in 0.1 V, frequency in 0.01 Hz, whether mains is present. -/
  | mains (rms freq : Nat) (present : Bool)
  /-- A disturbance mark report. -/
  | mark (kind : MarkKind) (start : Nat) (stop : Option Nat) (depth : Nat)
  /-- A Snuffer verdict (R375). -/
  | trip (o : TripOut) (value : Nat)
  /-- A received CAN frame with the filter that passed it (R504). -/
  | can (f : CanFrame) (bf : Nat) (stale : Bool)
  /-- The outcome of a transmit attempt (R510). -/
  | tx (tb : Nat) (r : TxRes) (sof sub : Nat)
  /-- A sample of network time (R552): θ in 2.5 ns, and bytes 0 to 3 of its TIMEREF. -/
  | sample (theta : Int) (w : Nat)
  /-- A status post: an island's own words. -/
  | post (a b : Nat)
  /-- A port record (R403): the encoder count, the current in mA and the bus voltage in 10 mV, which are not guarded. -/
  | port (enc ma : Int) (busv : Nat)
  deriving DecidableEq, Repr

/-- A record of a crossing (R13, R14, R19). -/
structure Rec where
  x : Nat
  stamp : Nat
  val : Int
  range : Bool := false
  stale : Bool := false
  silent : Bool := false
  ptick : Option Nat := none
  ev : Option XEvent := none
  pay : Pay := .none
  deriving DecidableEq, Repr

/-- What stood at a crossing before its SILENT substitute of a tick: an arrival of that tick takes the substitute back
(R35). -/
structure XPast where
  tick : Nat
  cur : Option Int
  range : Bool
  stale : Bool
  episode : Option XKind
  fails : Nat
  deriving DecidableEq, Repr

/-- One guarded crossing. -/
structure XCell where
  /-- The descriptor in force; `none` is the default of the crossing. -/
  desc : Option XDesc := none
  /-- The descriptor written this epoch (R36). -/
  next : Option XDesc := none
  /-- The filter history, newest first (R15). -/
  hist : List Int := []
  filtered : Option Int := none
  debVal : Int := 0
  debRun : Nat := 0
  lastPass : Option Int := none
  /-- The value of the last record (R329). -/
  cur : Option Int := none
  range : Bool := false
  stale : Bool := false
  silent : Bool := false
  episode : Option XKind := none
  fails : Nat := 0
  lastArrival : Option Nat := none
  /-- The tick at which the descriptor in force took effect (R14, R36). -/
  since : Nat := 0
  /-- The last record a control island has received. -/
  seen : Option Rec := none
  /-- What stood before the last SILENT substitute (R35). -/
  past : Option XPast := none
  deriving DecidableEq, Repr

/-- A handshake held back by a full delivery buffer (R21). -/
structure Held where
  x : Nat
  v : XWord
  ptick : Option Nat
  pay : Pay
  deriving DecidableEq, Repr

/-- The rows of Table ANA-7 as causes of a transition, numbered as SYS_MODE.CAUSE numbers them, with the mode they
lead to. -/
structure ModeCause where
  row : Nat
  target : Mode
  deriving DecidableEq, Repr

structure Ana where
  mode : Mode := .start
  prev : Option Mode := none
  cause : Nat := 0
  modeSince : Nat := 0
  causes : List ModeCause := []
  monoH : Word := 0
  xings : Tbl XCell := []
  /-- The descriptors in the configuration store. -/
  xstored : Tbl XDesc := []
  notesOn : Bool := true
  stalls : Nat := 0
  /-- A buffer has been full in this epoch (R21). -/
  stalled : Bool := false
  peak : Nat := 0
  bufK : List Rec := []
  bufW0 : List Rec := []
  bufW1 : List Rec := []
  held : List Held := []
  /-- Heartbeats posted in this window (R23). -/
  beat0 : Bool := false
  beat1 : Bool := false
  miss0 : Nat := 0
  miss1 : Nat := 0
  /-- Heartbeats posted since the release of the workers, and the tick of that release (R24). -/
  seen0 : Bool := false
  seen1 : Bool := false
  workerFrom : Nat := 0
  /-- The heartbeat window in progress. -/
  window : Nat := 0
  /-- Windows in a row that held both heartbeats, since the takeover (R26). -/
  goodWindows : Nat := 0
  takeovers : List Nat := []
  tkTotal : Nat := 0
  returns : List Nat := []
  /-- A fourth takeover in 24 h: no automatic return (R26). -/
  stay : Bool := false
  /-- In SAFE by a takeover: an automatic return may follow. -/
  byTakeover : Bool := false
  /-- The workers are held in reset until this tick (R24). -/
  workersReset : Option Nat := none
  /-- A warm restart whose first heartbeats have not come (R25, Table ANA-5). -/
  restarted : Bool := false
  watchdog : Nat := 0
  crev : Byte := 0x02
  lrev : Byte := 0x01
  jrev : Byte := 0x01
  deriving DecidableEq, Repr

/-! ### Vilpi -/

/-- One item of a value.  A number is in units of 10^-9 of its dimension's base unit (V, A, W, ohm, C, s, deg, Hz, %,
bps, lx, m/s, mm, Pa or none). -/
inductive Item where
  | num (v : Int)
  | word (w : String)
  | obj (o : Obj)
  | code (v : Nat)
  | tod (s : Nat)
  | date (y m d : Nat)
  | str (s : String)
  deriving DecidableEq, Repr

abbrev Val := List Item

/-- A configuration: the values that differ from the defaults, by object and attribute. -/
abbrev Cfg := List ((Obj × String) × Val)

/-- A change that takes effect at a boundary, or when its store write completes. -/
inductive Eff where
  | none
  | attrs (l : List ((Obj × String) × Val))
  | defaults (os : List Obj)
  | factory
  | reg (addr value mask : Word)
  | lock
  | key (r : Role) (codes : List Word)
  | macroLines (m : Nat) (lines : List String) (role : Role)
  | bind (event : String) (obj : Option String) (m : Option Nat)
  | release (ds : List Nat) (rank : Nat)
  | ack (o : Obj) (fault : Option String)
  /-- TIME SET: θ in 12.5 ns at the boundary of acceptance, its tick, and UNC in ms. -/
  | timeSet (theta : Int) (at_ uncMs : Nat)
  | sealCount (src n : Nat)
  /-- A panel record (R587): levels, targets, and the electrodes in progress. -/
  | panel (lvl tgt : Tbl Nat) (prog : List (Nat × Nat))
  | auditAck (n : Nat)
  | slotFree (n : Nat)
  | repair
  | xingAdapt (x : Nat)
  /-- LEARN: the travel times, the profile and the span that a drive has measured (R385). -/
  | learnt (d : Nat)
  deriving DecidableEq, Repr

/-- How an order on a drive ended, for the command that placed it. -/
structure DrvEnd where
  drive : Nat
  done : Option String := none
  ok : Bool := true
  deriving DecidableEq, Repr

/-- What an accepted command still has to do. -/
inductive Work where
  /-- The final line is queued at the boundary of this epoch. -/
  | reply (e : Nat) (more : List String) (fin : String)
  /-- A query that KEEPER or WORK1 serves at epoch `e`; the reply is final one boundary later. -/
  | query (e : Nat) (o : ObjRange) (attrs : List String)
  /-- A change of state in another island, at epoch `e`. -/
  | effect (e : Nat) (x : Eff) (fin : String)
  /-- A change that waits for its store write. -/
  | store (x : Eff) (fin : String)
  | wait (until_ : Nat)
  | aux (rest : List ((Obj × String) × Val))
  | drives (range : Bool) (l : List DrvEnd)
  | learn (d : Nat)
  | mode (m : Mode)
  | cal
  | bist
  /-- SEND: until its outcome. -/
  | send
  /-- TIME SET whose step awaits its second boundary. -/
  | timeStep
  | cancel
  | draw (n : Nat)
  | blink (slot : Nat)
  | freeze
  | export_ (lines : List String) (fin : String) (audit : Option Nat)
  | replay
  | macroRun (m : Nat)
  | auth (e : Nat) (r : Role) (resp : Option (List Word))
  deriving DecidableEq, Repr

/-- An accepted command (R140, R141): it holds one slot. -/
structure Out where
  id : Nat
  ses : Sess
  tag : Option Nat
  framed : Bool
  shared : Bool
  verb : String
  role : Option Role
  epoch : Nat
  /-- The command as a line, and the kinds of the audit records still to be written with its change (R253). -/
  body : String
  audits : List Nat
  work : Work
  /-- Its BUS session has closed: what it does runs on, and its lines are discarded (R163). -/
  orphan : Bool := false
  deriving DecidableEq, Repr

/-- A line the device sends: `cls` 0 accept or refusal, 1 MORE or final (R151). -/
structure OutLine where
  epoch : Nat
  cls : Nat
  tag : Option Nat
  framed : Bool
  body : String
  /-- What is sent before it: the echo that was due, and the CR LF that parts it from a line half echoed (R134). -/
  lead : List Nat := []
  deriving DecidableEq, Repr

/-- A queued notice (R146). -/
structure Notice where
  seq : Nat
  name : String
  obj : Option Obj
  args : String
  /-- The epoch in which it was queued. -/
  epoch : Nat := 0
  /-- Its line has been handed to the tunnel of its BUS session. -/
  handed : Bool := false
  /-- What is sent before its line (R134). -/
  lead : List Nat := []
  deriving DecidableEq, Repr

/-- What has gone wrong with the line being received: a byte outside the alphabet (R122), a framing error (R158), or a
refusal already sent, whose bytes are discarded up to the terminator (R123, R153). -/
inductive RxState where
  | ok | bad (col : Nat) | err (col : Nat) | long | swallow
  deriving DecidableEq, Repr

/-- A complete line: its characters as received, the column and the kind of what is wrong with it, and the epoch of its
terminator. -/
structure RxLine where
  text : List Char
  bad : Option Nat := none
  err : Option Nat := none
  epoch : Nat
  deriving DecidableEq, Repr

/-- One session (R115, R116). -/
structure Session where
  isOpen : Bool := true
  mode : LineMode := .typed
  level : Nat := 3
  role : Option Role := none
  /-- The tick from which role inactivity counts (R247). -/
  active : Nat := 0
  /-- The line being received, as received, and which of its characters have been echoed. -/
  rx : List Char := []
  shown : List Bool := []
  /-- When its first character arrived (R124). -/
  rxStart : Option Nat := none
  rxState : RxState := .ok
  lastCR : Bool := false
  /-- The receive buffer: codes not read yet, each with the tick at which it arrived; 0x102 stands where bytes were lost. -/
  waiting : List (BitVec 9 × Nat) := []
  /-- The line being checked: the epoch of its terminator (R167) and its command as received (R251). -/
  term : Option Nat := none
  said : Option String := none
  out : List OutLine := []
  /-- Characters echoed and not yet taken by the line (R134), as codes. -/
  echo : List Nat := []
  nq : List Notice := []
  nlost : Nat := 0
  seq : BitVec 16 := 0
  lostNotices : Nat := 0
  lostTyped : Nat := 0
  lostCrc : Nat := 0
  lostOverrun : Nat := 0
  /-- Tags freed by a final line, with the epoch in which it was queued (R141, R167). -/
  freed : List (Option Nat × Nat) := []
  deriving DecidableEq, Repr

/-- A macro (R213 to R215).  `lines` `none` is the factory content. -/
structure MacroSt where
  lines : Option (List String) := none
  runRole : Option Role := none
  running : Bool := false
  /-- The next line's index from 1. -/
  line : Nat := 1
  /-- The line whose final is awaited. -/
  awaiting : Bool := false
  pend : Bool := false
  runs : Nat := 0
  missed : Nat := 0
  /-- The MACRO RUN commands that wait for the running and the pending run. -/
  cmd : Option Nat := none
  cmdPend : Option Nat := none
  deriving DecidableEq, Repr

/-- An event binding (R216). -/
structure Binding where
  event : String
  obj : Option String
  m : Nat
  deriving DecidableEq, Repr

/-- A trigger of a macro by a notice, for the next boundary. -/
structure Trigger where
  m : Nat
  epoch : Nat
  deriving DecidableEq, Repr

/-- A store write: the command that waits for it, its change, the tick by which it completes, and, once it has completed,
whether it succeeded (R176). -/
structure StoreWrite where
  id : Nat
  eff : Eff
  due : Nat
  ok : Option Bool := none
  deriving DecidableEq, Repr

/-- A notice on its way from WORK1 to WORK0 (R20), with the boundary at which it is queued. -/
structure Late where
  epoch : Nat
  name : String
  obj : Option Obj
  args : String
  deriving DecidableEq, Repr

structure Vil where
  link0 : Session := {}
  link1 : Session := {}
  bus1 : Session := { isOpen := false, mode := .framed }
  bus2 : Session := { isOpen := false, mode := .framed }
  bus3 : Session := { isOpen := false, mode := .framed }
  bus4 : Session := { isOpen := false, mode := .framed }
  mac : Session := { mode := .framed }
  outs : List Out := []
  nextId : Nat := 0
  peakSlots : Nat := 0
  cts : Bool := false
  rts : Bool := false
  armed : Bool := true
  /-- The rates in force, in bit/s; 0 until detected. -/
  rate0 : Nat := 115200
  rate1 : Nat := 0
  /-- A changed RATE waits for the final line of its SET (R117). -/
  ratePend0 : Option Nat := none
  ratePend1 : Option Nat := none
  /-- What the LINK island holds of the bytes received in QUIET (R711). -/
  hold0 : List (BitVec 9) := []
  hold1 : List (BitVec 9) := []
  /-- Commands whose lines came while their session reads none: in QUIET, or behind an untagged command (R132, R166). -/
  kept : List (Sess × Instr) := []
  ferr0 : Nat := 0
  ferr1 : Nat := 0
  errCrc : Nat := 0
  errOverrun : Nat := 0
  errLong : Nat := 0
  errPartial : Nat := 0
  macros : Tbl MacroSt := []
  binds : List Binding := [⟨"START", none, 63⟩]
  triggers : List Trigger := []
  late : List Late := []
  /-- Store writes in order of acceptance (R176). -/
  writes : List StoreWrite := []
  /-- A SOFT reset is due once the lines of this epoch have been sent, or at this tick (R193, R190). -/
  softReset : Option (Nat × Nat) := none
  deriving DecidableEq, Repr

/-! ### Worlds, roles and audit -/

/-- A challenge (R180, R241): its role, its 16 bytes and the last tick at which a response is valid. -/
structure Challenge where
  role : Role
  bytes : BitVec 128
  until_ : Nat
  deriving DecidableEq, Repr

/-- Failed responses of one role in one group (R244). -/
structure AuthFail where
  count : Nat := 0
  len : Nat := 0
  until_ : Option Nat := none
  deriving DecidableEq, Repr

/-- An audit record (Table SEC-4); sessions and roles as the table numbers them. -/
structure AuditRec where
  kind : Nat
  ses : Nat
  role : Nat
  seq : Nat
  tick : Nat
  boot : Nat
  tag : Nat
  result : Nat
  flags : Nat
  utc : Nat
  text : String
  prev : BitVec 256
  deriving DecidableEq, Repr

/-- The keeper's own entry for the role of a session, and the epoch in which the role ended (R234). -/
structure KeeperRole where
  role : Role
  ended : Option Nat := none
  deriving DecidableEq, Repr

structure Sec where
  /-- The roles that the keeper holds, by session (R234). -/
  roles : Tbl KeeperRole := []
  /-- The stored keys, by role number 1 to 3. -/
  keys : Tbl (BitVec 256) := []
  locked : Bool := false
  lockPend : Bool := false
  /-- WORLDS and SECREGIONS as applied at start-up (R230). -/
  worlds : BitVec 19 := 0
  regions : Nat := 8
  chal : Tbl Challenge := []
  fails : Tbl AuthFail := []
  lastFail : Nat := 0
  viol : Nat := 0
  violBy : Nat := 0
  /-- The retained audit records, oldest first. -/
  audit : List AuditRec := []
  auditSeq : Nat := 0
  head : BitVec 256 := 0
  overwritten : Nat := 0
  /-- Overwrites since the journal was created or acknowledged (R254). -/
  wraps : Nat := 0
  missed : Nat := 0
  held : List AuditRec := []
  boot : Nat := 0
  /-- The last SEQ of an EXPORT AUDIT completed by each session (R258). -/
  exported : Tbl Nat := []
  deriving DecidableEq, Repr

/-! ### Power -/

/-- The core die: running, in reset until a tick, or without power. -/
inductive CoreRun where
  | running
  | reset (due : Nat)
  | off
  deriving DecidableEq, Repr

/-- The kinds of reset (Table PWR-3). -/
inductive ResetKind where
  | por | brown | wdog | pin | soft | lastgasp
  deriving DecidableEq, Repr

/-- The Pilot domain (R67). -/
inductive PilotState where
  | normal | backup | cutoff | dead
  deriving DecidableEq, Repr

/-- The mains nominal (R52). -/
inductive NomKind where
  | none | provisional | learned | fixed
  deriving DecidableEq, Repr

/-- An open mark, and how deep it has gone (R71, R72). -/
structure Mark where
  start : Nat
  depth : Nat
  /-- No half-cycle has completed while it is open (R71). -/
  fresh : Bool := false
  /-- It has been reported as open (R72). -/
  told : Bool := true
  deriving DecidableEq, Repr

structure Pwr where
  core : CoreRun := .running
  rstKind : ResetKind := .por
  rstcause : BitVec 7 := 0x41
  mainGood : Bool := true
  mgSince : Option Nat := none
  mains : Bool := true
  lastCross : Option Nat := none
  halfStart : Nat := 0
  rms : Nat := 0
  freq : Nat := 0
  /-- Closed marks, newest first: start and end tick (R278). -/
  pastMarks : List (Nat × Nat) := []
  hold : Bool := false
  committed : Bool := false
  flushDone : Bool := false
  holdAt : Nat := 0
  sag : Option Mark := none
  swell : Option Mark := none
  trans : Option Mark := none
  freqM : Option Mark := none
  marks : Tbl Nat := []
  nomKind : NomKind := .none
  /-- The nominal, in 2^-16 of 0.1 V. -/
  nomAcc : Nat := 0
  /-- Half-cycles are counted toward a provisional nominal. -/
  provOpen : Bool := true
  prov : List Nat := []
  /-- The provisional nominal, in 0.1 V. -/
  provNom : Nat := 0
  lastTrans : Nat := 0
  learnSum : Nat := 0
  learnN : Nat := 0
  auxOn : Bool := false
  auxTrip : Bool := false
  auxMa : Nat := 0
  /-- The last trip, refusal or timeout of the auxiliary output, from which AUXRETRY counts (R47). -/
  auxRetry : Option Nat := none
  auxWant : Bool := false
  pilot : PilotState := .normal
  pilotLast : PilotState := .dead
  vbatBelow : Option Nat := none
  cutoffAt : Option Nat := none
  timeLost : Bool := true
  rtcValid : Bool := false
  exh : Nat := 0
  bkSince : Option Nat := none
  bkCount : Nat := 0
  bkDur : Nat := 0
  vbat : Nat := 0
  trickle : Bool := false
  fast : Bool := false
  absent : Bool := false
  low : Bool := false
  tempBlk : Bool := false
  chargeSince : Option Nat := none
  absentIssued : Bool := false
  lowIssued : Bool := false
  pilotPosted : Nat := 0
  pilotPostVal : PilotState := .normal
  /-- A RESET pad assertion during absence waits for the flush (R80). -/
  pinWaits : Bool := false
  /-- The tick at which RESET rises (R53). -/
  pinUntil : Nat := 0
  /-- The notices of the Pilot domain that wait for the next start (R67). -/
  exhNotice : Bool := false
  lostNotice : Bool := true
  quietSrc : Nat := 0
  wakes : Nat := 0
  idleSince : Nat := 0
  quietReturn : Option Nat := none
  wakeLevels : BitVec 96 := 0
  /-- A wake event has come, with its source (R63). -/
  waking : Option WakeSrc := none
  /-- Start-up progress (Table PWR-2). -/
  xtal : Bool := false
  linkUp : Bool := false
  versions : Bool := false
  selfTested : Bool := false
  /-- The tick at which the configuration has been read (Table PWR-2). -/
  loadAt : Option Nat := none
  cfgLoaded : Bool := false
  cfgOk : Bool := false
  started : Bool := false
  /-- What the last gasp kept (R58): the epoch of the commit and the drives that moved. -/
  gasp : Option Nat := none
  /-- Mains has returned after the commit (R79). -/
  lgReturn : Bool := false
  /-- Mains has stayed present since a reset that began with it (R434). -/
  lineRan : Bool := false
  deriving DecidableEq, Repr

/-! ### Lamplighter -/

/-- A request for leave (R93). -/
structure LReq where
  h : Holder
  op : Nat
  cls : LClass
  line : Nat
  power : Nat
  aux : Nat
  inrush : Bool
  calm : Bool
  dur : Nat
  arrival : Nat
  serial : Nat
  /-- The command whose operation asks. -/
  cmd : Option Nat
  /-- Milliseconds waited. -/
  waited : Nat := 0
  /-- Epochs in a row for which it has been deferred (R112). -/
  defers : Nat := 0
  why : String := "-"
  deriving DecidableEq, Repr

/-- A grant in force (R94, R100). -/
structure LGrant where
  h : Holder
  op : Nat
  cls : LClass
  line : Nat
  power : Nat
  aux : Nat
  inrush : Bool
  calm : Bool
  start : Nat
  dur : Nat
  cmd : Option Nat
  /-- Returned, or run out: it ends at the next boundary (R93, R108). -/
  returned : Bool := false
  /-- The epoch of that return: the grant ends at the boundary after it. -/
  retAt : Nat := 0
  /-- Its holder lost it in a warm restart and cannot return it (R109). -/
  orphan : Bool := false
  deriving DecidableEq, Repr

/-- What Lamplighter tells a holder (R94, R95, R96). -/
inductive LAnswer where
  | granted | refused (why : String) | timeout | calmBreak
  deriving DecidableEq, Repr

/-- An answer on its way to the holder, with the boundary at which it arrives. -/
structure LMsg where
  h : Holder
  a : LAnswer
  epoch : Nat
  cmd : Option Nat
  deriving DecidableEq, Repr

structure Lve where
  /-- Lamplighter has computed its budgets since the reset (Table LVE-7). -/
  ran : Bool := false
  queue : List LReq := []
  /-- Requests posted by the workers that reach KEEPER at an epoch. -/
  posted : List (Nat × LReq) := []
  /-- Withdrawals on their way to KEEPER (R97). -/
  withdraws : List (Nat × Holder) := []
  grants : List LGrant := []
  answers : List LMsg := []
  serial : Nat := 0
  lastInrush : Option Nat := none
  lastOp : Nat := 0
  lastHolder : Option Holder := none
  /-- The stagger has elapsed since the last inrush grant: for URGENT, and for the others (R98). -/
  stagUDone : Bool := true
  stagDone : Bool := true
  overL : Bool := false
  overP : Bool := false
  overA : Bool := false
  scaleNum : Nat := 0
  scaleDen : Nat := 1
  /-- The last four half-cycle RMS values delivered, in 0.1 V, newest first (R89). -/
  vmin : List Nat := []
  /-- Mains present, and a SAG mark open, as delivered through X188. -/
  mainsK : Bool := false
  sagK : Bool := false
  /-- The line budget at s = 1 in mA, the power budget at s = 1 in mW, as decided last (R90). -/
  budL : Nat := 0
  budP : Nat := 0
  budA : Nat := 0
  /-- The committed loads: line in 0.25 mA, power in mW, aux in mA (R91). -/
  comL : Nat := 0
  comP : Nat := 0
  comA : Nat := 0
  nGrant : Nat := 0
  nRefused : Nat := 0
  nTimeout : Nat := 0
  nCalm : Nat := 0
  /-- What a clear has taken from the counts since reset. -/
  past : List Nat := []
  nOver : Nat := 0
  deriving DecidableEq, Repr


/-! ### Converters -/

/-- One universal channel. -/
structure ChanSt where
  /-- 0 OK, 1 OPEN, 2 SHORT, 3 OVERLOAD, 4 UNCHECKED (R293). -/
  verdict : Nat := 4
  /-- The verdict of the last tests, and how many in a row gave it. -/
  cand : Nat := 4
  agree : Nat := 0
  /-- V10OUT: the output in mV.  ODOUT: 1 on. -/
  out : Nat := 0
  trip : Bool := false
  /-- ODOUT switched on and not yet tested (Table CNV-5). -/
  fresh : Bool := false
  /-- Windows of the channel since its last probe window. -/
  wins : Nat := 0
  /-- The last kept result, 20 bits. -/
  kept : Option Nat := none
  deriving DecidableEq, Repr

/-- One group of eight channels. -/
structure GrpSt where
  ma : Nat := 0
  tripped : Bool := false
  /-- The epoch of the last group trip (R303). -/
  tripEpoch : Option Nat := none
  trips : Nat := 0
  deriving DecidableEq, Repr

/-- The reference buffer (R285). -/
inductive RefState where
  | off | settling | ok | fault
  deriving DecidableEq, Repr

/-- An IC window in progress (R276). -/
structure IcWin where
  ch : Nat
  start : Nat
  sync : Bool
  crossings : Nat
  probe : Bool
  unset : Bool
  calib : Bool
  /-- Its channel's mode changed (R299). -/
  void : Bool
  /-- The channel's mode when it began. -/
  mode : String := ""
  deriving DecidableEq, Repr

/-- An IC result that waits for the mains health records (R278). -/
structure IcRes where
  w : IcWin
  stop : Nat
  raw : Nat
  nosync : Bool
  deriving DecidableEq, Repr

/-- An FC burst in progress (R280). -/
structure FcBurst where
  /-- The first input; owned by the firmware or not; samples of each input, where an attribute gives them; and the start. -/
  fi : Nat
  owned : Bool
  simul : Bool
  unset : Bool
  n : Nat
  start : Nat
  deriving DecidableEq, Repr

structure Cnv where
  chans : Tbl ChanSt := []
  grps : Tbl GrpSt := []
  ref : RefState := .off
  /-- The tick at which REF began to settle, or to agree again. -/
  refAt : Nat := 0
  /-- A zero crossing has been received since reset (R276). -/
  crossSeen : Bool := false
  win : Option IcWin := none
  nextCh : Nat := 0
  /-- The last window: ticks, and whether it was synchronised. -/
  len : Nat := 0
  lenSync : Bool := false
  held : List IcRes := []
  discMark : Nat := 0
  discMode : Nat := 0
  /-- IC constants: V10 offset and gain, V2 offset and gain. -/
  icCal : List Int := [0, 0x400000, 0, 0x400000]
  icValid : Bool := false
  burst : Option FcBurst := none
  fcPend : List Nat := []
  /-- Acquisitions that a counter's match has triggered, and the last FREE trigger of each (R281). -/
  fcDue : List Nat := []
  fcLast : Tbl Nat := []
  /-- From this tick on the firmware's quads have kept within their share of FC's time (R282). -/
  fcOwnFrom : Nat := 0
  fcMiss : Nat := 0
  /-- Slice offsets and gains (R283). -/
  fcOff : List Int := [0, 0, 0, 0]
  fcGain : List Nat := [16384, 16384, 16384, 16384]
  fcValid : Bool := false
  lcSeq : Option (BitVec 16) := none
  lcOff : List Int := [0, 0, 0, 0, 0, 0, 0, 0, 0]
  /-- 0 NONE, 1 QUEUED, 2 RUNNING, 3 VALID. -/
  cal : Nat := 0
  /-- The phase in progress: 0 none, 1 FC, 2 LC, 3 IC. -/
  phase : Nat := 0
  phaseAt : Nat := 0
  /-- Phases completed in this calibration. -/
  phases : Nat := 0
  /-- IC calibration windows ended. -/
  calWins : Nat := 0
  /-- Constants that take effect at the next boundary, by phase. -/
  pendCal : List (Nat × List Int) := []
  /-- All phases are done; the calibration completes at the next boundary. -/
  calDone : Bool := false
  /-- The calibration was requested by the device itself (R290, R291). -/
  calAuto : Bool := false
  /-- The device's own calibration is to be requested: at start-up, after a REF fault has ended it, or after BIST (R290, R291,
R679). -/
  calAgain : Bool := true
  /-- The first calibration since reset has completed (R292). -/
  calFirst : Bool := false
  calTemp : Option Int := none
  calBreaks : Nat := 0
  driftIssued : Bool := false
  probeCh : Nat := 0
  probeCode : Nat := 0
  probes : Nat := 0
  found : Nat := 0
  deriving DecidableEq, Repr

/-! ### Churn -/

/-- A cell's statistics, as a snapshot or a peek holds them. -/
structure CellStat where
  value : XWord := 0
  sum : Int := 0
  sq : Nat := 0
  count : Nat := 0
  min : Int := 0
  max : Int := 0
  flags : BitVec 11 := 0
  deriving DecidableEq, Repr

/-- One cell (Table CHN-1) with its counters (Table CHN-10). -/
structure Cell where
  sum : Int := 0
  sq : Nat := 0
  count : Nat := 0
  min : Int := 0
  max : Int := 0
  flags : BitVec 11 := 0
  ptick : Option Nat := none
  /-- The ticks of the first and of the last accumulated word. -/
  first : Option Nat := none
  last : Nat := 0
  /-- The period began after a restart other than a snapshot (R323). -/
  part : Bool := true
  /-- The epoch of the last close. -/
  closed : Option Nat := none
  /-- Closed periods whose snapshot did not carry MARK: the ticks of their words (R326). -/
  clean : List (Nat × Nat) := []
  fullNoted : Bool := false
  snap : CellStat := {}
  /-- The latched peek set (R338). -/
  peek : CellStat := {}
  dUnset : Nat := 0
  dRange : Nat := 0
  dSat : Nat := 0
  dOver : Nat := 0
  dLost : Nat := 0
  dMarked : Nat := 0
  /-- What a clear has taken from the counts since reset. -/
  past : List Nat := []
  deriving DecidableEq, Repr

structure Chn where
  cells : Tbl Cell := []
  due : Nat := 0
  snaps : Nat := 0
  empty : Nat := 0
  deriving DecidableEq, Repr

/-! ### Counters -/

/-- A write on its way to the COUNT island (R343 step 1, R345). -/
inductive CtWrite where
  | runOff | cmp (v : BitVec 16) | clear | runOn
  deriving DecidableEq, Repr

/-- A linked action emitted at the last edge (R349). -/
inductive CtAct where
  | reset | start | stop | capture
  deriving DecidableEq, Repr

/-- A capture: the counts of the chain's members from the bottom (R351, Table CNT-5). -/
structure CtCap where
  vals : List (BitVec 16)
  kind : Nat
  tick : Nat
  overwr : Nat
  makeup : Bool
  frozen : Bool
  deriving DecidableEq, Repr

/-- A write in flight: the tick of its handshake, and the number of the line or the register write that it belongs to. -/
structure CtFlight where
  w : CtWrite
  at_ : Nat
  line : Nat
  deriving DecidableEq, Repr

structure CtSt where
  count : BitVec 16 := 0
  /-- The source clocks counted towards the next advance, while the counter does not run; those of PULSE edges at any time. -/
  residue : Nat := 0
  running : Bool := false
  /-- While a counter of CLK or TICK runs: the number of the source clock that its prescaler counts from. -/
  phase : Option Int := none
  cmp : BitVec 16 := 0xFFFF
  /-- Writes in flight, oldest first. -/
  writes : List CtFlight := []
  acts : List CtAct := []
  capReg : Option CtCap := none
  /-- FILTERED: the latest capture of the epoch before, until it is sent. -/
  filt : Option CtCap := none
  queue : List CtCap := []
  lostNoted : Bool := false
  capDiv : Nat := 0
  /-- The last record sent. -/
  lastVal : BitVec 16 := 0
  lastKind : Nat := 0
  lastTick : Nat := 0
  capH : Word := 0
  makeup : Bool := false
  mkup : Nat := 0
  /-- The epoch of the last SAMPLE record. -/
  sampled : Option Nat := none
  matches_ : Nat := 0
  ovfs : Nat := 0
  capLost : Nat := 0
  overwr : Nat := 0
  /-- What a clear has taken from the counts since reset. -/
  past : List Nat := []
  deriving DecidableEq, Repr

structure Cnt where
  cts : Tbl CtSt := []
  /-- The tick of the entry to QUIET (R353). -/
  sleepAt : Nat := 0
  /-- The first place of the output that no record has taken, three places a tick: one every 4 COUNT clocks (R351). -/
  outAt : Nat := 0
  /-- The lines and register writes that have sent a write to the island. -/
  lines : Nat := 0
  deriving DecidableEq, Repr

/-! ### Drives -/

/-- One line feed, as the line die holds it (R370 to R376, Table DRV-13). -/
structure Feed where
  closed : Bool := false
  /-- A close command, with the tick at which it reaches the line die. -/
  closeCmd : Option Nat := none
  openCmd : Option Nat := none
  trip : Bool := false
  /-- The ticks of the trips of the last 24 h, newest first. -/
  tripAt : List Nat := []
  trips : Nat := 0
  closes : Nat := 0
  ma : Nat := 0
  /-- The status word that the line die reported last (R403, R415). -/
  word : XWord := 0
  /-- TRIPA in force, 0.1 A, and a limit written for the next boundary. -/
  lim : Nat := 50
  limNext : Option Nat := none
  deriving DecidableEq, Repr

/-- One DC port, as the MOTION island holds it (R373 to R376, Table DRV-12). -/
structure Port where
  run : Bool := false
  /-- Toward 100 %. -/
  dir : Bool := false
  /-- Duty in force, 0.1 %, its target and the end of the ramp. -/
  duty : Nat := 0
  target : Nat := 0
  rampEnd : Option Nat := none
  rampLen : Nat := 0
  brake : Bool := false
  deadUntil : Option Nat := none
  /-- A start that waits for the dead time: its direction. -/
  pend : Option Bool := none
  trip : Bool := false
  tripAt : List Nat := []
  trips : Nat := 0
  lim : Nat := 200
  limNext : Option Nat := none
  enc : Int := 0
  ea : Bool := false
  eb : Bool := false
  encErr : Nat := 0
  /-- Current in mA and bus voltage in 10 mV, as measured last. -/
  ma : Int := 0
  busv : Nat := 0
  deriving DecidableEq, Repr

/-- An order on a drive (R394): positions in 0.01 %. -/
structure Order where
  /-- The source's index (Table DRV-6), its rank 0 AUTOMATION to 4 SAFETY, and the loop or schedule. -/
  src : Nat
  rank : Nat
  srcNo : Nat := 0
  stop : Bool := false
  learn : Bool := false
  target : Nat := 0
  tilt : Option Nat := none
  /-- The command that placed it, its tag, and its place in the order of R177. -/
  cmd : Option Nat := none
  tag : Option Nat := none
  sq : Nat := 0
  /-- The boundary at which it reaches the drive layer. -/
  epoch : Nat := 0
  /-- A standing order of a protection (R392). -/
  standing : Bool := false
  /-- The sealed order that placed it (R530). -/
  sealed_ : Option Nat := none
  /-- A standing order whose travel has ended. -/
  reached : Bool := false
  deriving DecidableEq, Repr

inductive DPhase where
  | idle | waiting | starting | moving | ending
  deriving DecidableEq, Repr

/-- One start of a travel: to a position, or the turn of the slats to an angle. -/
structure Leg where
  target : Nat
  dir : Bool
  tilt : Option Nat := none
  deriving DecidableEq, Repr

/-- A drive's position record (R383). -/
structure DrRec where
  pos : Nat
  q : Nat
  moving : Bool
  deriving DecidableEq, Repr

/-- One profile bin: power in mW and current in mA, and the sums of the present travel. -/
structure Bin where
  p : Nat := 0
  i : Nat := 0
  sp : Nat := 0
  si : Nat := 0
  n : Nat := 0
  deriving DecidableEq, Repr

/-- What a LEARN has measured, until its store write completes: TUP and TDOWN in 0.1 s, the profile, ENCSPAN. -/
structure Learnt where
  up : Nat
  dn : Nat
  bins : Tbl Bin
  span : Nat
  deriving DecidableEq, Repr

structure Dr where
  /-- Position in 0.01 %, and its quality 0 EXACT, 1 ESTIMATED, 2 UNKNOWN (R380). -/
  pos : Nat := 0
  q : Nat := 2
  tilt : Nat := 0
  order : Option Order := none
  phase : DPhase := .idle
  legs : List Leg := []
  /-- A granted start that waits one epoch (R400), and a FLOAT start that waits for DEADT. -/
  startAt : Option Nat := none
  deadUntil : Option Nat := none
  /-- The travel whose model runs: direction, start, position and angle at the start, and where the model ends. -/
  running : Bool := false
  dir : Bool := false
  t0 : Nat := 0
  pos0 : Nat := 0
  tilt0 : Nat := 0
  stopAt : Option Nat := none
  /-- What has ended the order at this boundary: its place in R405 and its body. -/
  cause : Option (Nat × String) := none
  /-- A reversal that waits: its target and the tick from which it may start (R389). -/
  rev : Option (Nat × Nat) := none
  /-- A manual hold: rank and end. -/
  hold : Option (Nat × Nat) := none
  pend : List Order := []
  rec_ : Option DrRec := none
  /-- The position record waits in SRAM: journal writing is forbidden (R383). -/
  recHeld : Option DrRec := none
  bench : Option (Nat × Nat) := none
  learned : Bool := false
  bins : Tbl Bin := []
  encSpan : Nat := 0
  /-- LEARN: its run 1 to 3, and what it measured. -/
  learnRun : Nat := 0
  learnDown : Nat := 0
  learnUp : Nat := 0
  learnSpan : Nat := 0
  learnt : Option Learnt := none
  exceed : Nat := 0
  /-- The tick of the last evaluation of this travel, and whether it compared currents (R387, R388). -/
  evalAt : Nat := 0
  byCur : Bool := false
  lastCount : Nat := 0
  /-- An obstacle verdict fell in this travel. -/
  verdict : Bool := false
  lup : Bool := false
  ldn : Bool := false
  /-- A stop that KEEPER writes one epoch later, its block being assigned S (R400). -/
  stopReq : Option Nat := none
  /-- The end that the travel has reached, and the position after it. -/
  endPos : Option Nat := none
  /-- The travel turns the slats only (R384). -/
  tiltRun : Bool := false
  /-- The position becomes ESTIMATED whatever the model says (R378, R390, R404). -/
  est : Bool := false
  /-- The current has stayed below ENDA since (R381). -/
  lowSince : Option Nat := none
  /-- The samples of the last two runs of LEARN: direction, time in the run, power and current. -/
  samples : List (Bool × Nat × Nat × Nat) := []
  deriving DecidableEq, Repr

/-- One protection: 0 CLEAR, 1 ACTIVE, 2 FAILSAFE (R391). -/
structure ProtSt where
  state : Nat := 0
  onSince : Option Nat := none
  offSince : Option Nat := none
  /-- It has become ACTIVE or FAILSAFE since the last boundary. -/
  fresh : Bool := false
  /-- The drives whose standing orders are placed. -/
  placed : List Nat := []
  deriving DecidableEq, Repr

/-- The outcome of an order, on its way to WORK0 (R20). -/
structure DrvRes where
  epoch : Nat
  cmd : Nat
  drive : Nat
  ok : Bool
  body : String
  deriving DecidableEq, Repr

/-- A port record as the drive layer keeps it for the means of 10 ms (R387): its stamp, the current in mA and the bus
voltage in 10 mV. -/
structure Meas where
  stamp : Nat
  ma : Int
  busv : Nat
  deriving DecidableEq, Repr

structure Drv where
  /-- The port records delivered in the last ten epochs, newest first, by port. -/
  meas : Tbl (List Meas) := []
  feeds : Tbl Feed := []
  /-- The ends of the dead times, by the feed that opened. -/
  dead : Tbl (Option Nat) := []
  ports : Tbl Port := []
  drives : Tbl Dr := []
  prots : Tbl ProtSt := []
  /-- The line die: last heartbeat received, configured (R377). -/
  lastHb : Nat := 0
  configured : Bool := false
  /-- The barrier link: last word received, reported LOST, words without a gap since, losses (R378, R379). -/
  lastWord : Nat := 0
  lost : Bool := false
  backSince : Option Nat := none
  losses : Nat := 0
  /-- LOST as delivered to KEEPER, and the epoch at which WORK1 acts on it. -/
  lostK : Bool := false
  lostAct : Option Nat := none
  /-- The last two zero crossings. -/
  cross1 : Option Nat := none
  cross2 : Option Nat := none
  /-- The run of half-cycles below 70 % (R390): its start, the end of its last record, and whether the drives were stopped
  for it. -/
  sagRun : Option Nat := none
  sagTo : Nat := 0
  sagActed : Bool := false
  /-- The detection method of R388 in force: a SAG mark deeper than 75 % is open. -/
  sagDeep : Bool := false
  sq : Nat := 0
  /-- How sealed orders ended (R530): their number and the body of the final line. -/
  sealEnds : List (Nat × String) := []
  results : List DrvRes := []
  deriving DecidableEq, Repr

/-! ### Thermal models -/

/-- One drive model, TF0 to TF7 or TP0 to TP3: temperatures in 2^-16 °C (R418). -/
structure TherM where
  tw : Int := 0
  tb : Int := 0
  /-- The ambient in use, and the ambient that KEEPER has selected (R421, R423). -/
  ta : Int := 0
  taK : Int := 0
  /-- The ambient sensor fails (R422). -/
  sens : Bool := false
  shuts : Nat := 0
  /-- The thermostat has read closed since (R428). -/
  closedSince : Option Nat := none
  /-- Thresholds written through THM, not stored (R451). -/
  thr : Option (Nat × Nat × Nat) := none
  deriving DecidableEq, Repr

/-- A thermal state record (R433): the drive models, Δ, TS and level of TMOD, and the RTC value where it is valid. -/
structure TherRec where
  nodes : List (Int × Int × Int × Nat)
  delta : Int
  ts : Int
  lvl : Nat
  rtc : Option Nat
  deriving DecidableEq, Repr

/-- A fault record (R436). -/
structure FltRec where
  kind : String
  model : Nat
  boot : Nat
  tick : Nat
  utc : Nat
  peak : Int
  ta : Int
  deriving DecidableEq, Repr

structure Thm where
  /-- Outputs held off by their thermal model or by THERMO: LF0 to LF7, DP0 to DP3. -/
  hot : BitVec 12 := 0
  /-- The levels of TF0 to TF7, TP0 to TP3 and TMOD: 0 NORMAL, 1 WARN, 2 THROTTLE, 3 SHUTDOWN. -/
  lvl : Tbl Nat := []
  /-- The force bits of THERMO (R428). -/
  force : BitVec 12 := 0
  models : Tbl TherM := []
  /-- The line die last received an ambient word (R423). -/
  ambAt : Nat := 0
  /-- The tick of the models' last step (R416). -/
  stepAt : Nat := 0
  /-- TMOD: TS as delivered last, Δ, X145 failing, and its level as delivered to KEEPER. -/
  ts : Option Int := none
  delta : Int := 0
  sensF : Bool := false
  tmodK : Nat := 0
  modThr : Option (Nat × Nat × Nat) := none
  /-- Changes of TMOD's level on their way to KEEPER: epoch, level and TH. -/
  tmodMsgs : List (Nat × Nat × Int) := []
  cdLatch : Bool := false
  cdDay : List Nat := []
  cdTotal : Nat := 0
  winCharge : Bool := false
  winJournal : Bool := false
  winPanel : Bool := false
  /-- The crossing of PANELSRC. -/
  panelT : Option Int := none
  panelFail : Bool := false
  rec_ : Option TherRec := none
  recHeld : Option TherRec := none
  recAt : Nat := 0
  flts : List FltRec := []
  fltsHeld : List FltRec := []
  /-- 0 DEFAULT, 1 CREDIT, 2 NOCREDIT, 3 KEPT. -/
  start : Nat := 0
  sleepAt : Nat := 0
  deriving DecidableEq, Repr

/-! ### Climate -/

/-- A binary64 value `m * 2^e`, in one form: `m` odd, or both 0 (R463). -/
structure F64 where
  m : Int := 0
  e : Int := 0
  deriving DecidableEq, Repr

/-- What a loop commits with a completed computation (R457, R483). -/
structure LoopCore where
  i : F64 := {}
  i2 : F64 := {}
  /-- TWOPOS: the output is OUTHI, and the tick of the last switch; none before the first. -/
  two : Bool := false
  twoAt : Option Nat := none
  /-- SEQ: the heat and the cool output issued last, in 0.01 %. -/
  heat : Nat := 0
  cool : Nat := 0
  /-- SHADE: since when SOLAR is below DARK, at or above SUNON, at or below SUNOFF, and WIND below WINDRET. -/
  darkSince : Option Nat := none
  sunSince : Option Nat := none
  dimSince : Option Nat := none
  calmSince : Option Nat := none
  sun : Bool := false
  wind : Bool := false
  /-- The situation of Table CLM-2, 1 to 7; 0 before the first. -/
  situ : Nat := 0
  deriving DecidableEq, Repr

/-- What a loop issues to an output: 0 OUT, 1 OUT2, 2 FANV.  `safe`: 1 drives that are not ANALOG go to SAFEPOS (R462),
2 every drive does (R470); `chanOnly`: channels alone (R476). -/
structure LoopOut where
  port : Nat
  u : Nat
  tilt : Option Nat := none
  safe : Nat := 0
  chanOnly : Bool := false
  deriving DecidableEq, Repr

/-- A released computation that waits for its output boundary (R456). -/
structure LoopRes where
  epoch : Nat
  core : LoopCore
  outs : List LoopOut
  /-- It computed, and was not skipped for an empty or stale input. -/
  ran : Bool
  deriving DecidableEq, Repr

structure LoopSt where
  core : LoopCore := {}
  pend : Option LoopRes := none
  /-- The epoch of the last release. -/
  released : Option Nat := none
  completed : Bool := false
  /-- The outputs issued last, in 0.01 %. -/
  outv : Tbl Nat := []
  /-- The last target issued to each drive (R460). -/
  targets : Tbl Nat := []
  blocked : List Nat := []
  /-- Empty periods in a row by input, and the inputs that are stale (R461, R462). -/
  empties : Tbl Nat := []
  stale : List Nat := []
  late : Nat := 0
  lateNoted : Bool := false
  empty : Nat := 0
  /-- CURTAIN: the door is open, the tick at which it closed, and the fan runs (R467). -/
  door : Bool := false
  closedAt : Option Nat := none
  fan : Bool := false
  /-- The first period since the start, or since QUIET, has looked at the door (R483, R495). -/
  awake : Bool := false
  /-- KIND, PV, ACTION or an output was set: the state is reset at the next release (R490). -/
  reset : Bool := false
  deriving DecidableEq, Repr

structure ZoneSt where
  /-- The effective mode: 0 COMFORT, 1 ECONOMY, 2 PROTECT, 3 OFF; none before the first evaluation. -/
  eff : Option Nat := none
  /-- The row of R473 that decided it. -/
  cause : Nat := 0
  /-- Presence: occupied until (R474). -/
  occUntil : Option Nat := none
  /-- The override in force ends (R475). -/
  ovrEnd : Option Nat := none
  /-- Stale inputs: 0 TEMP, 1 to 4 PRES. -/
  stale : List Nat := []
  deriving DecidableEq, Repr

structure SchedSt where
  /-- The points that have fired, by civil day and second of the day (R478, R479). -/
  fired : List (Nat × Nat) := []
  /-- The value of the last point due. -/
  value : Option Item := none
  suspended : Bool := true
  /-- The network time, in seconds, up to which points have been looked at. -/
  upTo : Option Nat := none
  /-- The network second up to which a forward step of time has passed over points (R479). -/
  jumpTo : Nat := 0
  deriving DecidableEq, Repr

/-- The values of the last two records of one kind of a chain (R453). -/
structure CtPair where
  prev : Option Nat := none
  cur : Option Nat := none
  /-- The last record carried a substitute's VALUE, or a failure flag. -/
  bad : Bool := false
  deriving DecidableEq, Repr

structure Clm where
  loops : Tbl LoopSt := []
  zones : Tbl ZoneSt := []
  scheds : Tbl SchedSt := []
  /-- Chain values by 8 · counter + KIND, the parts of the record being received, and the last KIND of each counter. -/
  cts : Tbl CtPair := []
  parts : Tbl Nat := []
  ctKind : Tbl Nat := []
  noTime : Bool := false
  /-- Channel outputs that KEEPER writes one epoch later (R232): epoch, channel, output in 0.01 %. -/
  writes : List (Nat × Nat × Nat) := []
  /-- The recorded deadline verdicts of the epoch being replayed: the loop, and whether its computation had completed
  (R458). -/
  verdicts : List (Nat × Bool) := []
  deriving DecidableEq, Repr

/-! ### The building bus -/

/-- A frame to transmit: always extended (R499). -/
structure TxFrame where
  ident : BitVec 29
  data : List Byte
  fdf : Bool := false
  brs : Bool := false
  deriving DecidableEq, Repr

/-- Whose frame it is. -/
inductive TxWhat where
  | timeref (sq : Nat) | timefup
  | point (p : Nat) | frag (ses sq : Nat) | profile
  | send (cmd : Option Nat)
  deriving DecidableEq, Repr

/-- A loaded transmit buffer (R507 to R510). -/
structure TxBuf where
  f : TxFrame
  what : TxWhat
  oneshot : Bool := false
  begun : Bool := false
  /-- The load has been posted to KEEPER, which makes it at this epoch (R232). -/
  post : Option Nat := none
  /-- The monotonic tick of its loading. -/
  at_ : Nat := 0
  deriving DecidableEq, Repr

/-- A frame in a receive queue: the filter that passed it and its production tick (R504). -/
structure QFrame where
  f : CanFrame
  bf : Nat
  at_ : Nat
  deriving DecidableEq, Repr

/-- A point's last publication (R520, R521). -/
structure PointSt where
  val : Option (Int × Nat) := none
  at_ : Nat := 0
  sq : Nat := 0
  deriving DecidableEq, Repr

/-- A TUN-OUT fragment that its peer has not acknowledged. -/
structure Frag where
  sq : Nat
  bytes : List Byte
  /-- The notices whose lines end in it, and whether its frame has reached the success point (R148, R525). -/
  ends : List Nat := []
  sent : Bool := false
  deriving DecidableEq, Repr

/-- A line that a tunnel session sends, or what remains of it. -/
structure TxSeg where
  bytes : List Byte
  /-- The notice that the line carries. -/
  notice : Option Nat := none
  begun : Bool := false
  deriving DecidableEq, Repr

/-- A tunnel session (R522 to R526). -/
structure Tun where
  node : Nat
  inSeq : Nat := 0
  ackDue : Bool := false
  outSeq : Nat := 0
  unacked : List Frag := []
  sentAt : Nat := 0
  resends : Nat := 0
  heardAt : Nat := 0
  /-- The lines that wait for the window. -/
  tx : List TxSeg := []
  deriving DecidableEq, Repr

/-- A sealed order in force (R529). -/
structure SealRec where
  n : Nat
  src : Nat
  drive : Nat
  counter : Nat
  deriving DecidableEq, Repr

structure Bus where
  /-- The controller takes part in the bus; it waits for 11 recessive bits (R515). -/
  joined : Bool := false
  joining : Bool := false
  asleep : Bool := false
  tec : Nat := 0
  rec_ : Nat := 0
  busOff : Bool := false
  recovering : Bool := false
  offAt : Nat := 0
  offTimes : List Nat := []
  latch : Bool := false
  conflict : Bool := false
  conflictAt : Nat := 0
  conflictNode : Nat := 0
  /-- The tick at which the next HEARTBEAT is due. -/
  hbDue : Option Nat := none
  qA : List QFrame := []
  qB : List QFrame := []
  epiA : Bool := false
  epiB : Bool := false
  peakA : Nat := 0
  peakB : Nat := 0
  dropsA : Nat := 0
  dropsB : Nat := 0
  /-- Frames passed in this epoch. -/
  passA : Nat := 0
  passB : Nat := 0
  tbs : Tbl TxBuf := []
  /-- The SENDs that TB6 and TB7 were loaded for, until their outcomes are delivered. -/
  owners : Tbl Nat := []
  /-- SENDs that wait for TB6 or TB7, and profile frames that wait for TB1 to TB5. -/
  sends : List TxBuf := []
  waits : List TxBuf := []
  /-- CANCELs that wait for X193: the buffer, the CANCEL and its SEND. -/
  cancels : List (Nat × Nat × Nat) := []
  /-- TB6 and TB7 are emptied at this epoch (R533). -/
  emptyAt : Option Nat := none
  /-- The one-shot attempt that an error ended last: its buffer and tick; and the buffer whose attempt took the controller
  into bus-off (R535). -/
  lastErr : Option (Nat × Nat) := none
  offTb : Option Nat := none
  delay : BitVec 8 := 0
  wakeCause : Nat := 0
  /-- The transceiver sleeps at this tick at the latest (R514). -/
  sleepBy : Option Nat := none
  rx : Nat := 0
  txn : Nat := 0
  unmatched : Nat := 0
  unused : Nat := 0
  stale : Nat := 0
  offs : Nat := 0
  macFails : Nat := 0
  /-- What BUS_CLR has cleared of rx, txn, unmatched, unused, macFails and offs: COUNTS counts since reset (R543). -/
  past : List Nat := []
  hits : Tbl Nat := []
  points : Tbl PointSt := []
  /-- Answers to POINTREQ: the epoch, the point and the requester. -/
  answers : List (Nat × Nat × Nat) := []
  tuns : Tbl Tun := []
  /-- Sealed counters by source node: accepted, and stored. -/
  seals : Tbl Nat := []
  sealStored : Tbl Nat := []
  sealFail : Tbl Nat := []
  sealNo : Nat := 0
  orders : List SealRec := []
  deriving DecidableEq, Repr

/-! ### Time -/

/-- A node whose TIMEREF has been heard (R553, R554): `unc` in µs, `refint` in 250 ms. -/
structure TimeCand where
  node : Nat
  master : Bool
  prio : Nat
  refint : Nat
  qual : Nat
  unc : Nat
  at_ : Nat
  deriving DecidableEq, Repr

/-- A TIMEREF that waits for its TIMEFUP (R552): network time and tick of its SOF. -/
structure TimeRef where
  src : Nat
  sq : Nat
  at_ : Nat
  sof : Nat
  net : Int
  deriving DecidableEq, Repr

/-- A step decided and not yet applied (R559): θ, and the label of the second boundary. -/
structure StepPend where
  theta : Int
  label : Int
  /-- The anchor instant that holds once the step is applied, in the present network time. -/
  anchor : Int
  deriving DecidableEq, Repr

/-- A sample on its way through X196: the sender, θ in 12.5 ns, and the sender's uncertainty and REFINT. -/
structure TimeSmp where
  src : Nat
  theta : Int
  unc : Nat
  refint : Nat
  at_ : Nat
  deriving DecidableEq, Repr

structure Tim where
  /-- Network time at `refTick`, in 2^-32 of 12.5 ns since 2000-01-01T00:00:00. -/
  base : Int := 0
  refTick : Nat := 0
  /-- F, the crystal term of R564 and S, in 2^-32. -/
  freq : Int := 0
  hold : Int := 0
  slew : Int := 0
  /-- The slew in progress: its θ, its start and its end (R558). -/
  slewTheta : Int := 0
  slewAt : Nat := 0
  slewEnd : Option Nat := none
  step : Option StepPend := none
  /-- A step applied, to be noticed at the next boundary: OLD, NEW, and the labels skipped or repeated. -/
  stepped : Option (Int × Int × String) := none
  /-- 0 invalid, 1 FREE, 2 HOLDOVER, 3 LOCKED (Table TIM-3). -/
  quality : Nat := 0
  /-- The quality as noticed last. -/
  qualNoted : Nat := 0
  /-- The uncertainty set at the anchor instant in 12.5 ns, the anchor instant as a tick and as network time. -/
  us : Nat := 0
  ts : Nat := 0
  anchor : Int := 0
  /-- Sources in use (Table TIM-2). -/
  bus : Bool := false
  manual : Bool := false
  rtc : Bool := false
  /-- Acquisition has started, and the samples in a row within 10 µs (R555, R548). -/
  acq : Bool := false
  good : Nat := 0
  held : Option (Nat × Int) := none
  acted : Option Nat := none
  actedRef : Nat := 4
  offset : Int := 0
  isMaster : Bool := false
  follow : Option Nat := none
  cands : List TimeCand := []
  /-- This node has been a candidate since. -/
  candSince : Option Nat := none
  refs : List TimeRef := []
  samples : List TimeSmp := []
  outSeq : Nat := 0
  /-- The network time at which the next TIMEREF is due. -/
  refDue : Option Int := none
  pulseHigh : Bool := false
  pulseDue : Option Int := none
  /-- The network time at which the pulse ends. -/
  pulseEnd : Option Int := none
  pulseAt : Option Nat := none
  label : Nat := 0
  /-- K152 as delivered last, and at the last sample acted on, in 0.01 °C. -/
  temp : Option Int := none
  tempLock : Option Int := none
  /-- The RTC in 1/32 768 s at `rtcAt`, and what its last write stored: the network time, the uncertainty and the anchor
  instant (R565). -/
  rtcBase : Nat := 0
  rtcAt : Nat := 0
  tAlign : Int := 0
  uAlign : Nat := 0
  rtcAnchor : Int := 0
  /-- A minute's boundary of network time at which the RTC is written. -/
  rtcDue : Option Int := none
  nSamples : Nat := 0
  nRejects : Nat := 0
  nSteps : Nat := 0
  nLabels : Nat := 0
  frac : Nat := 0
  deriving DecidableEq, Repr

/-! ### Lantern -/

/-- What an update is for (R594, R597): a DRAW, a refresh of the device, or the start of a blink. -/
inductive LanKind where
  | draw | refresh | blink
  deriving DecidableEq, Repr

/-- An update that waits or is in progress: the electrodes it names with their targets, its command, the frames driven
for it so far, and the blink slot that it starts. -/
structure LanUpd where
  kind : LanKind
  full : Bool := false
  els : List (Nat × Nat) := []
  cmd : Option Nat := none
  frames : Nat := 0
  slot : Option Nat := none
  deriving DecidableEq, Repr

/-- The update at the head: it has asked for leave, its grant waits for the end of a toggle, or it is driven. -/
inductive LanPhase where
  | idle | asked | held | running
  deriving DecidableEq, Repr

/-- What the LANTERN island drives: an update, the toggles of blink slots, or a test of the pump (R604). -/
structure LanJob where
  toggle : Bool := false
  test : Bool := false
  slots : List Nat := []
  band : Nat := 0
  /-- FRAME in ticks. -/
  frameT : Nat := 0
  pumpAt : Nat
  /-- The electrodes driven: number, target and the drive codes of the waveform, one a frame (Table LAN-1). -/
  run : List (Nat × Nat × List Nat) := []
  total : Nat := 0
  frame : Nat := 0
  /-- The end of the frame in progress; none while the pump starts. -/
  frameEnd : Option Nat := none
  deriving DecidableEq, Repr

/-- A blink slot (R597, R598): PERIOD in ms, the levels, and which of them its segment holds. -/
structure BlinkSt where
  seg : Nat
  period : Nat
  a : Nat
  b : Nat
  armed : Bool := false
  atB : Bool := false
  /-- The tick at which the next toggle falls due; none while toggles are suspended (R606). -/
  next : Option Nat := none
  /-- A due toggle waits (R599). -/
  waits : Bool := false
  /-- PERIOD and LEVELS from the next toggle on. -/
  change : Option (Nat × Nat × Nat) := none
  deriving DecidableEq, Repr

/-- An update cut by an abort: its command, the frames driven, and the blink slot that it starts. -/
structure LanCut where
  cmd : Option Nat
  frames : Nat
  slot : Option Nat
  deriving DecidableEq, Repr

structure Lan where
  /-- Present and target levels by electrode, BORDER being 128; 4 is U (R586). -/
  lvl : Tbl Nat := []
  tgt : Tbl Nat := []
  /-- The panel record in the store (R587): levels, targets, and the electrodes in progress. -/
  recLvl : Tbl Nat := []
  recTgt : Tbl Nat := []
  recProg : List (Nat × Nat) := []
  upds : List LanUpd := []
  phase : LanPhase := .idle
  /-- The start of the head has been posted to KEEPER, which makes it at this epoch (R232). -/
  startAt : Option Nat := none
  job : Option LanJob := none
  /-- A commanded abort: 0 MARK, 1 PUMP, 2 MODE, 3 XING. -/
  abort : Option Nat := none
  /-- Recovery is pending, and ends at this tick at the earliest (R604). -/
  recov : Bool := false
  recUntil : Nat := 0
  abortAt : Nat := 0
  pumpCause : Bool := false
  cut : Option LanCut := none
  /-- X198 is in a failure episode, as delivered. -/
  xfail : Bool := false
  /-- The marks that are open, as WORK0 knows them, and the reports on their way from KEEPER. -/
  marks : List MarkKind := []
  markMsgs : List (Nat × MarkKind × Bool) := []
  /-- A mark has opened since the head asked for leave. -/
  markSince : Bool := false
  fault : Bool := false
  /-- A refresh is still to be placed: after a restart, or after one that could not be driven. -/
  owed : Bool := false
  slots : Tbl BlinkSt := []
  /-- An inrush window is open, as the keeper signals. -/
  gate : Bool := false
  nUpd : Nat := 0
  nAbort : Nat := 0
  nDrop : Nat := 0
  band : Nat := 0
  /-- The rails as measured last, in mV. -/
  vpos : Nat := 0
  vneg : Nat := 0
  /-- The status word: an abort stands, its cause, and the frames driven in the present update. -/
  aborted : Bool := false
  cause : Nat := 0
  driven : Nat := 0
  /-- The tick of the last status post through X198 (R608). -/
  postAt : Nat := 0
  /-- What LAN_CLR has cleared of nUpd, nAbort and nDrop: COUNTS counts since reset (R616). -/
  past : List Nat := []
  deriving DecidableEq, Repr

/-! ### The input journal -/

/-- A journal record (R620): a header's kind and bits 20:0 with its payload words; an anchor (R623), whose payload
follows from its number and from the number of its configuration; or one chunk of a state image. -/
inductive JRec where
  | item (kind bits : Nat) (words : List Nat)
  | anchor (cause no cfgNo : Nat)
  | state (no chunk : Nat)
  deriving DecidableEq, Repr

/-- A record in the ring, at its place in the stream of record bytes. -/
structure JEnt where
  off : Nat
  r : JRec
  deriving DecidableEq, Repr

/-- A crossing's steady run (R621): the last payload, its tick, the interval, the records of the run, and whether it is
written as STEADY. -/
structure Steady where
  words : List Nat
  tick : Nat
  period : Nat := 0
  n : Nat := 1
  active : Bool := false
  deriving DecidableEq, Repr

/-- What the control islands hold (R623), with the configuration and the crossings as they received them. -/
structure Image where
  cfg : Cfg := []
  xings : Tbl XCell := []
  vil : Vil := {}
  lve : Lve := {}
  drv : Drv := {}
  thm : Thm := {}
  clm : Clm := {}
  steady : Tbl Steady := []
  deriving DecidableEq, Repr

/-- An anchor: its number, epoch and cause, the configuration it names, where its epoch begins in the stream once it is
in the ring, and what it holds. -/
structure JAnchor where
  no : Nat
  epoch : Nat
  cause : Nat
  cfgNo : Nat
  off : Option Nat := none
  image : Image
  deriving DecidableEq, Repr

/-- What a kept slot holds (Table JRN-5). -/
structure SlotImg where
  trig : Nat
  trunc : Bool := false
  auto : Bool := false
  first : Nat
  last : Nat
  trigEpoch : Nat
  boot : List Nat
  note : String := ""
  worlds : Nat
  regions : Nat
  cfgNo : Nat := 0
  bytes : Nat
  recs : List JRec
  /-- Filled by LOAD: the words of the image. -/
  raw : List Word := []
  image : Image := {}
  deriving DecidableEq, Repr

/-- A kept slot: empty, being loaded (the next SEQ), or valid. -/
inductive Slot where
  | empty
  | loading (next : Nat) (words : List Word)
  | kept (i : SlotImg)
  deriving DecidableEq, Repr

/-- A freeze that is pending or in progress: 0 waiting for its boundary, 1 asking for leave, 2 granted, 3 copying. -/
structure Frz where
  trig : Nat
  auto : Bool
  boundary : Nat
  trigEpoch : Nat
  slot : Option Nat := none
  note : String := ""
  cmd : Option Nat := none
  phase : Nat := 0
  img : Option SlotImg := none
  copyAt : Nat := 0
  /-- It lost its leave or its copy, and asks again once the writer does not hold (R643). -/
  again : Bool := false
  deriving DecidableEq, Repr

/-- A replay (R635): the slot, the records that follow, the field epoch, the epochs passed, the command, the bench's own
state, and whether the span is one of a foreign image. -/
structure Rpl where
  slot : Nat
  recs : List JRec
  epoch : Nat
  last : Nat
  passed : Nat := 0
  cmd : Option Nat
  bench : Image
  foreign : Bool
  steady : Tbl Steady := []
  deriving DecidableEq, Repr

structure Jrn where
  /-- The records of the epoch in progress and of the one before it, newest first (R618). -/
  cur : List JRec := []
  closed : List JRec := []
  curAnchor : Option Nat := none
  /-- The ring, newest first, and the bytes of the stream written. -/
  ring : List JEnt := []
  wpos : Nat := 0
  /-- Held records, newest first (R626). -/
  held : List JRec := []
  heldBytes : Nat := 0
  heldLost : Nat := 0
  heldLostBytes : Nat := 0
  holding : Bool := false
  gaps : Nat := 0
  lost : Nat := 0
  /-- Bytes written in the present second and in the ten before it, newest first. -/
  rate : List Nat := []
  rateNow : Nat := 0
  steady : Tbl Steady := []
  anchors : List JAnchor := []
  anchorNo : Nat := 0
  lastAnchor : Option Nat := none
  /-- The configuration's number: persisting changes since manufacture. -/
  cfgNo : Nat := 0
  storeSeq : Nat := 0
  boot : List Nat := []
  slots : Tbl Slot := []
  frz : List Frz := []
  rplReq : Option Nat := none
  rpl : Option Rpl := none
  /-- The last replay: its slot, field epoch, 0 none, 1 MATCH, 2 DIVERGED, and the island. -/
  rplSlot : Nat := 0
  rplEpoch : Nat := 0
  rplRes : Nat := 0
  rplIsland : Nat := 0
  /-- The last-gasp image (R58): the records in it, the records lost from it, and the epoch of the commit. -/
  gasp : Option (List JRec × Nat × Nat) := none
  /-- Held records were lost with power (R626). -/
  gapDue : Nat := 0
  gapBytes : Nat := 0
  /-- X199 is in a failure episode (R626). -/
  x199 : Bool := false
  /-- The tick of the last post of X199, and its word. -/
  postAt : Nat := 0
  told : Option XWord := none
  /-- Gaps and lost records of this run that a write of JRN_CLR has cleared from the registers. -/
  past : List Nat := []
  deriving DecidableEq, Repr

/-! ### Self-test and versions -/

/-- An ALARM notice as the log keeps it (R675). -/
structure AlarmRec where
  name : String
  obj : Option Obj
  args : String
  tick : Nat
  utc : Nat
  deriving DecidableEq, Repr

/-- A full self-test in progress (R657 to R660). -/
structure BistRun where
  prev : Mode
  startAt : Nat
  /-- The stage by code of Table BST-4, its start, and whether it has been rerun. -/
  stage : Nat := 1
  stageAt : Nat
  rerun : Bool := false
  /-- An analogue stage was hit: 1 by a mark, 2 by a calm break; its measurements are discarded (R658). -/
  hit : Nat := 0
  /-- The rerun waits for the mark to close, or for every inrush window to close. -/
  waits : Bool := false
  /-- What the stages have found: faults, and failing rows that stay. -/
  found : BitVec 10 := 0
  rows : List (Nat × Nat) := []
  soft : Nat := 0
  burnt : Nat := 0
  /-- The faults that stood at entry and what they held off: an early end brings them back (R659). -/
  faults0 : BitVec 10 := 0
  holds0 : Tbl (BitVec 12) := []
  /-- The stages are done, or have ended early with this body; the test ends at the next boundary. -/
  done : Option String := none
  deriving DecidableEq, Repr

structure Tst where
  /-- The tick of the last post of X200. -/
  postAt : Nat := 0
  heldPatch : Bool := false
  heldLine : Bool := false
  heldJournal : Bool := false
  log : List AlarmRec := []
  /-- Latched faults (TST_FAULT), and the outputs that each holds off: LF0 to LF7, then DP0 to DP3. -/
  faults : BitVec 10 := 0
  holds : Tbl (BitVec 12) := []
  qfail : Bool := false
  /-- In SAFE by R653. -/
  safeQuick : Bool := false
  /-- The last full test: 0 none, 1 PASS, 2 REPAIRED, 3 FLAGGED; FLAGS; its end in UTC seconds; its length in ms. -/
  res : Nat := 0
  flags : Nat := 0
  lastRun : Option Nat := none
  fullMs : Nat := 0
  /-- The quick test in 10 µs. -/
  quickT : Nat := 0
  runs : Nat := 0
  aborts : Nat := 0
  armed : Bool := false
  /-- Rows repaired by a soft spare, rows repaired by fuse, and failing rows that are not repaired: region and row. -/
  soft : List (Nat × Nat) := []
  fuses : List (Nat × Nat) := []
  openRows : List (Nat × Nat) := []
  /-- The soft map as stored (R662). -/
  softStored : List (Nat × Nat) := []
  /-- The last BIST reported a fault that fuse repair can mend (R204). -/
  mendable : Bool := false
  /-- The patch fitted, 0 for none, whether its image is the listed one, and whether it is applied. -/
  patchFitted : Nat := 0
  patchListed : Bool := true
  patch : Nat := 0
  row : Nat := 0
  /-- A full test has asked for leave. -/
  asked : Bool := false
  run : Option BistRun := none
  /-- X200 is in a failure episode, as delivered. -/
  x200 : Bool := false
  /-- Why a SOFT reset follows the final line (R664). -/
  restart : Bool := false
  deriving DecidableEq, Repr

/-! ### The whole machine -/

/-- The state of the block. -/
structure State where
  /-- The model's clock, in ticks. -/
  now : Nat := 0
  /-- The tick at which the last reset of the core die was released: monotonic time is `now - rel` (R11). -/
  rel : Nat := 0
  /-- The epoch in progress (R18). -/
  epoch : Nat := 0
  /-- The model's own counter of free values. -/
  fresh : Nat := 0
  ana : Ana := {}
  vil : Vil := {}
  sec : Sec := {}
  /-- The configuration in force. -/
  cfg : Cfg := []
  /-- The configuration stored (R176). -/
  stored : Cfg := []
  pwr : Pwr := {}
  lve : Lve := {}
  cnv : Cnv := {}
  chn : Chn := {}
  cnt : Cnt := {}
  drv : Drv := {}
  thm : Thm := {}
  clm : Clm := {}
  bus : Bus := {}
  tim : Tim := {}
  lan : Lan := {}
  jrn : Jrn := {}
  tst : Tst := {}
  /-- The commands that wait, first in first out. -/
  pending : List Instr := []
  deriving DecidableEq, Repr

/-- The machine right after the release of a power-on reset of the core die. -/
def State.reset : State := {}

end Sys2Proof.Machine
end

