-- ==== Sys2Proof/Machine/Text.lean ====
section
/-!
DEFINITION. Text: how numbers, values and names are spelled on a line (Tables VIL-2 and VIL-3, R126, R174), the CRC of
a framed line (R135), and the reading of a line's characters into tokens (R125 to R128).
-/
namespace Sys2Proof.Machine
open Sys2Proof

/-! ### Spelling -/

/-- The decimal digits of a number, in front of `acc`. -/
def decDigits : Nat → Nat → List Char → List Char
  | 0, _, acc => acc
  | f + 1, n, acc =>
    let acc := Char.ofNat (48 + n % 10) :: acc
    if n / 10 = 0 then acc else decDigits f (n / 10) acc

/-- A natural number in decimal. -/
def natStr (n : Nat) : String := String.ofList (decDigits 40 n [])

/-- A number in decimal with a sign where it is negative. -/
def intStr (v : Int) : String := if v < 0 then "-" ++ natStr v.natAbs else natStr v.natAbs

/-- A number with at least `w` digits. -/
def padStr (w n : Nat) : String :=
  let d := decDigits 40 n []
  String.ofList (List.replicate (w - d.length) '0' ++ d)

/-- A hexadecimal digit in upper case (R126). -/
def hexChar (n : Nat) : Char := if n < 10 then Char.ofNat (48 + n) else Char.ofNat (55 + n)

/-- The lowest `w` hexadecimal digits of a number, in front of `acc`. -/
def hexDigits : Nat → Nat → List Char → List Char
  | 0, _, acc => acc
  | w + 1, n, acc => hexDigits w (n / 16) (hexChar (n % 16) :: acc)

/-- An integer code of 32 bits, as the device sends it: 0x1A2B_3C4D (R126, Numbers and units). -/
def codeStr (n : Nat) : String :=
  "0x" ++ String.ofList (hexDigits 4 (n / 65536) []) ++ "_" ++ String.ofList (hexDigits 4 n [])

/-- A value in thousandths as a decimal number with `d` decimals (R174). -/
def milliStr (v : Int) (d : Nat) : String :=
  let m := v.natAbs / 10 ^ (3 - d)
  let sign := if v < 0 && m != 0 then "-" else ""
  if d = 0 then sign ++ natStr m
  else sign ++ natStr (m / 10 ^ d) ++ "." ++ padStr d (m % 10 ^ d)

/-- The decimals that a step in thousandths requires. -/
def stepDecimals (step : Nat) : Nat :=
  if step % 1000 = 0 then 0 else if step % 100 = 0 then 1 else if step % 10 = 0 then 2 else 3

/-- Joined with a separator. -/
def joinStr (sep : String) : List String → String
  | [] => ""
  | [a] => a
  | a :: b :: l => a ++ sep ++ joinStr sep (b :: l)

/-- A time of day. -/
def todStr (sec : Nat) : String :=
  if sec % 60 = 0 then padStr 2 (sec / 3600) ++ ":" ++ padStr 2 (sec / 60 % 60)
  else padStr 2 (sec / 3600) ++ ":" ++ padStr 2 (sec / 60 % 60) ++ ":" ++ padStr 2 (sec % 60)

/-- A date. -/
def dateStr (y m d : Nat) : String := padStr 4 y ++ "-" ++ padStr 2 m ++ "-" ++ padStr 2 d

/-- The characters of a string inside quotes, with the escapes of Table VIL-2. -/
def escChars : List Char → List Char
  | [] => []
  | c :: l => if c = '"' || c = '\\' then '\\' :: c :: escChars l else c :: escChars l

def quoteStr (s : String) : String := "\"" ++ String.ofList (escChars s.toList) ++ "\""

/-! ### Units (Table VIL-3) -/

/-- The dimensions of Table VIL-3. -/
inductive Dim where
  | none | voltage | current | power | resistance | temperature | time | angle | frequency | ratio | bitrate
  | illuminance | speed | length | pressure
  deriving DecidableEq, Repr

/-- A unit's dimension, and its size in 10^-9 of the dimension's base unit. -/
def unitOf (u : String) : Option (Dim × Nat) :=
  let n := 1000000000
  if u = "" then some (.none, n)
  else if u = "V" then some (.voltage, n) else if u = "mV" then some (.voltage, 1000000)
  else if u = "A" then some (.current, n) else if u = "mA" then some (.current, 1000000)
  else if u = "uA" then some (.current, 1000)
  else if u = "W" then some (.power, n) else if u = "mW" then some (.power, 1000000)
  else if u = "ohm" then some (.resistance, n) else if u = "kohm" then some (.resistance, 1000 * n)
  else if u = "C" then some (.temperature, n)
  else if u = "us" then some (.time, 1000) else if u = "ms" then some (.time, 1000000)
  else if u = "s" then some (.time, n) else if u = "min" then some (.time, 60 * n)
  else if u = "h" then some (.time, 3600 * n)
  else if u = "deg" then some (.angle, n)
  else if u = "Hz" then some (.frequency, n) else if u = "kHz" then some (.frequency, 1000 * n)
  else if u = "%" then some (.ratio, n) else if u = "ppm" then some (.ratio, 100000)
  else if u = "bps" then some (.bitrate, n) else if u = "kbps" then some (.bitrate, 1000 * n)
  else if u = "Mbps" then some (.bitrate, 1000000 * n)
  else if u = "lx" then some (.illuminance, n) else if u = "klx" then some (.illuminance, 1000 * n)
  else if u = "m/s" then some (.speed, n)
  else if u = "mm" then some (.length, n)
  else if u = "Pa" then some (.pressure, n)
  else .none

/-- A number of thousandths of unit `u`, in 10^-9 of its base unit. -/
def fromMilli (u : String) (v : Int) : Int :=
  match unitOf u with
  | some (_, k) => v * k / 1000
  | none => v

/-- The inverse of `fromMilli`, toward zero. -/
def toMilli (u : String) (v : Int) : Int :=
  match unitOf u with
  | some (_, k) => (v * 1000).tdiv k
  | none => v

/-- A number's value in 10^-9 of its base unit, where it has one exactly (R128). -/
def numNano (neg : Bool) (digits decimals : Nat) (u : String) : Option Int :=
  match unitOf u with
  | some (_, k) =>
    if digits * k % 10 ^ decimals = 0 then
      some (if neg then -((digits * k / 10 ^ decimals : Nat) : Int) else ((digits * k / 10 ^ decimals : Nat) : Int))
    else .none
  | none => .none

/-! ### The CRC of a framed line (R135) -/

/-- One bit of CRC-16, polynomial 0x1021, most significant bit first. -/
def crcBit (c : BitVec 16) : BitVec 16 := if c.msb then (c <<< 1) ^^^ 0x1021#16 else c <<< 1

def crcBits : Nat → BitVec 16 → BitVec 16
  | 0, c => c
  | n + 1, c => crcBits n (crcBit c)

/-- One byte into the CRC. -/
def crcByte (c : BitVec 16) (b : Nat) : BitVec 16 := crcBits 8 (c ^^^ (BitVec.ofNat 16 b <<< 8))

def crcList : BitVec 16 → List Char → BitVec 16
  | c, [] => c
  | c, x :: l => crcList (crcByte c x.toNat) l

/-- The CRC of a body: initial value 0xFFFF, no final XOR. -/
def crc16 (body : List Char) : BitVec 16 := crcList 0xFFFF#16 body

/-- A line in framed form. -/
def frameStr (body : String) : String :=
  "$" ++ body ++ "*" ++ String.ofList (hexDigits 4 (crc16 body.toList).toNat [])

/-! ### Characters -/

def isDigit (c : Char) : Bool := 48 ≤ c.toNat && c.toNat ≤ 57
def isLetter (c : Char) : Bool := (65 ≤ c.toNat && c.toNat ≤ 90) || (97 ≤ c.toNat && c.toNat ≤ 122)
def isWordChar (c : Char) : Bool := isDigit c || isLetter c || c = '-' || c = '.' || c = '_'

/-- A letter in upper case. -/
def upChar (c : Char) : Char := if 97 ≤ c.toNat && c.toNat ≤ 122 then Char.ofNat (c.toNat - 32) else c

/-- A word in upper case, for matching without regard to case (R126). -/
def upStr (s : String) : String := String.ofList (s.toList.map upChar)

def hexVal (c : Char) : Option Nat :=
  if isDigit c then some (c.toNat - 48)
  else
    let u := (upChar c).toNat
    if 65 ≤ u && u ≤ 70 then some (u - 55) else none

/-- The characters up to the first that fails `p`, and the rest. -/
def spanChars (p : Char → Bool) : List Char → List Char × List Char
  | [] => ([], [])
  | c :: l => if p c then (c :: (spanChars p l).1, (spanChars p l).2) else ([], c :: l)

def digitsVal : List Char → Nat → Nat
  | [], acc => acc
  | c :: l, acc => digitsVal l (acc * 10 + (c.toNat - 48))

/-- A natural number from digits alone. -/
def natOf (l : List Char) : Option Nat := if l.isEmpty || !l.all isDigit then none else some (digitsVal l 0)

/-! ### Lines into tokens

A raw token keeps its first column, counted from 1, and its characters with quotes and escapes kept. -/

/-- A raw token. -/
structure Raw where
  col : Nat
  text : List Char
  deriving DecidableEq, Repr

/-- The raw tokens of a line: split at spaces outside strings; `#` outside a string starts a comment (R122).  The
first argument bounds the recursion; `none` as the second component is an unended string, at its column. -/
def rawTokens : Nat → List Char → Nat → Option (Nat × List Char) → Bool → List Raw → List Raw × Option Nat
  | 0, _, _, _, _, acc => (acc.reverse, none)
  | _ + 1, [], _, cur, inStr, acc =>
    match cur with
    | some (c, t) => if inStr then (acc.reverse, some c) else ((⟨c, t.reverse⟩ :: acc).reverse, none)
    | none => (acc.reverse, none)
  | f + 1, ch :: l, col, cur, inStr, acc =>
    if inStr then
      match ch, l with
      | '\\', c2 :: l2 => rawTokens f l2 (col + 2) (cur.map fun p => (p.1, c2 :: '\\' :: p.2)) true acc
      | _, _ => rawTokens f l (col + 1) (cur.map fun p => (p.1, ch :: p.2)) (ch != '"') acc
    else if ch = ' ' then
      match cur with
      | some (c, t) => rawTokens f l (col + 1) none false (⟨c, t.reverse⟩ :: acc)
      | none => rawTokens f l (col + 1) none false acc
    else if ch = '#' then
      match cur with
      | some (c, t) => ((⟨c, t.reverse⟩ :: acc).reverse, none)
      | none => (acc.reverse, none)
    else
      let cur' := match cur with | some (c, t) => (c, ch :: t) | none => (col, [ch])
      rawTokens f l (col + 1) (some cur') (ch = '"') acc

/-- The characters inside a string, with the escapes undone; `none` for an escape that is none of Table VIL-2's or a
quote inside. -/
def unescape : List Char → Option (List Char)
  | [] => some []
  | '\\' :: c :: l => if c = '"' || c = '\\' then (unescape l).map (c :: ·) else none
  | '\\' :: [] => none
  | '"' :: _ => none
  | c :: l => (unescape l).map (c :: ·)

/-- An integer code: 0x or 0b, digits, `_` between digits, at most 32 bits (Table VIL-2). -/
def codeOf (base : Nat) : List Char → Bool → Nat → Option Nat
  | [], prevDigit, acc => if prevDigit && acc < 4294967296 then some acc else none
  | '_' :: l, prevDigit, acc => if prevDigit && !l.isEmpty then codeOf base l false acc else none
  | c :: l, _, acc =>
    match hexVal c with
    | some v => if v < base then codeOf base l true (acc * base + v) else none
    | none => none

/-- A number with its unit (Table VIL-2, R127): at most 10 significant digits. -/
def numOf (l : List Char) : Option Atom :=
  let (neg, l) := match l with | '-' :: r => (true, r) | '+' :: r => (false, r) | r => (false, r)
  let (ip, r) := spanChars isDigit l
  let (fp, r) := match r with
    | '.' :: r' => let (f, r'') := spanChars isDigit r'; (some f, r'')
    | _ => (none, r)
  if ip.isEmpty || fp = some [] then none
  else
    let all := ip ++ fp.getD []
    let sig := (all.dropWhile (· = '0')).length
    if sig > 10 then none
    else
      let unit := String.ofList r
      match unitOf unit with
      | some _ => some (.num neg (digitsVal all 0) (fp.getD []).length unit)
      | none =>
        -- a unit of no dimension is still read, so that it is refused for its unit (R128)
        if r.all isLetter then some (.num neg (digitsVal all 0) (fp.getD []).length unit) else none

/-- A time of day hh:mm or hh:mm:ss. -/
def todOf (l : List Char) : Option Atom :=
  match l with
  | [a, b, ':', c, d] =>
    match natOf [a, b], natOf [c, d] with
    | some h, some m => if h < 24 && m < 60 then some (.tod h m 0 false) else none
    | _, _ => none
  | [a, b, ':', c, d, ':', e, f] =>
    match natOf [a, b], natOf [c, d], natOf [e, f] with
    | some h, some m, some s => if h < 24 && m < 60 && s < 60 then some (.tod h m s true) else none
    | _, _, _ => none
  | _ => none

/-- Whether a year is a leap year. -/
def leapYear (y : Nat) : Bool := (y % 4 = 0 && y % 100 != 0) || y % 400 = 0

/-- The days of a month. -/
def monthDays (y m : Nat) : Nat :=
  if m = 2 then (if leapYear y then 29 else 28)
  else if m = 4 || m = 6 || m = 9 || m = 11 then 30 else 31

/-- A date yyyy-mm-dd that exists. -/
def dateOf (l : List Char) : Option Atom :=
  match l with
  | [a, b, c, d, '-', e, f, '-', g, h] =>
    match natOf [a, b, c, d], natOf [e, f], natOf [g, h] with
    | some y, some m, some dd =>
      if 1 ≤ m && m ≤ 12 && 1 ≤ dd && dd ≤ monthDays y m then some (.date y m dd) else none
    | _, _, _ => none
  | _ => none

/-- One token of a kind other than tag, pair and list. -/
def atomOf (l : List Char) : Option Atom :=
  match l with
  | '"' :: r =>
    match r.reverse with
    | '"' :: b => (unescape b.reverse).bind fun t => if t.length ≤ 64 then some (.str (String.ofList t)) else none
    | _ => none
  | '0' :: 'x' :: r => (codeOf 16 r false 0).map .code
  | '0' :: 'X' :: r => (codeOf 16 r false 0).map .code
  | '0' :: 'b' :: r => (codeOf 2 r false 0).map .code
  | '0' :: 'B' :: r => (codeOf 2 r false 0).map .code
  | c :: r =>
    if isLetter c then (if r.all isWordChar then some (.word (String.ofList (c :: r))) else none)
    else
      match dateOf l with
      | some d => some d
      | none => match todOf l with
        | some t => some t
        | none => numOf l
  | [] => none

/-- Splits at commas outside strings. -/
def splitCommas : List Char → Bool → List Char → List (List Char)
  | [], _, cur => [cur.reverse]
  | '\\' :: c :: l, true, cur => splitCommas l true (c :: '\\' :: cur)
  | ',' :: l, false, cur => cur.reverse :: splitCommas l false []
  | c :: l, inStr, cur => splitCommas l (if c = '"' then !inStr else inStr) (c :: cur)

def allAtoms : List (List Char) → Option (List Atom)
  | [] => some []
  | t :: l => (atomOf t).bind fun a => (allAtoms l).map (a :: ·)

/-- Which kind of token of Table VIL-2 an atom is. -/
def atomKind : Atom → Nat
  | .word _ => 0
  | .num .. => 1
  | .code _ => 2
  | .tod .. => 3
  | .date .. => 4
  | .str _ => 5

/-- A value: one token, or a list of two or more tokens of one kind (Table VIL-2). -/
def tokOf (l : List Char) : Option Tok :=
  (allAtoms (splitCommas l false [])).bind fun t =>
    if t.all fun a => decide (some (atomKind a) = t.head?.map atomKind) then some t else none

/-- An operand of a command line. -/
inductive Arg where
  | val (col : Nat) (t : Tok)
  | range (col : Nat) (a b : String)
  | pair (col : Nat) (name : String) (t : Tok)
  deriving DecidableEq, Repr

/-- The position of `..` in an object range. -/
def splitRange : List Char → List Char → Option (List Char × List Char)
  | '.' :: '.' :: l, acc => some (acc.reverse, l)
  | c :: l, acc => splitRange l (c :: acc)
  | [], _ => none

/-- One operand from a raw token; `none` where it is malformed. -/
def argOf (r : Raw) : Option Arg :=
  let (w, rest) := spanChars isWordChar r.text
  match rest with
  | '=' :: v =>
    if (w.head?.map isLetter).getD false then (tokOf v).map (.pair r.col (String.ofList w)) else none
  | _ =>
    match (if (r.text.head?.map isLetter).getD false then splitRange r.text [] else none) with
    | some (a, b) =>
      match atomOf a, atomOf b with
      | some (.word x), some (.word y) => some (.range r.col x y)
      | _, _ => none
    | none => (tokOf r.text).map (.val r.col)

/-! ### Dates -/

/-- The date of a day counted from 2000-01-01 (Gregorian). -/
def civil (n : Nat) : Nat × Nat × Nat :=
  let z := n + 730425
  let era := z / 146097
  let doe := z % 146097
  let yoe := (doe - doe / 1460 + doe / 36524 - doe / 146096) / 365
  let doy := doe - (365 * yoe + yoe / 4 - yoe / 100)
  let mp := (5 * doy + 2) / 153
  let m := if mp < 10 then mp + 3 else mp - 9
  (yoe + era * 400 + (if m ≤ 2 then 1 else 0), m, doy - (153 * mp + 2) / 5 + 1)

/-- The day of a date, counted from 2000-01-01; dates before it count as day 0. -/
def dayOf (y m d : Nat) : Nat :=
  let y' := if m ≤ 2 then y - 1 else y
  let era := y' / 400
  let yoe := y' % 400
  let mp := if 3 ≤ m then m - 3 else m + 9
  let doy := (153 * mp + 2) / 5 + d - 1
  era * 146097 + yoe * 365 + yoe / 4 - yoe / 100 + doy - 730425

/-- An instant in seconds since 2000-01-01 as a date and a time of day. -/
def utcStr (secs : Nat) : String :=
  let c := civil (secs / 86400)
  let t := secs % 86400
  dateStr c.1 c.2.1 c.2.2 ++ "," ++ padStr 2 (t / 3600) ++ ":" ++ padStr 2 (t / 60 % 60) ++ ":" ++ padStr 2 (t % 60)

end Sys2Proof.Machine
end

