-- ==== Sys2Proof/Machine/Attrs.lean ====
section
/-!
DEFINITION. The attributes of the objects (the chapters' attribute tables), and the names of the objects (Table SCO-9).
A numeric range is given in thousandths of the attribute's own unit; a value is held in 10^-9 of the base unit.
-/
namespace Sys2Proof.Machine
open Sys2Proof

/-- A run of objects of one kind that a value may name. -/
structure ORun where
  kind : ObjKind
  lo : Nat
  hi : Nat
  deriving DecidableEq, Repr

/-- What an attribute accepts. -/
inductive ATy where
  /-- Read only. -/
  | ro
  /-- One of the words (on, off, yes and no included). -/
  | enum (ws : List String)
  /-- A number in a unit, or one of the words: limits and step in thousandths of the unit. -/
  | num (ws : List String) (unit : String) (lo hi step : Int)
  /-- A list of the words, or one of the words `alone`. -/
  | words (ws alone : List String)
  /-- An object of the runs, or one of the words. -/
  | obj (rs : List ORun) (ws : List String)
  /-- A list of objects of the runs, at most `max` of them, or one of the words. -/
  | objs (rs : List ORun) (ws : List String) (max : Nat)
  /-- A string of at most `max` characters. -/
  | text (max : Nat)
  /-- `n` integer codes up to `hi`. -/
  | codes (n hi : Nat)
  /-- A crossing's FILTER (R41). -/
  | filter
  /-- A value in the units of a source (R41, R391, R453). -/
  | src
  /-- A list of times of day, or NONE. -/
  | tods
  /-- A list of modes or of percentages, or NONE. -/
  | svals
  /-- A date, or two, or NONE. -/
  | dates
  /-- A list of a number of numbers. -/
  | nums (n : Nat) (unit : String) (lo hi step : Int)
  deriving DecidableEq, Repr

/-- An attribute of a kind of object. -/
structure AttrDef where
  name : String
  ty : ATy
  /-- The lowest role that sets it; `none` where it is read only. -/
  role : Option Role
  persists : Bool := true
  /-- Fixed by the configuration lock (R249). -/
  lock : Bool := false
  /-- The default by the object's number. -/
  dflt : Nat → Val := fun _ => []

/-! ### Small constructors for the tables -/

def wv (w : String) : Val := [.word w]
def onoff : ATy := .enum ["on", "off"]

/-- A read-only attribute. -/
def roA (name : String) : AttrDef := { name := name, ty := .ro, role := none, persists := false }

def enumA (name : String) (ws : List String) (d : String) (r : Role) (lock : Bool := false) : AttrDef :=
  { name := name, ty := .enum ws, role := some r, lock := lock, dflt := fun _ => [.word d] }

def flagA (name : String) (d : String) (r : Role) : AttrDef :=
  { name := name, ty := onoff, role := some r, dflt := fun _ => [.word d] }

/-- A number with its default, all in thousandths of the unit. -/
def numA (name unit : String) (lo hi step d : Int) (r : Role) (lock : Bool := false) : AttrDef :=
  { name := name, ty := .num [] unit lo hi step, role := some r, lock := lock,
    dflt := fun _ => [.num (fromMilli unit d)] }

/-- A number or one of some words, with a word as the default. -/
def numWA (name : String) (ws : List String) (unit : String) (lo hi step : Int) (d : String) (r : Role) : AttrDef :=
  { name := name, ty := .num ws unit lo hi step, role := some r, dflt := fun _ => [.word d] }

/-- A number or one of some words, with a number as the default. -/
def numNA (name : String) (ws : List String) (unit : String) (lo hi step d : Int) (r : Role) : AttrDef :=
  { name := name, ty := .num ws unit lo hi step, role := some r, dflt := fun _ => [.num (fromMilli unit d)] }

def objA (name : String) (rs : List ORun) (ws : List String) (d : String) (r : Role) : AttrDef :=
  { name := name, ty := .obj rs ws, role := some r, dflt := fun _ => [.word d] }

def objsA (name : String) (rs : List ORun) (max : Nat) (r : Role) : AttrDef :=
  { name := name, ty := .objs rs ["NONE"] max, role := some r, dflt := fun _ => [.word "NONE"] }

def wordsA (name : String) (ws alone : List String) (d : Val) (r : Role) (lock : Bool := false) : AttrDef :=
  { name := name, ty := .words ws alone, role := some r, lock := lock, dflt := fun _ => d }

def withDflt (a : AttrDef) (f : Nat → Val) : AttrDef := { a with dflt := f }
def volatileA (a : AttrDef) : AttrDef := { a with persists := false }
def lockedA (a : AttrDef) : AttrDef := { a with lock := true }

def runX (lo hi : Nat) : ORun := ⟨.xing, lo, hi⟩
def runU : ORun := ⟨.chan, 0, 95⟩
def runD : ORun := ⟨.drive, 0, 31⟩
def runCT : ORun := ⟨.counter, 0, 15⟩

/-! ### The tables -/

/-- Table ANA-11. -/
def xingAttrs : List AttrDef := [
  { name := "FILTER", ty := .filter, role := some .installer, dflt := fun _ => wv "NONE" },
  { name := "LO", ty := .src, role := some .maker }, { name := "HI", ty := .src, role := some .maker },
  numWA "SILENCE" ["off"] "ms" 1000 65535000 1000 "off" .installer,
  numWA "AGE" ["off"] "ms" 1000 65535000 1000 "off" .installer,
  enumA "SUBST" ["HOLD", "FIXED", "LOW", "HIGH"] "HOLD" .maker,
  { name := "SUBVAL", ty := .src, role := some .maker },
  flagA "NOTICE" "on" .installer, roA "DEST", roA "STATE", roA "FAILS"]

/-- Table PWR-10. -/
def pwrAttrs : List AttrDef := [
  numWA "NOMINAL" ["AUTO"] "V" 90000 300000 1000 "AUTO" .installer,
  enumA "BACKUP" ["NONE", "CELL", "SCAP"] "NONE" .maker,
  numA "CHGV" "V" 2500 3200 10 3100 .maker,
  numA "FASTI" "mA" 200 10000 100 1000 .maker,
  flagA "AUX" "off" .installer,
  numWA "AUXRETRY" ["off"] "s" 10000 3600000 1000 "off" .installer,
  flagA "AUXQUIET" "off" .installer,
  numWA "QUIETIDLE" ["off"] "min" 1000 1440000 1000 "off" .installer,
  roA "PILOT", roA "TIMELOST", roA "VBAT", roA "MAINS", roA "NOMV", roA "MARKS", roA "RESET"]

/-- Table LVE-6. -/
def leaveAttrs : List AttrDef := [
  numA "LINEMAX" "A" 1000 6000 100 6000 .maker,
  numA "PMOD" "W" 10000 40000 1000 40000 .maker,
  numA "STAGGER" "ms" 100000 5000000 10000 500000 .installer,
  numA "STAGGERU" "ms" 100000 5000000 10000 250000 .maker,
  numA "WAITMAN" "s" 1000 600000 1000 10000 .installer,
  numA "WAITROUT" "s" 1000 3600000 1000 60000 .installer,
  numA "WAITSERV" "s" 10000 86400000 1000 600000 .maker,
  roA "SCALE", roA "BUDGET", roA "COMMITTED", roA "GRANTS", roA "COUNTS"]

/-- The notice classes (R146). -/
def noticeClasses : List String := ["SYS", "PWR", "LEAVE", "XING", "SES", "SEC", "VERSION", "CNV", "CHN", "CNT", "DRV",
  "THM", "CLM", "BUS", "TIME", "LAN", "JRN", "BST"]

/-- Table VIL-9.  Objects are numbered LINK0, LINK1, BUS1 to BUS4, MACRO from 0. -/
def sessionAttrs : List AttrDef := [
  roA "MODE", roA "LEVEL", roA "ROLE",
  withDflt (flagA "ECHO" "off" .operator) (fun n => wv (if n = 1 then "on" else "off")),
  wordsA "NOTIFY" noticeClasses ["ALL", "NONE"] [] .operator |> (withDflt · fun n =>
    if n = 0 then wv "ALL" else if n = 1 then [.word "SYS", .word "PWR", .word "VERSION"] else wv "SYS"),
  withDflt (numNA "RATE" ["AUTO"] "bps" 9600000 3000000000 100000 115200000 .maker)
    (fun n => if n = 1 then wv "AUTO" else [.num (fromMilli "bps" 115200000)]),
  enumA "FLOW" ["RTSCTS", "NONE"] "RTSCTS" .maker,
  enumA "ATTNPOL" ["HIGH", "LOW"] "HIGH" .maker,
  roA "TAGS", roA "QUEUE", roA "LOST"]

/-- Table VRB-5. -/
def macroAttrs : List AttrDef := [
  withDflt (enumA "ONFAIL" ["STOP", "CONTINUE"] "STOP" .installer)
    (fun n => wv (if n = 63 then "CONTINUE" else "STOP")),
  roA "LINES", roA "RUNROLE", roA "STATE", roA "RUNS", roA "MISSED"]

/-- The assignable blocks, in the order of R229. -/
def worldBlocks : List String := ["SYS", "PILOT", "PWR", "LEAVE", "XING", "LINK", "BUS", "CNT", "FC", "IC", "CHAN",
  "CHURN", "MOT", "LINE", "LAN", "JRN", "TST", "TIME", "PROBE"]

/-- The verbs, in the order of Table VRB-1, with the level each first appeared at and the lowest role (0 none). -/
def verbTable : List (String × Nat × Nat) := [
  ("HELLO", 1, 0), ("AUTH", 1, 0), ("LOGOUT", 1, 1), ("KEY", 1, 3), ("VERSION", 1, 0), ("STATUS", 1, 0),
  ("HELP", 1, 0), ("CANCEL", 1, 1), ("GET", 1, 1), ("SET", 1, 1), ("SHOW", 1, 1), ("DEFAULT", 1, 1), ("LOCK", 1, 3),
  ("MODE", 1, 1), ("REG", 1, 1), ("MOVE", 1, 1), ("STOP", 1, 1), ("RELEASE", 1, 1), ("LEARN", 2, 2), ("ACK", 1, 2),
  ("CAL", 1, 2), ("BIST", 2, 2), ("REPAIR", 2, 3), ("TIME", 1, 2), ("SEND", 2, 3), ("DRAW", 2, 1), ("BLINK", 2, 1),
  ("FREEZE", 2, 1), ("EXPORT", 2, 2), ("LOAD", 3, 3), ("REPLAY", 3, 3), ("MACRO", 2, 1), ("ON", 2, 1), ("WAIT", 1, 1)]

/-- The verbs that a deny list may name (R238). -/
def deniable : List String :=
  (verbTable.map (·.1)).filter fun v =>
    !(["HELLO", "AUTH", "LOGOUT", "VERSION", "STATUS", "HELP", "CANCEL", "STOP"].contains v)

/-- Table SEC-7. -/
def secAttrs : List AttrDef := [
  wordsA "WORLDS" worldBlocks ["NONE"] (wv "NONE") .maker true,
  numA "SECREGIONS" "" 6000 16000 1000 8000 .maker true,
  enumA "BUSWORLD" ["N", "BOTH"] "N" .maker true,
  enumA "BUSCEIL" ["OPERATOR", "INSTALLER", "MAKER"] "OPERATOR" .maker true,
  wordsA "DENYINST" deniable ["NONE"] (wv "NONE") .maker true,
  wordsA "DENYOP" deniable ["NONE"] (wv "NONE") .installer,
  numNA "IDLEOP" ["off"] "min" 1000 240000 1000 15000 .installer,
  numNA "IDLEINST" ["off"] "min" 1000 240000 1000 15000 .maker,
  numA "IDLEMAKER" "min" 1000 60000 1000 15000 .maker,
  enumA "AUDITFULL" ["WRAP", "STOP"] "WRAP" .maker true,
  { name := "AUDITACK", ty := .num [] "" 0 4294967295000 1000, role := some .installer, persists := false },
  roA "LOCKED", roA "KEYS", roA "AUDIT", roA "AUDITHEAD", roA "AUTHFAIL"]

/-- Table CNV-9, channels. -/
def chanAttrs : List AttrDef := [
  enumA "MODE" ["OFF", "V10IN", "NTC10K", "NTC20K", "PT1000", "RES", "DRY", "PULSE", "V10OUT", "ODOUT"] "OFF"
    .installer,
  enumA "RRANGE" ["LOW", "MID", "HIGH"] "MID" .installer,
  flagA "SCAN" "on" .installer, flagA "FAST" "off" .installer,
  numWA "DIAG" ["off"] "" 2000 255000 1000 "off" .installer,
  flagA "WAKE" "off" .installer,
  volatileA (numA "OUTV" "V" 0 10000 10 0 .operator),
  volatileA (flagA "OUT" "off" .operator),
  roA "VERDICT", roA "OWNER"]

/-- Table CNV-9, fast inputs. -/
def fiAttrs : List AttrDef := [
  enumA "ACQ" ["OFF", "INTER", "SIMUL"] "OFF" .installer,
  objA "TRIG" [runCT] ["FREE"] "FREE" .installer,
  numA "PERIOD" "us" 100000 60000000000 100000 10000000 .installer,
  numA "BURST" "" 1000 4096000 1000 16000 .installer,
  enumA "ALIGN" ["LEFT", "RIGHT"] "RIGHT" .maker]

/-- Table CNV-10. -/
def icAttrs : List AttrDef := [roA "SCANTIME", roA "WINDOW", roA "DISCARDS"]
def fcAttrs : List AttrDef := [roA "LOAD", roA "MISSED"]
def lcAttrs : List AttrDef := [roA "CALOFF"]
def convAttrs : List AttrDef := [
  roA "REF", roA "CALSTATE", flagA "CALAUTO" "on" .installer,
  numA "CALDRIFT" "C" 5000 40000 1000 15000 .installer, roA "CALTEMP", roA "CALBREAKS"]

/-- Table CHN-9; the defaults of Table CHN-8. -/
def cellAttrs : List AttrDef := [
  withDflt (numNA "SNAP" ["off"] "ms" 1000 65535000 1000 1000000 .installer)
    (fun n => if 145 ≤ n then [.num (fromMilli "ms" 50000)] else if 128 ≤ n then [.num (fromMilli "ms" 10000)] else [.num (fromMilli "ms" 1000000)]),
  withDflt (enumA "VALUE" ["MEAN", "RMS"] "MEAN" .maker)
    (fun n => wv (if 128 ≤ n && n ≤ 136 then "RMS" else "MEAN")),
  enumA "SATPOL" ["KEEP", "DISCARD"] "KEEP" .maker,
  roA "SOURCE", roA "UNIT", roA "LAST", roA "PEEK", roA "DISCARDS", roA "OWNER"]

/-- Table CNT-8. -/
def counterAttrs : List AttrDef := [
  enumA "SOURCE" ["OFF", "CLK", "TICK", "PULSE", "CASCADE"] "OFF" .installer,
  numA "PRE" "" 1000 32768000 1000 1000 .installer,
  objA "CHAN" [runU] ["NONE"] "NONE" .installer,
  enumA "SRCEDGE" ["RISE", "FALL", "BOTH"] "RISE" .installer,
  numA "SRCFILT" "us" 0 10000000 1000 0 .installer,
  flagA "RUN" "off" .installer,
  { name := "CLEAR", ty := .enum ["yes"], role := some .installer, persists := false },
  enumA "SLEEP" ["KEEP", "DOZE"] "KEEP" .installer,
  enumA "HALT" ["RUN", "FREEZE"] "RUN" .installer,
  numA "CMPINIT" "" 0 65535000 1000 65535000 .installer,
  { name := "CMP", ty := .num [] "" 0 65535000 1000, role := some .installer, persists := false },
  flagA "CHAINMATCH" "off" .installer,
  wordsA "ONMATCH" ["CAPTURE", "RESET", "STOP"] ["NONE"] (wv "NONE") .installer,
  wordsA "ONOVF" ["CAPTURE", "STOP"] ["NONE"] (wv "NONE") .installer,
  objA "LINK" [runCT] ["NONE"] "NONE" .installer,
  enumA "LINKON" ["MATCH", "OVF"] "MATCH" .installer,
  enumA "LINKACT" ["RESET", "START", "STOP", "CAPTURE"] "RESET" .installer,
  enumA "CAPMODE" ["OFF", "SAMPLE", "FILTERED", "QUEUED"] "OFF" .installer,
  objA "CAPCHAN" [runU] ["NONE"] "NONE" .installer,
  enumA "CAPEDGE" ["RISE", "FALL", "BOTH"] "RISE" .installer,
  numA "CAPDIV" "" 1000 256000 1000 1000 .installer,
  numA "CAPFILT" "us" 0 10000000 1000 0 .installer,
  numA "SAMPLE" "ms" 1000 65535000 1000 1000000 .installer,
  roA "COUNT", roA "STATE", roA "LAST", roA "EVENTS", roA "OWNER"]

/-- Table DRV-9. -/
def driveAttrs : List AttrDef := [
  enumA "KIND" ["NONE", "PAIR", "SINGLE", "DC", "ANALOG", "FLOAT"] "NONE" .maker true,
  { name := "OUTPUT", ty := .objs [⟨.feed, 0, 7⟩, ⟨.port, 0, 3⟩, runU] [] 2, role := some .maker, lock := true },
  flagA "DIRINV" "off" .installer,
  { name := "POSMODEL", ty := .enum ["TIMED", "ENDSTOP", "ENCODER", "COMMANDED", "NONE"], role := some .installer },
  numA "TUP" "s" 1000 600000 100 30000 .installer, numA "TDOWN" "s" 1000 600000 100 30000 .installer,
  numA "OVERRUN" "%" 0 50000 1000 10000 .installer,
  numA "ENDA" "A" 10 500 10 50 .installer,
  numA "ENDWIN" "%" 5000 50000 1000 30000 .installer,
  numWA "TILTT" ["off"] "s" 200 5000 100 "off" .installer,
  numA "SAFEPOS" "%" 0 100000 1000 0 .installer, numA "FIREPOS" "%" 0 100000 1000 0 .maker,
  numA "V0" "V" 0 10000 10 0 .installer, numA "V100" "V" 0 10000 10 10000 .installer,
  numA "DEADT" "ms" 100000 2000000 10000 250000 .maker true,
  numA "STARTA" "A" 0 6000 100 1500 .maker,
  numA "INRUSHT" "ms" 100000 5000000 1000 500000 .maker,
  numA "AUXMA" "mA" 0 750000 1000 100000 .maker,
  numA "TRIPA" "A" 1000 8000 100 5000 .maker true,
  numA "TRIPMV" "mV" 20000 250000 1000 200000 .maker true,
  numNA "TRIPCLR" ["off"] "s" 10000 3600000 1000 60000 .maker,
  numA "PWMF" "kHz" 16000 25000 1000 20000 .maker,
  numA "DUTY" "%" 10000 100000 1000 100000 .installer,
  numA "RAMP" "ms" 0 5000000 1000 500000 .installer,
  flagA "BRAKE" "off" .installer,
  enumA "ENCTYPE" ["QUAD", "PULSE"] "QUAD" .maker,
  numA "BUSNOM" "V" 12000 60000 1000 24000 .installer,
  flagA "OBSDET" "on" .installer,
  numA "OBSMARGIN" "%" 10000 200000 1000 40000 .installer,
  numA "OBSTIME" "ms" 10000 500000 10000 50000 .installer,
  numA "OBSEND" "%" 0 10000 1000 3000 .installer,
  numA "REVDIST" "%" 0 100000 1000 5000 .installer,
  numNA "OBSHOLD" ["off"] "min" 1000 1440000 1000 10000 .installer,
  numA "HOLDT" "min" 1000 1440000 1000 120000 .installer,
  objA "LOCALUP" [runU] ["NONE"] "NONE" .installer, objA "LOCALDN" [runU] ["NONE"] "NONE" .installer,
  roA "POS", roA "POSQ", roA "TILT", roA "STATE", roA "ORDER", roA "HOLD", roA "PROFILE", roA "ENCSPAN"]

/-- Table DRV-10, by protection 0 WIND, 1 RAIN, 2 FROST, 3 FIRE. -/
def protAttrs : List AttrDef := [
  objA "SOURCE" [runX 0 175] ["NONE"] "NONE" .installer,
  withDflt (enumA "SENSE" ["ABOVE", "BELOW"] "ABOVE" .installer) (fun n => wv (if n = 2 then "BELOW" else "ABOVE")),
  { name := "ON", ty := .src, role := some .installer }, { name := "OFF", ty := .src, role := some .installer },
  withDflt (numA "ONDLY" "s" 0 600000 1000 0 .installer)
    (fun n => [.num (fromMilli "s" (if n = 0 then 2000 else if n = 2 then 600000 else 0))]),
  withDflt (numA "OFFDLY" "s" 0 3600000 1000 0 .installer) (fun n => [.num (fromMilli "s"
    (if n = 0 then 600000 else if n = 1 then 900000 else if n = 2 then 3600000 else 0))]),
  objsA "DRIVES" [runD] 32 .installer,
  withDflt (enumA "ACTION" ["SAFEPOS", "FIREPOS", "BLOCK"] "SAFEPOS" .maker)
    (fun n => wv (if n = 2 then "BLOCK" else if n = 3 then "FIREPOS" else "SAFEPOS")),
  roA "STATE"]

/-- A number whose default differs between TF and TP. -/
def tfTp (a : AttrDef) (unit : String) (tf tp : Int) (isTf : Bool) : AttrDef :=
  { a with dflt := fun _ => [.num (fromMilli unit (if isTf then tf else tp))] }

/-- Table THM-8, the drive thermal models. -/
def thermAttrs (isTf : Bool) : List AttrDef := [
  tfTp (numA "CW" "" 1000 10000000 1000 150000 .maker) "" 150000 300000 isTf,
  tfTp (numA "CB" "" 1000 10000000 1000 1200000 .maker) "" 1200000 2500000 isTf,
  tfTp (numA "RWB" "" 10 50000 10 500 .maker) "" 500 400 isTf,
  tfTp (numA "RBA" "" 10 50000 10 1200 .maker) "" 1200 800 isTf,
  tfTp (numA "LOSSF" "%" 10000 100000 1000 70000 .maker) "%" 70000 40000 isTf,
  numA "WARNC" "C" 40000 200000 1000 110000 .maker true, numA "THROTC" "C" 40000 200000 1000 125000 .maker true,
  numA "SHUTC" "C" 40000 200000 1000 140000 .maker true,
  numA "WARNH" "C" 1000 60000 1000 5000 .maker true, numA "THROTH" "C" 1000 60000 1000 10000 .maker true,
  numA "SHUTH" "C" 1000 60000 1000 30000 .maker true,
  objA "AMBIENT" [runX 0 95] ["MODULE", "FIXED"] "MODULE" .installer,
  numA "AMBFIX" "C" (-40000) 100000 1000 25000 .installer,
  numA "BETA" "" 3000000 4500000 1000 3435000 .installer,
  numA "AMBHOT" "C" (-40000) 100000 1000 70000 .maker true,
  objA "THERMO" [runU] ["NONE"] "NONE" .maker]
  ++ (if isTf then [] else [numA "THRDUTY" "%" 10000 100000 1000 50000 .maker])
  ++ [roA "TW", roA "TB", roA "TA", roA "LEVEL", roA "CAUSE"]

/-- Table THM-8, the module model. -/
def tmodAttrs : List AttrDef := [
  numA "MWARNC" "C" 60000 125000 1000 90000 .maker true, numA "MTHROTC" "C" 60000 125000 1000 100000 .maker true,
  numA "MSHUTC" "C" 60000 125000 1000 110000 .maker true,
  numA "MWARNH" "C" 1000 60000 1000 5000 .maker true, numA "MTHROTH" "C" 1000 60000 1000 5000 .maker true,
  numA "MSHUTH" "C" 1000 60000 1000 15000 .maker true,
  numA "COOLMAX" "" 1000 10000 1000 3000 .maker,
  roA "LEVEL", roA "CAUSE", roA "TS", roA "TH"]

def thmAttrs : List AttrDef := [objA "PANELSRC" [runX 0 95] ["MODULE"] "MODULE" .installer, roA "WINDOWS", roA "START"]

/-- A percentage of a loop, whole steps. -/
def pctA (name : String) (lo hi d : Int) : AttrDef := numA name "%" lo hi 1000 d .installer

/-- The names of a loop's inputs. -/
def loopInputs : List String := ["PV", "SOLAR", "WIND", "OUTDOOR", "AQ"]

/-- The attributes that say how the input `n` is converted (R453). -/
def inputConv (n : String) : List AttrDef := [
  { name := n ++ ".LO", ty := .src, role := some .installer, dflt := fun _ => [.num 0] },
  { name := n ++ ".HI", ty := .src, role := some .installer, dflt := fun _ => [.num 10000000000] },
  numA (n ++ ".BETA") "" 3000000 4500000 1000 3435000 .installer,
  numA (n ++ ".K") "" (-1000000000) 1000000000 1 1000 .installer]

/-- Table CLM-5. -/
def loopAttrs : List AttrDef := [
  enumA "KIND" ["OFF", "PI", "TWOPOS", "SEQ", "SHADE", "VENT", "CURTAIN"] "OFF" .installer,
  objA "ZONE" [⟨.zone, 0, 23⟩] ["NONE"] "NONE" .installer,
  { name := "PERIOD", ty := .num [] "ms" 100000 60000000 100000, role := some .installer },
  numA "DEADLINE" "ms" 1000 1000000 1000 10000 .installer]
  ++ loopInputs.map (fun n => objA n [runX 0 175] ["ZONE", "NONE"] "NONE" .installer)
  ++ [objA "DOOR" [runD, runX 0 95] ["NONE"] "NONE" .installer]
  ++ loopInputs.flatMap inputConv
  ++ [enumA "ACTION" ["HEAT", "COOL"] "HEAT" .installer,
  { name := "SP", ty := .src, role := some .installer, dflt := fun _ => wv "ZONE" },
  objsA "OUT" [runD, runU] 8 .installer, objsA "OUT2" [runD, runU] 8 .installer, objsA "FANV" [runD, runU] 8 .installer,
  pctA "OUTLO" 0 100000 0, pctA "OUTHI" 0 100000 100000, pctA "MINSTEP" 0 20000 2000,
  numA "KP" "" 100 1000000 100 10000 .installer, numNA "TI" ["off"] "s" 1000 7200000 1000 600000 .installer,
  numA "KPC" "" 100 1000000 100 10000 .installer, numNA "TIC" ["off"] "s" 1000 7200000 1000 600000 .installer,
  numA "DIFF" "" 100 10000 100 1000 .installer,
  numA "MINON" "s" 0 3600000 1000 120000 .installer, numA "MINOFF" "s" 0 3600000 1000 120000 .installer,
  enumA "STALEACT" ["HOLD", "SAFE", "SUBST"] "HOLD" .installer, pctA "SAFEOUT" 0 100000 0,
  numA "EMPTYMAX" "" 1000 100000 1000 3000 .installer,
  numA "AQLO" "ppm" 0 5000000 1000 800000 .installer, numA "AQHI" "ppm" 0 5000000 1000 1400000 .installer,
  pctA "FCPOS" 0 100000 100000, numA "FCBAND" "C" 0 5000 100 1000 .installer,
  numA "FCDELTA" "C" 1000 10000 100 3000 .installer,
  pctA "MAXOPEN" 0 100000 100000, numA "COLDLIM" "C" (-20000) 20000 100 5000 .installer, pctA "COLDMAX" 0 100000 20000,
  pctA "FANLO" 0 100000 40000, pctA "FANHI" 0 100000 100000,
  numA "OUTCOLD" "C" (-30000) 25000 100 (-10000) .installer, numA "OUTMILD" "C" (-30000) 25000 100 10000 .installer,
  numA "RUNON" "s" 0 600000 1000 20000 .installer,
  numA "HEATSP" "C" 5000 30000 100 16000 .installer, numA "HEATDIFF" "C" 200 5000 100 1000 .installer,
  pctA "FFHEAT" 0 50000 0,
  numA "WINDRET" "m/s" 1000 40000 100 8000 .installer, numA "WINDDLY" "s" 60000 3600000 1000 600000 .installer,
  numA "DARK" "lx" 10000 2000000 1000 200000 .installer, numA "DARKDLY" "s" 0 3600000 1000 600000 .installer,
  numA "SUNON" "klx" 1000 100000 100 25000 .installer, numA "SUNOFF" "klx" 1000 100000 100 15000 .installer,
  numA "SUNDLY" "s" 0 3600000 1000 120000 .installer, numA "SUNOFFDLY" "s" 0 3600000 1000 900000 .installer,
  numA "GLAREON" "klx" 1000 150000 100 50000 .installer,
  pctA "SUNPOS" 0 100000 100000, pctA "GLAREPOS" 0 100000 100000, pctA "NIGHTPOS" 0 100000 100000,
  pctA "NCPOS" 0 100000 0,
  numA "SUNTILT" "deg" 0 90000 1000 45000 .installer, numA "GLARETILT" "deg" 0 90000 1000 60000 .installer,
  flagA "NCOOL" "off" .installer, numA "NCBAND" "C" 0 5000 100 1000 .installer,
  numA "NCDELTA" "C" 0 5000 100 3000 .installer, numA "SUNBAND" "C" 0 5000 100 500 .installer,
  numWA "IDLEPOS" ["NONE"] "%" 0 100000 1000 "NONE" .installer,
  roA "STATE", roA "OUTV", roA "SITUATION", roA "LATE", roA "EMPTY"]

/-- A setpoint of Table CLM-3. -/
def spA (name : String) (d : Int) : AttrDef := numA name "C" 0 40000 100 d .installer

/-- Table CLM-6. -/
def zoneAttrs : List AttrDef := [
  objA "TEMP" [runX 0 95] ["NONE"] "NONE" .installer,
  numA "TEMP.BETA" "" 3000000 4500000 1000 3435000 .installer,
  enumA "MODE" ["AUTO", "COMFORT", "ECONOMY", "PROTECT", "OFF"] "AUTO" .installer,
  objA "SCHED" [⟨.sched, 0, 15⟩] ["NONE"] "NONE" .installer,
  enumA "NOTIMEMODE" ["COMFORT", "ECONOMY", "PROTECT", "OFF"] "ECONOMY" .installer,
  spA "CHEAT" 21000, spA "CCOOL" 24000, spA "EHEAT" 18000, spA "ECOOL" 28000, spA "PHEAT" 7000, spA "PCOOL" 35000,
  numA "SHIFT" "C" (-3000) 3000 100 0 .operator,
  volatileA (enumA "OVERRIDE" ["COMFORT", "ECONOMY", "NONE"] "NONE" .operator),
  numA "OVRT" "min" 10000 1440000 1000 120000 .installer,
  enumA "OVREND" ["NEXT", "TIMER"] "NEXT" .installer,
  objsA "PRES" [runX 0 95] 4 .installer,
  enumA "PRESACT" ["NONE", "BOOST", "SAVE", "BOTH"] "BOTH" .installer,
  numA "OCCHOLD" "min" 1000 240000 1000 15000 .installer,
  roA "EFFMODE", roA "CAUSE", roA "OCC", roA "TEMPNOW", roA "SPH", roA "SPC"]

/-- The day programs of a schedule, in the order of Table CLM-7. -/
def dayNames : List String := ["MON", "TUE", "WED", "THU", "FRI", "SAT", "SUN", "SP1", "SP2"]

def exNames : List String := (List.range 16).map fun n => "EX" ++ padStr 2 n

/-- Table CLM-7. -/
def schedAttrs : List AttrDef := [
  enumA "KIND" ["MODE", "POS"] "MODE" .installer, objsA "DRIVES" [runD] 32 .installer]
  ++ dayNames.map (fun n => { name := n, ty := .tods, role := some .operator, dflt := fun _ => wv "NONE" })
  ++ dayNames.map (fun n => { name := n ++ "V", ty := .svals, role := some .operator, dflt := fun _ => wv "NONE" })
  ++ exNames.map (fun n => { name := n, ty := .dates, role := some .operator, dflt := fun _ => wv "NONE" })
  ++ exNames.map (fun n => enumA (n ++ "D") (dayNames ++ ["NONE"]) "NONE" .operator)
  ++ [numWA "CATCHUP" ["off"] "min" 1000 240000 1000 "off" .installer, roA "VALUE", roA "NEXT", roA "SUSPENDED"]

/-- Table BUS-10. -/
def busAttrs : List AttrDef := [
  flagA "ENABLE" "on" .maker,
  numA "NBR" "kbps" 125000 1000000 1 250000 .maker, numA "NSP" "%" 50000 90000 1 87500 .maker,
  numWA "NSJW" ["MAX"] "" 1000 128000 1000 "MAX" .maker,
  flagA "FD" "on" .maker, flagA "BRS" "off" .maker,
  numA "DBR" "Mbps" 125 4000 1 2000 .maker, numA "DSP" "%" 50000 90000 1 75000 .maker,
  numWA "DSJW" ["MAX"] "" 1000 128000 1000 "MAX" .maker,
  flagA "LISTEN" "off" .installer,
  enumA "BOFF" ["AUTO", "MANUAL"] "AUTO" .maker, numA "BOFFDLY" "s" 0 60000 1000 1000 .maker,
  enumA "QAOVF" ["DROPNEW", "DROPOLD"] "DROPNEW" .maker, enumA "QBOVF" ["DROPNEW", "DROPOLD"] "DROPOLD" .maker,
  numWA "NODE" ["NONE"] "" 1000 62000 1000 "NONE" .installer,
  numNA "HBINT" ["off"] "ms" 100000 60000000 100000 1000000 .installer,
  flagA "TUNNEL" "on" .installer, numA "TUNIDLE" "s" 10000 3600000 1000 60000 .installer,
  { flagA "SEAL" "off" .maker with lock := true },
  { name := "SEALKEY", ty := .codes 4 4294967295, role := some .maker, lock := true, dflt := fun _ => wv "UNSET" },
  objsA "SEALDRIVES" [runD] 32 .installer,
  enumA "WAKEMODE" ["OFF", "PATTERN", "FRAME"] "PATTERN" .installer,
  { name := "WAKEID", ty := .codes 1 0x1FFFFFFF, role := some .installer, dflt := fun _ => [.code 0] },
  { name := "WAKEMASK", ty := .codes 1 0x1FFFFFFF, role := some .installer, dflt := fun _ => [.code 0x1FFFFFFF] },
  numA "WAKEDLC" "" 0 8000 1000 0 .installer,
  { name := "WAKEDATA", ty := .codes 2 4294967295, role := some .installer, dflt := fun _ => [.code 0, .code 0] },
  roA "STATE", roA "TEC", roA "REC", roA "TIMING", roA "SESSIONS", roA "COUNTS"]

/-- Table BUS-11, filters. -/
def filterAttrs : List AttrDef := [
  { name := "MATCH", ty := .codes 1 0x1FFFFFFF, role := some .maker, dflt := fun _ => [.code 0] },
  { name := "MASK", ty := .codes 1 0x1FFFFFFF, role := some .maker, dflt := fun _ => [.code 0] },
  enumA "FORMAT" ["EXT", "BASE"] "EXT" .maker, enumA "DEST" ["OFF", "A", "B", "REJECT"] "OFF" .maker,
  flagA "NOTIFY" "off" .installer, roA "HITS"]

/-- Table BUS-11, points. -/
def pointAttrs : List AttrDef := [
  objA "SOURCE" [runX 0 187, runD, ⟨.zone, 0, 23⟩] ["NONE"] "NONE" .installer,
  withDflt (numA "INDEX" "" 0 255000 1000 0 .installer) (fun n => [.num (n * 1000000000)]),
  numA "DELTA" "" 0 65535000 1000 1000 .installer,
  numA "MININT" "ms" 10000 60000000 1000 1000000 .installer,
  numNA "MAXINT" ["off"] "ms" 1000000 3600000000 1000 60000000 .installer,
  numA "PRIO" "" 2000 6000 1000 4000 .installer]

/-- Table TIM-9. -/
def timeAttrs : List AttrDef := [
  enumA "ROLE" ["OFF", "SLAVE", "MASTER", "AUTO"] "AUTO" .installer,
  numA "PRIO" "" 0 255000 1000 128000 .installer,
  numA "REFINT" "ms" 250000 10000000 250000 1000000 .installer,
  numA "PROPDLY" "us" 0 5000 10 150 .installer,
  numA "SLEWMAX" "ppm" 10000 200000 1000 200000 .installer,
  numA "HOLDLIM" "h" 1000 720000 1000 24000 .installer,
  numA "DRIFT" "ppm" 100 100000 100 2000 .maker, numA "RTCDRIFT" "ppm" 5000 200000 1000 30000 .maker,
  { name := "TZ", ty := .text 64, role := some .installer, dflt := fun _ => [.str "UTC0"] },
  flagA "PULSE" "on" .maker, enumA "PULSEPOL" ["HIGH", "LOW"] "HIGH" .maker,
  roA "UTC", roA "CIVIL", roA "QUALITY", roA "UNC", roA "SOURCE", roA "LOCK", roA "MASTER", roA "OFFSET", roA "FREQ",
  roA "XTC"]

/-- Table LAN-5, the panel. -/
def lanAttrs : List AttrDef := [
  numA "FRAME" "ms" 20000 50000 1000 20000 .maker, numA "SETTLE" "" 0 2000 1000 2000 .maker,
  numA "FULLPASS" "" 1000 3000 1000 1000 .maker,
  numA "VCOM0" "V" (-2000) 2000 10 0 .maker, numA "VCOM1" "V" (-2000) 2000 10 0 .maker,
  { name := "BANDS", ty := .nums 9 "C" 0 50000 1000, role := some .maker,
    dflt := fun _ => [0, 5, 10, 15, 20, 25, 30, 40, 50].map fun t => Item.num (t * 1000000000) },
  { name := "WAVEID", ty := .text 16, role := some .maker, dflt := fun _ => [.str "ROM-GENERIC"] },
  roA "STATE", roA "BAND", roA "UNKNOWN", roA "QUEUED", roA "COUNTS"]

def segAttrs : List AttrDef := [roA "LEVEL", roA "TARGET", roA "BLINK"]

/-- The freeze triggers 2 to 8 (R628). -/
def freezeTriggers : List String := ["OBSTACLE", "TRIP", "HOT", "LINE-LOST", "SAG-STOP", "PROT", "TAKEOVER"]

/-- Table JRN-9. -/
def jrnAttrs : List AttrDef := [
  numA "ANCHORINT" "s" 1000 60000 1000 5000 .installer,
  wordsA "FREEZEON" freezeTriggers ["NONE"] [.word "OBSTACLE", .word "TRIP", .word "TAKEOVER"] .installer,
  numA "POSTT" "s" 0 10000 100 2000 .installer,
  enumA "AUTOFULL" ["OLDEST", "SKIP"] "OLDEST" .installer,
  { name := "SLOTFREE", ty := .num [] "" 0 3000 1000, role := some .installer, persists := false },
  roA "STATE", roA "RATE", roA "DEPTH", roA "SLOT0", roA "SLOT1", roA "SLOT2", roA "SLOT3", roA "GAPS", roA "LOST",
  roA "REPLAY"]

/-- Table BST-13. -/
def bstAttrs : List AttrDef := [roA "RESULT", roA "FLAGS", roA "LASTRUN", roA "FAULTS", roA "SOFTREP", roA "FUSES",
  roA "ARMED", roA "HELD", roA "COMBO"]

/-- Table ELC-11. -/
def moduleAttrs : List AttrDef := [roA "GRADE", roA "SERIAL", roA "PINT", roA "IDER", roA "PERFEED"]

/-- The attributes of a kind of object, in table order. -/
def attrsOf : ObjKind → List AttrDef
  | .xing => xingAttrs | .pwr => pwrAttrs | .leave => leaveAttrs | .session => sessionAttrs | .macroObj => macroAttrs
  | .sec => secAttrs | .chan => chanAttrs | .fi => fiAttrs | .ic => icAttrs | .fc => fcAttrs | .lc => lcAttrs
  | .conv => convAttrs | .cell => cellAttrs | .counter => counterAttrs | .drive => driveAttrs | .prot => protAttrs
  | .tf => thermAttrs true | .tp => thermAttrs false | .tmod => tmodAttrs | .thm => thmAttrs | .loop => loopAttrs
  | .zone => zoneAttrs | .sched => schedAttrs | .bus => busAttrs | .filter => filterAttrs | .point => pointAttrs
  | .time => timeAttrs | .lan => lanAttrs | .seg => segAttrs | .jrn => jrnAttrs | .bst => bstAttrs
  | .moduleObj => moduleAttrs
  | .onObj => [] | .macrosObj => [] | .li => [] | .feed => [] | .port => []

/-- The attribute of a name, in full and in upper case.  A waveform of Table LAN-5, WV*o*.*n*.*b*, is one of the panel's. -/
def attrDef (k : ObjKind) (name : String) : Option AttrDef :=
  match (attrsOf k).find? (fun a => a.name = name) with
  | some a => some a
  | none =>
    match k, name.toList with
    | .lan, ['W', 'V', o, '.', n, '.', b] =>
      if ['0', '1', '2', '3', 'U'].contains o && ['0', '1', '2', '3'].contains n && (isDigit b && b.toNat < 56) then
        some { name := name, ty := .codes 2 4294967295, role := some .maker }
      else none
    | _, _ => none

/-- The default of an attribute of an object. -/
def defaultVal (o : Obj) (name : String) : Val :=
  match attrDef o.kind name with
  | some a => a.dflt o.n
  | none => []

/-! ### Names of objects (Table SCO-9) -/

/-- The names that stand alone. -/
def soleNames : List (String × Obj) := [
  ("PWR", ⟨.pwr, 0⟩), ("LEAVE", ⟨.leave, 0⟩), ("LINK0", ⟨.session, 0⟩), ("LINK1", ⟨.session, 1⟩),
  ("BUS1", ⟨.session, 2⟩), ("BUS2", ⟨.session, 3⟩), ("BUS3", ⟨.session, 4⟩), ("BUS4", ⟨.session, 5⟩),
  ("MACRO", ⟨.session, 6⟩), ("SEC", ⟨.sec, 0⟩), ("IC", ⟨.ic, 0⟩), ("FC", ⟨.fc, 0⟩), ("LC", ⟨.lc, 0⟩),
  ("CONVERTERS", ⟨.conv, 0⟩), ("WIND", ⟨.prot, 0⟩), ("RAIN", ⟨.prot, 1⟩), ("FROST", ⟨.prot, 2⟩), ("FIRE", ⟨.prot, 3⟩),
  ("TMOD", ⟨.tmod, 0⟩), ("THM", ⟨.thm, 0⟩), ("BUS", ⟨.bus, 0⟩), ("TIME", ⟨.time, 0⟩), ("LAN", ⟨.lan, 0⟩),
  ("BORDER", ⟨.seg, 128⟩), ("JRN", ⟨.jrn, 0⟩), ("BST", ⟨.bst, 0⟩), ("MODULE", ⟨.moduleObj, 0⟩), ("ON", ⟨.onObj, 0⟩),
  ("LV", ⟨.li, 8⟩)]

/-- The kinds whose objects carry a number: their first letters, the digits and how many there are. -/
def numberedNames : List (String × ObjKind × Nat × Nat) := [
  ("X", .xing, 3, 240), ("U", .chan, 2, 96), ("FI", .fi, 2, 32), ("K", .cell, 3, 160), ("CT", .counter, 0, 16),
  ("D", .drive, 2, 32), ("TF", .tf, 1, 8), ("TP", .tp, 1, 4), ("L", .loop, 2, 96), ("Z", .zone, 2, 24),
  ("S", .sched, 2, 16), ("M", .macroObj, 2, 64), ("BF", .filter, 2, 48), ("BP", .point, 2, 32), ("E", .seg, 3, 128),
  ("LI", .li, 1, 8), ("LF", .feed, 1, 8), ("DP", .port, 1, 4)]

/-- The name of an object. -/
def objName (o : Obj) : String :=
  match soleNames.find? (fun p => p.2 = o) with
  | some p => p.1
  | none =>
    match numberedNames.find? (fun p => p.2.1 = o.kind) with
    | some (p, _, w, _) => p ++ padStr w o.n
    | none => "-"

/-- The object of a name, without regard to case (R126). -/
def objOf (name : String) : Option Obj :=
  let u := upStr name
  match soleNames.find? (fun p => p.1 = u) with
  | some p => some p.2
  | none =>
    let (w, d) := spanChars isLetter u.toList
    match numberedNames.find? (fun p => p.1 = String.ofList w), natOf d with
    | some (_, k, digits, count), some n =>
      if n < count && (if digits = 0 then d.length = (if n < 10 then 1 else 2) else d.length = digits) then some ⟨k, n⟩
      else none
    | _, _ => none

/-- The sessions as objects. -/
def sesIdx : Sess → Nat
  | .link0 => 0 | .link1 => 1 | .bus1 => 2 | .bus2 => 3 | .bus3 => 4 | .bus4 => 5 | .mac => 6

def sesOf (n : Nat) : Sess :=
  if n = 0 then .link0 else if n = 1 then .link1 else if n = 2 then .bus1 else if n = 3 then .bus2
  else if n = 4 then .bus3 else if n = 5 then .bus4 else .mac

def sesName (s : Sess) : String := objName ⟨.session, sesIdx s⟩

end Sys2Proof.Machine
end

