-- ==== Sys2Proof/Machine/Crypto.lean ====
section
/-!
DEFINITION. The cryptographic functions that the spec names: SHA-256 and HMAC-SHA-256 (R242, R251, R259, R625) and
AES-128-CMAC (R527).  Messages are lists of bytes.
-/
namespace Sys2Proof.Machine
open Sys2Proof

/-! ### SHA-256 -/

/-- The eight words packed into 256 bits, the leftmost first. -/
def unpack256 (v : BitVec 256) : List Word :=
  (List.range 8).map fun i => v.extractLsb' (224 - 32 * i) 32

/-- The round constants, eight packed to a row. -/
def shaConstRows : List (BitVec 256) := [
  0x428a2f9871374491b5c0fbcfe9b5dba53956c25b59f111f1923f82a4ab1c5ed5,
  0xd807aa9812835b01243185be550c7dc372be5d7480deb1fe9bdc06a7c19bf174,
  0xe49b69c1efbe47860fc19dc6240ca1cc2de92c6f4a7484aa5cb0a9dc76f988da,
  0x983e5152a831c66db00327c8bf597fc7c6e00bf3d5a7914706ca635114292967,
  0x27b70a852e1b21384d2c6dfc53380d13650a7354766a0abb81c2c92e92722c85,
  0xa2bfe8a1a81a664bc24b8b70c76c51a3d192e819d6990624f40e3585106aa070,
  0x19a4c1161e376c082748774c34b0bcb5391c0cb34ed8aa4a5b9cca4f682e6ff3,
  0x748f82ee78a5636f84c878148cc7020890befffaa4506cebbef9a3f7c67178f2]

def shaConsts : List Word := shaConstRows.flatMap unpack256

/-- The chaining value before the first block. -/
def shaStart : BitVec 256 :=
  0x6a09e667bb67ae853c6ef372a54ff53a510e527f9b05688c1f83d9ab5be0cd19

def rotr (x : Word) (n : Nat) : Word := x.rotateRight n

/-- `x` turned right by each of two counts and by a third, or shifted by it, the three combined. -/
def turn3 (x : Word) (p q r : Nat) : Word := rotr x p ^^^ rotr x q ^^^ rotr x r
def turnShift (x : Word) (p q r : Nat) : Word := rotr x p ^^^ rotr x q ^^^ (x >>> r)

/-- The word schedule seen as a window of sixteen words, oldest first: it slides by one word a round. -/
def schedNext (win : List Word) : List Word :=
  match win with
  | oldest :: rest =>
    rest ++ [oldest + turnShift (rest.getD 0 0) 7 18 3 + rest.getD 8 0 + turnShift (rest.getD 13 0) 17 19 10]
  | [] => []

/-- One round on the eight working words, of which the first and the fifth are made anew and the rest move down. -/
def shaTurn (k m : Word) : List Word → List Word
  | [p, q, r, d, x, y, z, u] =>
    let feed := u + turn3 x 6 11 25 + (z ^^^ (x &&& (y ^^^ z))) + k + m
    [feed + turn3 p 2 13 22 + ((p &&& (q ||| r)) ||| (q &&& r)), p, q, r, d + feed, x, y, z]
  | l => l

/-- The rounds of one block: a constant each, the window of the schedule beside it. -/
def shaTurns : List Word → List Word → List Word → List Word
  | [], _, v => v
  | k :: ks, win, v => shaTurns ks (schedNext win) (shaTurn k (win.getD 0 0) v)

/-- One block of sixteen words, in order, over the chaining words. -/
def shaBlock (h block : List Word) : List Word :=
  List.zipWith (· + ·) h (shaTurns shaConsts block h)

/-- Words from bytes, most significant first. -/
def wordsBE : List Byte → List Word
  | a :: b :: c :: d :: l => (a ++ b ++ c ++ d) :: wordsBE l
  | _ => []

def shaBlocks : Nat → List Word → List Word → List Word
  | 0, _, h => h
  | n + 1, ws, h => shaBlocks n (ws.drop 16) (shaBlock h (ws.take 16))

/-- `n` bytes of a number, most significant first. -/
def bytesBE : Nat → Nat → List Byte
  | 0, _ => []
  | n + 1, v => BitVec.ofNat 8 (v / 256 ^ n) :: bytesBE n v

/-- The number of bytes given most significant first. -/
def natBE (l : List Byte) : Nat := l.foldl (fun acc b => acc * 256 + b.toNat) 0

def shaPad (m : List Byte) : List Byte :=
  m ++ [0x80#8] ++ List.replicate ((119 - m.length % 64) % 64) 0#8 ++ bytesBE 8 (8 * m.length)

/-- SHA-256. -/
def sha256 (m : List Byte) : BitVec 256 :=
  let p := shaPad m
  let h := shaBlocks (p.length / 64) (wordsBE p) (unpack256 shaStart)
  BitVec.ofNat 256 (h.foldl (fun acc w => acc * 4294967296 + w.toNat) 0)

/-- HMAC-SHA-256 with a 32-byte key. -/
def hmac256 (key : BitVec 256) (m : List Byte) : BitVec 256 :=
  let k := bytesBE 32 key.toNat ++ List.replicate 32 0#8
  let inner := sha256 (k.map (· ^^^ 0x36#8) ++ m)
  sha256 (k.map (· ^^^ 0x5C#8) ++ bytesBE 32 inner.toNat)

/-! ### AES-128 and AES-CMAC -/

def aesSbox : List Nat :=
  [0x63, 0x7c, 0x77, 0x7b, 0xf2, 0x6b, 0x6f, 0xc5, 0x30, 0x1, 0x67, 0x2b, 0xfe, 0xd7, 0xab, 0x76,
  0xca, 0x82, 0xc9, 0x7d, 0xfa, 0x59, 0x47, 0xf0, 0xad, 0xd4, 0xa2, 0xaf, 0x9c, 0xa4, 0x72, 0xc0,
  0xb7, 0xfd, 0x93, 0x26, 0x36, 0x3f, 0xf7, 0xcc, 0x34, 0xa5, 0xe5, 0xf1, 0x71, 0xd8, 0x31, 0x15,
  0x4, 0xc7, 0x23, 0xc3, 0x18, 0x96, 0x5, 0x9a, 0x7, 0x12, 0x80, 0xe2, 0xeb, 0x27, 0xb2, 0x75]
  ++ [0x9, 0x83, 0x2c, 0x1a, 0x1b, 0x6e, 0x5a, 0xa0, 0x52, 0x3b, 0xd6, 0xb3, 0x29, 0xe3, 0x2f, 0x84,
  0x53, 0xd1, 0x0, 0xed, 0x20, 0xfc, 0xb1, 0x5b, 0x6a, 0xcb, 0xbe, 0x39, 0x4a, 0x4c, 0x58, 0xcf,
  0xd0, 0xef, 0xaa, 0xfb, 0x43, 0x4d, 0x33, 0x85, 0x45, 0xf9, 0x2, 0x7f, 0x50, 0x3c, 0x9f, 0xa8,
  0x51, 0xa3, 0x40, 0x8f, 0x92, 0x9d, 0x38, 0xf5, 0xbc, 0xb6, 0xda, 0x21, 0x10, 0xff, 0xf3, 0xd2]
  ++ [0xcd, 0xc, 0x13, 0xec, 0x5f, 0x97, 0x44, 0x17, 0xc4, 0xa7, 0x7e, 0x3d, 0x64, 0x5d, 0x19, 0x73,
  0x60, 0x81, 0x4f, 0xdc, 0x22, 0x2a, 0x90, 0x88, 0x46, 0xee, 0xb8, 0x14, 0xde, 0x5e, 0xb, 0xdb,
  0xe0, 0x32, 0x3a, 0xa, 0x49, 0x6, 0x24, 0x5c, 0xc2, 0xd3, 0xac, 0x62, 0x91, 0x95, 0xe4, 0x79,
  0xe7, 0xc8, 0x37, 0x6d, 0x8d, 0xd5, 0x4e, 0xa9, 0x6c, 0x56, 0xf4, 0xea, 0x65, 0x7a, 0xae, 0x8]
  ++ [0xba, 0x78, 0x25, 0x2e, 0x1c, 0xa6, 0xb4, 0xc6, 0xe8, 0xdd, 0x74, 0x1f, 0x4b, 0xbd, 0x8b, 0x8a,
  0x70, 0x3e, 0xb5, 0x66, 0x48, 0x3, 0xf6, 0xe, 0x61, 0x35, 0x57, 0xb9, 0x86, 0xc1, 0x1d, 0x9e,
  0xe1, 0xf8, 0x98, 0x11, 0x69, 0xd9, 0x8e, 0x94, 0x9b, 0x1e, 0x87, 0xe9, 0xce, 0x55, 0x28, 0xdf,
  0x8c, 0xa1, 0x89, 0xd, 0xbf, 0xe6, 0x42, 0x68, 0x41, 0x99, 0x2d, 0xf, 0xb0, 0x54, 0xbb, 0x16]

def subByte (b : Byte) : Byte := BitVec.ofNat 8 (aesSbox.getD b.toNat 0)

def xtime (b : Byte) : Byte := if b.msb then (b <<< 1) ^^^ 0x1B#8 else b <<< 1

/-- A column of the state after MixColumns. -/
def mixColumn : List Byte → List Byte
  | [a, b, c, d] =>
    [xtime a ^^^ (xtime b ^^^ b) ^^^ c ^^^ d, a ^^^ xtime b ^^^ (xtime c ^^^ c) ^^^ d,
     a ^^^ b ^^^ xtime c ^^^ (xtime d ^^^ d), (xtime a ^^^ a) ^^^ b ^^^ c ^^^ xtime d]
  | l => l

def mixColumns (s : List Byte) : List Byte :=
  mixColumn (s.take 4) ++ mixColumn ((s.drop 4).take 4) ++ mixColumn ((s.drop 8).take 4) ++ mixColumn (s.drop 12)

/-- The state, column by column, after ShiftRows. -/
def shiftRows (s : List Byte) : List Byte :=
  [0, 5, 10, 15, 4, 9, 14, 3, 8, 13, 2, 7, 12, 1, 6, 11].map fun i => s.getD i 0

def xorBytes : List Byte → List Byte → List Byte
  | a :: l, b :: m => (a ^^^ b) :: xorBytes l m
  | _, _ => []

/-- The next round key. -/
def nextKey (k : List Byte) (rcon : Byte) : List Byte :=
  let t := [subByte (k.getD 13 0) ^^^ rcon, subByte (k.getD 14 0), subByte (k.getD 15 0), subByte (k.getD 12 0)]
  let c0 := xorBytes (k.take 4) t
  let c1 := xorBytes ((k.drop 4).take 4) c0
  let c2 := xorBytes ((k.drop 8).take 4) c1
  let c3 := xorBytes (k.drop 12) c2
  c0 ++ c1 ++ c2 ++ c3

def aesRounds : Nat → List Byte → List Byte → Byte → List Byte
  | 0, s, k, rcon => xorBytes (shiftRows (s.map subByte)) (nextKey k rcon)
  | n + 1, s, k, rcon =>
    let k' := nextKey k rcon
    aesRounds n (xorBytes (mixColumns (shiftRows (s.map subByte))) k') k' (xtime rcon)

/-- AES-128 of one block of sixteen bytes. -/
def aes128 (key block : List Byte) : List Byte := aesRounds 9 (xorBytes block key) key 0x01#8

/-- Doubling in the field of CMAC. -/
def cmacDouble (b : List Byte) : List Byte :=
  let v : BitVec 128 := BitVec.ofNat 128 (natBE b)
  let d := if v.msb then (v <<< 1) ^^^ 0x87#128 else v <<< 1
  bytesBE 16 d.toNat

def cmacChain : Nat → List Byte → List Byte → List Byte → List Byte
  | 0, _, _, x => x
  | n + 1, key, m, x => cmacChain n key (m.drop 16) (aes128 key (xorBytes x (m.take 16)))

/-- AES-128-CMAC of a message. -/
def aesCmac (key m : List Byte) : List Byte :=
  let zero := List.replicate 16 0#8
  let k1 := cmacDouble (aes128 key zero)
  let k2 := cmacDouble k1
  let n := if m.length = 0 then 1 else (m.length + 15) / 16
  let last := m.drop (16 * (n - 1))
  let lastX := if last.length = 16 then xorBytes last k1
    else xorBytes (last ++ [0x80#8] ++ List.replicate (15 - last.length) 0#8) k2
  aes128 key (xorBytes (cmacChain (n - 1) key m zero) lastX)

end Sys2Proof.Machine
end

