-- ==== Sys2Proof/Machine/Ops.lean ====
section
/-!
DEFINITION. The operations that the chapters share: sparse tables, time, the configuration, sessions and what they
send, notices, the audit journal, the causes of mode transitions, requests for leave, and free values.
-/
namespace Sys2Proof.Machine
open Sys2Proof

/-! ### Sparse tables -/

/-- The entry of a number, or the default. -/
def tget {α : Type} (d : α) : Tbl α → Nat → α
  | [], _ => d
  | (k, v) :: t, n => if k = n then v else tget d t n

/-- The entry of a number set; entries stay in rising order. -/
def tset {α : Type} : Tbl α → Nat → α → Tbl α
  | [], n, v => [(n, v)]
  | (k, w) :: t, n, v =>
    if n < k then (n, v) :: (k, w) :: t else if n = k then (n, v) :: t else (k, w) :: tset t n v

/-- The entry of a number changed. -/
def tmod {α : Type} (d : α) (t : Tbl α) (n : Nat) (f : α → α) : Tbl α := tset t n (f (tget d t n))

/-- The entry of a number removed. -/
def tdel {α : Type} (t : Tbl α) (n : Nat) : Tbl α := t.filter fun p => p.1 != n

/-- A count that stops at its largest value. -/
def satInc (max n : Nat) : Nat := if n < max then n + 1 else max

/-! ### Time (R11, R18) -/

/-- Ticks of a millisecond: the length of an epoch (R18). -/
def tickMs : Nat := 8000

/-- Monotonic time. -/
def mono (s : State) : Nat := s.now - s.rel

/-- The tick at which epoch `e` begins. -/
def epochTick (s : State) (e : Nat) : Nat := s.rel + tickMs * e

/-- Whether the core die runs. -/
def coreRuns (s : State) : Bool := match s.pwr.core with | .running => true | _ => false

/-- The instant `t` comes: at once where it has passed; by advancing to it where it lies in the epoch in progress, or
while no epoch runs; otherwise it does not come before the next boundary. -/
def comesAt (s : State) (t : Nat) : Option State :=
  if t ≤ s.now then some s
  else if !coreRuns s || t < epochTick s (s.epoch + 1) then some { s with now := t }
  else none

/-- A deadline that may be off. -/
def comesAt? (s : State) (t : Option Nat) : Option State := t.bind (comesAt s)

/-- `f` at the instant `t`; nothing where the instant does not come. -/
def atTick (s : State) (t : Option Nat) (f : State → State) : State :=
  match comesAt? s t with
  | some s' => f s'
  | none => s

/-- Ticks of 24 hours. -/
def dayTicks : Nat := 24 * 3600 * 1000 * tickMs

/-- The ticks of a list that lie in the last 24 h. -/
def lastDay (s : State) (l : List Nat) : List Nat := l.filter fun t => s.now < t + dayTicks

/-! ### Free values -/

/-- The next free value. -/
def freeBits (w : Nat) (s : State) : BitVec w := Config.freeValue w s.fresh

/-- The counter of free values after one more was drawn. -/
def drawn (s : State) : State := { s with fresh := s.fresh + 1 }

/-! ### Configuration -/

def cfgFind (c : Cfg) (k : Obj × String) : Option Val :=
  match c with
  | [] => none
  | (k', v) :: l => if k' = k then some v else cfgFind l k

/-- A value set; a value equal to the default is not listed. -/
def cfgSet (c : Cfg) (k : Obj × String) (v : Val) : Cfg :=
  let c' := c.filter fun p => p.1 != k
  if v = defaultVal k.1 k.2 then c' else (k, v) :: c'

/-- The value in force. -/
def cfgVal (s : State) (o : Obj) (a : String) : Val := (cfgFind s.cfg (o, a)).getD (defaultVal o a)

/-- Whether a value is the one word. -/
def isWord (v : Val) (w : String) : Bool := v = [.word w]

def cfgIs (s : State) (o : Obj) (a w : String) : Bool := isWord (cfgVal s o a) w

/-- The word of an enumerated attribute. -/
def cfgWord (s : State) (o : Obj) (a : String) : String :=
  match cfgVal s o a with | .word w :: _ => w | _ => ""

/-- The words of a list attribute. -/
def cfgWords (s : State) (o : Obj) (a : String) : List String :=
  (cfgVal s o a).filterMap fun i => match i with | .word w => some w | _ => none

/-- A number in 10^-9 of its base unit; `none` where a word stands. -/
def cfgNano (s : State) (o : Obj) (a : String) : Option Int :=
  match cfgVal s o a with | .num v :: _ => some v | _ => none

/-- A number in units of `10^-9 · k`, 0 where a word stands. -/
def cfgInt (s : State) (o : Obj) (a : String) (k : Int) : Int := ((cfgNano s o a).getD 0) / k

/-- A dimensionless number. -/
def cfgNat (s : State) (o : Obj) (a : String) : Nat := (cfgInt s o a 1000000000).toNat

/-- A time in milliseconds; a current in mA, a voltage in mV, a power in mW. -/
def cfgMilli (s : State) (o : Obj) (a : String) : Nat := (cfgInt s o a 1000000).toNat

/-- A time in ticks. -/
def cfgTicks (s : State) (o : Obj) (a : String) : Nat := (cfgInt s o a 125).toNat

/-- The object of an attribute that names one. -/
def cfgObj (s : State) (o : Obj) (a : String) : Option Obj :=
  match cfgVal s o a with | .obj x :: _ => some x | _ => none

def cfgObjs (s : State) (o : Obj) (a : String) : List Obj :=
  (cfgVal s o a).filterMap fun i => match i with | .obj x => some x | _ => none

def cfgOn (s : State) (o : Obj) (a : String) : Bool := cfgIs s o a "on"

/-- An item as the device sends it (R126, R174, R712), in the unit and with the decimals of its attribute. -/
def itemStr (unit : String) (dec : Nat) : Item → String
  | .num v => milliStr (toMilli unit v) dec ++ unit
  | .word w => w
  | .obj o => objName o
  | .code v => codeStr v
  | .tod t => todStr t
  | .date y m d => dateStr y m d
  | .str t => quoteStr t

/-- The unit and decimals of an attribute (R174). -/
def unitDec : ATy → String × Nat
  | .num _ u _ _ st => (u, stepDecimals st.natAbs)
  | .nums _ u _ _ st => (u, stepDecimals st.natAbs)
  | .svals => ("%", 0)
  | _ => ("", 3)

/-- A value as the device sends it; an absent value reads `-`. -/
def valStr (t : ATy) (v : Val) : String :=
  match v with
  | [] => "-"
  | _ => joinStr "," (v.map (itemStr (unitDec t).1 (unitDec t).2))

def roleNum : Option Role → Nat
  | none => 0 | some .operator => 1 | some .installer => 2 | some .maker => 3

def roleName (n : Nat) : String :=
  if n = 0 then "NONE" else if n = 1 then "OPERATOR" else if n = 2 then "INSTALLER" else "MAKER"

def roleOf (n : Nat) : Option Role :=
  if n = 1 then some .operator else if n = 2 then some .installer else if n = 3 then some .maker else none

/-- The codes of SYS_MODE (Table ANA-14). -/
def modeCode : Mode → Nat
  | .off => 0 | .start => 1 | .run => 2 | .quiet => 3 | .cooldown => 4 | .safe => 5 | .bench => 6 | .replay => 7
  | .bist => 8

def modeName : Mode → String
  | .off => "OFF" | .start => "START" | .run => "RUN" | .quiet => "QUIET" | .cooldown => "COOL-DOWN" | .safe => "SAFE"
  | .bench => "BENCH" | .replay => "REPLAY" | .bist => "BIST"

/-! ### Sessions -/

/-- The sessions in the order of R177. -/
def allSess : List Sess := [.link0, .link1, .bus1, .bus2, .bus3, .bus4, .mac]

/-- The sessions that have a notice queue (R147). -/
def portSess : List Sess := [.link0, .link1, .bus1, .bus2, .bus3, .bus4]

def getSes (s : State) : Sess → Session
  | .link0 => s.vil.link0 | .link1 => s.vil.link1 | .bus1 => s.vil.bus1 | .bus2 => s.vil.bus2 | .bus3 => s.vil.bus3
  | .bus4 => s.vil.bus4 | .mac => s.vil.mac

def setSes (s : State) (k : Sess) (x : Session) : State :=
  match k with
  | .link0 => { s with vil := { s.vil with link0 := x } }
  | .link1 => { s with vil := { s.vil with link1 := x } }
  | .bus1 => { s with vil := { s.vil with bus1 := x } }
  | .bus2 => { s with vil := { s.vil with bus2 := x } }
  | .bus3 => { s with vil := { s.vil with bus3 := x } }
  | .bus4 => { s with vil := { s.vil with bus4 := x } }
  | .mac => { s with vil := { s.vil with mac := x } }

def modSes (s : State) (k : Sess) (f : Session → Session) : State := setSes s k (f (getSes s k))

def isBus : Sess → Bool
  | .bus1 => true | .bus2 => true | .bus3 => true | .bus4 => true | _ => false

def sesObj (k : Sess) : Obj := ⟨.session, sesIdx k⟩

/-- LINK1 whose rate is not known under AUTO transmits nothing and queues no notice (R120). -/
def mute (s : State) (k : Sess) : Bool := k = .link1 && s.vil.rate1 = 0

/-- Whether a session echoes (R134). -/
def echoOn (s : State) (k : Sess) : Bool := (getSes s k).mode = .typed && cfgOn s (sesObj k) "ECHO"

/-- A character as it is echoed: a tab as one space (R134). -/
def echoCode (c : Char) : Nat := if c.toNat = 9 then 32 else c.toNat

/-- The echoed part of the line being received. -/
def echoed (x : Session) : List Nat := (x.rx.zip x.shown).filterMap fun p => if p.2 then some (echoCode p.1) else none

/-- The echo that is due after a line has been sent, and what comes before that line (R134): the echo that was due, and
CR LF where a partial line has been echoed. -/
def echoParts (s : State) (k : Sess) : List Nat × List Nat :=
  let x := getSes s k
  let part := if echoOn s k then echoed x else []
  (x.echo ++ (if part.isEmpty then [] else [13, 10]), part)

/-- A line placed among those that wait, after the accepts and before the final lines of its epoch where it is an accept
line or a refusal (R151). -/
def outInsert (l : OutLine) : List OutLine → List OutLine
  | [] => [l]
  | a :: t => if a.epoch = l.epoch && l.cls < a.cls then l :: a :: t else a :: outInsert l t

/-- A line in a form of its own; nothing where the session is closed, mute or MACRO.  `again`: the partial line that it
parts is echoed again after it. -/
def sendOut (s : State) (k : Sess) (tag : Option Nat) (framed : Bool) (cls : Nat) (body : String) (again : Bool) : State :=
  let x := getSes s k
  if !x.isOpen || mute s k || k = .mac then s
  else
    let p := echoParts s k
    setSes s k { x with out := outInsert { epoch := s.epoch, cls := cls, tag := tag, framed := framed, body := body, lead := p.1 } x.out, echo := if again then p.2 else [] }

/-- A line for a session (R138, R151). -/
def sendLine (s : State) (k : Sess) (tag : Option Nat) (framed : Bool) (cls : Nat) (body : String) : State :=
  sendOut s k tag (framed || (getSes s k).mode = .framed) cls body true

/-- A line as it stands on the wire, without its CR LF (Table VIL-4, R138). -/
def lineText (l : OutLine) : String :=
  let t := match l.tag with | some n => natStr n ++ " " ++ l.body | none => l.body
  if l.framed then frameStr t else t

/-! ### Notices (R146 to R149) -/

/-- The class of a notice: the first word of its name (R146). -/
def noticeClass (name : String) : String := String.ofList (spanChars (· != '.') name.toList).1

/-- Whether a session's NOTIFY list holds a class. -/
def notifyHas (s : State) (k : Sess) (c : String) : Bool :=
  let l := cfgWords s (sesObj k) "NOTIFY"
  l.contains "ALL" || l.contains c

/-- The rate of network time in 2^-32 (R546, R564). -/
def timeRate (s : State) : Int := 4294967296 + s.tim.freq + s.tim.hold + s.tim.slew

/-- Network time at a tick, in 12.5 ns since 2000-01-01 (R546). -/
def netAt (s : State) (t : Nat) : Int := (s.tim.base + 10 * ((t : Int) - s.tim.refTick) * timeRate s) / 4294967296

/-- Network time now. -/
def timeNow (s : State) : Int := netAt s s.now

/-- The lowest role to which a verb is not denied (R237). -/
def denyNeed (s : State) (v : String) : Nat :=
  if (cfgWords s ⟨.sec, 0⟩ "DENYINST").contains v then 3
  else if (cfgWords s ⟨.sec, 0⟩ "DENYOP").contains v then 2 else 0

/-- What a session's role lets it hear: conditions 2 and 3 of R147.  A session reads an object by GET, which asks for a role
that is not denied it. -/
def mayHear (s : State) (k : Sess) (name : String) (obj : Option Obj) : Bool :=
  let role := (getSes s k).role
  (obj = none || decide (max 1 (denyNeed s "GET") ≤ roleNum role))
    && (role != none || ["SYS", "PWR", "VERSION", "SES"].contains (noticeClass name))

/-- The conditions of R147. -/
def noticeGoes (s : State) (k : Sess) (name : String) (obj : Option Obj) (every : Bool) : Bool :=
  (getSes s k).isOpen && !mute s k && (every || notifyHas s k (noticeClass name)) && mayHear s k name obj

/-- The macros that a notice triggers (R216), at the next boundary. -/
def triggersOf (s : State) (name : String) (obj : Option Obj) : List Trigger :=
  (s.vil.binds.filter fun b => b.event = name && (b.obj = none || b.obj = obj.map objName)).map fun b =>
    ⟨b.m, s.epoch + 1⟩

/-- A notice takes its number and an entry of the queue (R149). -/
def noticeQueue (s : State) (k : Sess) (name : String) (obj : Option Obj) (args : String) : State :=
  let x := getSes s k
  let p := echoParts s k
  setSes s k { x with nq := x.nq ++ [{ seq := x.seq.toNat, name := name, obj := obj, args := args, epoch := s.epoch, lead := p.1 }], seq := x.seq + 1, echo := p.2 }

/-- SYS.NOTICES-LOST, where notices have been discarded and an entry is free (R148). -/
def lostTold (s : State) (k : Sess) : State :=
  let x := getSes s k
  if 0 < x.nlost && x.nq.length < 64 then
    let s := noticeQueue (setSes s k { x with nlost := 0 }) k "SYS.NOTICES-LOST" none ("COUNT=" ++ natStr x.nlost)
    { s with vil := { s.vil with triggers := s.vil.triggers ++ triggersOf s "SYS.NOTICES-LOST" none } }
  else s

/-- A notice on a session's queue: the last entry is kept for SYS.NOTICES-LOST, and a notice that finds no other is
discarded and counted (R148). -/
def noticePush (s : State) (k : Sess) (name : String) (obj : Option Obj) (args : String) : State :=
  let s := lostTold s k
  if (getSes s k).nq.length < 63 then noticeQueue s k name obj args
  else modSes s k fun x => { x with nlost := x.nlost + 1, lostNotices := x.lostNotices + 1 }

def noticeTo (name : String) (obj : Option Obj) (args : String) (every : Bool) (s : State) (k : Sess) : State :=
  if noticeGoes s k name obj every then noticePush s k name obj args else s

/-- The catalogue of notices (Table BST-9): the names without severity, and those of severity ALARM. -/
def noticeNames : List String := ["START", "SYS.MODE", "SYS.NOTICES-LOST", "SYS.SAFE", "SYS.WORKER-RESTART",
  "PWR.MAINS-BACK", "PWR.NOMINAL", "PWR.WAKE", "PWR.CELL-ABSENT", "PWR.CELL-LOW", "PWR.CELL-EXHAUSTED",
  "PWR.MAINS-ABSENT", "PWR.DOWN", "PWR.AUX-TRIP", "PWR.TIME-LOST", "LEAVE.CLEAR", "LEAVE.REFUSED", "LEAVE.TIMEOUT",
  "LEAVE.OVERDRAWN", "XING.OK", "XING.RANGE", "XING.STALE", "XING.SILENT", "SES.ROLE-END", "SES.MACRO-MISSED",
  "SEC.LOCKED", "SEC.KEY-UNSET", "SEC.AUTH-FAIL", "SEC.AUDIT-NEAR", "SEC.AUDIT-WRAP", "SEC.AUDIT-HELD",
  "SEC.AUTH-BLOCKED", "SEC.AUDIT-FULL", "SEC.VIOLATION", "VERSION.PATCH-HELD", "VERSION.LINE-UNTESTED",
  "VERSION.JOURNAL-UNTESTED", "CNV.CAL-DONE", "CNV.REF-OK", "CNV.SENSOR-OK", "CNV.CAL-DRIFT", "CNV.BROKEN",
  "CNV.OD-TRIP", "CNV.GROUP-TRIP", "CNV.REF-FAULT", "CHN.FULL", "CNT.MAKEUP", "CNT.CAP-LOST", "DRV.TRIP-CLEAR",
  "DRV.LINE-BACK", "DRV.HOLD", "DRV.HOLD-END", "DRV.PROT", "DRV.OBSTACLE", "DRV.SAG-STOP", "DRV.POS-UNKNOWN",
  "DRV.ENDSTOP", "DRV.ENCODER", "DRV.TRIP", "DRV.LINE-LOST", "THM.COOLED", "THM.WINDOW", "THM.LEVEL", "THM.SENSOR",
  "THM.NO-CREDIT", "THM.STATE-DEFAULT", "THM.THERMO", "THM.COOL-DOWN", "CLM.MODE", "CLM.OVERRIDE-END", "CLM.LATE",
  "CLM.STALE", "CLM.NOTIME", "BUS.SESSION", "BUS.FRAME", "BUS.STATE", "BUS.QUEUE-OVF", "BUS.SEAL-FAIL",
  "BUS.NODE-CONFLICT", "TIME.QUALITY", "TIME.SOURCE", "TIME.MASTER", "TIME.STEP", "LAN.REFRESH", "LAN.ABORT",
  "LAN.PUMP", "JRN.FROZEN", "JRN.REPLAY-END", "JRN.HELD", "JRN.GAP", "JRN.FREEZE-SKIPPED", "JRN.LASTGASP-LOST",
  "JRN.DISABLED", "BST.REPAIRED", "BST.END", "BST.FAULT"]

def alarmNames : List String := ["SYS.SAFE", "SYS.WORKER-RESTART", "PWR.MAINS-ABSENT", "PWR.DOWN", "PWR.AUX-TRIP",
  "PWR.TIME-LOST", "SEC.AUTH-BLOCKED", "SEC.AUDIT-FULL", "SEC.VIOLATION", "VERSION.LINE-UNTESTED",
  "VERSION.JOURNAL-UNTESTED", "CNV.REF-FAULT", "DRV.TRIP", "DRV.LINE-LOST", "THM.THERMO", "THM.COOL-DOWN",
  "BUS.NODE-CONFLICT", "LAN.PUMP", "JRN.DISABLED", "BST.FAULT"]

/-- Whether a notice is an ALARM (R672): THM.LEVEL at SHUTDOWN and BUS.STATE at BUS-OFF are. -/
def isAlarm (name args : String) : Bool :=
  alarmNames.contains name
    || (name = "THM.LEVEL" && args.toList.take 14 = "LEVEL=SHUTDOWN".toList)
    || (name = "BUS.STATE" && args.toList.take 13 = "STATE=BUS-OFF".toList)

/-- The notices that go to every session (R672). -/
def toEvery (name : String) : Bool :=
  name = "SYS.WORKER-RESTART" || name = "PWR.DOWN" || noticeClass name = "VERSION"

/-- Network time in whole seconds since 2000-01-01. -/
def utcSeconds (s : State) : Nat := (timeNow s / 80000000).toNat

/-- A notice issued: queued where R147 lets it, the trigger of the macros bound to it, and the log of ALARM notices
(R675). -/
def notify (s : State) (name : String) (obj : Option Obj := none) (args : String := "") : State :=
  if !coreRuns s then s else
  let t := triggersOf s name obj
  let s := portSess.foldl (noticeTo name obj args (toEvery name)) s
  let s := if isAlarm name args then { s with tst := { s.tst with log := (⟨name, obj, args, mono s, utcSeconds s⟩ :: s.tst.log).take 64 } } else s
  { s with vil := { s.vil with triggers := s.vil.triggers ++ t } }

/-- A notice posted to WORK0, which queues it at the boundary of epoch `e` or later. -/
def notifyAt (s : State) (e : Nat) (name : String) (obj : Option Obj := none) (args : String := "") : State :=
  { s with vil := { s.vil with late := s.vil.late ++ [⟨e, name, obj, args⟩] } }

/-- A notice of another island: WORK0 queues it at the next boundary (R20). -/
def notifyLate (s : State) (name : String) (obj : Option Obj := none) (args : String := "") : State :=
  notifyAt s (s.epoch + 1) name obj args

/-- Whether WORK1 issues a notice: those of the drives and of the climate functions; KEEPER issues the others that WORK0
does not issue itself. -/
def fromWork1 (name : String) : Bool := noticeClass name = "DRV" || noticeClass name = "CLM"

/-- WORK0 takes no message: it is held in reset, or has not told of its restart yet (R17, R25). -/
def work0Waits (s : State) : Bool := s.ana.workersReset.isSome || s.ana.restarted

/-- The notices that have reached WORK0 are queued, KEEPER's before those of WORK1 (R20). -/
def lateNotices (s : State) : State :=
  if work0Waits s then s
  else
    let due := s.vil.late.filter fun l => l.epoch ≤ s.epoch
    let s := { s with vil := { s.vil with late := s.vil.late.filter fun l => s.epoch < l.epoch } }
    ((due.filter fun l => !fromWork1 l.name) ++ due.filter fun l => fromWork1 l.name).foldl (fun s l => notify s l.name l.obj l.args) s

/-- The body of a notice's line (Table VIL-4). -/
def noticeBody (n : Notice) : String :=
  "! " ++ natStr n.seq ++ " " ++ n.name ++ (match n.obj with | some o => " " ++ objName o | none => "")
    ++ (if n.args = "" then "" else " " ++ n.args)

/-- The bytes of a text with the CR LF that ends a line sent (R121). -/
def wireBytes (lead : List Nat) (t : String) : List Byte :=
  lead.map (BitVec.ofNat 8) ++ (t.toList.map fun c => BitVec.ofNat 8 c.toNat) ++ [0x0D#8, 0x0A#8]

/-- The lines that wait to be sent: the epoch and the kind of each, accepts and refusals 0, MORE and final lines 1, notices
2; notices in the form of the session's mode (R138). -/
def wireItems (s : State) (k : Sess) : List (Nat × Nat × TxSeg) :=
  let x := getSes s k
  let form (t : String) : String := if x.mode = .framed then frameStr t else t
  (x.out.map fun l => (l.epoch, l.cls, ⟨wireBytes l.lead (lineText l), none, false⟩))
    ++ (x.nq.filter fun n => !n.handed).map fun n => (n.epoch, 2, ⟨wireBytes n.lead (form (noticeBody n)), some n.seq, false⟩)

/-- A line set among the others: by epoch, then by kind, and after those like it (R151). -/
def wireInsert (i : Nat × Nat × TxSeg) : List (Nat × Nat × TxSeg) → List (Nat × Nat × TxSeg)
  | [] => [i]
  | a :: l => if a.1 < i.1 || (a.1 = i.1 && a.2.1 ≤ i.2.1) then a :: wireInsert i l else i :: a :: l

/-- The lines of a session in the order in which they are sent (R151). -/
def wireLines (s : State) (k : Sess) : List TxSeg :=
  ((wireItems s k).foldl (fun acc i => wireInsert i acc) []).map fun i => i.2.2

/-- What a UART sends, byte by byte: the lines that wait, then the echo that is due (R121, R134, R138, R151). -/
def wireOut (s : State) (k : Sess) : List Byte :=
  (wireLines s k).flatMap (·.bytes) ++ (getSes s k).echo.map (BitVec.ofNat 8)

/-- ATTN (R150). -/
def attn (s : State) : Bool :=
  s.ana.mode != .off && coreRuns s && portSess.any fun k => !(getSes s k).nq.isEmpty

/-- The level of the ATTN pad, high or low, as ATTNPOL sets it (R150). -/
def attnHigh (s : State) : Bool := attn s != cfgIs s ⟨.session, 0⟩ "ATTNPOL" "LOW"

/-! ### Worlds (R228 to R235) -/

/-- Whether a session reaches the secure world (R235). -/
def sReach (s : State) (k : Sess) : Bool :=
  match k with
  | .link0 => true | .link1 => true | .mac => false
  | _ => cfgIs s ⟨.sec, 0⟩ "BUSWORLD" "BOTH"

/-- Whether a block of R229 is assigned S, by its place in the list. -/
def blockS (s : State) (n : Nat) : Bool := s.sec.worlds.getLsbD n

/-- The assignable block that holds an object's state; `none` is a fixed S block, 99 the N state of the workers. -/
def objBlock : ObjKind → Option Nat
  | .xing => some 4 | .pwr => some 2 | .leave => some 3 | .session => some 5 | .macroObj => some 99 | .sec => none
  | .chan => some 10 | .fi => some 8 | .ic => some 9 | .fc => some 8 | .lc => some 13 | .conv => some 8
  | .cell => some 11 | .counter => some 7 | .drive => some 99 | .prot => some 99 | .tf => none | .tp => none
  | .tmod => none | .thm => none | .loop => some 99 | .zone => some 99 | .sched => some 99 | .bus => some 6
  | .filter => some 6 | .point => some 6 | .time => some 17 | .lan => some 14 | .seg => some 14 | .jrn => some 15
  | .bst => some 16 | .moduleObj => some 0 | .onObj => some 99 | .macrosObj => some 99 | .li => some 13
  | .feed => some 13 | .port => some 12

/-- A change of the object's state reaches the secure world. -/
def objS (s : State) (k : ObjKind) : Bool :=
  match objBlock k with
  | none => true
  | some n => n < 19 && blockS s n

/-- A command of a session without S reach may not change state of the secure world (R235): the code of step 9. -/
def worldFail (s : State) (k : Sess) (o : ObjKind) : Option String :=
  if objS s o && !sReach s k then some "WORLD" else none

/-! ### The audit journal (R250 to R257) -/

def jrnCanWrite (s : State) : Bool := s.thm.winJournal
def auditStop (s : State) : Bool := cfgIs s ⟨.sec, 0⟩ "AUDITFULL" "STOP"

/-- The text field: at most 64 characters, padded with zeros. -/
def auditText (t : String) : List Byte :=
  let l := (t.toList.take 64).map fun c => BitVec.ofNat 8 c.toNat
  l ++ List.replicate (64 - l.length) 0#8

/-- The 128 bytes of a record (Table SEC-4). -/
def auditBytes (r : AuditRec) : List Byte :=
  bytesBE 2 r.kind ++ bytesBE 1 r.ses ++ bytesBE 1 r.role ++ bytesBE 4 r.seq ++ bytesBE 8 r.tick ++ bytesBE 2 r.boot
    ++ bytesBE 2 r.tag ++ bytesBE 1 r.result ++ bytesBE 1 r.flags ++ bytesBE 2 0 ++ bytesBE 8 r.utc
    ++ auditText r.text ++ bytesBE 32 r.prev.toNat

/-- A record takes its number and its place in the chain. -/
def auditNumber (c : Sec) (r : AuditRec) : AuditRec := { r with seq := c.auditSeq, prev := c.head }

/-- A numbered record becomes the newest. -/
def auditTake (c : Sec) (r : AuditRec) : Sec :=
  { c with auditSeq := c.auditSeq + 1, head := sha256 (auditBytes r) }

/-- A record written to the journal (R254, R255): WRAP overwrites the oldest, STOP uses the reserve. -/
def auditStore (s : State) (r : AuditRec) : State :=
  let c := s.sec
  if c.audit.length < 8191 then
    let s := { s with sec := { c with audit := c.audit ++ [r] } }
    let n := c.audit.length + 1
    if auditStop s && n = 7358 then notify s "SEC.AUDIT-NEAR"
    else if auditStop s && n = 8175 then notify s "SEC.AUDIT-FULL"
    else s
  else if auditStop s then { s with sec := { c with missed := satInc 0xFFFFFF c.missed } }
  else
    let s := { s with sec := { c with audit := c.audit.drop 1 ++ [r], overwritten := satInc 0xFFFFFFFF c.overwritten, wraps := c.wraps + 1 } }
    if (c.wraps + 1) = 1 || (c.wraps + 1) % 1024 = 0 then notify s "SEC.AUDIT-WRAP" else s

/-- The journal takes `n` records more: under STOP, as far as the reserve reaches (R255). -/
def auditRoom (s : State) (n : Nat) : Bool := !auditStop s || s.sec.audit.length + n ≤ 8191

/-- A record that could not be written (R256). -/
def auditMiss (s : State) : State := { s with sec := { s.sec with missed := satInc 0xFFFFFF s.sec.missed } }

/-- The UTC field of a record: whole seconds since 2000 and the quality (Table SEC-4). -/
def utcField (s : State) : Nat := utcSeconds s * 256 + s.tim.quality

/-- A new record, without its number and its place in the chain. -/
def auditRec (s : State) (kind ses role tag result : Nat) (reach : Bool) (text : String) : AuditRec :=
  { kind := kind, ses := ses, role := role, seq := 0, tick := mono s, boot := s.sec.boot, tag := tag, result := result, flags := if reach then 1 else 0, utc := utcField s, text := text, prev := 0 }

/-- The MISSED record of R256. -/
def missedRec (s : State) : AuditRec := auditRec s 21 0xFF 0 0 0 false ("MISSED " ++ natStr s.sec.missed)

/-- A record written as the newest: it takes its number and the head becomes its hash.  A record that follows missed ones is
preceded by a MISSED record (R256). -/
def auditWrite (s : State) (r : AuditRec) : State :=
  let put (s : State) (r : AuditRec) : State :=
    let r := auditNumber s.sec r
    auditStore { s with sec := auditTake s.sec r } r
  if s.sec.missed = 0 then put s r
  else put (put { s with sec := { s.sec with missed := 0 } } (missedRec s)) r

/-- A record kept, with its number and its chain, until writing is allowed (R257).  Under WRAP a 65th displaces the oldest. -/
def auditHold (s : State) (r : AuditRec) : State :=
  let r := auditNumber s.sec { r with flags := r.flags + 2 }
  let kept := { s with sec := auditTake s.sec r }
  if s.sec.held.isEmpty then notify { kept with sec := { kept.sec with held := [r] } } "SEC.AUDIT-HELD"
  else if s.sec.held.length < 64 then { kept with sec := { kept.sec with held := s.sec.held ++ [r] } }
  else if auditStop s then auditMiss s
  else auditMiss { kept with sec := { kept.sec with held := s.sec.held.drop 1 ++ [r] } }

/-- The MISSED record before held ones: they keep their numbers and their chain, so it takes the next number and the hash of
the last record written, and the head stays that of the newest held record (DESIGN CHOICE, log 88). -/
def missedFirst (s : State) : State :=
  match s.sec.held with
  | [] => s
  | h :: _ =>
    if s.sec.missed = 0 then s
    else
      let prev := match s.sec.audit.getLast? with | some r => sha256 (auditBytes r) | none => h.prev
      let m := { missedRec s with seq := s.sec.auditSeq, prev := prev }
      auditStore { s with sec := { s.sec with auditSeq := s.sec.auditSeq + 1, missed := 0 } } m

/-- The held records are written in order once writing is allowed, before any new one (R257). -/
def auditFlush (s : State) : State :=
  if jrnCanWrite s && !s.tst.heldJournal && !s.sec.held.isEmpty then
    let s := missedFirst s
    s.sec.held.foldl auditStore { s with sec := { s.sec with held := [] } }
  else s

/-- An audit record of an event (R250): written, held outside the writing window (R257), or missed (R256); a record that finds
no place takes no number and is no part of the chain. -/
def auditAdd (s : State) (kind ses role tag result : Nat) (reach : Bool) (text : String) : State :=
  let r := auditRec s kind ses role tag result reach text
  if s.tst.heldJournal then auditMiss s
  else if !jrnCanWrite s then auditHold s r
  else
    let s := auditFlush s
    if auditRoom s (if s.sec.missed = 0 then 1 else 2) then auditWrite s r else auditMiss s

/-- An audit record of an internal event. -/
def auditInternal (s : State) (kind : Nat) (text : String) : State := auditAdd s kind 0xFF 0 0 0 false text

/-- The row of a FAIL code in Table VIL-6, CRC being 1; 0 where the line is no failure. -/
def failCodes : List String := ["CRC", "LONG", "OVERRUN", "PARTIAL", "SYNTAX", "AMBIG", "TAG", "VERB", "OBJECT", "ATTR",
  "UNIT", "RANGE", "RO", "ROLE", "WORLD", "OWNED", "LOCKED", "STORE", "STATE", "UNTESTED", "UNCAL", "BUSY", "ABORTED",
  "CANCELLED", "SUPERSEDED", "HELD", "LEAVE", "LEAVE-TIMEOUT", "LINE-SAG", "LINE-LOST", "TRIP", "HOT", "OBSTACLE",
  "FAULT", "TEMP", "UNSETTLED", "COND", "TIMEOUT", "BEGUN", "TXFAIL", "BUS-OFF", "NOTIME", "VERSION", "AUTH", "NOSPACE"]

def failRow (code : String) : Nat :=
  match failCodes.findIdx? (· = code) with | some n => n + 1 | none => 0

/-! ### Mode causes (R28 to R30) -/

/-- A cause of a transition that stands for the next boundary: its row of Table ANA-7 and its target. -/
def addCause (s : State) (row : Nat) (m : Mode) : State :=
  if s.ana.causes.any fun c => c.row = row && c.target = m then s
  else { s with ana := { s.ana with causes := s.ana.causes ++ [⟨row, m⟩] } }

/-- Counts since reset: those of the registers, with what their clears have taken. -/
def sinceReset (cap : Nat) (now past : List Nat) : List Nat := now.zipIdx.map fun p => min cap (p.1 + past.getD p.2 0)

def modeIs (s : State) (l : List Mode) : Bool := l.contains s.ana.mode

/-! ### What the journal writer is handed (R618, R619, R628) -/

/-- Nothing is journaled while the journal die is held, in REPLAY, and while the core die does not run (R627, R635). -/
def jrnOn (s : State) : Bool := !s.tst.heldJournal && s.ana.mode != .replay && s.ana.mode != .off && coreRuns s

/-- A record for the present epoch. -/
def jrnPut (s : State) (kind bits : Nat) (words : List Nat := []) : State :=
  if jrnOn s then { s with jrn := { s.jrn with cur := .item kind bits words :: s.jrn.cur } } else s

/-- The triggers of Table JRN-6, by code. -/
def trigName (n : Nat) : String := (["COMMAND"] ++ freezeTriggers).getD (n - 1) "-"

/-- A freeze takes its place by its freeze boundary, behind those that have asked for leave. -/
def frzInsert (f : Frz) : List Frz → List Frz
  | [] => [f]
  | a :: l => if a.phase != 0 || a.boundary ≤ f.boundary then a :: frzInsert f l else f :: a :: l

/-- An automatic trigger (R628, R641): recorded, and a freeze boundary POSTT later; it merges into a freeze that is
pending. -/
def jrnTrigger (s : State) (code : Nat) : State :=
  if !jrnOn s || !(cfgWords s ⟨.jrn, 0⟩ "FREEZEON").contains (trigName code) then s
  else
    let s := jrnPut s 0x11 code
    if s.jrn.frz.any fun f => f.auto && f.phase < 3 then s
    else
      let f : Frz := { trig := code, auto := true, boundary := s.epoch + cfgMilli s ⟨.jrn, 0⟩ "POSTT", trigEpoch := s.epoch }
      { s with jrn := { s.jrn with frz := frzInsert f s.jrn.frz } }

/-! ### Requests for leave (R93) -/

/-- A request posted to Lamplighter, reaching KEEPER at the boundary of epoch `e`. -/
def askLeave (s : State) (e : Nat) (r : LReq) : State :=
  { s with lve := { s.lve with posted := s.lve.posted ++ [(e, r)] } }

end Sys2Proof.Machine
end

