-- ==== Sys2Proof/Machine/Xing.lean ====
section
/-!
DEFINITION. The guarded crossings (*Anatomy*): their map and guards, what happens to an arriving value (R12 to R17,
R709), silence, the delivery buffers, and the XING block's own writes.
-/
namespace Sys2Proof.Machine
open Sys2Proof

def xobj (x : Nat) : Obj := ⟨.xing, x⟩
def cellObj (k : Nat) : Obj := ⟨.cell, k⟩

/-! ### The crossing map (Table ANA-9) -/

/-- A crossing in use (R33, Table ANA-9). -/
def xUsed (x : Nat) : Bool := x < 202 && x != 158 && x != 159

/-- Source islands of Table ANA-2. -/
def xIsland (x : Nat) : Nat :=
  if x < 160 then 7 else if x < 176 then 6 else if x < 180 then 9 else if x < 190 then 12 else if x < 191 then 9
  else if x < 194 then 5 else if x < 196 then 4 else if x < 197 then 5 else if x < 198 then 0 else if x < 199 then 10
  else if x < 200 then 11 else if x < 201 then 13 else 4

/-- Destinations: KEEPER, WORK0, WORK1 as bits 0 to 2. -/
def xDest (x : Nat) : Nat :=
  if !xUsed x then 0
  else if x < 128 then 4 else if x < 160 then 5 else if x < 176 then 4 else if x < 191 then 5
  else if x < 196 then 2 else if x < 197 then 3 else if x < 198 then 1 else if x < 199 then 2 else 1

/-- Descriptors that only the firmware sets. -/
def xFirmware (x : Nat) : Bool := 188 ≤ x && x < 202

/-- Whether the source of a Churn cell is signed (Tables CHN-2, CHN-3, CNV-3). -/
def srcSigned (k : Nat) : Bool :=
  k = 96 || k = 98 || k = 100 || k = 102 || (128 ≤ k && k ≤ 145) || k = 151 || k = 152 || k = 155 || k = 156 || k = 157

/-- The format of a crossing: two's complement or unsigned (R320). -/
def xSigned (s : State) (x : Nat) : Bool :=
  x < 160 && srcSigned x && cfgIs s (cellObj x) "VALUE" "MEAN"

/-- Crossings whose source supplies a production tick (R75, R157, R403 and the chapters' guard tables). -/
def xHasTick (x : Nat) : Bool := xUsed x && x != 197 && x != 201

/-- The full range of a format, as words. -/
def fullLo (signed : Bool) : XWord := if signed then 0x8000 else 0
def fullHi (signed : Bool) : XWord := if signed then 0x7FFF else 0xFFFF

/-- The default guard of a configurable crossing (Table ANA-10). -/
def xFactory (signed : Bool) (x : Nat) : XDesc :=
  let d : XDesc := { lo := fullLo signed, hi := fullHi signed }
  if x < 128 then d else if x < 158 then { d with silence := 100 } else if x < 176 then d
  else { d with silence := 10, age := 5, subk := 1 }

/-- The guard fixed by the ROM of a firmware-owned crossing (Tables PWR-9, DRV-8, BUS-9, VIL-8, TIM-8, LAN-4, JRN-8,
BST-12). -/
def xRom (x : Nat) : XDesc :=
  if x = 188 then { hi := 4000, silence := 20, age := 5, subk := 1 }
  else if x = 189 then { hi := 7, age := 2 }
  else if x = 190 then { hi := 3, age := 2 }
  else if x = 191 || x = 192 then { hi := 0x3FFF, age := 10, subk := 1, subv := 0xFFFF }
  else if x = 193 then { hi := 0xFF, age := 5, subk := 1, subv := 0xFFFF }
  else if x = 194 || x = 195 then { hi := 0x101, age := 2, subk := 1, subv := 0x100 }
  else if x = 196 then { lo := 1, hi := 4, silence := 2500, age := 5, subk := 1 }
  else if x = 197 then { hi := 3, silence := 250 }
  else if x = 198 then { silence := 200, age := 5, subk := 1, subv := 4 }
  else if x = 199 then { silence := 250, age := 5, subk := 1 }
  else if x = 200 then { hi := 8, silence := 300, age := 5, subk := 1, subv := 0xFFFF }
  else { hi := 1, silence := 5, subk := 1 }

def xcell (s : State) (x : Nat) : XCell := tget {} s.ana.xings x

def setXcell (s : State) (x : Nat) (c : XCell) : State :=
  { s with ana := { s.ana with xings := tset s.ana.xings x c } }

/-- The descriptor in force. -/
def xDesc (s : State) (x : Nat) : XDesc :=
  if xFirmware x then xRom x
  else match (xcell s x).desc with
    | some d => d
    | none => xFactory (xSigned s x) x

/-- The descriptor as last written, in force or not. -/
def xWritten (s : State) (x : Nat) : XDesc := ((xcell s x).next).getD (xDesc s x)

/-- A word's value in a format. -/
def wordVal (signed : Bool) (w : XWord) : Int := if signed then w.toInt else w.toNat

/-! ### The filter (Table ANA-4, R709) -/

def sumInt : List Int → Int
  | [] => 0
  | v :: l => v + sumInt l

/-- The middle one of three. -/
def median3 (a b c : Int) : Int := max (min a b) (min (max a b) c)

/-- The mean of a history, truncated toward zero. -/
def meanOf (l : List Int) : Int := (sumInt l).tdiv l.length

/-- The filter takes an arrival: the cell with its new history and filtered value. -/
def filterArrival (d : XDesc) (c : XCell) (v : Int) : XCell :=
  match c.filtered with
  | none => { c with hist := [v], filtered := some v, debVal := v, debRun := 1 }
  | some f =>
    let n := d.fpar.toNat
    if d.filt = 1 then
      let h := (v :: c.hist).take 3
      let r := match h with | [a, b, e] => median3 a b e | _ => meanOf h
      { c with hist := h, filtered := some r }
    else if d.filt = 2 then
      let h := (v :: c.hist).take n
      { c with hist := h, filtered := some (meanOf h) }
    else if d.filt = 3 then
      let run := if v = c.debVal then c.debRun + 1 else 1
      { c with debVal := v, debRun := run, filtered := some (if n ≤ run then v else f) }
    else if d.filt = 4 then
      let step : Int := n * 16
      { c with filtered := some (if v > f then min v (f + step) else max v (f - step)) }
    else { c with filtered := some v }

/-- The history emptied (R36). -/
def emptyHist (c : XCell) : XCell := { c with hist := [], filtered := none, debVal := 0, debRun := 0 }

/-- The substitute of a crossing (Table ANA-4). -/
def substitute (signed : Bool) (d : XDesc) (c : XCell) : Int :=
  if d.subk = 1 then wordVal signed d.subv
  else if d.subk = 2 then wordVal signed d.lo
  else if d.subk = 3 then wordVal signed d.hi
  else c.lastPass.getD (wordVal signed d.subv)

/-! ### Delivery buffers (R16, R19, R21) -/

def bufLimit : Nat := 2048

/-- Whether a buffer that the crossing feeds is full. -/
def bufFull (s : State) (x : Nat) : Bool :=
  ((xDest x).testBit 0 && bufLimit ≤ s.ana.bufK.length) || ((xDest x).testBit 1 && bufLimit ≤ s.ana.bufW0.length)
    || ((xDest x).testBit 2 && bufLimit ≤ s.ana.bufW1.length)

/-- A record placed in the buffer of every destination (R16). -/
def postRec (s : State) (r : Rec) : State :=
  let d := xDest r.x
  let a := s.ana
  let a := if d.testBit 0 then { a with bufK := a.bufK ++ [r] } else a
  let a := if d.testBit 1 then { a with bufW0 := a.bufW0 ++ [r] } else a
  let a := if d.testBit 2 then { a with bufW1 := a.bufW1 ++ [r] } else a
  { s with ana := a }

/-- The cell and the record after an arrival that found room (R12 to R15, R17, R37).  DESIGN CHOICE (log 84): an age equal
to AGE passes; the spec says only that the two are compared. -/
def guardArrival (s : State) (x : Nat) (v : XWord) (ptick : Option Nat) (pay : Pay) : XCell × Rec :=
  let signed := xSigned s x
  let d := xDesc s x
  let c := filterArrival d (xcell s x) (wordVal signed v)
  let f := c.filtered.getD 0
  let outOfRange := f < wordVal signed d.lo || wordVal signed d.hi < f
  let old := match ptick with
    | some p => d.age != 0 && d.age.toNat * tickMs < mono s - p
    | none => false
  let c := { c with lastArrival := some s.now }
  let r : Rec := { x := x, stamp := mono s, val := f, ptick := ptick, pay := pay }
  if !outOfRange && !old then
    let ev := if c.episode = none then none else some XEvent.ends
    ({ c with lastPass := some f, cur := some f, range := false, stale := false, silent := false, episode := none }, { r with ev := ev })
  else
    let k : XKind := if outOfRange then .range else .stale
    let ev := match c.episode with
      | none => some (XEvent.begins k)
      | some k' => if k' = k then none else some (XEvent.turns k)
    let fails := if c.episode = none then satInc 255 c.fails else c.fails
    let sub := substitute signed d c
    ({ c with range := outOfRange, stale := old, silent := false, episode := some k, fails := fails, cur := some sub },
     { r with val := sub, range := outOfRange, stale := old, ev := ev })

/-- An empty snapshot (R329): no filter, no guard and no arrival; the crossing's current value, with the flags that
stand. -/
def guardEmpty (s : State) (x : Nat) (pay : Pay) : XCell × Rec :=
  let c := xcell s x
  let v := match c.cur with | some v => v | none => substitute (xSigned s x) (xDesc s x) c
  (c, { x := x, stamp := mono s, val := v, range := c.range, stale := c.stale, silent := c.silent, pay := pay })

def payEmpty : Pay → Bool
  | .churn n _ _ _ => n = 0 | _ => false

/-- An epoch in which a buffer was full is counted once (R21). -/
def stallCount (s : State) : State :=
  { s with ana := { s.ana with stalls := if s.ana.stalled then s.ana.stalls else satInc 0xFFFF s.ana.stalls, stalled := true } }

/-- The SILENT substitute of this very tick is taken back: the arrival of the tick at which SILENCE expires is delivered
in its place (R35). -/
def silentBack (s : State) (x : Nat) : State :=
  let c := xcell s x
  match c.past with
  | none => s
  | some p =>
    if p.tick != mono s || !c.silent then s
    else
      let keep (l : List Rec) : List Rec := l.filter fun r => !(r.x = x && r.silent && r.stamp = p.tick)
      let c := { c with cur := p.cur, range := p.range, stale := p.stale, silent := false, episode := p.episode, fails := p.fails, past := none }
      let s := setXcell s x c
      { s with ana := { s.ana with bufK := keep s.ana.bufK, bufW0 := keep s.ana.bufW0, bufW1 := keep s.ana.bufW1 } }

/-- A handshake completes and finds room: the guard stage, and the record in every destination's buffer. -/
def passes (s : State) (x : Nat) (v : XWord) (ptick : Option Nat) (pay : Pay) : State :=
  if payEmpty pay then postRec (setXcell s x (guardEmpty s x pay).1) (guardEmpty s x pay).2
  else
    let s := silentBack s x
    postRec (setXcell s x (guardArrival s x v ptick pay).1) (guardArrival s x v ptick pay).2

/-- Whether a handshake of the crossing is held back already: a later one waits behind it (R21). -/
def waitsBehind (s : State) (x : Nat) : Bool := s.ana.held.any fun h => h.x = x

/-- Whether handshakes into the control islands complete at all: not in QUIET (R711), nor while the core die does not
run. -/
def guardOn (s : State) : Bool := coreRuns s && s.ana.mode != .quiet

/-- A value's handshake comes at a crossing: nothing on a crossing that is not in use; held back where a buffer is full
or an earlier one of the crossing is held (R21). -/
def arrive (s : State) (x : Nat) (v : XWord) (ptick : Option Nat) (pay : Pay) : State :=
  if !xUsed x || !guardOn s then s
  else if bufFull s x || waitsBehind s x then
    stallCount { s with ana := { s.ana with held := s.ana.held ++ [⟨x, v, ptick, pay⟩] } }
  else passes s x v ptick pay

/-- The values that come with a port's status word: the encoder count, and the current and the bus voltage, which no
command gives (free values, log 2). -/
def portPay (s : State) (p : Nat) : State × Pay :=
  let t := tget {} s.drv.ports p
  let ma := (freeBits 16 s).toInt
  let v := (freeBits 16 (drawn s)).toNat
  let s := drawn (drawn s)
  ({ s with drv := { s.drv with ports := tset s.drv.ports p { t with ma := ma, busv := v } } }, .port t.enc ma v)

/-- GUARDED_ARRIVAL. -/
def execGuardedArrival (x : Fin 240) (v : XWord) (ptick : Option Nat) (s : State) : Host.Outcome State Fault Refusal :=
  .next (if 176 ≤ x.val && x.val < 180 && guardOn s then
      arrive (portPay s (x.val - 176)).1 x v ptick (portPay s (x.val - 176)).2
    else arrive s x v ptick .none)

/-- The first held handshake whose buffers have room completes (R21); where none has, all are held again. -/
def releaseHeld (s : State) : State :=
  if !guardOn s || s.ana.held.isEmpty then s
  else match s.ana.held.find? fun h => !bufFull s h.x with
    | none => stallCount s
    | some h => passes { s with ana := { s.ana with held := s.ana.held.erase h } } h.x h.v h.ptick h.pay

/-- HELD_HANDSHAKE. -/
def execHeldHandshake (s : State) : Host.Outcome State Fault Refusal := .next (releaseHeld s)

/-! ### Silence (R14, R35) -/

/-- The instant from which a crossing's silence counts. -/
def silenceFrom (s : State) (c : XCell) : Nat :=
  max (max (c.lastArrival.getD s.rel) s.rel) (s.pwr.quietReturn.getD s.rel)

/-- The instant at which the silence reaches SILENCE; none where it is off or where the crossing is silent already. -/
def silenceDue (s : State) (x : Nat) : Option Nat :=
  let d := xDesc s x
  let c := xcell s x
  if !xUsed x || d.silence = 0 || c.silent then none
  else some (max (silenceFrom s c + d.silence.toNat * tickMs) c.since)

/-- The SILENT substitute, once; it waits while a buffer that the crossing feeds is full (R21). -/
def silence (x : Nat) (t : Nat) (s : State) : State :=
  if bufFull s x then stallCount s else
  let c := xcell s x
  let stamp := max t (epochTick s s.epoch) - s.rel
  let ev := match c.episode with
    | none => some (XEvent.begins .silent)
    | some .silent => none
    | some _ => some (XEvent.turns .silent)
  let fails := if c.episode = none then satInc 255 c.fails else c.fails
  let sub := substitute (xSigned s x) (xDesc s x) c
  let r : Rec := { x := x, stamp := stamp, val := sub, silent := true, ev := ev }
  postRec (setXcell s x { c with cur := some sub, silent := true, range := false, stale := false, episode := some .silent, fails := fails, past := some ⟨stamp, c.cur, c.range, c.stale, c.episode, c.fails⟩ }) r

/-- SILENCE_EXPIRY. -/
def execSilenceExpiry (x : Fin 240) (s : State) : Host.Outcome State Fault Refusal :=
  .next (if !guardOn s then s
    else match silenceDue s x with
      | some t => atTick s (some t) (silence x t)
      | none => s)

/-! ### Descriptor writes (R36, R41, R44, R710) -/

/-- FPAR as Table ANA-4 allows it for a filter code. -/
def fparOk (filt : Nat) (fpar : Nat) : Bool :=
  if filt ≤ 1 then fpar = 0
  else if filt = 2 then 2 ≤ fpar && fpar ≤ 16
  else if filt = 3 then 2 ≤ fpar && fpar ≤ 32
  else filt = 4 && 1 ≤ fpar

/-- The ranges of Table ANA-8 and the codes of Table ANA-4 (R32, R709). -/
def descOk (signed : Bool) (x : Nat) (d : XDesc) : Bool :=
  fparOk d.filt.toNat d.fpar.toNat && d.subk.toNat ≤ 3 && decide (wordVal signed d.lo ≤ wordVal signed d.hi)
    && (d.age = 0 || xHasTick x)

/-- The four words of a descriptor as XING_CFG, RANGE, TMO and SUB hold them (Tables ANA-18, ANA-19): the writable
fields. -/
def descWord (d : XDesc) (r : Nat) : Word :=
  if r = 0 then (d.filt.zeroExtend 32 <<< 4) ||| (d.fpar.zeroExtend 32 <<< 8) ||| (d.subk.zeroExtend 32 <<< 16)
    ||| (if d.note then 0x1000000 else 0)
  else if r = 1 then d.lo.zeroExtend 32 ||| (d.hi.zeroExtend 32 <<< 16)
  else if r = 2 then d.silence.zeroExtend 32 ||| (d.age.zeroExtend 32 <<< 16)
  else d.subv.zeroExtend 32

/-- The writable bits of the four words. -/
def descMask (r : Nat) : Word :=
  if r = 0 then 0x0107FFF0 else if r = 3 then 0xFFFF else 0xFFFFFFFF

/-- A descriptor with one of its words replaced. -/
def descPut (d : XDesc) (r : Nat) (w : Word) : XDesc :=
  if r = 0 then { d with filt := w.extractLsb' 4 4, fpar := w.extractLsb' 8 8, subk := w.extractLsb' 16 3, note := w.getLsbD 24 }
  else if r = 1 then { d with lo := w.extractLsb' 0 16, hi := w.extractLsb' 16 16 }
  else if r = 2 then { d with silence := w.extractLsb' 0 16, age := w.extractLsb' 16 16 }
  else { d with subv := w.extractLsb' 0 16 }

/-- The descriptor that a masked write of word `r` gives. -/
def descWrite (s : State) (x r : Nat) (v mask : Word) : XDesc :=
  let d := xWritten s x
  let m := mask &&& descMask r
  descPut d r ((descWord d r &&& ~~~m) ||| (v &&& m))

/-- A configurable crossing (R41, R44). -/
def xConfigurable (x : Nat) : Bool := x < 188 && xUsed x

/-- A descriptor write: in force for the records of the next epoch (R36). -/
def writeDesc (s : State) (x : Nat) (d : XDesc) : State :=
  if xConfigurable x && descOk (xSigned s x) x d then setXcell s x { xcell s x with next := some d } else s

/-- XING_DESCRIPTOR_WRITE. -/
def execXingDescriptorWrite (x : Fin 240) (r : Fin 4) (v mask : Word) (s : State) : Host.Outcome State Fault Refusal :=
  .next (writeDesc s x (descWrite s x r v mask))

/-- The written descriptor comes into force with the epoch that begins; a change of filter or FPAR empties the
history (R36). -/
def descTakes (t : Nat) (old : XDesc) (c : XCell) : XCell :=
  match c.next with
  | none => c
  | some d =>
    let c := { c with desc := some d, next := none, since := t }
    if d.filt = old.filt && d.fpar = old.fpar then c else emptyHist c

/-- The descriptors written in the last epoch come into force. -/
def descsTake (s : State) : State :=
  let t := s.now
  { s with ana := { s.ana with xings := s.ana.xings.map fun p => (p.1, descTakes t (xDesc s p.1) p.2) } }

/-- A descriptor adapted to a change of its crossing's format (R710). -/
def descAdapt (was signed : Bool) (d : XDesc) : XDesc :=
  let inBoth (w : XWord) : Bool := w.toNat ≤ 0x7FFF
  if d.lo = fullLo was && d.hi = fullHi was then { d with lo := fullLo signed, hi := fullHi signed, subv := if inBoth d.subv then d.subv else 0 }
  else { d with lo := if inBoth d.lo then d.lo else fullLo signed, hi := if inBoth d.hi then d.hi else fullHi signed, subv := if inBoth d.subv then d.subv else 0 }

/-- A crossing after the format change of its source. -/
def xAdapt (s : State) (x : Nat) (was : Bool) : State :=
  let now := xSigned s x
  if was = now then s
  else
    let c := xcell s x
    setXcell s x (emptyHist { c with desc := c.desc.map (descAdapt was now), next := c.next.map (descAdapt was now) })

/-! ### The XING block (R44) -/

/-- XING_CLRSTAT: writing 1 clears XING_STALLS, both fields (Table ANA-17). -/
def execXingClrstat (v : Word) (s : State) : Host.Outcome State Fault Refusal :=
  .next (if v.getLsbD 1 then { s with ana := { s.ana with stalls := 0, peak := 0 } } else s)

/-- XING_NOTES. -/
def execXingNotes (v : Word) (s : State) : Host.Outcome State Fault Refusal :=
  .next { s with ana := { s.ana with notesOn := v.getLsbD 0 } }

/-- XING_CTRL as a write of the whole register. -/
def writeXingCtrl (s : State) (v mask : Word) : State :=
  let s := if mask.getLsbD 0 then { s with ana := { s.ana with notesOn := v.getLsbD 0 } } else s
  if mask.getLsbD 1 && v.getLsbD 1 then { s with ana := { s.ana with stalls := 0, peak := 0 } } else s

/-! ### Canonical order (R19) and the notices of episodes (R17) -/

/-- Whether `a` comes no later than `b` in canonical order: by stamp, source island, crossing. -/
def recLe (a b : Rec) : Bool :=
  a.stamp < b.stamp || (a.stamp = b.stamp && (xIsland a.x < xIsland b.x || (xIsland a.x = xIsland b.x && a.x ≤ b.x)))

/-- A record set into a list in canonical order. -/
def recInsert (r : Rec) : List Rec → List Rec
  | [] => [r]
  | a :: l => if recLe a r then a :: recInsert r l else r :: a :: l

/-- Records in canonical order; equal keys keep their order of arrival. -/
def canonical (l : List Rec) : List Rec := l.foldl (fun acc r => recInsert r acc) []

def xkindName : XKind → String
  | .range => "XING.RANGE" | .stale => "XING.STALE" | .silent => "XING.SILENT"

/-- The notice of a record that carries an episode's decision (R17, R44). -/
def xNotice (s : State) (r : Rec) : State :=
  if !s.ana.notesOn || !(xDesc s r.x).note then s
  else match r.ev with
    | none => s
    | some (.begins k) => notify s (xkindName k) (some (xobj r.x))
    | some (.turns k) => notify s (xkindName k) (some (xobj r.x))
    | some .ends => notify s "XING.OK" (some (xobj r.x))

/-- The record becomes the current value of its crossing for the control islands. -/
def xSeen (s : State) (r : Rec) : State := setXcell s r.x { xcell s r.x with seen := some r }

/-- The current value of a crossing, as the control islands know it. -/
def xCurrent (s : State) (x : Nat) : Option Rec := (xcell s x).seen

/-- Whether a crossing is in a failure episode (XING_SUBST). -/
def xFailing (s : State) (x : Nat) : Bool := (xcell s x).episode != none

end Sys2Proof.Machine
end

