-- ==== Sys2Proof/Machine/Churn.lean ====
section
/-!
DEFINITION. Who owns outputs, inputs and cells, as the configuration says (R272, R273, R336, R454); and Churn: what a
cell accumulates, keeps and discards (R311 to R315), its snapshots (R318 to R321, R323), its statistics and their scale
(R316, R317), peeks, and marks (R326).
-/
namespace Sys2Proof.Machine
open Sys2Proof

/-! ### Owners -/

def chanObj (u : Nat) : Obj := ⟨.chan, u⟩
def fiObj (n : Nat) : Obj := ⟨.fi, n⟩
def loopObj (l : Nat) : Obj := ⟨.loop, l⟩
def zoneObj (z : Nat) : Obj := ⟨.zone, z⟩
def drvObj (d : Nat) : Obj := ⟨.drive, d⟩

def driveKind (s : State) (d : Nat) : String := cfgWord s (drvObj d) "KIND"

/-- STARTA in mA: as set, or the default of the drive's kind (Table DRV-9). -/
def startMa (s : State) (d : Nat) : Nat :=
  match cfgFind s.cfg (drvObj d, "STARTA") with
  | some (.num v :: _) => (v / 1000000).toNat
  | _ => if driveKind s d = "DC" then 0 else 1500

/-- The outputs of a drive. -/
def driveOuts (s : State) (d : Nat) : List Obj := cfgObjs s (drvObj d) "OUTPUT"

/-- The configured drives: only these are listed in the configuration. -/
def usedDrives (s : State) : List Nat := (List.range 32).filter fun d => driveKind s d != "NONE"

def usedLoops (s : State) : List Nat := (List.range 96).filter fun l => !cfgIs s (loopObj l) "KIND" "OFF"

/-- The DC drive on a port. -/
def portDrive (s : State) (p : Nat) : Option Nat :=
  (usedDrives s).find? fun d => driveKind s d = "DC" && (driveOuts s d).contains ⟨.port, p⟩

/-- The drive on a feed. -/
def feedDrive (s : State) (f : Nat) : Option Nat :=
  (usedDrives s).find? fun d => (driveOuts s d).contains ⟨.feed, f⟩

/-- The loops that drive a channel. -/
def loopOuts (s : State) (l : Nat) : List Obj :=
  cfgObjs s (loopObj l) "OUT" ++ cfgObjs s (loopObj l) "OUT2" ++ cfgObjs s (loopObj l) "FANV"

/-- The owner of a channel's output (R272). -/
def chanOwner (s : State) (u : Nat) : Option Obj :=
  match (usedDrives s).find? fun d => (driveOuts s d).contains (chanObj u) with
  | some d => some (drvObj d)
  | none => ((usedLoops s).find? fun l => (loopOuts s l).contains (chanObj u)).map loopObj

/-- A fast input owned by the firmware (R273). -/
def fiOwned (s : State) (n : Nat) : Bool := n < 8 && (portDrive s (n / 2)).isSome

/-- The crossings that a loop names. -/
def loopNames (s : State) (l : Nat) : List Obj :=
  loopInputs.flatMap (fun a => cfgObjs s (loopObj l) a) ++ cfgObjs s (loopObj l) "DOOR"

def zoneNames (s : State) (z : Nat) : List Obj := cfgObjs s (zoneObj z) "TEMP" ++ cfgObjs s (zoneObj z) "PRES"

/-- The drive whose local switches a cell reads (R393). -/
def cellDrive (s : State) (k : Nat) : Option Nat :=
  if 96 ≤ k then none
  else (usedDrives s).find? fun d =>
    (cfgObjs s (drvObj d) "LOCALUP" ++ cfgObjs s (drvObj d) "LOCALDN").contains (chanObj k)

def zonesNaming (s : State) (k : Nat) : List Nat := (List.range 24).filter fun z => (zoneNames s z).contains (xobj k)

def loopsNaming (s : State) (k : Nat) : List Nat := (List.range 96).filter fun l => (loopNames s l).contains (xobj k)

/-- The owner of a cell's SNAP (R336, R393, R454). -/
def cellOwner (s : State) (k : Nat) : Option Obj :=
  match cellDrive s k with
  | some d => some (drvObj d)
  | none => match loopsNaming s k with
    | l :: _ => some (loopObj l)
    | [] => match zonesNaming s k with
      | z :: _ => some (zoneObj z)
      | [] => if 96 ≤ k && fiOwned s (k - 96) then (portDrive s ((k - 96) / 2)).map drvObj else none

/-- The period of a loop in ms: as set, or the default of its kind (Table CLM-1). -/
def loopPeriod (s : State) (l : Nat) : Nat :=
  match cfgNano s (loopObj l) "PERIOD" with
  | some v => (v / 1000000).toNat
  | none =>
    let k := cfgWord s (loopObj l) "KIND"
    if k = "SHADE" then 60000 else if k = "VENT" then 30000 else if k = "CURTAIN" then 1000 else 10000

def minOf : List Nat → Nat → Nat
  | [], d => d
  | [a], _ => a
  | a :: b :: l, d => min a (minOf (b :: l) d)

/-- The SNAP in force in ms; none where it is off (R318, R336, R393, R454). -/
def cellSnapMs (s : State) (k : Nat) : Option Nat :=
  if 145 ≤ k then some 50 else if 128 ≤ k then some 10
  else match cellDrive s k with
    | some _ => some 20
    | none =>
      let ls := loopsNaming s k
      let zs := zonesNaming s k
      if ls.isEmpty && zs.isEmpty then (cfgNano s (cellObj k) "SNAP").map fun v => (v / 1000000).toNat
      else
        let zl := (usedLoops s).filter fun l => match cfgObj s (loopObj l) "ZONE" with | some o => zs.contains o.n | none => false
        some (minOf ((ls.filter (usedLoops s).contains ++ zl).map (loopPeriod s)) 10000)

/-! ### Sources (R310, R318, R320) -/

def chanMode (s : State) (u : Nat) : String := cfgWord s (chanObj u) "MODE"

/-- The modes whose results come from the IC (Table CNV-1). -/
def icMode (m : String) : Bool := ["V10IN", "NTC10K", "NTC20K", "PT1000", "RES", "V10OUT"].contains m

/-- The first input of the SIMUL quad that an input belongs to, if its quad runs SIMUL (R280). -/
def quadSimul (s : State) (n : Nat) : Bool := cfgIs s (fiObj (n / 4 * 4)) "ACQ" "SIMUL"

/-- The acquisition in force at an input. -/
def fiAcq (s : State) (n : Nat) : String :=
  if quadSimul s n then "SIMUL" else cfgWord s (fiObj n) "ACQ"

/-- The route of a fast input is active: a port's inputs always, the others with FAST on (R273). -/
def fiRouted (s : State) (n : Nat) : Bool := n < 8 || cfgOn s (chanObj (n - 8)) "FAST"

/-- A cell whose source is active (R318). -/
def cellEnabled (s : State) (k : Nat) : Bool :=
  if k < 96 then
    let m := chanMode s k
    m != "OFF" && m != "PULSE"
  else if k < 128 then fiRouted s (k - 96) && (fiAcq s (k - 96) != "OFF" || fiOwned s (k - 96))
  else k < 158

/-- An extended cell (R312). -/
def cellExt (s : State) (k : Nat) : Bool := k < 96 && icMode (chanMode s k)

def cellRms (s : State) (k : Nat) : Bool := cfgIs s (cellObj k) "VALUE" "RMS"

def cellOf (s : State) (k : Nat) : Cell := tget {} s.chn.cells k
def setCell (s : State) (k : Nat) (c : Cell) : State := { s with chn := { s.chn with cells := tset s.chn.cells k c } }

/-! ### Accumulation (R311 to R315) -/

def flMark : BitVec 11 := 1
def flLate : BitVec 11 := 2
def flNosync : BitVec 11 := 4
def flSat : BitVec 11 := 8
def flFull : BitVec 11 := 16
def flLost : BitVec 11 := 32
def flPart : BitVec 11 := 64
def flCalchg : BitVec 11 := 128
def flEmpty : BitVec 11 := 256
def flDisc : BitVec 11 := 512
def flTrip : BitVec 11 := 1024

def maxCount : Nat := 16777215

/-- A flag where a condition holds. -/
def flagIf (b : Bool) (f : BitVec 11) : BitVec 11 := if b then f else 0

/-- A word accumulated: `x` its value, `w` the value of the word itself. -/
def cellTake (c : Cell) (x w : Int) (f : BitVec 11) (t : Nat) : Cell :=
  let lo := if c.count = 0 then w else min c.min w
  let hi := if c.count = 0 then w else max c.max w
  { c with sum := c.sum + x, sq := c.sq + (x * x).toNat, count := c.count + 1, min := lo, max := hi, flags := c.flags ||| f, ptick := some t, first := some (c.first.getD t), last := t }

/-- A result word made in a channel's mode reaches its cell, with its production tick; nothing for a disabled cell. -/
def churnWordIn (mode : String) (s : State) (k : Nat) (w : XWord) (ext : Nat) (f : WFlags) (t : Nat) : State :=
  if !cellEnabled s k then s
  else
    let c := cellOf s k
    let discard := cfgIs s (cellObj k) "SATPOL" "DISCARD"
    if f.unset then setCell s k { c with dUnset := satInc 65535 c.dUnset, flags := c.flags ||| flDisc }
    else if f.out then setCell s k { c with dRange := satInc 65535 c.dRange, flags := c.flags ||| flDisc }
    else if f.sat && discard then setCell s k { c with dSat := satInc 65535 c.dSat, flags := c.flags ||| flDisc ||| flSat }
    else if maxCount ≤ c.count then
      let s' := setCell s k { c with dOver := satInc 65535 c.dOver, flags := c.flags ||| flFull, fullNoted := true }
      if c.fullNoted then s' else notify s' "CHN.FULL" (some (cellObj k))
    else
      let od := k < 96 && mode = "ODOUT"
      let w := if od then w &&& 1 else w
      let v := wordVal (srcSigned k) w
      let x := if cellExt s k then v * 16 + ext else v
      let trip := od && f.trip
      let c := cellTake c x v (flagIf f.mark flMark ||| flagIf f.nosync flNosync ||| flagIf f.sat flSat ||| flagIf trip flTrip) t
      setCell s k { c with dSat := if f.sat then satInc 65535 c.dSat else c.dSat, dMarked := if f.mark then satInc 65535 c.dMarked else c.dMarked }

/-- A result word under the channel's present mode. -/
def churnWord (s : State) (k : Nat) (w : XWord) (ext : Nat) (f : WFlags) (t : Nat) : State :=
  churnWordIn (chanMode s k) s k w ext f t

def noFlags : WFlags := ⟨false, false, false, false, false, false⟩

/-- Whether the converters and Churn work: the core die runs and is not in QUIET (R301, R711). -/
def sensing (s : State) : Bool := coreRuns s && s.ana.mode != .quiet && !s.pwr.committed

/-- CHURN_WORD: a word with its extension and flags. -/
def execChurnWord (k : Fin 160) (w : XWord) (ext : BitVec 4) (f : WFlags) (s : State) : Host.Outcome State Fault Refusal :=
  let trip := f.trip || (k.val < 96 && chanMode s k = "ODOUT" && w.getLsbD 1)
  let s := if k.val = 146 && sensing s then { s with pwr := { s.pwr with auxMa := w.toNat } } else s
  .next (if sensing s then churnWord s k w ext.toNat { f with trip := trip } (mono s) else s)

/-- Missing sample sets counted in a cell (R313). -/
def cellLost (s : State) (k n : Nat) : State :=
  let c := cellOf s k
  setCell s k { c with dLost := min 65535 (c.dLost + n), flags := c.flags ||| flLost }

/-! ### Statistics (R316, R317) -/

/-- A quotient rounded to the nearest integer, ties away from zero. -/
def roundDiv (a : Int) (b : Nat) : Int :=
  if b = 0 then 0
  else
    let q := (2 * a.natAbs + b) / (2 * b)
    if a < 0 then -(q : Int) else q

/-- The integer square root, one bit at a time. -/
def isqrtBits : Nat → Nat → Nat → Nat
  | 0, _, r => r
  | b + 1, n, r =>
    let r' := r + 2 ^ b
    isqrtBits b n (if r' * r' ≤ n then r' else r)

def isqrt (n : Nat) : Nat := isqrtBits (n.log2 / 2 + 1) n 0

/-- MEAN in word units. -/
def meanWord (ext : Bool) (c : CellStat) : Int := roundDiv c.sum (if ext then 16 * c.count else c.count)

/-- RMS in word units, ties rounded up. -/
def rmsWord (ext : Bool) (c : CellStat) : Nat :=
  if c.count = 0 then 0 else (isqrt (4 * c.sq / (if ext then 256 * c.count else c.count)) + 1) / 2

/-! ### Snapshots (R318 to R321, R323, R326, R329) -/

/-- The statistics that a running cell holds. -/
def cellStat (c : Cell) : CellStat := { sum := c.sum, sq := c.sq, count := c.count, min := c.min, max := c.max, flags := c.flags }

/-- VALUE of a snapshot as a word. -/
def statWord (s : State) (k : Nat) (c : CellStat) : XWord :=
  if cellRms s k then BitVec.ofNat 16 (rmsWord (cellExt s k) c) else BitVec.ofInt 16 (meanWord (cellExt s k) c)

/-- A cell with everything but its counters cleared. -/
def cellEmpty (c : Cell) (part : Bool) : Cell :=
  { c with sum := 0, sq := 0, count := 0, min := 0, max := 0, flags := 0, ptick := none, first := none, last := 0, part := part }

/-- A cell closes: its snapshot is sent and it restarts. -/
def cellClose (s : State) (k : Nat) : State :=
  let c := cellOf s k
  let fl := c.flags ||| flagIf c.part flPart ||| flagIf (c.count = 0) flEmpty ||| flagIf (maxCount ≤ c.count) flFull
  let st := { cellStat c with flags := fl }
  let st := { st with value := if c.count = 0 then 0 else statWord s k st }
  let clean := match c.first with
    | some a => if fl &&& flMark = 0 then ((a, c.last) :: c.clean).take 64 else c.clean
    | none => c.clean
  let full := c.fullNoted && fl &&& flFull != 0
  let s' := setCell s k { cellEmpty c false with closed := some s.epoch, clean := clean, snap := st, fullNoted := full }
  let s' := { s' with chn := { s'.chn with snaps := satInc 0xFFFFFFFF s'.chn.snaps, empty := if c.count = 0 then satInc 0xFFFFFFFF s'.chn.empty else s'.chn.empty } }
  arrive s' k st.value c.ptick (.churn c.count fl c.min c.max)

/-- A cell due at the tick that began this epoch, and not closed yet. -/
def cellDue (s : State) (k : Nat) : Bool :=
  cellEnabled s k && (cellOf s k).closed != some s.epoch
    && (match cellSnapMs s k with | some p => 0 < p && s.epoch % p = 0 | none => false)

/-- The cells due, in ascending number. -/
def cellsDue (s : State) : List Nat := (List.range 158).filter (cellDue s)

/-- A snapshot tick. -/
def snapshotTick (s : State) : State :=
  let l := cellsDue s
  let s := l.foldl cellClose s
  { s with chn := { s.chn with due := l.length } }

/-- SNAPSHOT. -/
def execSnapshot (s : State) : Host.Outcome State Fault Refusal := .next (if sensing s then snapshotTick s else s)

/-- A restart of one cell: a period that is due closes first, and the new one then carries no PART (R323, R331). -/
def cellRestart (s : State) (k : Nat) : State :=
  if cellDue s k then cellClose s k
  else setCell s k (cellEmpty (cellOf s k) true)

/-- Every cell restarts, as at the entry to QUIET and at the return. -/
def cellsRestart (s : State) : State :=
  { s with chn := { s.chn with cells := (List.range 158).foldl (fun t k => tset t k (cellEmpty (tget {} t k) true)) s.chn.cells } }

/-- What identifies a cell's source (R323): a change of it restarts the cell. -/
def cellSource (s : State) (k : Nat) : List String :=
  if k < 96 then [chanMode s k, cfgWord s (chanObj k) "RRANGE", cfgWord s (chanObj k) "FAST"]
  else if k < 128 then
    [fiAcq s (k - 96), cfgWord s (fiObj (k - 96)) "ALIGN", if fiRouted s (k - 96) then "on" else "off"]
  else []

/-- A cell after a change of the configuration from that of `old`: a changed source or SNAP restarts it.  The period
that ends is closed under the old configuration where it is due at this boundary. -/
def cellAfter (old s : State) (k : Nat) : State :=
  let src := cellSource old k != cellSource s k
  if !src && cellSnapMs old k = cellSnapMs s k then s
  else if cellDue { old with epoch := s.epoch, chn := s.chn } k then
    let s' := cellClose { s with cfg := old.cfg } k
    let s' := { s' with cfg := s.cfg }
    if src then s' else setCell s' k { cellOf s' k with part := true }
  else setCell s k (cellEmpty (cellOf s k) true)

/-- Every cell after a change of the configuration. -/
def cellsAfter (old s : State) : State := (List.range 128).foldl (cellAfter old) s

/-! ### Marks (R326, R333) -/

/-- A mark's interval, open to the right while the mark stands, meets the ticks from `a` to `b`. -/
def markMeets (start : Nat) (stop : Option Nat) (a b : Nat) : Bool :=
  start ≤ b && (match stop with | some e => a < e | none => true)

/-- A mark report reaches one cell. -/
def cellMark (start : Nat) (stop : Option Nat) (c : Cell) : Cell :=
  let now := match c.first with | some a => markMeets start stop a c.last | none => false
  let late := c.clean.any fun p => markMeets start stop p.1 p.2
  { c with flags := c.flags ||| flagIf now flMark ||| flagIf late flLate, clean := if late then c.clean.filter fun p => !markMeets start stop p.1 p.2 else c.clean }

/-- The cells that marks concern: those of the FC, the LC and the power cells; IC windows under a mark never reach
Churn (Table PWR-7, R296). -/
def markCell (k : Nat) : Bool := 96 ≤ k && k < 145

/-- A mark report reaches Churn, in ticks of monotonic time. -/
def churnMark (s : State) (start : Nat) (stop : Option Nat) : State :=
  { s with chn := { s.chn with cells := s.chn.cells.map fun p => if markCell p.1 then (p.1, cellMark start stop p.2) else p } }

/-- MARK_REPORT. -/
def execMarkReport (kind : MarkKind) (start : Nat) (stop : Option Nat) (s : State) : Host.Outcome State Fault Refusal :=
  match kind with
  | .sag | .swell | .trans | .freq => .next (if sensing s then churnMark s start stop else s)

/-! ### Peeks and the CHURN block (R322, R337, R338) -/

def peekLatch (s : State) (k : Nat) : State :=
  let c := cellOf s k
  setCell s k { c with peek := { cellStat c with flags := c.flags ||| flagIf c.part flPart ||| flagIf (c.count = 0) flEmpty } }

/-- PEEK_LATCH. -/
def execPeekLatch (k : Fin 160) (s : State) : Host.Outcome State Fault Refusal :=
  .next (if coreRuns s then peekLatch s k else s)

/-- The discards of a cell since reset. -/
def cellDiscards (c : Cell) : List Nat := sinceReset 0xFFFFFFFF [c.dUnset, c.dRange, c.dSat, c.dOver, c.dLost, c.dMarked] c.past

/-- CHURN_CLR. -/
def execChurnClr (v : Word) (s : State) : Host.Outcome State Fault Refusal :=
  .next (if v.getLsbD 0 then
      { s with chn := { s.chn with snaps := 0, empty := 0, cells := s.chn.cells.map fun p => (p.1, { p.2 with past := cellDiscards p.2, dUnset := 0, dRange := 0, dSat := 0, dOver := 0, dLost := 0, dMarked := 0 }) } }
    else s)

/-- A register made of fields: lowest bit, width and value; a value that does not fit stands at its largest. -/
def fieldWord : List (Nat × Nat × Nat) → Word
  | [] => 0
  | (lo, w, v) :: l => BitVec.ofNat 32 ((min v (2 ^ w - 1)) * 2 ^ lo) ||| fieldWord l

def bit (lo : Nat) (b : Bool) : Nat × Nat × Nat := (lo, 1, if b then 1 else 0)

/-- A register that holds a signed value in its low `w` bits. -/
def signedField (w : Nat) (v : Int) : Nat := (v % (2 ^ w : Nat)).toNat

/-- The registers of one cell (Table CHN-10). -/
def cellReg (s : State) (k r : Nat) : Option Word :=
  let c := cellOf s k
  let p := c.peek
  if r = 0x00 then some (fieldWord [(0, 16, (cellSnapMs s k).getD 0), bit 16 (srcSigned k), bit 17 (cellExt s k), bit 18 (cellRms s k), bit 19 (cfgIs s (cellObj k) "SATPOL" "DISCARD"), bit 20 (cellOwner s k).isSome, bit 31 (cellEnabled s k)])
  else if r = 0x04 then some (fieldWord [(0, 24, c.count)])
  else if r = 0x08 then some (BitVec.ofInt 32 p.sum)
  else if r = 0x0C then some (BitVec.ofInt 32 (p.sum / 4294967296))
  else if r = 0x10 then some (BitVec.ofNat 32 p.sq)
  else if r = 0x14 then some (BitVec.ofNat 32 (p.sq / 4294967296))
  else if r = 0x18 then some (fieldWord [(0, 16, signedField 16 p.min), (16, 16, signedField 16 p.max)])
  else if r = 0x1C then some (fieldWord [(0, 11, p.flags.toNat)])
  else if r = 0x20 then some (fieldWord [(0, 16, c.snap.value.toNat)])
  else if r = 0x24 then some (fieldWord [(0, 16, signedField 16 c.snap.min), (16, 16, signedField 16 c.snap.max)])
  else if r = 0x28 then some (fieldWord [(0, 24, c.snap.count)])
  else if r = 0x2C then some (fieldWord [(0, 11, c.snap.flags.toNat)])
  else if r = 0x30 then some (fieldWord [(0, 16, c.dUnset), (16, 16, c.dRange)])
  else if r = 0x34 then some (fieldWord [(0, 16, c.dSat), (16, 16, c.dOver)])
  else if r = 0x38 then some (fieldWord [(0, 16, c.dLost), (16, 16, c.dMarked)])
  else none

/-- The CHURN block. -/
def churnReg (s : State) (off : Nat) : Option Word :=
  if off < 0x2800 then cellReg s (off / 64) (off % 64)
  else if off = 0x3000 then some (fieldWord [(0, 8, s.chn.due), (8, 8, ((List.range 158).filter (cellEnabled s)).length)])
  else if off = 0x3004 then some (BitVec.ofNat 32 s.chn.snaps)
  else if off = 0x3008 then some (BitVec.ofNat 32 s.chn.empty)
  else if off = 0x300C then some 0
  else none

/-! ### The attributes of a cell (R317, R336) -/

def internalSource : List String := ["MODTEMP", "AUXI", "V24", "VBULK", "VBAT", "V24LOAD", "LINETEMP", "CORETEMP", "V5",
  "V3", "PUMPPOS", "PUMPNEG", "REFDEV", "NONE", "NONE"]

def cellSourceName (k : Nat) : String :=
  if k < 96 then objName (chanObj k) else if k < 128 then objName (fiObj (k - 96)) else if k = 128 then "LV"
  else if k < 137 then "LI" ++ natStr (k - 129) else if k < 145 then "LF" ++ natStr (k - 137)
  else internalSource.getD (k - 145) "NONE"

/-- The scale of a cell (Tables CHN-3 and CHN-6): its unit, and one word step in 10^-12 of that unit. -/
def cellScale (s : State) (k : Nat) : String × Int :=
  if k < 96 then
    let m := chanMode s k
    let r := cfgWord s (chanObj k) "RRANGE"
    if m = "V10IN" || m = "V10OUT" then ("V", 160000000)
    else if m = "NTC10K" || m = "NTC20K" then ("V", 40000000)
    else if m = "PT1000" then ("ohm", 160000000000)
    else if m = "RES" then ("ohm", if r = "LOW" then 40000000000 else if r = "MID" then 400000000000 else 4000000000000)
    else ("", 1000000000000)
  else if k < 128 then
    let left := cfgIs s (fiObj (k - 96)) "ALIGN" "LEFT"
    if k < 104 && k % 2 = 0 then ("mV", if left then 7812500000 else 125000000000)
    else if k < 104 then ("V", if left then 937500000 else 15000000000)
    else ("V", if left then 156250000 else 2500000000)
  else if k = 128 then ("V", 15000000000)
  else if k < 137 then ("A", 250000000)
  else if k < 145 then ("W", 61440000000)
  else if k = 145 || k = 151 || k = 152 then ("C", 10000000000)
  else if k = 146 then ("mA", 1000000000000)
  else if k = 148 then ("V", 10000000000)
  else if k = 150 then ("W", 1000000000)
  else if k = 157 then ("ppm", 1000000000000)
  else ("V", 1000000000)

/-- A value in 10^-12 of a unit, with up to six decimals, truncated toward zero. -/
def picoStr (v : Int) : String :=
  let m := v.natAbs / 1000000
  (if v < 0 && m != 0 then "-" else "") ++ natStr (m / 1000000) ++ "." ++ padStr 6 (m % 1000000)

/-- The pull-up of an NTC mode in ohm. -/
def pullUp (m : String) : Nat := if m = "NTC20K" then 20000 else 10000

/-- A node voltage in 10^-12 V as a resistance (Table CHN-6); `-` at or above 2.500 V. -/
def ntcOhm (m : String) (v : Int) : String :=
  if 2500000000000 ≤ v then "-" else picoStr ((pullUp m : Int) * v * 1000000000000 / (2500000000000 - v)) ++ "ohm"

/-- A statistic of the mean kind (MEAN, MIN, MAX) given as a fraction of word steps. -/
def statStr (s : State) (k : Nat) (num : Int) (den : Nat) : String :=
  let sc := cellScale s k
  let v := roundDiv (num * sc.2) den
  let m := if k < 96 then chanMode s k else ""
  if m = "NTC10K" || m = "NTC20K" then ntcOhm m v else picoStr v ++ sc.1

/-- The root of a fraction of squared word steps, in 10^-12 of the unit. -/
def rootPico (num den : Nat) (step : Nat) : Nat := if den = 0 then 0 else isqrt (num * step * step / den)

/-- Twenty-bit steps per word step. -/
def extDiv (s : State) (k : Nat) : Nat := if cellExt s k then 16 else 1

/-- The flags as a code, bit by bit as CELL_FLAGS numbers them. -/
def flagsStr (f : BitVec 11) : String := codeStr f.toNat

def statMean (s : State) (k : Nat) (c : CellStat) : String := statStr s k c.sum (extDiv s k * c.count)
def statRms (s : State) (k : Nat) (c : CellStat) : String :=
  let sc := cellScale s k
  let e := extDiv s k
  picoStr (rootPico c.sq (c.count * e * e) sc.2.natAbs) ++ sc.1
def statStdev (s : State) (k : Nat) (c : CellStat) : String :=
  let sc := cellScale s k
  let e := extDiv s k
  let v := ((c.sq * c.count : Nat) : Int) - c.sum * c.sum
  picoStr (rootPico v.toNat (c.count * c.count * e * e) sc.2.natAbs) ++ sc.1

/-- LAST and PEEK as lists (R712); `-` for a cell without words. -/
def lastStr (s : State) (k : Nat) : String :=
  let c := (cellOf s k).snap
  let v := if c.count = 0 then ["-", "-", "-", "-", "-"] else [statStr s k (wordVal (srcSigned k) c.value) 1, statMean s k c, statRms s k c, statStr s k c.min 1, statStr s k c.max 1]
  joinStr "," (v ++ [natStr c.count, flagsStr c.flags])

def peekStr (s : State) (k : Nat) : String :=
  let c := cellStat (cellOf s k)
  let v := if c.count = 0 then ["-", "-", "-", "-", "-"] else [statMean s k c, statRms s k c, statStdev s k c, statStr s k c.min 1, statStr s k c.max 1]
  joinStr "," (v ++ [natStr c.count, flagsStr (c.flags ||| flagIf (cellOf s k).part flPart ||| flagIf (c.count = 0) flEmpty)])

/-- The unit that a cell's UNIT reads (Table CHN-6). -/
def cellUnit (s : State) (k : Nat) : String :=
  let m := if k < 96 then chanMode s k else ""
  let u := if m = "NTC10K" || m = "NTC20K" then "ohm" else (cellScale s k).1
  if u = "" then "-" else u

def ownerStr : Option Obj → String
  | some o => objName o
  | none => "NONE"

/-- The read-only attributes of a cell. -/
def cellAttr (s : State) (k : Nat) (a : String) : String :=
  let c := cellOf s k
  if a = "SOURCE" then cellSourceName k
  else if a = "UNIT" then cellUnit s k
  else if a = "LAST" then lastStr s k
  else if a = "PEEK" then peekStr s k
  else if a = "DISCARDS" then joinStr "," ((cellDiscards c).map natStr)
  else ownerStr (cellOwner s k)

end Sys2Proof.Machine
end

