-- ==== Sys2Proof/Machine/Scan.lean ====
section
/-!
DEFINITION. The windows of the integrating converter (R276 to R279, R286, R288, R294, R298 to R301), and the verdicts
on sensors (R293).
-/
namespace Sys2Proof.Machine
open Sys2Proof

/-! ### Channels -/

def chanSt (s : State) (u : Nat) : ChanSt := tget {} s.cnv.chans u
def setChan (s : State) (u : Nat) (c : ChanSt) : State := { s with cnv := { s.cnv with chans := tset s.cnv.chans u c } }

def verdictName (n : Nat) : String :=
  if n = 0 then "OK" else if n = 1 then "OPEN" else if n = 2 then "SHORT" else if n = 3 then "OVERLOAD" else "UNCHECKED"

/-- A test of Table CNV-5 gives verdict `v`: the channel's verdict changes after three consecutive tests agree (R293). -/
def verdictTest (s : State) (u v : Nat) : State :=
  let c := chanSt s u
  let n := if c.cand = v then c.agree + 1 else 1
  let c := { c with cand := v, agree := min n 3 }
  if 3 ≤ n && c.verdict != v then
    let s := setChan s u { c with verdict := v }
    if v = 0 then notify s "CNV.SENSOR-OK" (some (chanObj u))
    else notify s "CNV.BROKEN" (some (chanObj u)) ("VERDICT=" ++ verdictName v)
  else setChan s u c

/-- The verdict is OPEN, SHORT or OVERLOAD: results carry OUT. -/
def verdictBad (s : State) (u : Nat) : Bool :=
  let v := (chanSt s u).verdict
  v = 1 || v = 2 || v = 3

/-! ### The period and the scan (R276, R277, R292) -/

/-- The barrier link works. -/
def linkOk (s : State) : Bool := s.pwr.linkUp && !s.drv.lost

/-- The revision of the line die, 0xFF while the link is down (R668). -/
def lrevNow (s : State) : Byte := if linkOk s then s.ana.lrev else 0xFF

/-- A period is known. -/
def periodKnown (s : State) : Bool := s.pwr.mains && linkOk s && s.cnv.crossSeen

/-- A channel in the scan. -/
def scanned (s : State) (u : Nat) : Bool := icMode (chanMode s u) && cfgOn s (chanObj u) "SCAN"

def scanList (s : State) : List Nat := (List.range 96).filter (scanned s)

/-- The channel that is next: the lowest from `nextCh` on, else the lowest of all. -/
def nextScan (s : State) : Option Nat :=
  let l := scanList s
  match l.find? fun u => s.cnv.nextCh ≤ u with
  | some u => some u
  | none => l.head?

/-- The scan runs: the first calibration has completed, and the reference has settled since it was enabled (R292,
R301). -/
def scanReady (s : State) : Bool := s.cnv.calFirst && (s.cnv.ref = .ok || s.cnv.ref = .fault)

/-- The DIAG interval of a V10IN channel; none where it is off. -/
def diagOf (s : State) (u : Nat) : Option Nat :=
  if chanMode s u = "V10IN" then (cfgNano s (chanObj u) "DIAG").map fun v => (v / 1000000000).toNat else none

/-- Calibration windows that have ended and wait for their health records. -/
def calHeld (s : State) : Nat := (s.cnv.held.filter fun r => r.w.calib).length

/-- A window begins at the tick `t`; nothing where no window is wanted. -/
def winStart (s : State) (sync : Bool) (t : Nat) : State :=
  let c := s.cnv
  let unset := c.ref != .ok
  if c.win.isSome || !sensing s then s
  else if c.phase = 3 then
    if c.calWins + calHeld s < 10 then { s with cnv := { c with win := some ⟨0, t, sync, 0, false, unset, true, false, ""⟩ } } else s
  else if !scanReady s || s.ana.mode = .bist then s
  else match nextScan s with
    | none => s
    | some u =>
      let ch := chanSt s u
      let probe := match diagOf s u with | some n => n ≤ ch.wins + 1 | none => false
      let s := setChan s u { ch with wins := if probe then 0 else ch.wins + 1 }
      { s with cnv := { s.cnv with win := some ⟨u, t, sync, 0, probe, unset, false, false, chanMode s u⟩, nextCh := u + 1, probeCh := if probe then u else s.cnv.probeCh, probeCode := if probe then Config.dacCode 10 5000 else s.cnv.probeCode } }

/-- Two half-open intervals meet (R278, R298). -/
def overlaps (a b c d : Nat) : Bool := a < d && c < b

/-- A window is overlapped by a disturbance mark. -/
def winMarked (s : State) (start stop : Nat) : Bool :=
  (s.pwr.pastMarks.any fun m => overlaps start stop m.1 m.2)
    || ([s.pwr.sag, s.pwr.swell, s.pwr.trans, s.pwr.freqM].any fun m => match m with
        | some m => m.start < stop
        | none => false)

/-- The window in progress ends at the tick `t` with a result; a calibration window counts once its health records have come
without a mark (R288). -/
def winEnd (s : State) (raw : Nat) (nosync : Bool) (t : Nat) : State :=
  match s.cnv.win with
  | none => s
  | some w =>
    let c := { s.cnv with win := none, len := t - w.start, lenSync := w.sync }
    if w.void then { s with cnv := { c with discMode := satInc 65535 c.discMode } }
    else { s with cnv := { c with held := c.held ++ [⟨w, t, raw, nosync⟩] } }

/-- SENSE begins and ends its windows 1.2 µs after a crossing: the first whole tick after it (R276). -/
def crossTick (s : State) : Nat := s.now + 10

/-- A zero crossing reaches the SENSE island: a synchronised window counts it, and ends at the second; the next one
begins at the same crossing. -/
def icCrossing (s : State) (raw : Nat) : State :=
  if !sensing s || !linkOk s then s
  else
    let s := { s with cnv := { s.cnv with crossSeen := true } }
    match s.cnv.win with
    | some w =>
      if !w.sync then s
      else if 1 ≤ w.crossings then
        let s := winEnd s raw false (crossTick s)
        winStart s (periodKnown s) (crossTick s)
      else { s with cnv := { s.cnv with win := some { w with crossings := w.crossings + 1 } } }
    | none => if periodKnown s then winStart s true (crossTick s) else s

/-- A window begins without a period where none is known and none is in progress. -/
def icFree (s : State) : State := if s.cnv.win.isNone && !periodKnown s then winStart s false s.now else s

/-- A synchronised window ends for want of its second crossing, when mains becomes absent or the link is lost (R276):
its result is a free value and carries NOSYNC; free windows follow. -/
def icCut (s : State) : State :=
  match s.cnv.win with
  | some w =>
    if w.sync && !periodKnown s then
      let v := (freeBits 20 s).toNat
      icFree (winEnd (drawn s) v true s.now)
    else s
  | none => icFree s

/-- IC_FREE_WINDOW_END: 20 ms of the SENSE clock. -/
def execIcFreeWindowEnd (raw : BitVec 20) (s : State) : Host.Outcome State Fault Refusal :=
  .next (match s.cnv.win with
    | some w => if w.sync || !sensing s then s else atTick s (some (w.start + 20 * tickMs)) fun s => icFree (winEnd s raw.toNat true s.now)
    | none => s)

/-! ### Results (R278, R279, R293, R295) -/

/-- The test of a resistive window. -/
def resistiveVerdict (raw : Nat) : Nat := if raw = 0xFFFFF then 1 else if raw / 16 < 0x028F then 2 else 0

/-- The test that a window's result makes (Table CNV-5); none under a mode that the channel has left. -/
def windowTest (s : State) (u raw : Nat) (m : String) : State :=
  if chanMode s u != m then s
  else if ["NTC10K", "NTC20K", "PT1000", "RES"].contains m then verdictTest s u (resistiveVerdict raw)
  else if m = "V10OUT" then
    verdictTest s u (if 50000 < ((raw : Int) - 100 * (chanSt s u).out).natAbs then 3 else 0)
  else s

/-- A probe window's result: it reaches no cell. -/
def probeResult (s : State) (u raw : Nat) : State :=
  let s := { s with cnv := { s.cnv with probes := satInc 65535 s.cnv.probes } }
  match (chanSt s u).kept with
  | none => s
  | some k =>
    if 100000 < ((raw : Int) - k).natAbs then
      verdictTest { s with cnv := { s.cnv with found := satInc 65535 s.cnv.found } } u 1
    else verdictTest s u 0

/-- A held result is released to Churn, or discarded for a mark. -/
def resRelease (s : State) (r : IcRes) (late : Bool) : State :=
  let hit := winMarked s r.w.start r.stop
  if r.w.calib then (if hit then s else { s with cnv := { s.cnv with calWins := s.cnv.calWins + 1 } })
  else if hit then { s with cnv := { s.cnv with discMark := satInc 65535 s.cnv.discMark } }
  else if r.w.probe then (if chanMode s r.w.ch = r.w.mode then probeResult s r.w.ch r.raw else s)
  else
    let u := r.w.ch
    let s := if r.w.unset || chanMode s u != r.w.mode then s else setChan s u { chanSt s u with kept := some r.raw }
    let s := windowTest s u r.raw r.w.mode
    let f : WFlags := ⟨false, r.w.unset, r.raw = 0xFFFFF, r.nosync || late, verdictBad s u, false⟩
    churnWordIn r.w.mode s u (BitVec.ofNat 16 (r.raw / 16)) (r.raw % 16) f (r.stop - s.rel)

/-- The oldest held result leaves. -/
def heldRelease (s : State) (late : Bool) : State :=
  match s.cnv.held with
  | [] => s
  | r :: l => resRelease { s with cnv := { s.cnv with held := l } } r late

/-- IC_RESULT_RELEASE: the mains health records covering the oldest window have arrived. -/
def execIcResultRelease (s : State) : Host.Outcome State Fault Refusal :=
  .next (if sensing s then heldRelease s false else s)

/-- IC_RELEASE_TIMEOUT: 2 ms after the window ended the result carries NOSYNC. -/
def execIcReleaseTimeout (s : State) : Host.Outcome State Fault Refusal :=
  .next (match s.cnv.held with
    | r :: _ => if sensing s then atTick s (some (r.stop + 2 * tickMs)) fun s => heldRelease s true else s
    | [] => s)

/-- IC_CLR. -/
def execIcClr (v : Word) (s : State) : Host.Outcome State Fault Refusal :=
  .next (if v.getLsbD 0 then { s with cnv := { s.cnv with discMark := 0, discMode := 0 } } else s)

/-- PROBE_CLR. -/
def execProbeClr (v : Word) (s : State) : Host.Outcome State Fault Refusal :=
  .next (if v.getLsbD 0 then { s with cnv := { s.cnv with probes := 0, found := 0 } } else s)

end Sys2Proof.Machine
end

