-- ==== Sys2Proof/Machine/Vilpi.lean ====
section
/-!
DEFINITION. The Vilpi sessions (*The Vilpi command language*): the checks before acceptance that are common to every
verb, slots and tags, accept and final lines, macros as sessions of their own, the bytes of the UARTs and the timers
of a line.
-/
namespace Sys2Proof.Machine
open Sys2Proof

/-! ### Slots and tags (R141, R143, R144) -/

def outsOf (s : State) (k : Sess) : List Out := s.vil.outs.filter fun o => o.ses = k && !o.orphan

def reservedSlots : Sess → Nat
  | .link0 => 32 | .link1 => 16 | _ => 0

/-- Whether the next command of a session would take a reserved slot. -/
def slotReserved (s : State) (k : Sess) : Bool :=
  ((outsOf s k).filter fun o => !o.shared).length < reservedSlots k

/-- Whether a slot is free for the session. -/
def slotFree? (s : State) (k : Sess) : Bool :=
  slotReserved s k || (s.vil.outs.filter fun o => o.shared).length < 464

/-- A final line freed the tag in this epoch, or in the epoch in which the terminator of the line being checked arrived;
the line of a command without bytes ended in the epoch before (R141, R167). -/
def freedNow (s : State) (k : Sess) (tag : Option Nat) : Bool :=
  (getSes s k).freed.any fun f => f.1 = tag && (f.2 = s.epoch || f.2 = (getSes s k).term.getD (s.epoch - 1))

/-- A tag that is outstanding, or not free again yet. -/
def tagBusy (s : State) (k : Sess) (tag : Option Nat) : Bool :=
  ((outsOf s k).any fun o => o.tag = tag) || (tag != none && freedNow s k tag)

def findOut (s : State) (id : Nat) : Option Out := s.vil.outs.find? fun o => o.id = id

def setWork (s : State) (id : Nat) (w : Work) : State :=
  { s with vil := { s.vil with outs := s.vil.outs.map fun o => if o.id = id then { o with work := w } else o } }

/-! ### Verbs and rights (R155, R171, R236 to R238) -/

def verbRow (v : String) : Option (String × Nat × Nat) := verbTable.find? fun r => r.1 = v

def verbLevel (v : String) : Nat := match verbRow v with | some r => r.2.1 | none => 1

/-- The verbs open to a session without a role (Table VIL-5, step 5). -/
def publicVerb (v : String) : Bool := ["HELLO", "AUTH", "VERSION", "STATUS", "HELP"].contains v

/-- The text of the lines of the ROM start macro (Table VRB-3). -/
def startMacro : List String := ["WAIT 500ms", "DRAW FULL FILL=0", "BLINK E127 PERIOD=2s LEVELS=0,3"]

def macroSt (s : State) (m : Nat) : MacroSt := tget {} s.vil.macros m

def setMacro (s : State) (m : Nat) (x : MacroSt) : State :=
  { s with vil := { s.vil with macros := tset s.vil.macros m x } }

/-- The lines of a macro; M63 holds the start macro until it is edited (R218). -/
def macroText (s : State) (m : Nat) : List String :=
  (macroSt s m).lines.getD (if m = 63 then startMacro else [])

/-- The role a macro runs with: as recorded, MAKER counting as INSTALLER (R214, R218). -/
def macroRole (s : State) (m : Nat) : Option Role :=
  match (macroSt s m).runRole with
  | some .maker => some .installer
  | some r => some r
  | none => if m = 63 then some .operator else none

/-- The macro that a tag of the MACRO session belongs to (R214). -/
def tagMacro (tag : Option Nat) : Nat := (tag.getD 1000) / 1000 - 1

/-- The role of a command's sender. -/
def roleFor (s : State) (q : Hdr) : Option Role :=
  if q.ses = .mac then macroRole s (tagMacro q.tag) else (getSes s q.ses).role

/-! ### Refusal and acceptance (R140, R142) -/

/-- A command as the common checks see it: the first failing check of each group of steps of Table VIL-5. -/
structure CmdSpec where
  verb : String
  /-- The command as a line, for the audit journal (Table SEC-4). -/
  body : String
  /-- Steps 6 and 7. -/
  p67 : Option String := none
  /-- Step 8: the lowest role that suffices. -/
  need : Nat := 1
  p9 : Option String := none
  p10 : Option String := none
  /-- The audit record that the command writes (Table SEC-3). -/
  audit : Option Nat := none
  /-- The further audit records of the command: one for each further object of a SET, and for an AUDITACK (R250). -/
  auditMore : List Nat := []
  /-- Its audit records are written with the change and not at acceptance (R253). -/
  auditLate : Bool := false
  /-- Never refused for a full audit journal (R255). -/
  auditFree : Bool := false
  /-- Changes state: refused in REPLAY (Table ANA-6). -/
  changes : Bool := true
  /-- Heavy: refused in BIST (Table ANA-6). -/
  heavy : Bool := false

/-- The word of a FAIL body after `FAIL`. -/
def failCode (body : String) : String := String.ofList (spanChars (· != ' ') body.toList).1

def auditTag (t : Option Nat) : Nat := t.getD 0

/-- The row of the code with which a FAIL body ends a command; 0 for success (Table SEC-4). -/
def failNum (body : String) : Nat :=
  if failCode body = "FAIL" then failRow (failCode (String.ofList (body.toList.drop 5))) else 0

/-- The audit records of a command that wait for its change, with their result (R253). -/
def auditOut (s : State) (o : Out) (result : Nat) : State :=
  let s := o.audits.foldl (fun s k => auditAdd s k (sesIdx o.ses) (roleNum o.role) (auditTag o.tag) result (sReach s o.ses) o.body) s
  { s with vil := { s.vil with outs := s.vil.outs.map fun p => if p.id = o.id then { p with audits := [] } else p } }

/-- An accepted command ends: its final line, its tag free again and its slot too.  Records that still wait are written with
the failure, but that of a LOCK, which is written for the lock taking effect alone (Table SEC-3). -/
def finishOut (s : State) (o : Out) (body : String) : State :=
  let s := if failNum body = 0 then s else auditOut s { o with audits := o.audits.filter (· != 9) } (failNum body)
  let s := { s with vil := { s.vil with outs := s.vil.outs.filter fun p => p.id != o.id } }
  if o.orphan then s
  else
    let s := sendLine s o.ses o.tag o.framed 1 body
    modSes s o.ses fun x => { x with freed := (o.tag, s.epoch) :: x.freed, active := s.now }

def runningMacros (s : State) : Nat := (s.vil.macros.filter fun p => p.2.running).length

/-- A macro whose run is pending starts, where fewer than eight run (R215): the lowest number first. -/
def startPending (s : State) : State :=
  match s.vil.macros.find? fun p => p.2.pend && !p.2.running with
  | some (m, x) =>
    if runningMacros s < 8 then
      setMacro s m { x with running := true, pend := false, line := 1, awaiting := false, runs := satInc 65535 x.runs, cmd := x.cmdPend, cmdPend := none }
    else s
  | none => s

/-- A macro's run ends with a final body for the MACRO RUN command that started it. -/
def macroEnd (s : State) (m : Nat) (body : String) : State :=
  let x := macroSt s m
  let cmd := x.cmd
  let s := setMacro s m { x with running := false, awaiting := false, line := 1, cmd := none }
  let s := match cmd.bind (findOut s) with
    | some o => finishOut s o body
    | none => s
  startPending s

/-- The final line, or the refusal, of a macro's line (R214). -/
def macroLineDone (s : State) (m : Nat) (body : String) : State :=
  let x := macroSt s m
  if !x.running then s
  else
    let failed := failCode body = "FAIL"
    if failed && cfgIs s ⟨.macroObj, m⟩ "ONFAIL" "STOP" then macroEnd s m (body ++ " LINE=" ++ natStr x.line)
    else if (macroText s m).length ≤ x.line then macroEnd s m "DONE"
    else setMacro s m { x with line := x.line + 1, awaiting := false }

/-- A refusal: one FAIL line and no accept line (R140); a ROLE or WORLD refusal of a session that holds a role is
audited (Table SEC-3). -/
def refuse (s : State) (q : Hdr) (verb detail : String) (body : String) : State :=
  let s := sendLine s q.ses q.tag q.framed 0 ("FAIL " ++ detail)
  let code := failCode detail
  let role := roleFor s q
  let s := if (code = "ROLE" || code = "WORLD") && role != none then
      auditAdd s 14 (sesIdx q.ses) (roleNum role) (auditTag q.tag) (failRow code) (sReach s q.ses) body
    else s
  if q.ses = .mac && verb != "" then macroLineDone s (tagMacro q.tag) ("FAIL " ++ detail) else s

/-! ### Final lines (R140, R172) -/

/-- A command ends with its final line; a macro's line lets the macro go on. -/
def finish (s : State) (id : Nat) (body : String) : State :=
  match findOut s id with
  | none => s
  | some o =>
    let s := finishOut s o body
    if o.ses = .mac then macroLineDone s (tagMacro o.tag) body else s

/-- A MORE line of a command. -/
def more (s : State) (id : Nat) (body : String) : State :=
  match findOut s id with
  | none => s
  | some o => if o.orphan then s else sendLine s o.ses o.tag o.framed 1 ("MORE " ++ body)

/-- A command whose lines are due ends with them. -/
def settle (s : State) (id : Nat) : State :=
  match findOut s id with
  | none => s
  | some o => match o.work with
    | .reply e ms fin => if e ≤ s.epoch then finish (ms.foldl (fun s m => more s id m) s) id fin else s
    | _ => s

/-- The audit records that hold a place in the journal but are not written yet: held ones, and those of the commands accepted
before their change (R265). -/
def auditToCome (s : State) : Nat := s.sec.held.length + (s.vil.outs.map fun o => o.audits.length).foldl (· + ·) 0

/-- The audit conditions of step 9 for a command that writes a record of kinds 6 to 17 (R255 to R257). -/
def auditStep (s : State) (c : CmdSpec) : Option String :=
  match c.audit with
  | none => none
  | some k =>
    if k < 6 || 17 < k || !auditStop s then none
    else if s.tst.heldJournal then some "STORE"
    else if !jrnCanWrite s && 64 ≤ s.sec.held.length then some "TEMP"
    else if !c.auditFree && 8175 ≤ s.sec.audit.length + auditToCome s then some "NOSPACE AUDIT"
    else none

/-- What the mode allows (Table ANA-6), at step 10. -/
def modeStep (s : State) (c : CmdSpec) : Option String :=
  match s.ana.mode with
  | .start => if publicVerb c.verb then none else some "STATE START"
  | .replay => if c.changes then some "STATE REPLAY" else none
  | .bist => if c.heavy then some "STATE BIST" else none
  | _ => none

/-- The first check of Table VIL-5, from step 3, that a command fails. -/
def firstFail (s : State) (q : Hdr) (c : CmdSpec) : Option String :=
  let role := roleFor s q
  let deny := denyNeed s c.verb
  let need := max c.need (if c.need = 0 then 0 else deny)
  if tagBusy s q.ses q.tag || (q.tag = none && (getSes s q.ses).mode = .framed && c.verb != "HELLO") then
    some "TAG"
  else if (getSes s q.ses).level < verbLevel c.verb then some "VERB"
  else if role = none && !publicVerb c.verb then some "ROLE NEED=OPERATOR"
  else match c.p67 with
    | some e => some e
    | none =>
      if roleNum role < need then some ("ROLE NEED=" ++ roleName need)
      else match c.p9 with
        | some e => some e
        | none => match auditStep s c with
          | some e => some e
          | none => match modeStep s c with
            | some e => some e
            | none => match c.p10 with
              | some e => some e
              | none =>
                if 128 ≤ (outsOf s q.ses).length then some "BUSY TAGS"
                else if !slotFree? s q.ses then some "BUSY SLOTS" else none

/-- A line begun on a link or the bus wakes the device (R63, R166). -/
def wakeBy (s : State) (k : Sess) : State :=
  if s.ana.mode = .quiet then
    { s with pwr := { s.pwr with waking := some (if isBus k then .can else .link) } }
  else s

def isLink (k : Sess) : Bool := k = .link0 || k = .link1

/-- A line received on LINK0 or LINK1 starts the idle time afresh (R60). -/
def lineHeard (s : State) (k : Sess) (t : Nat) : State :=
  if isLink k then { s with pwr := { s.pwr with idleSince := max s.pwr.idleSince t } } else s

/-- Whether an untagged command is outstanding: the session reads no further line (R132). -/
def untaggedOut (s : State) (k : Sess) : Bool := (outsOf s k).any fun o => o.tag = none

/-- The sessions and the core die serve command lines. -/
def served (s : State) (k : Sess) : Bool :=
  (getSes s k).isOpen && coreRuns s && s.ana.mode != .off && !s.pwr.committed && s.pwr.xtal

/-- A command comes as a whole: it is checked now, unless its session reads no line.  In QUIET a link keeps it for the
return, and a frame of the bus wakes the device and is not received (R63, R166, R515); behind an untagged command it waits
(R132). -/
def lineIn (i : Instr) (q : Hdr) (s : State) (f : State → State) : State :=
  let keep (s : State) : State := { s with vil := { s.vil with kept := s.vil.kept ++ [(q.ses, i)] } }
  if !served s q.ses then s
  else if s.ana.mode = .quiet then
    (if isLink q.ses then keep (wakeBy s q.ses) else if isBus q.ses then wakeBy s q.ses else s)
  else if q.ses != .mac && untaggedOut s q.ses then keep s
  else f s

/-- The command as received, where it came as a line (Table SEC-4); no record shows a key (R246). -/
def saidBody (s : State) (q : Hdr) (c : CmdSpec) : String :=
  if c.verb = "KEY" then c.body else (getSes s q.ses).said.getD c.body

/-- A command is accepted: OK, its slot and number, the audit record; its work is set after its effect at acceptance. -/
def accept (s : State) (q : Hdr) (c : CmdSpec) : State :=
  let id := s.vil.nextId
  let role := roleFor s q
  let s := lineHeard s q.ses s.now
  let c := { c with body := saidBody s q c }
  let o : Out := { id := id, ses := q.ses, tag := q.tag, framed := q.framed, shared := !slotReserved s q.ses, verb := c.verb, role := role, epoch := s.epoch, body := c.body, audits := if c.auditLate then c.audit.toList ++ c.auditMore else [], work := .reply s.epoch [] "DONE" }
  let s := sendLine s q.ses q.tag q.framed 0 "OK"
  let s := modSes s q.ses fun x => { x with active := s.now }
  let outs := s.vil.outs ++ [o]
  let s := { s with vil := { s.vil with nextId := id + 1, outs := outs, peakSlots := max s.vil.peakSlots outs.length } }
  if c.auditLate then s
  else (c.audit.toList ++ c.auditMore).foldl (fun s k => auditAdd s k (sesIdx q.ses) (roleNum role) (auditTag q.tag) 0 (sReach s q.ses) c.body) s

/-- A command goes through the checks; accepted, it sends OK, takes a slot and the work that `f` gives it. -/
def submit (s : State) (q : Hdr) (c : CmdSpec) (f : State → Nat → State × Work) : State :=
  if !served s q.ses then s
  else match firstFail s q c with
    | some e => refuse s q c.verb e (saidBody s q c)
    | none =>
      let p := f (accept s q c) s.vil.nextId
      settle (setWork p.1 s.vil.nextId p.2) s.vil.nextId

/-! ### Results (R172) -/

/-- A command ends at once: every line and the final line in the epoch of acceptance. -/
def doneNow (fin : String) (s : State) : Work := .reply s.epoch [] fin

/-- The pairs of a result laid out on MORE lines of whole pairs and a final line, each at most `width` characters
(R172). -/
def layPairs (width : Nat) : List String → String → List String × String
  | [], cur => ([], cur)
  | p :: l, cur =>
    let next := if cur = "" then p else cur ++ " " ++ p
    if width < next.length && cur != "" then
      let r := layPairs width l p
      (cur :: r.1, r.2)
    else layPairs width l next

/-- The room for the pairs of one of a command's lines: 240 characters less the tag, the word and the frame (R123). -/
def lineRoom (s : State) (q : Hdr) : Nat :=
  235 - (match q.tag with | some t => (natStr t).length + 1 | none => 0)
    - (if q.framed || (getSes s q.ses).mode = .framed then 6 else 0)

/-- A result of pairs in lines of a width: the MORE lines and the final body. -/
def pairsResult (room : Nat) (ps : List String) : List String × String :=
  let r := layPairs room ps ""
  (r.1, if r.2 = "" then "DONE" else "DONE " ++ r.2)

/-! ### The ends of roles and sessions (R163, R164, R247) -/

/-- What a session's tunnel has not sent yet. -/
def tunWaits (s : State) (k : Sess) : List TxSeg :=
  match s.bus.tuns.find? fun p => p.1 + 2 = sesIdx k with
  | some (_, t) => t.tx
  | none => []

/-- The notices that R147 no longer permits leave the queue, uncounted, but one whose line has begun to leave (R164). -/
def purgeNotices (s : State) (k : Sess) : State :=
  let waits := tunWaits s k
  let gone (n : Notice) : Bool := !mayHear s k n.name n.obj && (!n.handed || waits.any fun g => !g.begun && g.notice = some n.seq)
  let out := ((getSes s k).nq.filter gone).map (·.seq)
  let s := modSes s k fun x => { x with nq := x.nq.filter fun n => !gone n }
  let drop (t : Tun) : Tun := { t with tx := t.tx.filter fun g => g.begun || !(g.notice.any out.contains) }
  { s with bus := { s.bus with tuns := s.bus.tuns.map fun p => (p.1, if p.1 + 2 = sesIdx k then drop p.2 else p.2) } }

/-- The keeper's entry for a session's role ends (R234). -/
def keeperEnds (s : State) (k : Sess) : State :=
  let close (x : KeeperRole) : KeeperRole := { x with ended := some (x.ended.getD s.epoch) }
  { s with sec := { s.sec with roles := s.sec.roles.map fun p => (p.1, if p.1 = sesIdx k then close p.2 else p.2) } }

/-- The keeper enters the role that it grants; the roles before it stay, ended, while commands accepted with them run on. -/
def keeperGrants (s : State) (k : Sess) (r : Role) : State :=
  let s := keeperEnds s k
  let busy := s.vil.outs.any (·.ses = k)
  { s with sec := { s.sec with roles := (s.sec.roles.filter fun p => p.1 != sesIdx k || busy) ++ [(sesIdx k, ⟨r, none⟩)] } }

/-- The role that a command was accepted with stands in the keeper's own table, or ended there no earlier than the command
was accepted (R164, R234). -/
def keeperAdmits (s : State) (k : Sess) (r : Option Role) (e : Nat) : Bool :=
  k = .mac || s.sec.roles.any fun p => p.1 = sesIdx k && some p.2.role = r && (match p.2.ended with | some t => decide (e ≤ t) | none => true)

/-- A session's role ends for a reason (R247): audit record, a purge of its queue, and the notice; a warm restart's notice
follows SYS.WORKER-RESTART (R25). -/
def roleEnd (s : State) (k : Sess) (reason : String) : State :=
  match (getSes s k).role with
  | none => s
  | some r =>
    let s := keeperEnds (modSes s k fun x => { x with role := none }) k
    let s := { s with sec := { s.sec with exported := tdel s.sec.exported (sesIdx k) } }
    let s := auditAdd s 5 (sesIdx k) (roleNum (some r)) 0 0 (sReach s k) ("ROLE-END " ++ reason)
    let s := purgeNotices s k
    let args := "SESSION=" ++ sesName k ++ " REASON=" ++ reason
    if reason = "RESTART" then notifyAt s s.epoch "SES.ROLE-END" none args else notify s "SES.ROLE-END" none args

/-- The inactivity limit of a role, in ticks; `none` where it is off (Table SEC-7). -/
def idleLimit (s : State) (r : Role) : Option Nat :=
  let a := match r with | .operator => "IDLEOP" | .installer => "IDLEINST" | .maker => "IDLEMAKER"
  (cfgNano s ⟨.sec, 0⟩ a).map fun v => (v / 125).toNat

/-- ROLE_INACTIVITY_EXPIRY: the test made at the last boundary, after its lines had been accepted (R247, R263). -/
def execRoleInactivityExpiry (k : Sess) (s : State) : Host.Outcome State Fault Refusal :=
  .next (match (getSes s k).role with
    | none => s
    | some r =>
      if !(outsOf s k).isEmpty || k = .mac then s
      else match idleLimit s r with
        | some n => if (getSes s k).active + n ≤ epochTick s s.epoch then roleEnd s k "INACTIVE" else s
        | none => s)

/-! ### Bytes and lines (R121 to R124, R132 to R136, R158) -/

def isBlank (c : Char) : Bool := c = ' ' || c.toNat = 9

/-- Whether a line is framed: its first character other than a space is `$` (R124). -/
def isFramedLine (l : List Char) : Bool :=
  match l.dropWhile isBlank with | '$' :: _ => true | _ => false

/-- Whether the end of a text stands inside a string. -/
def insideString : List Char → Bool → Bool
  | [], b => b
  | '\\' :: _ :: l, true => insideString l true
  | c :: l, b => insideString l (if c = '"' then !b else b)

/-- The line being received emptied. -/
def lineClear (x : Session) : Session := { x with rx := [], shown := [], rxStart := none, rxState := .ok }

def echoChars (s : State) (k : Sess) (l : List Nat) : State :=
  if echoOn s k then modSes s k fun x => { x with echo := x.echo ++ l } else s

/-- BS, space, BS for each echoed character removed (R134). -/
def eraseEcho (l : List Bool) : List Nat := (l.filter id).flatMap fun _ => [8, 32, 8]

def countLong (s : State) : State := { s with vil := { s.vil with errLong := satInc 255 s.vil.errLong } }

/-- The refusal of a line that never reaches the checks of a command; its tag is not read. -/
def refuseLine (s : State) (k : Sess) (framed : Bool) (detail : String) : State :=
  sendLine s k none framed 0 ("- FAIL " ++ detail)

/-- What a line begins with: a tag, digits that are no tag, or neither. -/
inductive LineTag where
  | tag (n : Nat) | bad | absent
  deriving DecidableEq, Repr

def lineTag : List Raw → LineTag
  | ⟨_, t⟩ :: _ =>
    match natOf t with
    | some n => if t.head? != some '0' && 1 ≤ n && n ≤ 65535 && t.length ≤ 5 then .tag n else .bad
    | none => .absent
  | [] => .absent

/-- The first token of a text, past the `$` of a frame. -/
def firstToken (l : List Char) : List Char := (l.dropWhile fun c => isBlank c || c = '$').takeWhile fun c => !isBlank c

/-- The refusal of a line whose terminator has not come: it carries the tag that can be read (Table VIL-4), and is followed
by no echo of the line (R134). -/
def refuseHeld (s : State) (k : Sess) (l : List Char) (detail : String) : State :=
  let framed := isFramedLine l || (getSes s k).mode = .framed
  match lineTag [⟨1, firstToken l⟩] with
  | .tag n => sendOut s k (some n) framed 0 ("FAIL " ++ detail) false
  | .absent => sendOut s k none framed 0 ("FAIL " ++ detail) false
  | .bad => sendOut s k none framed 0 ("- FAIL " ++ detail) false

/-- A text whose verb is HELLO. -/
def helloText (l : List Char) : Bool :=
  let w := firstToken l
  let rest := l.dropWhile isBlank
  let w := match lineTag [⟨1, w⟩] with | .absent => w | _ => firstToken (rest.drop w.length)
  upStr (String.ofList w) = "HELLO"

/-- A typed line that framed mode discards without reply (R137). -/
def typedDropped (s : State) (k : Sess) (l : List Char) : Bool :=
  (getSes s k).mode = .framed && !isFramedLine l && !helloText l

def countTyped (s : State) (k : Sess) : State := modSes s k fun x => { x with lostTyped := x.lostTyped + 1 }

/-- The line in progress is refused before its terminator, or only counted where framed mode discards it. -/
def refuseBegun (s : State) (k : Sess) (detail : String) (count : State → State) : State :=
  let l := (getSes s k).rx
  if typedDropped s k l then countTyped s k else count (refuseHeld s k l detail)

def isTerm (c : BitVec 9) : Bool := c = 13 || c = 10

/-- The code that stands in a buffer where received bytes were lost. -/
def lostCode : BitVec 9 := 0x102

/-- What a buffer that is full takes in for a byte that it loses: a mark for the line, and the terminator that ends a line
marked so. -/
def lostTail (last : Option (BitVec 9)) (code : BitVec 9) : List (BitVec 9) :=
  if last = some 13 && code = 10 then []
  else if last = some lostCode then (if isTerm code then [code] else [])
  else if isTerm code then [lostCode, code] else [lostCode]

/-- An overrun is counted (R153, R168, R169). -/
def countOverrun (s : State) (k : Sess) : State :=
  let s := modSes s k fun x => { x with lostOverrun := x.lostOverrun + 1 }
  { s with vil := { s.vil with errOverrun := satInc 255 s.vil.errOverrun } }

/-- A code that arrived at tick `t` joins the receive buffer. -/
def rxAdd (s : State) (k : Sess) (code : BitVec 9) (t : Nat) : State :=
  let w := (getSes s k).waiting
  if w.length < 1024 then modSes s k fun x => { x with waiting := w ++ [(code, t)] }
  else
    modSes (countOverrun s k) k fun x => { x with waiting := w ++ (lostTail (w.getLast?.map (·.1)) code).map fun c => (c, t) }

/-- The end of a line: an empty one is ignored, a refused one ends its refusal, any other is complete. -/
def lineEnds (s : State) (k : Sess) (t : Nat) : State × Option RxLine :=
  let x := getSes s k
  let s := if x.rxState = .long || x.rxState = .swallow then s else echoChars s k [13, 10]
  let line : RxLine := { text := x.rx, epoch := (t - s.rel) / tickMs }
  let whole := match x.rxState with
    | .ok => if x.rx.all isBlank then none else some line
    | .bad c => some { line with bad := some c }
    | .err c => some { line with err := some c }
    | _ => none
  let s := if whole.isSome || x.rxState = .long || x.rxState = .swallow then lineHeard s k t else s
  (modSes s k lineClear, whole)

/-- A character placed in the line (R122, R123, R134, R136); a byte outside the alphabet makes the line fail with its
column.  DESIGN CHOICE (log 87): such a byte counts toward the 240 characters of R123. -/
def placeChar (s : State) (k : Sess) (c : Char) (t : Nat) : State :=
  let x := getSes s k
  let good := c.toNat = 9 || (0x20 ≤ c.toNat && c.toNat ≤ 0x7E)
  if c = '$' && isFramedLine x.rx && !insideString x.rx false then
    echoChars (setSes s k { x with rx := ['$'], shown := [echoOn s k], rxStart := some t, rxState := .ok }) k ['$'.toNat]
  else if 240 ≤ x.rx.length then modSes (refuseBegun s k "LONG" countLong) k fun x => { lineClear x with rxState := .long }
  else
    let st := if good || x.rxState != .ok then x.rxState else .bad (x.rx.length + 1)
    let s := setSes s k { x with rx := x.rx ++ [c], shown := x.shown ++ [good && echoOn s k], rxStart := some (x.rxStart.getD t), rxState := st }
    if good then echoChars s k [echoCode c] else s

/-- A framing error makes the line fail with its column, and what follows up to the terminator is discarded (R158). -/
def errChar (s : State) (k : Sess) (t : Nat) : State :=
  modSes s k fun x => { x with rxState := .err (x.rx.length + 1), rxStart := some (x.rxStart.getD t) }

/-- Bytes of the line were lost (R153): it is refused, and what remains of it is discarded. -/
def overrunLine (s : State) (k : Sess) : State :=
  modSes (refuseBegun s k "OVERRUN" id) k fun x => { lineClear x with rxState := .swallow }

/-- BS or DEL (R133).  DESIGN CHOICE (log 87): the time of the line runs on when its last character is removed. -/
def backSpace (s : State) (k : Sess) : State :=
  let x := getSes s k
  echoChars (setSes s k { x with rx := x.rx.dropLast, shown := x.shown.dropLast }) k (eraseEcho (x.shown.drop (x.rx.length - 1)))

/-- Ctrl-U, and Ctrl-C where no untagged command is outstanding. -/
def emptyLine (s : State) (k : Sess) : State := echoChars (modSes s k lineClear) k (eraseEcho (getSes s k).shown)

/-- A code that arrived at tick `t` is read by the session; a line may be complete with it. -/
def readCode (s : State) (k : Sess) (code : BitVec 9) (t : Nat) : State × Option RxLine :=
  let x := getSes s k
  let typed := x.mode = .typed
  let s := modSes s k fun x => { x with lastCR := code = 13 }
  if isTerm code then (if code = 10 && x.lastCR then (s, none) else lineEnds s k t)
  else match x.rxState with
    | .err _ => (s, none)
    | .long => (s, none)
    | .swallow => (s, none)
    | _ =>
      if code = lostCode then (overrunLine s k, none)
      else if 0x100 ≤ code.toNat then (errChar s k t, none)
      else if typed && (code = 8 || code = 0x7F) then (backSpace s k, none)
      else if typed && (code = 0x15 || code = 3) then (emptyLine s k, none)
      else (placeChar s k (Char.ofNat code.toNat) t, none)

/-- The detection of LINK1's rate begins again: what waits to be sent on LINK1 is discarded (R120). -/
def rearm (s : State) : State :=
  let s := modSes s .link1 fun x => { x with out := [], nq := [], echo := [] }
  { s with vil := { s.vil with armed := true, rate1 := 0 } }

def autoRate (s : State) : Bool := cfgIs s (sesObj .link1) "RATE" "AUTO"

def countFerr (s : State) (k : Sess) : State :=
  if k = .link0 then { s with vil := { s.vil with ferr0 := satInc 255 s.vil.ferr0 } }
  else { s with vil := { s.vil with ferr1 := satInc 255 s.vil.ferr1 } }

def portOf (p : Fin 2) : Sess := if p = 0 then .link0 else .link1

/-- What the LINK island holds for a port (R711). -/
def linkHold (s : State) (k : Sess) : List (BitVec 9) :=
  match k with | .link0 => s.vil.hold0 | .link1 => s.vil.hold1 | _ => []

def setHold (s : State) (k : Sess) (l : List (BitVec 9)) : State :=
  match k with
  | .link0 => { s with vil := { s.vil with hold0 := l } }
  | .link1 => { s with vil := { s.vil with hold1 := l } }
  | _ => s

/-- A byte received in QUIET is held by the LINK island, up to 1024 of them (R711). -/
def holdByte (s : State) (k : Sess) (code : BitVec 9) : State :=
  let l := linkHold s k
  if l.length < 1024 then setHold s k (l ++ [code]) else setHold (countOverrun s k) k (l ++ lostTail l.getLast? code)

/-- The free bytes of a receive buffer. -/
def rxFree (s : State) (k : Sess) : Nat := 1024 - ((getSes s k).waiting.length + (linkHold s k).length)

/-- L0RTS follows the room in the buffer under RTSCTS, and stays asserted under NONE (R118). -/
def rtsFollows (s : State) : State :=
  if !cfgIs s (sesObj .link0) "FLOW" "RTSCTS" then { s with vil := { s.vil with rts := true } }
  else if rxFree s .link0 < 128 then { s with vil := { s.vil with rts := false } }
  else if 256 ≤ rxFree s .link0 then { s with vil := { s.vil with rts := true } }
  else s

/-- The L0RTS pad is asserted; never in OFF or while the core die is in reset (Table ELC-7). -/
def rtsPad (s : State) : Bool := coreRuns s && s.ana.mode != .off && s.vil.rts

/-- What is received of a partial line in a sequence of codes: all after the last terminator, and whether there is one. -/
def afterEnd (l : List (BitVec 9 × Nat)) : List (BitVec 9 × Nat) × Bool :=
  ((l.reverse.takeWhile fun c => !isTerm c.1).reverse, l.any fun c => isTerm c.1)

/-- The waiting codes up to and including the last terminator. -/
def keepLines (l : List (BitVec 9 × Nat)) : List (BitVec 9 × Nat) := (l.reverse.dropWhile fun c => !isTerm c.1).reverse

/-- The crossing that carries a session's bytes. -/
def byteXing : Sess → Option Nat
  | .link0 => some 194 | .link1 => some 195 | _ => none

/-- The codes that have arrived and are not read: those that wait, then those that still stand in the crossing's buffer. -/
def unread (s : State) (k : Sess) : List (BitVec 9 × Nat) :=
  (getSes s k).waiting ++ match byteXing k with
    | some x => (s.ana.bufW0.filter fun r => r.x = x).map fun r => (BitVec.ofInt 9 r.val, s.rel + r.stamp)
    | none => []

def codeChar (c : BitVec 9) : Char := Char.ofNat (if c.toNat < 256 then c.toNat else 0)

/-- The line that has begun and whose terminator has not arrived: when it began, and its text so far (R124). -/
def partialLine (s : State) (k : Sess) : Option (Nat × List Char) :=
  let x := getSes s k
  let u := afterEnd (unread s k)
  let tail := u.1.map fun c => codeChar c.1
  if u.2 || x.rxStart.isNone then (match u.1 with | c :: _ => some (c.2, tail) | [] => none)
  else if x.rxState = .long || x.rxState = .swallow then none
  else x.rxStart.map fun t => (t, x.rx ++ tail)

/-- The limit of a line without its terminator (R124). -/
def partialLimit (l : List Char) : Nat := if isFramedLine l then 200 * tickMs else 30000 * tickMs

/-- When the partial line times out. -/
def partialDue (s : State) (k : Sess) : Option Nat := (partialLine s k).map fun p => p.1 + partialLimit p.2

/-- The partial line, wherever its bytes stand, is discarded. -/
def partialDrop (s : State) (k : Sess) : State :=
  let ended := (afterEnd (unread s k)).2
  let s := { s with ana := { s.ana with bufW0 := s.ana.bufW0.filter fun r => !(some r.x = byteXing k) || ended } }
  modSes s k fun x => { (if ended then x else lineClear x) with waiting := keepLines x.waiting }

/-- PARTIAL_TIMEOUT: the line is discarded with FAIL PARTIAL; a typed line in framed mode that is no HELLO is only
counted (R137).  None runs in QUIET (R166). -/
def execPartialTimeout (k : Sess) (s : State) : Host.Outcome State Fault Refusal :=
  .next (if s.ana.mode = .quiet || !coreRuns s then s
    else atTick s (partialDue s k) fun s =>
      match partialLine s k with
      | none => s
      | some (_, l) =>
        let s := if typedDropped s k l then countTyped s k
          else { refuseHeld s k l "PARTIAL" with vil := { (refuseHeld s k l "PARTIAL").vil with errPartial := satInc 255 s.vil.errPartial } }
        rtsFollows (partialDrop s k))

/-! ### Rates, flow and what leaves (R117 to R120, R148) -/

/-- The rates that AUTO knows (R119). -/
def autoRates : List Nat := [9600, 19200, 38400, 57600, 115200, 230400, 460800, 921600]

/-- AUTOBAUD_DETECT: a CR measured at `rate` bit/s, within 3 % of a listed rate, sets that rate; every other character
is discarded unseen. -/
def execAutobaudDetect (ch : Byte) (rate : Nat) (s : State) : Host.Outcome State Fault Refusal :=
  .next (if !autoRate s || s.vil.rate1 != 0 || !coreRuns s || ch != 0x0D then s
    else match autoRates.find? fun r => decide (rate * 100 ≤ 103 * r) && decide (97 * r ≤ rate * 100) with
      | some r => { s with vil := { s.vil with armed := false, rate1 := r } }
      | none => s)

/-- AUTOBAUD_REARM: a break of `low` ticks on LINK1; its start wakes the device (R166). -/
def execAutobaudRearm (low : Nat) (s : State) : Host.Outcome State Fault Refusal :=
  .next (if autoRate s && 10 * tickMs ≤ low && coreRuns s then rearm (countFerr (wakeBy s .link1) .link1) else s)

/-- RATE_CHANGE_EFFECT: the rate of the last SET comes into force once its final line has been sent (R117, R119). -/
def execRateChangeEffect (p : Fin 2) (s : State) : Host.Outcome State Fault Refusal :=
  .next (if p = 0 then
      match s.vil.ratePend0 with
      | some r => { s with vil := { s.vil with rate0 := r, ratePend0 := none } }
      | none => s
    else match s.vil.ratePend1 with
      | some 0 => { rearm s with vil := { (rearm s).vil with ratePend1 := none } }
      | some r => { s with vil := { s.vil with rate1 := r, armed := false, ratePend1 := none } }
      | none => s)

/-- CTS_CHANGE: L0CTS takes a level (R118). -/
def execCtsChange (asserted : Bool) (s : State) : Host.Outcome State Fault Refusal :=
  .next { s with vil := { s.vil with cts := asserted } }

/-- Whether a port may send (R118, R120). -/
def maySend (s : State) (k : Sess) : Bool :=
  (getSes s k).isOpen && !mute s k && (k != .link0 || s.vil.cts || !cfgIs s (sesObj .link0) "FLOW" "RTSCTS")

/-- The oldest notice leaves its queue: where notices have been discarded, SYS.NOTICES-LOST takes the free entry (R148). -/
def noticeGone (s : State) (k : Sess) : State :=
  match (getSes s k).nq with
  | [] => s
  | _ :: l => lostTold (modSes s k fun x => { x with nq := l }) k

/-- A session's fragments that its peer has not acknowledged. -/
def tunFrags (s : State) (k : Sess) : List Frag :=
  match s.bus.tuns.find? fun p => p.1 + 2 = sesIdx k with
  | some (_, t) => t.unacked
  | none => []

/-- NOTICE_SENT: the oldest notice has left its session, with every line that goes before it (R148, R151); on a BUS session
the tunnel reports so of a notice that it was handed. -/
def execNoticeSent (k : Sess) (s : State) : Host.Outcome State Fault Refusal :=
  .next (if !maySend s k then s
    else match (getSes s k).nq with
      | [] => s
      | n :: _ =>
        if isBus k then (if n.handed && !((tunWaits s k).any fun g => g.notice = some n.seq) && !((tunFrags s k).any fun f => !f.sent && f.ends.contains n.seq) then noticeGone s k else s)
        else
          let left := (getSes s k).out.filter fun l => n.epoch < l.epoch
          noticeGone (modSes s k fun x => { x with out := left, echo := if left.isEmpty then [] else x.echo }) k)

/-- LINK_CLR: writing 1 clears the counts of R169. -/
def linkClr (s : State) : State :=
  { s with vil := { s.vil with errCrc := 0, errOverrun := 0, errLong := 0, errPartial := 0, ferr0 := 0, ferr1 := 0, peakSlots := 0 } }

def execLinkClr (v : Word) (s : State) : Host.Outcome State Fault Refusal :=
  .next (if v.getLsbD 0 then linkClr s else s)

/-! ### Stores (R176) -/

/-- A change waits for its store write, in order of acceptance; its command ends when the write has completed. -/
def queueStore (s : State) (id : Nat) (x : Eff) : State :=
  { s with vil := { s.vil with writes := s.vil.writes ++ [{ id := id, eff := x, due := epochTick s s.epoch + 20 * tickMs }] } }

/-- Whether the configuration store can be written: the journal die is not held (R256, R669). -/
def storeReadOnly (s : State) : Bool := s.tst.heldJournal

/-! ### WAIT (R217) -/

/-- The checks of the command below. -/
def waitSpec (ms : Nat) : CmdSpec :=
  { verb := "WAIT", body := "WAIT " ++ natStr ms ++ "ms", p67 := if 1 ≤ ms && ms ≤ 3600000 then none else some "RANGE LO=1ms HI=3600s STEP=1ms", changes := false }

/-- WAIT. -/
def execWait (q : Hdr) (ms : Nat) (s : State) : Host.Outcome State Fault Refusal :=
  .next (lineIn (.wait q ms) q s fun s => submit s q (waitSpec ms)
    fun s _ => (s, .wait (epochTick s (s.epoch + ms))))

/-- WAIT_EXPIRY: the WAIT of a tag ends at its boundary. -/
def execWaitExpiry (k : Sess) (tag : Option Nat) (s : State) : Host.Outcome State Fault Refusal :=
  .next (match s.vil.outs.find? fun o => o.ses = k && o.tag = tag && o.verb = "WAIT" with
    | some o => match o.work with
      | .wait t => atTick s (some t) fun s => finish s o.id "DONE"
      | _ => s
    | none => s)

end Sys2Proof.Machine
end

