-- ==== Sys2Proof/Machine/Session.lean ====
section
/-!
DEFINITION. The verbs of a session itself and of the secure core (*Vilpi verb reference*, *Worlds, roles and the audit
journal*): HELLO, AUTH, LOGOUT, KEY, LOCK, WAIT's companions, macros and event bindings, with their timers.
-/
namespace Sys2Proof.Machine
open Sys2Proof

def secObj : Obj := ⟨.sec, 0⟩
def roleWord : Role → String
  | .operator => "OPERATOR" | .installer => "INSTALLER" | .maker => "MAKER"

/-- The words of a verb's canonical line. -/
def bodyOf (l : List String) : String := joinStr " " (l.filter (· != ""))

/-! ### HELLO (R154, R165, R179) -/

/-- A line in the form of the line that it answers (R179). -/
def sendForced (s : State) (q : Hdr) (cls : Nat) (body : String) : State := sendOut s q.ses q.tag q.framed cls body true

def modeWord : LineMode → String
  | .typed => "TYPED" | .framed => "FRAMED"

/-- The level that HELLO sets (R154). -/
def helloLevel (x : Session) : Option Nat → Nat
  | none => x.level
  | some n => if n < 3 then n else 3

/-- The outstanding commands of a session answer in the form of its new mode (R165). -/
def helloForms (s : State) (k : Sess) (m : LineMode) : State :=
  if (getSes s k).mode = m then s
  else { s with vil := { s.vil with outs := s.vil.outs.map fun o => if o.ses = k then { o with framed := m = .framed } else o } }

/-- HELLO as an accepted command: both its lines in the form of its own line, then the session's mode and level. -/
def helloDone (s : State) (q : Hdr) (mode : Option LineMode) (level : Option Nat) : State :=
  let x := getSes s q.ses
  let m := mode.getD x.mode
  let l := helloLevel x level
  let s := sendForced s q 0 "OK"
  let s := sendForced s q 1 ("DONE SESSION=" ++ sesName q.ses ++ " MODE=" ++ modeWord m ++ " LEVEL=" ++ natStr l ++ " DEVICE=ZF-96 ROM=2.6.0")
  modSes (lineHeard (helloForms s q.ses m) q.ses s.now) q.ses fun x => { x with mode := m, level := l, active := s.now, freed := (q.tag, s.epoch) :: x.freed }

/-- The checks of HELLO. -/
def helloSpec (q : Hdr) (mode : Option LineMode) (level : Option Nat) : CmdSpec :=
  { verb := "HELLO", need := 0, changes := false, body := bodyOf ["HELLO", (mode.map modeWord).getD "", (level.map fun n => "LEVEL=" ++ natStr n).getD ""], p67 := if level = some 0 then some "RANGE LO=1" else none, p10 := if isBus q.ses && mode = some .typed then some "STATE" else none }

/-- HELLO. -/
def execHello (q : Hdr) (mode : Option LineMode) (level : Option Nat) (s : State) : Host.Outcome State Fault Refusal :=
  .next (if q.ses = .mac then s
    else lineIn (.hello q mode level) q s fun s => match firstFail s q (helloSpec q mode level) with
      | some e => sendForced s q 0 ("FAIL " ++ e)
      | none => helloDone s q mode level)

/-! ### AUTH (R180, R239, R241 to R244, R262) -/

def authGroup (k : Sess) : Nat := if isBus k then 1 else 0

/-- The place of a role's failures in a group. -/
def failIdx (bus : Bool) (r : Role) : Nat := (if bus then 4 else 0) + roleNum (some r)

def authFail (s : State) (k : Sess) (r : Role) : AuthFail := tget {} s.sec.fails (failIdx (isBus k) r)

/-- AUTH for a role is blocked in a group (R244). -/
def authBlocked (s : State) (k : Sess) (r : Role) : Bool :=
  match (authFail s k r).until_ with | some t => s.now < t | none => false

/-- The key of a role; 32 zero bytes where none is stored (R243). -/
def keyOf (s : State) (r : Role) : BitVec 256 := tget 0 s.sec.keys (roleNum (some r))

/-- The 28-byte message of a response (R242). -/
def authMessage (r : Role) (k : Sess) (ch : BitVec 128) : List Byte :=
  ("VILPI-AUTH".toList.map fun c => BitVec.ofNat 8 c.toNat)
    ++ [BitVec.ofNat 8 (roleNum (some r)), BitVec.ofNat 8 (sesIdx k)] ++ bytesBE 16 ch.toNat

/-- Eight codes as one 256-bit value, the first code most significant. -/
def codes256 (l : List Word) : BitVec 256 := BitVec.ofNat 256 (l.foldl (fun acc w => acc * 4294967296 + w.toNat) 0)

/-- The `n`th 32-bit code of a 128-bit value, from the most significant. -/
def code128 (v : BitVec 128) (n : Nat) : Nat := v.toNat / 2 ^ (32 * (3 - n)) % 4294967296

def codesStr (l : List Nat) : String := joinStr "," (l.map codeStr)

/-- A challenge: a free value that is not zero (R241). -/
def newChallenge (s : State) : BitVec 128 :=
  let v := freeBits 128 s
  if v = 0 then 1 else v

/-- AUTH ends with a challenge (R180, R241). -/
def authChallengeEnd (s : State) (o : Out) (r : Role) : State :=
  if authBlocked s o.ses r then finish s o.id "FAIL AUTH BLOCKED"
  else
    let ch := newChallenge s
    let s := jrnPut (drawn s) 9 0 [code128 ch 0, code128 ch 1, code128 ch 2, code128 ch 3]
    let s := { s with sec := { s.sec with chal := tset s.sec.chal (sesIdx o.ses) ⟨r, ch, s.now + 30000 * tickMs⟩ } }
    finish s o.id ("DONE CHALLENGE=" ++ codesStr [code128 ch 0, code128 ch 1, code128 ch 2, code128 ch 3])

/-- Whether a response is the right one for the session's challenge (R180, R242, R262). -/
def authMatches (s : State) (o : Out) (r : Role) (codes : List Word) : Bool :=
  match s.sec.chal.find? fun p => p.1 = sesIdx o.ses with
  | some (_, c) => c.role = r && epochTick s o.epoch ≤ c.until_ && codes.length = 8
      && codes256 codes = hmac256 (keyOf s r) (authMessage r o.ses c.bytes)
  | none => false

/-- The next block length (R244). -/
def nextBlock (len : Nat) : Nat := if len = 0 then 60000 * tickMs else min (2 * len) (3600000 * tickMs)

/-- A failed response: counted, and from the fifth a block (R244). -/
def authFailed (s : State) (o : Out) (r : Role) : State :=
  let i := failIdx (isBus o.ses) r
  let f := authFail s o.ses r
  let f := { f with count := f.count + 1 }
  let f := if 5 ≤ f.count then { f with len := nextBlock f.len, until_ := some (s.now + nextBlock f.len) } else f
  let s := { s with sec := { s.sec with fails := tset s.sec.fails i f, lastFail := roleNum (some r) } }
  let s := auditAdd s 3 (sesIdx o.ses) (roleNum o.role) (auditTag o.tag) (failRow "AUTH") (sReach s o.ses) o.body
  let s := notify s "SEC.AUTH-FAIL" (some (sesObj o.ses)) ("ROLE=" ++ roleWord r)
  if 5 ≤ f.count then
    let s := auditAdd s 4 (sesIdx o.ses) (roleNum o.role) (auditTag o.tag) 0 (sReach s o.ses) ("AUTH-BLOCK " ++ roleWord r)
    notify s "SEC.AUTH-BLOCKED" (some (sesObj o.ses)) ("ROLE=" ++ roleWord r)
  else s

/-- AUTH with a response ends: the challenge serves once. -/
def authResponseEnd (s : State) (o : Out) (r : Role) (codes : List Word) : State :=
  if authBlocked s o.ses r then finish s o.id "FAIL AUTH BLOCKED"
  else
    let good := authMatches s o r codes
    let s := jrnPut s 7 (1 + 256 * sesIdx o.ses + (if good then 65536 else 0))
    let s := { s with sec := { s.sec with chal := tdel s.sec.chal (sesIdx o.ses) } }
    if good then
      let s := { s with sec := { s.sec with fails := tset s.sec.fails (failIdx (isBus o.ses) r) {} } }
      let s := keeperGrants (modSes s o.ses fun x => { x with role := some r, active := s.now }) o.ses r
      let s := auditAdd s 2 (sesIdx o.ses) (roleNum (some r)) (auditTag o.tag) 0 (sReach s o.ses) o.body
      finish s o.id ("DONE ROLE=" ++ roleWord r)
    else finish (authFailed s o r) o.id "FAIL AUTH"

/-- AUTH decided by the keeper. -/
def authEnd (s : State) (o : Out) (r : Role) (resp : Option (List Word)) : State :=
  match resp with
  | none => authChallengeEnd s o r
  | some c => authResponseEnd s o r c

def busCeil (s : State) : Nat :=
  let w := cfgWord s secObj "BUSCEIL"
  if w = "MAKER" then 3 else if w = "INSTALLER" then 2 else 1

def authSpec (s : State) (q : Hdr) (r : Role) (body : String) (bad : Bool) : CmdSpec :=
  { verb := "AUTH", need := 0, changes := false, body := body, p67 := if bad then some "RANGE" else none, p10 := if isBus q.ses && busCeil s < roleNum (some r) then some "STATE CEILING" else none }

/-- AUTH without RESPONSE. -/
def execAuthChallenge (q : Hdr) (r : Role) (s : State) : Host.Outcome State Fault Refusal :=
  .next (lineIn (.authChallenge q r) q s fun s => submit s q (authSpec s q r ("AUTH " ++ roleWord r) false) fun s _ => (s, .auth (s.epoch + 2) r none))

/-- AUTH with RESPONSE. -/
def execAuthResponse (q : Hdr) (r : Role) (codes : List Word) (s : State) : Host.Outcome State Fault Refusal :=
  .next (lineIn (.authResponse q r codes) q s fun s => submit s q (authSpec s q r ("AUTH " ++ roleWord r ++ " RESPONSE=" ++ codesStr (codes.map BitVec.toNat)) (codes.length != 8)) fun s _ => (s, .auth (s.epoch + 2) r (some codes)))

/-- A response accepted in time is not decided yet (R262). -/
def responseRuns (s : State) (k : Sess) (c : Challenge) : Bool :=
  s.vil.outs.any fun o => o.ses = k && epochTick s o.epoch ≤ c.until_ && (match o.work with | .auth _ _ (some _) => true | _ => false)

/-- CHALLENGE_EXPIRY: 30 s after the challenge was issued; one that a response accepted in time still needs stands until
that response is decided. -/
def execChallengeExpiry (k : Sess) (s : State) : Host.Outcome State Fault Refusal :=
  .next (match s.sec.chal.find? fun p => p.1 = sesIdx k with
    | some (_, c) => atTick s (some c.until_) fun s =>
        if responseRuns s k c then s else { s with sec := { s.sec with chal := tdel s.sec.chal (sesIdx k) } }
    | none => s)

/-- AUTH_BLOCK_EXPIRY: the block ends; the count and the length of the block stay (R244). -/
def execAuthBlockExpiry (bus : Bool) (r : Role) (s : State) : Host.Outcome State Fault Refusal :=
  .next (atTick s (tget {} s.sec.fails (failIdx bus r)).until_ fun s =>
    { s with sec := { s.sec with fails := tmod {} s.sec.fails (failIdx bus r) fun f => { f with until_ := none } } })

/-! ### LOGOUT, KEY and LOCK (R181, R182, R245, R246, R248) -/

/-- The checks of the command below. -/
def logoutSpec : CmdSpec :=
  { verb := "LOGOUT", body := "LOGOUT", changes := false }

/-- LOGOUT. -/
def execLogout (q : Hdr) (s : State) : Host.Outcome State Fault Refusal :=
  .next (lineIn (.logout q) q s fun s => submit s q logoutSpec fun s _ =>
    let r := (getSes s q.ses).role
    let s := keeperEnds (modSes s q.ses fun x => { x with role := none }) q.ses
    let s := { s with sec := { s.sec with exported := tdel s.sec.exported (sesIdx q.ses) } }
    let s := auditAdd s 5 (sesIdx q.ses) (roleNum r) (auditTag q.tag) 0 (sReach s q.ses) "LOGOUT"
    let s := purgeNotices s q.ses
    (s, doneNow "DONE ROLE=NONE" s))

/-- The lock applied, or accepted with its write not complete (R248). -/
def lockStands (s : State) : Bool := s.sec.locked || s.sec.lockPend

/-- The first of the conditions that end at step 9. -/
def firstOf : List (Bool × String) → Option String
  | [] => none
  | (b, e) :: l => if b then some e else firstOf l

/-- The checks of the command below. -/
def keySpec (q : Hdr) (r : Role) (codes : List Word) (s : State) : CmdSpec :=
  { verb := "KEY", body := "KEY " ++ roleWord r, need := 3, audit := some 8, p67 := if codes.length != 8 then some "RANGE" else none, p9 := firstOf [(!sReach s q.ses, "WORLD"), (r = .maker && lockStands s, "LOCKED"), (storeReadOnly s, "STORE")] }

/-- KEY. -/
def execKey (q : Hdr) (r : Role) (codes : List Word) (s : State) : Host.Outcome State Fault Refusal :=
  .next (lineIn (.key q r codes) q s fun s => submit s q (keySpec q r codes s)
    fun s id => (queueStore s id (.key r codes), .store (.key r codes) "DONE"))

/-- A key stored (R245): every other holder of the role loses it, and its challenges become invalid. -/
def keyStored (s : State) (k : Sess) (r : Role) (codes : List Word) : State :=
  let s := { s with sec := { s.sec with keys := tset s.sec.keys (roleNum (some r)) (codes256 codes), chal := s.sec.chal.filter fun p => p.2.role != r } }
  portSess.foldl (fun s k' => if k' != k && (getSes s k').role = some r then roleEnd s k' "KEY" else s) s

/-- The world map that WORLDS asks for, in the order of R229. -/
def worldMap (s : State) : BitVec 19 :=
  let ws := cfgWords s secObj "WORLDS"
  BitVec.ofNat 19 ((List.range 19).foldl (fun acc n => if ws.contains (worldBlocks.getD n "") then acc + 2 ^ n else acc) 0)

/-- A change of WORLDS or SECREGIONS that is not in force yet (R230). -/
def worldPending (s : State) : Bool := worldMap s != s.sec.worlds || cfgNat s secObj "SECREGIONS" != s.sec.regions

def keyStoredFor (s : State) (r : Role) : Bool := s.sec.keys.any fun p => p.1 = roleNum (some r)

/-- The audit journal can be written (R248). -/
def auditWritable (s : State) : Bool :=
  !s.tst.heldJournal && jrnCanWrite s && (!auditStop s || s.sec.audit.length < 8175)

/-- The checks of the command below. -/
def lockConfigSpec (q : Hdr) (s : State) : CmdSpec :=
  { verb := "LOCK", body := "LOCK CONFIG CONFIRM=yes", need := 3, audit := some 9, auditLate := true, p9 := firstOf [(!sReach s q.ses, "WORLD"), (lockStands s, "LOCKED"), (storeReadOnly s, "STORE")], p10 := firstOf [(!modeIs s [.run, .safe, .bench], "STATE MODE"), (!(keyStoredFor s .maker && keyStoredFor s .installer), "STATE KEYS"), (worldPending s, "STATE PEND"), (!auditWritable s, "STATE AUDIT")] }

/-- LOCK. -/
def execLockConfig (q : Hdr) (s : State) : Host.Outcome State Fault Refusal :=
  .next (lineIn (.lockConfig q) q s fun s => submit s q (lockConfigSpec q s)
    fun s id =>
      let s := { s with sec := { s.sec with lockPend := true } }
      (queueStore s id .lock, .store .lock "DONE LOCKED=yes"))

/-! ### CANCEL is with the verbs that act on other commands. Macros (R213 to R215, R218) -/

def macroObj (m : Nat) : Obj := ⟨.macroObj, m⟩

/-- The run of a macro asked for: it starts, waits as the one pending run, or is missed (R215). -/
def macroStart (s : State) (m : Nat) (cmd : Option Nat) : State × Bool :=
  let x := macroSt s m
  if !x.running && runningMacros s < 8 && !x.pend then
    if (macroText s m).isEmpty then
      let s := setMacro s m { x with runs := satInc 65535 x.runs }
      (match cmd with | some id => finish s id "DONE" | none => s, true)
    else (setMacro s m { x with running := true, line := 1, awaiting := false, runs := satInc 65535 x.runs, cmd := cmd }, true)
  else if !x.pend then (setMacro s m { x with pend := true, cmdPend := cmd }, true)
  else (notify (setMacro s m { x with missed := satInc 65535 x.missed }) "SES.MACRO-MISSED" (some (macroObj m)), false)

/-- The checks of the command below. -/
def macroClearSpec (m : Fin 64) (s : State) : CmdSpec :=
  { verb := "MACRO", body := "MACRO " ++ objName (macroObj m) ++ " CLEAR", need := 2, audit := some 17, p9 := if storeReadOnly s then some "STORE" else none, p10 := firstOf [((macroSt s m).running, "STATE RUNNING"), ((macroSt s m).pend, "STATE PENDING")] }

/-- MACRO CLEAR. -/
def execMacroClear (q : Hdr) (m : Fin 64) (s : State) : Host.Outcome State Fault Refusal :=
  .next (lineIn (.macroClear q m) q s fun s => submit s q (macroClearSpec m s)
    fun s id =>
      let e := Eff.macroLines m [] ((roleFor s q).getD .installer)
      (queueStore s id e, .store e "DONE"))

/-- The checks of the command below. -/
def macroListSpec (m : Fin 64) : CmdSpec :=
  { verb := "MACRO", body := "MACRO " ++ objName (macroObj m) ++ " LIST", changes := false }

/-- MACRO LIST. -/
def execMacroList (q : Hdr) (m : Fin 64) (s : State) : Host.Outcome State Fault Refusal :=
  .next (lineIn (.macroList q m) q s fun s => submit s q (macroListSpec m)
    fun s _ => (s, .reply s.epoch (macroText s m) "DONE"))

/-- The checks of the command below. -/
def macroRunSpec (m : Fin 64) : CmdSpec :=
  { verb := "MACRO", body := "MACRO " ++ objName (macroObj m) ++ " RUN" }

/-- MACRO RUN. -/
def execMacroRun (q : Hdr) (m : Fin 64) (s : State) : Host.Outcome State Fault Refusal :=
  .next (lineIn (.macroRun q m) q s fun s =>
    let s1 := submit s q (macroRunSpec m) fun s _ => (s, .macroRun m)
    match s1.vil.outs.find? fun o => o.id = s.vil.nextId && o.work = .macroRun m with
    | some o =>
      let p := macroStart s1 m (some o.id)
      if p.2 then p.1 else finish p.1 o.id "FAIL STATE PENDING"
    | none => s1)

/-- MACRO_TRIGGER: a bound notice, or START, triggers its macro at the boundary after it was issued (R216). -/
def execMacroTrigger (m : Fin 64) (s : State) : Host.Outcome State Fault Refusal :=
  .next (match s.vil.triggers.find? fun t => t.m = m.val && t.epoch ≤ s.epoch with
    | some t => (macroStart { s with vil := { s.vil with triggers := s.vil.triggers.erase t } } m none).1
    | none => s)

/-! ### Event bindings (R216, R218, R224) -/

def bindStr (b : Binding) : String :=
  joinStr " " ([b.event] ++ (match b.obj with | some o => ["OBJECT=" ++ o] | none => []) ++ ["DO=" ++ objName (macroObj b.m)])

/-- An event and an object as ON takes them: START or a notice name; the object's name where it has one. -/
def bindCheck (event : String) (obj : Option String) : Option String :=
  if !(noticeNames.contains (upStr event)) then some "RANGE"
  else if upStr event = "START" && obj.isSome then some "SYNTAX"
  else match obj with
    | some o => if (objOf o).isNone then some "OBJECT" else none
    | none => none

def sameBind (event : String) (obj : Option String) (b : Binding) : Bool := b.event = event && b.obj = obj

/-- A binding made or removed. -/
def bindChange (s : State) (event : String) (obj : Option String) (m : Option Nat) : State :=
  match m with
  | some n => { s with vil := { s.vil with binds := (s.vil.binds.filter fun b => !(sameBind event obj b && b.m = n)) ++ [⟨event, obj, n⟩] } }
  | none => { s with vil := { s.vil with binds := s.vil.binds.filter fun b => !sameBind event obj b } }

/-- The bindings that will stand once the store writes that wait have taken effect (R219). -/
def bindsToCome (s : State) : List Binding :=
  (s.vil.writes.foldl (fun s w => match w.eff with | .bind ev o m => bindChange s ev o m | _ => s) s).vil.binds

/-- The checks of the command below. -/
def onBindSpec (event : String) (obj : Option String) (m : Fin 64) (s : State) : CmdSpec :=
  let ev := upStr event
  let ob := obj.map upStr
  { verb := "ON", body := bodyOf ["ON", ev, ob.getD "", "DO", objName (macroObj m)], need := 2, audit := some 17, p67 := bindCheck event obj, p9 := if storeReadOnly s then some "STORE" else none, p10 := if 64 ≤ (bindsToCome s).length && !((bindsToCome s).any fun b => sameBind ev ob b && b.m = m.val) then some "NOSPACE" else none }

/-- ON ... DO. -/
def execOnBind (q : Hdr) (event : String) (obj : Option String) (m : Fin 64) (s : State) : Host.Outcome State Fault Refusal :=
  let ev := upStr event
  let ob := obj.map upStr
  .next (lineIn (.onBind q event obj m) q s fun s => submit s q (onBindSpec event obj m s)
    fun s id => (queueStore s id (.bind ev ob (some m)), .store (.bind ev ob (some m)) "DONE"))

/-- The checks of the command below. -/
def onOffSpec (event : String) (obj : Option String) (s : State) : CmdSpec :=
  let ev := upStr event
  let ob := obj.map upStr
  { verb := "ON", body := bodyOf ["ON", ev, ob.getD "", "OFF"], need := 2, audit := some 17, p67 := bindCheck event obj, p9 := if storeReadOnly s then some "STORE" else none, p10 := if s.vil.binds.any (sameBind ev ob) then none else some "STATE" }

/-- ON ... OFF. -/
def execOnOff (q : Hdr) (event : String) (obj : Option String) (s : State) : Host.Outcome State Fault Refusal :=
  let ev := upStr event
  let ob := obj.map upStr
  .next (lineIn (.onOff q event obj) q s fun s => submit s q (onOffSpec event obj s)
    fun s id => (queueStore s id (.bind ev ob none), .store (.bind ev ob none) "DONE"))

/-- The checks of the command below. -/
def onListSpec : CmdSpec :=
  { verb := "ON", body := "ON LIST", changes := false }

/-- ON LIST. -/
def execOnList (q : Hdr) (s : State) : Host.Outcome State Fault Refusal :=
  .next (lineIn (.onList q) q s fun s => submit s q onListSpec fun s _ => (s, .reply s.epoch (s.vil.binds.map bindStr) "DONE"))

end Sys2Proof.Machine
end

