-- ==== Sys2Proof/Machine/Power.lean ====
section
/-!
DEFINITION. Mains, rails, the backup cell and the Pilot domain: the mains health monitor with its nominal and its marks
(R49, R52, R71, R72), main good and the Pilot state machine (R48, R67 to R69, R76, R77), the auxiliary output (R46,
R47), charging (R64 to R66), and the beginnings of resets (R53).  What a commit, a reset or QUIET does to the rest of
the machine is in Startup.
-/
namespace Sys2Proof.Machine
open Sys2Proof

def pwrObj : Obj := ⟨.pwr, 0⟩

/-! ### The nominal (R52) -/

/-- The nominal in 0.1 V, to the nearest. -/
def nomTenth (s : State) : Nat := (s.pwr.nomAcc + 32768) / 65536

def nomSet (s : State) : Bool := s.pwr.nomKind != .none

/-- The one of 100, 120, 230 and 277 V nearest a mean given as a sum of eight; the higher of two equally near. -/
def nearestNominal (sum8 : Nat) : Nat :=
  let d (v : Nat) : Nat := ((sum8 : Int) - 8 * v).natAbs
  [1200, 2300, 2770].foldl (fun best v => if d v ≤ d best then v else best) 1000

/-- A half-cycle counts toward the provisional nominal; the eighth sets it. -/
def provStep (p : Pwr) (rms : Nat) : Pwr :=
  let l := p.prov ++ [rms]
  if l.length < 8 then { p with prov := l }
  else
    let v := nearestNominal (l.foldl (· + ·) 0)
    { p with prov := [], provOpen := false, provNom := v, nomAcc := v * 65536, nomKind := .provisional, learnSum := 0, learnN := 0 }

/-- Whether a half-cycle lies within 15 % of the provisional nominal. -/
def near15 (p : Pwr) (rms : Nat) : Bool := 85 * p.provNom ≤ 100 * rms && 100 * rms ≤ 115 * p.provNom

/-- Learning from consecutive unmarked half-cycles; the 256th sets the learned nominal. -/
def learnStep (p : Pwr) (rms : Nat) (marked : Bool) : Pwr :=
  if marked || !near15 p rms then { p with learnSum := 0, learnN := 0 }
  else if p.learnN + 1 < 256 then { p with learnSum := p.learnSum + rms, learnN := p.learnN + 1 }
  else { p with nomAcc := (p.learnSum + rms) * 256, nomKind := .learned, learnSum := 0, learnN := 0 }

/-- Tracking: an exponential mean over 65 536 unmarked half-cycles. -/
def trackStep (p : Pwr) (rms : Nat) (marked : Bool) : Pwr :=
  if marked then p else { p with nomAcc := p.nomAcc + rms - p.nomAcc / 65536 }

/-- The nominal after a half-cycle. -/
def nominalStep (p : Pwr) (rms : Nat) (marked : Bool) : Pwr :=
  if p.provOpen then (if p.linkUp then provStep p rms else p)
  else match p.nomKind with
    | .provisional => learnStep p rms marked
    | .learned => trackStep p rms marked
    | _ => p

/-- NOMINAL as set comes into force (R52): a voltage at once; AUTO keeps a voltage until a fresh provisional nominal. -/
def nominalSet (s : State) : State :=
  match cfgNano s pwrObj "NOMINAL" with
  | some v => { s with pwr := { s.pwr with nomKind := .fixed, nomAcc := (v / 100000000).toNat * 65536, provOpen := false, prov := [] } }
  | none => if s.pwr.nomKind = .fixed then { s with pwr := { s.pwr with provOpen := true, prov := [] } } else s

/-! ### Disturbance marks (R71, R72) -/

def markIdx : MarkKind → Nat
  | .sag => 0 | .swell => 1 | .trans => 2 | .freq => 3

def openMark (s : State) : MarkKind → Option Mark
  | .sag => s.pwr.sag | .swell => s.pwr.swell | .trans => s.pwr.trans | .freq => s.pwr.freqM

def setMark (s : State) (k : MarkKind) (m : Option Mark) : State :=
  match k with
  | .sag => { s with pwr := { s.pwr with sag := m } }
  | .swell => { s with pwr := { s.pwr with swell := m } }
  | .trans => { s with pwr := { s.pwr with trans := m } }
  | .freq => { s with pwr := { s.pwr with freqM := m } }

/-- Whether a mark is open. -/
def marked (s : State) : Bool := s.pwr.sag != none || s.pwr.swell != none || s.pwr.trans != none || s.pwr.freqM != none

/-- A mark is reported through X188: open, or closed with its end (R72); Churn takes the report as it enters X188. -/
def reportMark (s : State) (k : MarkKind) (start : Nat) (stop : Option Nat) (depth : Nat) : State :=
  let s := match stop with
    | some e => { s with pwr := { s.pwr with pastMarks := ((start, e) :: s.pwr.pastMarks).take 64 } }
    | none => s
  let a := start - s.rel
  let b := stop.map (· - s.rel)
  let s := if sensing s then churnMark s a b else s
  arrive s 188 (BitVec.ofNat 16 s.pwr.rms) (some (mono s)) (.mark k a b depth)

/-- An analogue stage of the full self-test is hit by a mark (1) or by a calm break (2): its measurements are discarded,
and a second hit ends the test (R658). -/
def bistHit (s : State) (why : Nat) : State :=
  match s.tst.run with
  | some r =>
    if (r.stage != 4 && r.stage != 6) || r.waits || r.done.isSome then s
    else if r.rerun then { s with tst := { s.tst with run := some { r with done := some (if why = 1 then "FAIL COND MARK" else "FAIL COND CALM") } } }
    else { s with tst := { s.tst with run := some { r with hit := why, waits := true } } }
  | none => s

/-- A mark opens and is counted. -/
def markBegins (s : State) (k : MarkKind) (m : Mark) : State :=
  let s := bistHit (setMark s k (some m)) 1
  { s with pwr := { s.pwr with marks := tmod 0 s.pwr.marks (markIdx k) (satInc 255) } }

/-- A mark opens and is reported. -/
def markOpens (s : State) (k : MarkKind) (m : Mark) : State := reportMark (markBegins s k m) k m.start none m.depth

/-- A transient that has not been reported is reported as open (R72). -/
def transTold (s : State) : State :=
  match s.pwr.trans with
  | some m => if m.told then s else reportMark (setMark s .trans (some { m with told := true })) .trans m.start none m.depth
  | none => s

def markCloses (s : State) (k : MarkKind) (m : Mark) : State :=
  reportMark (setMark s k none) k m.start (some s.now) m.depth

/-- One kind of mark at the end of a half-cycle: it opens at `start`, deepens, or closes. -/
def markStep (s : State) (k : MarkKind) (opens closes : Bool) (start depth : Nat) (worst : Nat → Nat → Nat) : State :=
  match openMark s k with
  | none => if opens then markOpens s k ⟨start, depth, false, true⟩ else s
  | some m =>
    let m := { m with depth := if m.fresh then depth else worst m.depth depth, fresh := false }
    if closes then markCloses s k m else setMark s k (some m)

/-- The depth of a SAG in tenths of a percent of nominal; 0 without a nominal. -/
def pctOfNom (s : State) (rms : Nat) : Nat := if nomTenth s = 0 then 0 else rms * 1000 / nomTenth s

/-- The marks at the end of a half-cycle. -/
def marksStep (s : State) (start rms freq : Nat) : State :=
  let n := nomTenth s
  let set := nomSet s
  let s := markStep s .sag (set && 100 * rms < 80 * n) (if set then 85 * n ≤ 100 * rms else s.pwr.mains) start (pctOfNom s rms) min
  let s := markStep s .swell (set && 115 * n < 100 * rms) (100 * rms ≤ 110 * n) start (pctOfNom s rms) max
  let fOut := freq < 4500 || 6600 < freq
  let s := markStep s .freq (set && fOut) (!fOut) start freq (fun a b => if ((a : Int) - 5500).natAbs < ((b : Int) - 5500).natAbs then b else a)
  let s := transTold s
  match s.pwr.trans with
  | some m => if s.pwr.lastTrans + tickMs ≤ s.now then markCloses s .trans m else s
  | none => s

/-! ### Mains absent and back (R49, R55, R78, R79) -/

def resetBit : ResetKind → Nat
  | .por => 0 | .pin => 1 | .wdog => 2 | .soft => 3 | .lastgasp => 4 | .brown => 5

def resetName : ResetKind → String
  | .por => "POR" | .pin => "PIN" | .wdog => "WDOG" | .soft => "SOFT" | .lastgasp => "LASTGASP" | .brown => "BROWN"

/-- The core die is held in reset for 2 ms from now, or from the moment RESET rises (R53), with the kind in
PWR_RSTCAUSE. -/
def holdReset (s : State) (k : ResetKind) : State :=
  { s with pwr := { s.pwr with core := .reset (max s.now s.pwr.pinUntil + 2 * tickMs), lineRan := coreRuns s && s.pwr.mains, rstKind := k, rstcause := s.pwr.rstcause ||| (1#7 <<< resetBit k) } }

/-- Charging of either kind stops. -/
def stopCharging (s : State) : State := { s with pwr := { s.pwr with trickle := false, fast := false, chargeSince := none } }

/-- Mains becomes absent: the SAG mark opens at `start` whether or not a nominal is set, charging stops (R55).  Where no
half-cycle has completed, the depth is 0 until one does (R71). -/
def mainsGone (s : State) (start : Nat) (depth : Option Nat) : State :=
  if !s.pwr.mains then s
  else
    let s := { s with pwr := { s.pwr with mains := false, lineRan := false } }
    let s := if s.pwr.sag = none then markOpens s .sag ⟨start, depth.getD 0, depth.isNone, true⟩ else s
    notify (icCut (stopCharging s)) "PWR.MAINS-ABSENT"

/-- Mains is present again (R49); after a commit the core die is reset (R79). -/
def mainsReturns (s : State) : State :=
  if s.pwr.mains then s
  else
    let s := notify { s with pwr := { s.pwr with mains := true, lgReturn := s.pwr.lgReturn || s.pwr.committed } } "PWR.MAINS-BACK"
    if s.pwr.core = .off && s.pwr.mainGood then holdReset s .lastgasp else s

/-- MAINS_ABSENT: 15 ms have passed since the last qualified crossing.  A crossing in that very tick arrives in time. -/
def execMainsAbsent (s : State) : Host.Outcome State Fault Refusal :=
  .next (if !s.pwr.mains then s
    else atTick s (some ((s.pwr.lastCross.getD s.rel) + 15 * tickMs)) fun s' => mainsGone s' (s.pwr.lastCross.getD s.rel) none)

/-- The start of the half-cycle that ends now: the last zero crossing before it, or the end of the last one reported. -/
def halfBegan (s : State) : Nat :=
  let c := match s.drv.cross1 with
    | some t => if t < s.now then t else s.drv.cross2.getD 0
    | none => 0
  max s.pwr.halfStart c

/-- HALF_CYCLE_REPORT: the line die's verdict on a half-cycle, RMS in 0.1 V and frequency in 0.01 Hz: presence, marks,
nominal and the health record of X188. -/
def halfCycle (s : State) (rms freq : Nat) : State :=
  let start := halfBegan s
  let before := marked s
  let s := { s with pwr := { s.pwr with rms := rms, freq := freq, halfStart := s.now } }
  let s := if rms < 500 then mainsGone s start (some (pctOfNom s rms)) else mainsReturns s
  let s := marksStep s start rms freq
  let kind := s.pwr.nomKind
  let s := { s with pwr := nominalStep s.pwr rms (before || marked s) }
  let s := if kind != .learned && s.pwr.nomKind = .learned then notify s "PWR.NOMINAL" none ("NOMV=" ++ milliStr (nomTenth s * 100) 1 ++ "V") else s
  arrive s 188 (BitVec.ofNat 16 rms) (some (mono s)) (.mains rms freq s.pwr.mains)

def execHalfCycleReport (rms freq : BitVec 16) (s : State) : Host.Outcome State Fault Refusal :=
  .next (halfCycle s rms.toNat freq.toNat)

/-- ABSENT_HEALTH_REPORT: a record every 5 ms while mains is absent, with RMS 0. -/
def execAbsentHealthReport (s : State) : Host.Outcome State Fault Refusal :=
  .next (if s.pwr.mains then s
    else
      let s := transTold { s with pwr := { s.pwr with rms := 0, freq := 0 } }
      arrive s 188 0 (some (mono s)) (.mains 0 0 false))

/-- TRANSIENT_DETECT: dv/dt in V/µs above 300 opens a TRANS mark or extends the open one; it is reported at the end of the
half-cycle (R72). -/
def execTransientDetect (slew : BitVec 16) (s : State) : Host.Outcome State Fault Refusal :=
  .next (if slew.toNat ≤ 300 then s
    else
      let s := { s with pwr := { s.pwr with lastTrans := s.now } }
      match s.pwr.trans with
      | none => markBegins s .trans ⟨s.now, slew.toNat, false, false⟩
      | some m => setMark s .trans (some { m with depth := max m.depth slew.toNat }))

/-! ### Main good and the Pilot state machine (R48, R67 to R70) -/

/-- Ticks of a clock of the Pilot transition oscillator, at its nominal rate. -/
def ptoClock : Nat := 8

/-- The first edge of the PTO at or after a tick: it runs from the departure from NORMAL until main good (R67); in NORMAL
it rests and the tick itself stands. -/
def ptoEdge (s : State) (t : Nat) : Nat :=
  match s.pwr.pilot, s.pwr.bkSince with
  | .normal, _ => t
  | _, some b => b + (t - b + (ptoClock - 1)) / ptoClock * ptoClock
  | _, none => t

/-- MAIN_GOOD_QUALIFICATION: V24 rises through 21.6 V, or falls below it while main is not yet good. -/
def execMainGoodQualification (rise : Bool) (s : State) : Host.Outcome State Fault Refusal :=
  .next (if s.pwr.mainGood then s else { s with pwr := { s.pwr with mgSince := if rise then some s.now else none } })

/-- CUTOFF-PENDING expires: DEAD, time lost, VBAT disconnected. -/
def pilotDies (s : State) : State :=
  { s with pwr := { s.pwr with pilot := .dead, pilotLast := .dead, timeLost := true, rtcValid := false, vbat := 0 } }

/-- The return to NORMAL from a state (Table PWR-6).  From DEAD the causes that stood in PWR_RSTCAUSE are gone with the
domain, and DEADPOR stands alone beside the cause of the reset that follows (DESIGN CHOICE, log 85). -/
def pilotReturns (p : Pwr) (now : Nat) : Pwr :=
  let secs := (now - p.bkSince.getD now) / (1000 * tickMs)
  match p.pilot with
  | .normal => p
  | .backup => { p with pilot := .normal, pilotLast := .backup, bkDur := secs, bkSince := none }
  | .cutoff => { p with pilot := .normal, pilotLast := .cutoff, bkDur := secs, bkSince := none, exh := satInc 255 p.exh, exhNotice := true }
  | .dead => { p with pilot := .normal, pilotLast := .dead, bkDur := 0, bkSince := none, lostNotice := true, rstcause := 0x40 }

/-- Main good: the Pilot domain returns to NORMAL; from OFF the core die's power-on reset begins (Table PWR-2). -/
def mainGood (s : State) : State :=
  let dies := s.pwr.pilot = .cutoff && (s.pwr.cutoffAt.getD s.now) + 400 * ptoClock ≤ s.now
  let s := if dies then pilotDies s else s
  let dead := s.pwr.pilot = .dead
  let s := { s with pwr := { pilotReturns s.pwr s.now with mainGood := true, mgSince := none } }
  if s.pwr.core = .off then holdReset s (if s.pwr.lgReturn && !dead then .lastgasp else .por) else s

/-- MAIN_GOOD: V24 has stayed at or above 21.6 V for 2 ms (R48, R76, R77); outside NORMAL the Pilot domain takes it at
the next edge of the PTO (R67). -/
def execMainGood (s : State) : Host.Outcome State Fault Refusal :=
  .next (if s.pwr.mainGood then s
    else match s.pwr.mgSince with
      | some t => atTick s (some (ptoEdge s (t + 2 * tickMs))) mainGood
      | none => s)

/-- The Pilot domain's part of a loss of main (R48, R67, R77). -/
def pilotLost (s : State) : State :=
  let p := { s.pwr with mainGood := false, mgSince := none, vbatBelow := some s.now }
  let p := if p.pilot = .normal then { p with pilot := .backup, pilotLast := .backup, bkSince := some s.now, bkCount := satInc 0xFFFF p.bkCount } else p
  stopCharging { s with pwr := p }

/-- PILOT_CUTOFF_PENDING: VBAT below 2.30 V for 100 PTO clocks in BACKUP. -/
def execPilotCutoffPending (s : State) : Host.Outcome State Fault Refusal :=
  .next (if s.pwr.pilot != .backup then s
    else atTick s (some ((s.pwr.vbatBelow.getD s.now) + 100 * ptoClock)) fun s =>
      { s with pwr := { s.pwr with pilot := .cutoff, pilotLast := .cutoff, cutoffAt := some s.now } })

/-- PILOT_DEAD: 400 PTO clocks in CUTOFF-PENDING. -/
def execPilotDead (s : State) : Host.Outcome State Fault Refusal :=
  .next (if s.pwr.pilot != .cutoff then s
    else atTick s (some ((s.pwr.cutoffAt.getD s.now) + 400 * ptoClock)) pilotDies)

/-- VBAT_RECOVER: the 100-clock count restarts; only in BACKUP (R68). -/
def execVbatRecover (s : State) : Host.Outcome State Fault Refusal :=
  .next (if s.pwr.pilot = .backup then { s with pwr := { s.pwr with vbatBelow := some (ptoEdge s s.now) } } else s)

def pilotCode : PilotState → Nat
  | .normal => 0 | .backup => 1 | .cutoff => 2 | .dead => 3

def pilotName : PilotState → String
  | .normal => "NORMAL" | .backup => "BACKUP" | .cutoff => "CUTOFF-PENDING" | .dead => "DEAD"

/-- PILOT_STATE_POST: on a change, and otherwise every 100 ms (R75). -/
def execPilotStatePost (s : State) : Host.Outcome State Fault Refusal :=
  let due := if s.pwr.pilot = s.pwr.pilotPostVal then s.pwr.pilotPosted + 100 * tickMs else s.now
  .next (atTick s (some due) fun s =>
    arrive { s with pwr := { s.pwr with pilotPosted := s.now, pilotPostVal := s.pwr.pilot } } 197 (BitVec.ofNat 16 (pilotCode s.pwr.pilot)) none .none)

/-! ### The auxiliary output (R46, R47) -/

/-- Whether an aux grant is in force. -/
def auxGrant (s : State) : Bool := s.lve.grants.any fun g => g.h = .aux

/-- The output switched off by a trip. -/
def auxTripped (s : State) : State :=
  let s := { s with pwr := { s.pwr with auxOn := false, auxTrip := true } }
  notify { s with pwr := { s.pwr with auxRetry := some s.now } } "PWR.AUX-TRIP" none

/-- AUX_TRIP: above 1.30 A, or above 0.80 A for 50 ms with no aux grant in force. -/
def execAuxTrip (ma : BitVec 16) (long : Bool) (s : State) : Host.Outcome State Fault Refusal :=
  .next (if s.pwr.auxOn && (1300 < ma.toNat || (800 < ma.toNat && long && !auxGrant s)) then auxTripped s else s)

/-- The request for AUXON leave (Table LVE-1). -/
def auxRequest (s : State) (cls : LClass) (cmd : Option Nat) : State :=
  let r : LReq := { h := .aux, op := 4, cls := cls, line := 0, power := 28800, aux := 750, inrush := true, calm := false, dur := 500, arrival := s.now, serial := s.lve.serial, cmd := cmd }
  askLeave { s with lve := { s.lve with serial := s.lve.serial + 1 }, pwr := { s.pwr with auxWant := true } } s.epoch r

/-- The instant of the next retry: AUXRETRY, as it stands, after the last trip, refusal or timeout (R47). -/
def auxRetryDue (s : State) : Option Nat :=
  match cfgNano s pwrObj "AUXRETRY", s.pwr.auxRetry with
  | some v, some t => some (t + (v / 125).toNat)
  | _, _ => none

/-- AUX_RETRY: AUXRETRY has elapsed since the trip, the refusal or the timeout. -/
def execAuxRetry (s : State) : Host.Outcome State Fault Refusal :=
  .next (if !cfgOn s pwrObj "AUX" || s.pwr.auxOn then s
    else atTick s (auxRetryDue s) fun s => auxRequest { s with pwr := { s.pwr with auxRetry := none } } .routine none)

/-! ### Charging and the cell (R64 to R66) -/

/-- The charge voltage in mV: that of the kind where none is set (Table PWR-10, R85). -/
def chgMv (s : State) : Nat :=
  match cfgFind s.cfg (pwrObj, "CHGV") with
  | some (.num v :: _) => (v / 1000000).toNat
  | _ => if cfgIs s pwrObj "BACKUP" "SCAP" then 2700 else 3100

/-- The fast-charge current in 0.1 mA. -/
def fastTenth (s : State) : Nat :=
  match cfgFind s.cfg (pwrObj, "FASTI") with
  | some (.num v :: _) => (v / 100000).toNat
  | _ => if cfgIs s pwrObj "BACKUP" "SCAP" then 50 else 10

def hasBackup (s : State) : Bool := !cfgIs s pwrObj "BACKUP" "NONE"

/-- Mains as the keeper takes it: absent from the moment it is absent (R55), and while X188 fails (R75). -/
def keeperMains (s : State) : Bool := s.lve.mainsK && s.pwr.mains && !xFailing s 188

/-- Charging is possible: a source, NORMAL, mains and the charging window. -/
def mayCharge (s : State) : Bool := hasBackup s && s.pwr.pilot = .normal && keeperMains s && s.thm.winCharge

/-- The evaluation of VBAT once per minute in NORMAL (R65, R66). -/
def vbatEvaluate (s : State) (mv : Nat) : State :=
  let src := hasBackup s
  let blk := src && !s.thm.winCharge
  let may := mayCharge s
  let since := if may then some (s.pwr.chargeSince.getD s.now) else none
  let absent := src && mv < 1000
  let charged := match since with | some t => t + 3600000 * tickMs ≤ s.now | none => false
  let low := src && mv < 2600 && (blk || charged)
  let newAbsent := absent && !s.pwr.absentIssued
  let newLow := low && !s.pwr.lowIssued
  let s := { s with pwr := { s.pwr with vbat := mv, absent := absent, low := low, tempBlk := blk, trickle := may && !s.pwr.fast, chargeSince := since, absentIssued := absent, lowIssued := low } }
  let s := if newAbsent then notify s "PWR.CELL-ABSENT" none else s
  let s := if newLow then notify s "PWR.CELL-LOW" none else s
  let asked := s.lve.grants.any (fun g => g.h = .charge) || s.lve.queue.any (fun r => r.h = .charge) || s.lve.posted.any fun p => p.2.h = .charge
  if may && !asked && s.ana.mode != .quiet && mv + 150 < chgMv s then
    let r : LReq := { h := .charge, op := 9, cls := .service, line := 0, power := 100, aux := 0, inrush := false, calm := false, dur := 60000, arrival := s.now, serial := s.lve.serial, cmd := none }
    askLeave { s with lve := { s.lve with serial := s.lve.serial + 1 } } s.epoch r
  else s

/-- VBAT_EVALUATION: a cell voltage beyond the absolute maximum of Table ELC-1 has no behaviour. -/
def execVbatEvaluation (mv : Int) (s : State) : Host.Outcome State Fault Refusal :=
  if mv < -300 || 3600 < mv then .fault .absoluteMaximum
  else if s.pwr.pilot != .normal then .next s
  else .next (vbatEvaluate s mv.toNat)

/-! ### Registers with a row of their own, and the beginnings of resets -/

/-- RSTCAUSE_CLEAR: writing 1 to a bit clears it (R86). -/
def execRstcauseClear (v : Word) (s : State) : Host.Outcome State Fault Refusal :=
  .next { s with pwr := { s.pwr with rstcause := s.pwr.rstcause &&& ~~~(v.truncate 7) } }

/-- LOCKED_ISLANDS_LOCK: the crystal runs and the locked islands lock; LINK0 and LINK1 receive (Table PWR-2). -/
def execLockedIslandsLock (s : State) : Host.Outcome State Fault Refusal :=
  .next (if coreRuns s then rtsFollows { s with pwr := { s.pwr with xtal := true } } else s)

end Sys2Proof.Machine
end

