-- ==== Sys2Proof/Machine/Leave.lean ====
section
/-!
DEFINITION. Lamplighter (*Lamplighter: asking for leave before heavy work*): the operations and their costs, the three
budgets, the decision at each epoch boundary, refusal, timeout, return and withdrawal, and what an answer does to the
auxiliary output and the charger.
-/
namespace Sys2Proof.Machine
open Sys2Proof

def leaveObj : Obj := ⟨.leave, 0⟩

/-! ### Holders, classes and costs (R87, R88) -/

/-- The holder codes of Table LVE-9, going on from `aux`. -/
def holderCode : Holder → Nat
  | .drive d => d.val | .aux => 32 | .lantern => 33 | .cal => 34 | .bist => 35 | .freeze => 36 | .charge => 37

def holderName : Holder → String
  | .drive d => objName ⟨.drive, d.val⟩ | .aux => "AUX" | .lantern => "LANTERN" | .cal => "CAL" | .bist => "BIST"
  | .freeze => "FREEZE" | .charge => "CHARGE"

def classIdx : LClass → Nat
  | .urgent => 0 | .manual => 1 | .routine => 2 | .service => 3

def className : LClass → String
  | .urgent => "URGENT" | .manual => "MANUAL" | .routine => "ROUTINE" | .service => "SERVICE"

def higherClass (a b : LClass) : LClass := if classIdx a ≤ classIdx b then a else b

def isDriveHolder : Holder → Bool
  | .drive _ => true | _ => false

/-- The holders that a worker serves. -/
def isWorkerHolder : Holder → Bool
  | .drive _ => true | .lantern => true | _ => false

def driveObj (d : Nat) : Obj := ⟨.drive, d⟩

/-- A holder's request (Table LVE-1); none for a drive whose start is not heavy.  `dur` counts for LUPD and BIST. -/
def leaveReq (s : State) (h : Holder) (cls : LClass) (dur : Nat) (cmd : Option Nat) : Option LReq :=
  let r : LReq := { h := h, op := 0, cls := cls, line := 0, power := 0, aux := 0, inrush := false, calm := false, dur := dur, arrival := s.now, serial := 0, cmd := cmd }
  match h with
  | .drive d =>
    let o := driveObj d
    let k := cfgWord s o "KIND"
    if k = "PAIR" || k = "SINGLE" then
      some { r with op := 1, line := startMa s o.n, power := 300, inrush := true, dur := cfgMilli s o "INRUSHT" }
    else if k = "DC" then
      some { r with op := 2, line := startMa s o.n, power := 500, inrush := true, dur := cfgMilli s o "INRUSHT" }
    else if k = "FLOAT" then
      some { r with op := 3, aux := cfgMilli s o "AUXMA", power := 24 * cfgMilli s o "AUXMA", dur := 500 }
    else none
  | .aux => some { r with op := 4, aux := 750, power := 28800, inrush := true, dur := 500 }
  | .lantern => some { r with op := 5, cls := .routine, power := 1500, calm := true }
  | .cal => some { r with op := 6, cls := .service, power := 1000, calm := true, dur := 400 }
  | .bist => some { r with op := 7, cls := .service, power := 3000, calm := true }
  | .freeze => some { r with op := 8, cls := .routine, power := 800, dur := 100 }
  | .charge => some { r with op := 9, cls := .service, power := 100, dur := 60000 }

/-! ### The budget (R89 to R92, R105) -/

/-- The row of Table ELC-9 at or below a temperature in 0.01 °C: total current in mA, linear between rows. -/
def derateTotal (t : Int) : Nat :=
  if t ≤ 8000 then 6000 else if 10500 ≤ t then 0
  else if t ≤ 10000 then (6000 - (t - 8000) * 1000 / 500).toNat else (2000 - (t - 10000) * 2000 / 500).toNat

/-- The current of one feed (Table ELC-9) in mA. -/
def derateFeed (t : Int) : Nat :=
  if t ≤ 8000 then 1500 else if 10500 ≤ t then 0
  else if t ≤ 10000 then (1500 - (t - 8000) * 250 / 500).toNat else (500 - (t - 10000) * 500 / 500).toNat

/-- The value a crossing delivered last; none while it fails or has delivered nothing. -/
def xTrusted (s : State) (x : Nat) : Option Int :=
  if xFailing s x then none else (xCurrent s x).map (·.val)

/-- The total feed current allowed at the module temperature (R695); 0 while X145 fails.  Until X145 has delivered
anything since reset it is the full 6000 mA (DESIGN CHOICE, log 86). -/
def ider (s : State) : Nat :=
  if xFailing s 145 then 0
  else match xCurrent s 145 with
    | some r => derateTotal r.val
    | none => 6000

/-- The value Lamplighter takes from a crossing: `sub` while it fails (Table LVE-5); 0 before its first delivery (DESIGN
CHOICE, log 86). -/
def leaveMeasure (s : State) (x sub : Nat) : Nat :=
  if xFailing s x then sub else match xCurrent s x with | some r => r.val.toNat | none => 0

/-- The budgets at s = 1: line and aux in mA, power in mW. -/
def fullLine (s : State) : Nat := min (cfgMilli s leaveObj "LINEMAX") (ider s)
def fullPower (s : State) : Nat := cfgMilli s leaveObj "PMOD"
def fullAux : Nat := 750

/-- The scale s as a fraction (R89): 0 until X188 has first reported mains, and 1 while a nominal is set and no RMS has
been delivered yet (DESIGN CHOICE, log 86). -/
def leaveScale (s : State) : Nat × Nat :=
  if !keeperMains s then (0, 1)
  else if !nomSet s || nomTenth s = 0 then (1, 1)
  else match s.lve.vmin with
    | [] => (1, 1)
    | v :: l =>
      let m := l.foldl min v
      if nomTenth s ≤ m then (1, 1) else (m, nomTenth s)

/-- The measured loads: line in 0.25 mA, power in mW, aux in mA (R91). -/
def measuredLine (s : State) : Nat :=
  (List.range 8).foldl (fun acc f => acc + leaveMeasure s (129 + f) 6000) 0

def grantSum (s : State) (f : LGrant → Nat) : Nat := s.lve.grants.foldl (fun acc g => acc + f g) 0

/-- Budgets and committed loads computed anew. -/
def leaveLoads (s : State) : State :=
  let sc := leaveScale s
  { s with lve := { s.lve with ran := true, scaleNum := sc.1, scaleDen := sc.2, budL := fullLine s, budP := fullPower s, budA := fullAux, comL := measuredLine s + 4 * grantSum s (·.line), comP := leaveMeasure s 150 (fullPower s) + grantSum s (·.power), comA := leaveMeasure s 146 750 + grantSum s (·.aux) } }

/-- A request fits one currency: the committed load plus its cost does not exceed the budget (R92). -/
def fitsOne (cost com budNum budDen : Nat) : Bool := (com + cost) * budDen ≤ budNum

/-- A request fits (R92). -/
def fits (l : Lve) (r : LReq) : Bool :=
  fitsOne (4 * r.line) l.comL (4 * l.budL * l.scaleNum) l.scaleDen
    && fitsOne r.power l.comP (l.budP * l.scaleNum) l.scaleDen && fitsOne r.aux l.comA l.budA 1

/-- A currency is overdrawn (R102). -/
def overdrawnL (l : Lve) : Bool := 4 * l.budL * l.scaleNum < l.comL * l.scaleDen
def overdrawnP (l : Lve) : Bool := l.budP * l.scaleNum < l.comP * l.scaleDen
def overdrawnA (l : Lve) : Bool := l.budA < l.comA

/-- One currency's notice on a change, and the count of episodes. -/
def overNotice (s : State) (was is : Bool) (name : String) : State :=
  if is && !was then
    notify { s with lve := { s.lve with nOver := satInc 65535 s.lve.nOver } } "LEAVE.OVERDRAWN" none ("CURRENCY=" ++ name)
  else if was && !is then notify s "LEAVE.CLEAR" none ("CURRENCY=" ++ name)
  else s

/-- LEAVE.OVERDRAWN and LEAVE.CLEAR. -/
def leaveOver (s : State) : State :=
  let l := s.lve
  let a := overdrawnL l
  let b := overdrawnP l
  let c := overdrawnA l
  let s := overNotice s l.overL a "LINE"
  let s := overNotice s l.overP b "POWER"
  let s := overNotice s l.overA c "AUX"
  { s with lve := { s.lve with overL := a, overP := b, overA := c } }

/-- A decision as the journal takes it (Table JRN-2): 1 grant, 2 deferral, 3 refusal, 4 timeout, 5 return, 6 calm break,
7 withdrawal.  The word of a reason has no stated codes: a free value. -/
def leaveLog (s : State) (h : Holder) (op ev : Nat) : State :=
  let bits := holderCode h + 64 * op + 1024 * ev
  if ev = 2 || ev = 3 then jrnPut (drawn s) 5 bits [(freeBits 32 s).toNat] else jrnPut s 5 bits

/-! ### Arrival and refusal (R93, R95, R97) -/

/-- An answer for a holder, at the next boundary (R94). -/
def leaveAnswer (s : State) (h : Holder) (a : LAnswer) (cmd : Option Nat) : State :=
  { s with lve := { s.lve with answers := s.lve.answers ++ [⟨h, a, s.epoch + 1, cmd⟩] } }

/-- Whether an operation's command carries a tag (R95); a calibration serves every CAL command that waits for it. -/
def taggedReq (s : State) (r : LReq) : Bool :=
  if r.h = .cal then s.vil.outs.any fun o => o.work = .cal && o.tag != none
  else match r.cmd.bind (findOut s) with | some o => o.tag != none | none => false

/-- A refusal at once (R95). -/
def leaveRefuse (s : State) (r : LReq) (why : String) : State :=
  let s := leaveLog { s with lve := { s.lve with nRefused := satInc 65535 s.lve.nRefused } } r.h r.op 3
  let s := if taggedReq s r then s
    else notify s "LEAVE.REFUSED" none ("HOLDER=" ++ holderName r.h ++ " OP=" ++ natStr r.op ++ " REASON=" ++ why)
  leaveAnswer s r.h (.refused why) r.cmd

/-- A request stands before another: by class, then by arrival (R93). -/
def reqBefore (a b : LReq) : Bool :=
  classIdx a.cls < classIdx b.cls || (classIdx a.cls = classIdx b.cls && a.serial < b.serial)

def reqInsert (r : LReq) : List LReq → List LReq
  | [] => [r]
  | a :: l => if reqBefore r a then r :: a :: l else a :: reqInsert r l

/-- A request's cost exceeds a budget at s = 1 with no measured load (R95). -/
def overCost (s : State) (r : LReq) : Bool :=
  fullLine s < r.line || fullPower s < r.power || fullAux < r.aux

/-- A request reaches Lamplighter: it replaces the holder's queued request, joins the queue, or is refused. -/
def leaveArrive (s : State) (r : LReq) : State :=
  if overCost s r then leaveRefuse s r "COST"
  else match s.lve.queue.find? (·.h = r.h) with
    | some q =>
      let n := { r with cls := higherClass q.cls r.cls, serial := q.serial, arrival := q.arrival, waited := q.waited, defers := q.defers, why := q.why }
      { s with lve := { s.lve with queue := reqInsert n (s.lve.queue.filter (·.h != r.h)) } }
    | none =>
      if 64 ≤ s.lve.queue.length then leaveRefuse s r "FULL"
      else { s with lve := { s.lve with queue := reqInsert { r with serial := s.lve.serial, arrival := s.now } s.lve.queue, serial := s.lve.serial + 1 } }

/-- The place of a sender among the requests of one boundary: WORK0, WORK1, then KEEPER's holders by code (R93). -/
def senderKey : Holder → Nat
  | .lantern => 0 | .drive _ => 1 | h => 2 + holderCode h

/-- The requests posted for this boundary, in the order of their senders. -/
def leaveDue (s : State) : List LReq :=
  let l := (s.lve.posted.filter fun p => p.1 ≤ s.epoch).map (·.2)
  l.mergeSort fun a b => senderKey a.h ≤ senderKey b.h

def leaveDelivered (s : State) : State :=
  let gone := (s.lve.withdraws.filter fun p => p.1 ≤ s.epoch).map (·.2)
  let s := (s.lve.queue.filter fun r => gone.contains r.h).foldl (fun s r => leaveLog s r.h r.op 7) s
  let s := { s with lve := { s.lve with queue := s.lve.queue.filter fun r => !gone.contains r.h, withdraws := s.lve.withdraws.filter fun p => !(p.1 ≤ s.epoch) } }
  let l := leaveDue s
  l.foldl leaveArrive { s with lve := { s.lve with posted := s.lve.posted.filter fun p => !(p.1 ≤ s.epoch) } }

/-! ### The ends of grants (R93, R100, R106) -/

def grantEnd (g : LGrant) : Nat := g.start + g.dur * tickMs

def grantOver (s : State) (g : LGrant) : Bool := (g.returned && g.retAt < s.epoch) || grantEnd g ≤ s.now

/-- CHARGE stops at the end of its grant; trickle charging resumes (R65, R100). -/
def chargeEnds (s : State) : State :=
  if s.pwr.fast then { s with pwr := { s.pwr with fast := false, trickle := mayCharge s } } else s

/-- Every grant that has run out or was returned ends. -/
def grantsEnd (s : State) : State :=
  let gone := s.lve.grants.filter (grantOver s)
  let s' := { s with lve := { s.lve with grants := s.lve.grants.filter fun g => !grantOver s g } }
  if gone.any fun g => g.h = .charge then chargeEnds s' else s'

/-! ### The decision (R93, Table LVE-2) -/

def calmHeld (l : Lve) : Bool := l.grants.any (·.calm)
def windowOpen (l : Lve) : Bool := l.grants.any (·.inrush)

/-- The stagger has elapsed for a class (R98, R110). -/
def staggerOver (s : State) (c : LClass) : Bool :=
  match s.lve.lastInrush with
  | none => true
  | some t =>
    if c = .urgent then s.lve.stagUDone || t + cfgTicks s leaveObj "STAGGERU" ≤ s.now
    else s.lve.stagDone || t + cfgTicks s leaveObj "STAGGER" ≤ s.now

/-- A request of this class stands behind one that a currency blocks. -/
def behind (blocked : Option LClass) (c : LClass) : Bool :=
  match blocked with | some b => classIdx b ≤ classIdx c | none => false

/-- The row of Table LVE-2 for a request: the reason of its deferral, or none where it is granted.  A request whose holder
has a grant in force waits for its end (R97). -/
def leaveVerdict (s : State) (blocked : Option LClass) (ahead : List LReq) (r : LReq) : Option String :=
  let l := s.lve
  if l.scaleNum = 0 then some "MAINS"
  else if r.cls = .service && l.sagK then some "SAG"
  else if r.h = .bist && s.tst.x200 then some "-"
  else if l.grants.any (fun g => g.h = r.h) then some "GRANT"
  else if !fits l r || 32 ≤ l.grants.length then some "BUDGET"
  else if behind blocked r.cls then some "BEHIND"
  else if r.inrush && !staggerOver s r.cls then some "STAGGER"
  else if r.calm && (windowOpen l || ahead.any (·.inrush)) then some "INRUSH"
  else if r.inrush && (r.cls = .routine || r.cls = .service) && calmHeld l then some "CALM"
  else none

/-- The calm breaks of an inrush grant (R99): one for each calm grant in force, naming its holder (DESIGN CHOICE, log
86). -/
def calmBreak (s : State) : State :=
  (s.lve.grants.filter (·.calm)).foldl (fun s g => leaveAnswer (leaveLog { s with lve := { s.lve with nCalm := satInc 65535 s.lve.nCalm } } g.h g.op 6) g.h .calmBreak g.cmd) s

/-- A grant: its costs join the committed loads. -/
def leaveGrant (s : State) (r : LReq) : State :=
  let s := if r.inrush then
      calmBreak { s with lve := { s.lve with lastInrush := some s.now, lastOp := r.op, lastHolder := some r.h, stagDone := false, stagUDone := false } }
    else s
  let l := s.lve
  let g : LGrant := { h := r.h, op := r.op, cls := r.cls, line := r.line, power := r.power, aux := r.aux, inrush := r.inrush, calm := r.calm, start := s.now, dur := r.dur, cmd := r.cmd }
  let s := { s with lve := { l with grants := l.grants ++ [g], comL := l.comL + 4 * r.line, comP := l.comP + r.power, comA := l.comA + r.aux, nGrant := satInc 0xFFFFFFFF l.nGrant } }
  leaveAnswer (leaveLog s r.h r.op 1) r.h .granted r.cmd

/-- The walk over the queue: `ahead` are the requests deferred so far. -/
def leaveWalk : List LReq → State → Option LClass → List LReq → State × List LReq
  | [], s, _, ahead => (s, ahead)
  | r :: l, s, blocked, ahead =>
    match leaveVerdict s blocked ahead r with
    | none => leaveWalk l (leaveGrant s r) blocked ahead
    | some why =>
      let blocked := if why = "BUDGET" && blocked = none then some r.cls else blocked
      let s := if r.defers = 1 then leaveLog s r.h r.op 2 else s
      leaveWalk l s blocked (ahead ++ [{ r with why := why, defers := r.defers + 1 }])

/-- Whether a request's wait timer runs: a SERVICE timer stops while a SAG mark is open and while mains is absent
(Table LVE-2, R103). -/
def waitRuns (l : Lve) (r : LReq) : Bool := r.cls != .service || !(l.sagK || l.scaleNum = 0)

/-- One millisecond of waiting for every request that stood in the queue before this boundary. -/
def leaveWaited (s : State) : State :=
  { s with lve := { s.lve with queue := s.lve.queue.map fun r => if waitRuns s.lve r then { r with waited := r.waited + 1 } else r } }

/-- Lamplighter's part of an epoch boundary, after the deliveries. -/
def leaveBoundary (s : State) : State :=
  let s := grantsEnd s
  let s := leaveLoads s
  let s := leaveOver s
  let s := leaveDelivered (leaveWaited s)
  let p := leaveWalk s.lve.queue s none []
  { p.1 with lve := { p.1.lve with queue := p.2 } }

/-- A holder's leave has been granted, be the answer still on its way (R225). -/
def holderGranted (s : State) (h : Holder) : Bool := s.lve.grants.any fun g => g.h = h && !g.returned

/-! ### The rows of the table -/

/-- LEAVE_REQUEST: a holder's request reaches Lamplighter; nothing for a drive whose start is not heavy (R87). -/
def execLeaveRequest (h : Holder) (cls : LClass) (dur : Nat) (s : State) : Host.Outcome State Fault Refusal :=
  .next (if !coreRuns s then s
    else match leaveReq s h cls dur none with
      | some r => leaveArrive s r
      | none => s)

/-- The wait limit of a class in ms (R96). -/
def waitLimit (s : State) : LClass → Option Nat
  | .urgent => none
  | .manual => some (cfgMilli s leaveObj "WAITMAN")
  | .routine => some (cfgMilli s leaveObj "WAITROUT")
  | .service => some (cfgMilli s leaveObj "WAITSERV")

/-- A request ends with a timeout (R96). -/
def leaveTimesOut (s : State) (r : LReq) : State :=
  let s := leaveLog { s with lve := { s.lve with queue := s.lve.queue.filter (·.h != r.h), nTimeout := satInc 65535 s.lve.nTimeout } } r.h r.op 4
  let s := if taggedReq s r then s
    else notify s "LEAVE.TIMEOUT" none ("HOLDER=" ++ holderName r.h ++ " OP=" ++ natStr r.op)
  leaveAnswer s r.h .timeout r.cmd

/-- LEAVE_TIMEOUT: the holder's request has waited as long as its class may. -/
def execLeaveTimeout (h : Holder) (s : State) : Host.Outcome State Fault Refusal :=
  .next (match s.lve.queue.find? (·.h = h) with
    | some r => match waitLimit s r.cls with
      | some n => if n ≤ r.waited then leaveTimesOut s r else s
      | none => s
    | none => s)


/-- A holder's grant is marked as over: it ends at the next boundary. -/
def grantMark (s : State) (h : Holder) : State :=
  { s with lve := { s.lve with grants := s.lve.grants.map fun g => if g.h = h then { g with returned := true, retAt := if g.returned then g.retAt else s.epoch } else g } }

/-- A holder's grant is returned: journaled once (R112) and marked; none that was lost in a warm restart (R109). -/
def grantBack (s : State) (h : Holder) : State :=
  match s.lve.grants.find? (·.h = h) with
  | some g => if g.orphan || g.returned then s else grantMark (leaveLog s h g.op 5) h
  | none => s

/-- GRANT_EXPIRY: the grant's duration runs out at the boundary that ends this epoch, or has run out. -/
def execGrantExpiry (h : Holder) (s : State) : Host.Outcome State Fault Refusal :=
  .next (match s.lve.grants.find? (·.h = h) with
    | some g => if grantEnd g ≤ epochTick s (s.epoch + 1) then grantMark s h else s
    | none => s)

/-- A grant returned by its holder: never a drive's (R101). -/
def leaveReturn (s : State) (h : Holder) : State :=
  if isDriveHolder h then s else grantBack s h

/-- GRANT_RETURN. -/
def execGrantReturn (h : Holder) (s : State) : Host.Outcome State Fault Refusal := .next (leaveReturn s h)

/-- A holder withdraws the requests of the commands `p`: each queued request leaves the queue; a grant decided in this epoch is taken as returned
(R97, R108). -/
def withdrawOf (s : State) (h : Holder) (p : Option Nat → Bool) : State :=
  let fresh (m : LMsg) : Bool := m.h = h && p m.cmd && m.a = .granted && s.epoch < m.epoch
  let back := s.lve.answers.any fresh
  let s := (s.lve.queue.filter fun r => r.h = h && p r.cmd).foldl (fun s r => leaveLog s h r.op 7) s
  let s := { s with lve := { s.lve with queue := s.lve.queue.filter (fun r => !(r.h = h && p r.cmd)), posted := s.lve.posted.filter fun x => !(x.2.h = h && p x.2.cmd) } }
  if back then
    grantBack { s with lve := { s.lve with answers := s.lve.answers.filter fun m => !fresh m } } h
  else s

/-- A holder withdraws all that it asks for. -/
def leaveWithdraw (s : State) (h : Holder) : State := withdrawOf s h fun _ => true

/-- A withdrawal posted by a worker: it reaches KEEPER at the next boundary, and a grant on its way is abandoned when it
arrives (R97, R100). -/
def withdrawPost (s : State) (h : Holder) : State :=
  { s with lve := { s.lve with posted := s.lve.posted.filter (fun p => p.2.h != h), withdraws := s.lve.withdraws ++ [(s.epoch + 1, h)] } }

/-- LEAVE_WITHDRAW. -/
def execLeaveWithdraw (h : Holder) (s : State) : Host.Outcome State Fault Refusal := .next (leaveWithdraw s h)

/-- Every queued request that a predicate names is withdrawn, each with its record in the journal (R97, R109). -/
def leaveDrop (s : State) (p : Holder → Bool) : State :=
  let s := (s.lve.queue.filter fun r => p r.h).foldl (fun s r => leaveLog s r.h r.op 7) s
  { s with lve := { s.lve with queue := s.lve.queue.filter fun r => !p r.h, posted := s.lve.posted.filter fun r => !p r.2.h } }

/-- Grants in force of the workers run to the end of their durations: a warm restart has taken them from their holders
(R109). -/
def grantsOrphan (s : State) : State :=
  { s with lve := { s.lve with grants := s.lve.grants.map fun g => if isWorkerHolder g.h then { g with orphan := true } else g } }

/-- STAGGER_ELAPSED: STAGGER, and STAGGERU for URGENT, have elapsed by the boundary that ends this epoch. -/
def execStaggerElapsed (s : State) : Host.Outcome State Fault Refusal :=
  .next (match s.lve.lastInrush with
    | none => s
    | some t =>
      let by_ := epochTick s (s.epoch + 1)
      { s with lve := { s.lve with stagDone := s.lve.stagDone || t + cfgTicks s leaveObj "STAGGER" ≤ by_, stagUDone := s.lve.stagUDone || t + cfgTicks s leaveObj "STAGGERU" ≤ by_ } })

/-- Grants, refusals, timeouts and calm breaks since reset (Table LVE-4). -/
def leaveCounts (l : Lve) : List Nat := sinceReset 0xFFFFFFFF [l.nGrant, l.nRefused, l.nTimeout, l.nCalm] l.past

/-- LEAVE_CLR: writing 1 clears LEAVE_CNT0 to LEAVE_CNT2 (Table LVE-10). -/
def execLeaveClr (v : Word) (s : State) : Host.Outcome State Fault Refusal :=
  .next (if v.getLsbD 0 then { s with lve := { s.lve with past := leaveCounts s.lve, nGrant := 0, nRefused := 0, nTimeout := 0, nCalm := 0, nOver := 0 } } else s)

/-! ### The answers for the auxiliary output and the charger (R46, R47, R65) -/

/-- A retry of the auxiliary switch-on after AUXRETRY. -/
def auxAgain (s : State) : State :=
  if cfgOn s pwrObj "AUX" then { s with pwr := { s.pwr with auxRetry := some s.now } } else s

/-- The answer for the auxiliary output: the output is switched on with the grant; else AUXRETRY asks again. -/
def auxAnswer (s : State) (a : LAnswer) : State :=
  match a with
  | .granted => { s with pwr := { s.pwr with auxOn := true, auxTrip := false, auxWant := false, auxRetry := none } }
  | .calmBreak => s
  | _ => auxAgain { s with pwr := { s.pwr with auxWant := false } }

/-- The answer for the charger. -/
def chargeAnswer (s : State) (a : LAnswer) : State :=
  if a = .granted then
    if mayCharge s then { s with pwr := { s.pwr with fast := true, trickle := false } } else grantBack s .charge
  else s

/-- FAST_CHARGE_END: VBAT has reached CHGV − 0.02 V; trickle charging resumes and the grant is returned. -/
def execFastChargeEnd (mv : Int) (s : State) : Host.Outcome State Fault Refusal :=
  .next (if s.pwr.fast && (chgMv s : Int) ≤ mv + 20 then
      grantBack { s with pwr := { s.pwr with fast := false, trickle := mayCharge s, vbat := mv.toNat } } .charge
    else s)

/-! ### SHOW LEAVE QUEUE and the attributes (R113) -/

def reqLine (s : State) (r : LReq) : String :=
  joinStr " " [holderName r.h, "OP=" ++ natStr r.op, "CLASS=" ++ className r.cls, "AGE=" ++ natStr ((s.now - r.arrival) / tickMs) ++ "ms", "REASON=" ++ (if r.why = "-" then "NONE" else r.why)]

/-- The read-only attributes of LEAVE. -/
def leaveAttr (s : State) (a : String) : String :=
  let l := s.lve
  let lim (n : Nat) : Nat := n * l.scaleNum / l.scaleDen
  if a = "SCALE" then milliStr (1000 * l.scaleNum / l.scaleDen) 3
  else if a = "BUDGET" then
    milliStr (lim l.budL / 10 * 10) 2 ++ "A," ++ milliStr (lim l.budP / 100 * 100) 1 ++ "W," ++ natStr l.budA ++ "mA"
  else if a = "COMMITTED" then
    milliStr (l.comL / 40 * 10) 2 ++ "A," ++ milliStr (l.comP / 100 * 100) 1 ++ "W," ++ natStr l.comA ++ "mA"
  else if a = "GRANTS" then
    if l.grants.isEmpty then "NONE" else joinStr "," (l.grants.map fun g => holderName g.h)
  else joinStr "," ((leaveCounts l).map natStr)

end Sys2Proof.Machine
end

