-- ==== Sys2Proof/Machine/Converters.lean ====
section
/-!
DEFINITION. Universal channels and the fast and line converters (*Universal channels and the three converters*): dry
contacts and outputs, trips, FC bursts, LC sample sets, the reference buffer, calibration, and the CHAN, IC, FC and
PROBE registers.
-/
namespace Sys2Proof.Machine
open Sys2Proof

def convObj : Obj := ⟨.conv, 0⟩

def modeCodeOf (m : String) : Nat :=
  (["OFF", "V10IN", "NTC10K", "NTC20K", "PT1000", "RES", "DRY", "PULSE", "V10OUT", "ODOUT"].findIdx? (· = m)).getD 0

def grpSt (s : State) (g : Nat) : GrpSt := tget {} s.cnv.grps g
def setGrp (s : State) (g : Nat) (x : GrpSt) : State := { s with cnv := { s.cnv with grps := tset s.cnv.grps g x } }

/-! ### Outputs (R271, R272, R303) -/

/-- A V10OUT channel takes a voltage in mV. -/
def setV10 (s : State) (u mv : Nat) : State := setChan s u { chanSt s u with out := mv }

/-- An ODOUT channel is switched; a switch-on ends its trip. -/
def setOd (s : State) (u : Nat) (on : Bool) : State :=
  let c := chanSt s u
  if on then
    let g := grpSt s (u / 8)
    setGrp (setChan s u { c with out := 1, trip := false, fresh := c.out = 0 || c.fresh }) (u / 8) { g with tripped := false }
  else setChan s u { c with out := 0, fresh := false }

/-- A channel takes an output of `u` in 0.01 %: V10OUT 10 V × u, ODOUT on from 50 % (R455). -/
def setOutput (s : State) (u pct : Nat) : State :=
  if chanMode s u = "V10OUT" then setV10 s u (min 10000 pct)
  else if chanMode s u = "ODOUT" then (if 5000 ≤ pct then (if (chanSt s u).out = 1 then s else setOd s u true) else setOd s u false)
  else s

/-- OD_TRIP: an ODOUT channel above 130 mA is switched off. -/
def execOdTrip (c : Fin 96) (ma : BitVec 12) (s : State) : Host.Outcome State Fault Refusal :=
  .next (if chanMode s c != "ODOUT" || (chanSt s c).out = 0 || ma.toNat ≤ 130 then s
    else
      let s := setChan s c { chanSt s c with out := 0, trip := true, fresh := false }
      let g := grpSt s (c / 8)
      let s := setGrp s (c / 8) { g with trips := satInc 255 g.trips }
      let s := verdictTest s c 3
      notify s "CNV.OD-TRIP" (some (chanObj c)))

/-- GROUP_TRIP: a group's open-drain current above 400 mA for 10 ms switches off every ODOUT of the group. -/
def execGroupTrip (g : Fin 12) (ma : BitVec 12) (s : State) : Host.Outcome State Fault Refusal :=
  .next (
    let x := grpSt s g
    let s := setGrp s g { x with ma := ma.toNat }
    if ma.toNat ≤ 400 then s
    else
      let s := setGrp s g { x with ma := ma.toNat, tripped := true, tripEpoch := some s.epoch, trips := satInc 255 x.trips }
      let us := (List.range 8).map (8 * g.val + ·)
      let s := us.foldl (fun s u => if chanMode s u = "ODOUT" then setChan s u { chanSt s u with out := 0, trip := true, fresh := false } else s) s
      notify s "CNV.GROUP-TRIP" none ("GROUP=" ++ natStr g.val ++ " MA=" ++ natStr ma.toNat ++ "mA"))

/-- A change of a channel's mode: its verdict and outputs start anew, and a window in progress loses its use (R293,
R299, R304). -/
def chanModeChanged (s : State) (u : Nat) : State :=
  let s := setChan s u {}
  match s.cnv.win with
  | some w => if w.ch = u && !w.calib then { s with cnv := { s.cnv with win := some { w with void := true } } } else s
  | none => s

/-- The channels after a change of the configuration from that of `old`; a V10IN channel without DIAG is UNCHECKED (Table CNV-5). -/
def chansAfter (old s : State) : State :=
  (List.range 96).foldl (fun s u =>
    if chanMode old u != chanMode s u then chanModeChanged s u
    else if (diagOf old u).isSome && (diagOf s u).isNone then setChan s u { chanSt s u with verdict := 4, cand := 4, agree := 0, wins := 0 }
    else s) s

/-! ### Dry contacts (R275, R295) -/

/-- One channel at a millisecond: DRY gives its level, ODOUT its state with the trip bit. -/
def dryChannel (levels : BitVec 96) (s : State) (u : Nat) : State :=
  let m := chanMode s u
  if m = "DRY" then churnWord s u (if levels.getLsbD u then 1 else 0) 0 noFlags (mono s)
  else if m = "ODOUT" then
    let c := chanSt s u
    let s := if c.fresh then verdictTest (setChan s u { c with fresh := false }) u 0 else s
    churnWord s u (BitVec.ofNat 16 c.out) 0 { noFlags with trip := c.trip, out := verdictBad s u } (mono s)
  else s

/-- DRY_SAMPLE: the comparators of a millisecond. -/
def execDrySample (levels : BitVec 96) (s : State) : Host.Outcome State Fault Refusal :=
  .next (if sensing s then (List.range 96).foldl (dryChannel levels) s else s)

/-! ### The fast converter (R280 to R283, R288, R295, R305) -/

/-- The acquisition that an input belongs to: 32 and 33 for the quads Q0 and Q1 that the firmware owns, else the input whose
settings it follows (R280, R281). -/
def acqOf (s : State) (n : Nat) : Nat :=
  if fiOwned s n then 32 + n / 4 else if quadSimul s n && !fiOwned s (n / 4 * 4) then n / 4 * 4 else n

/-- The first input of an acquisition. -/
def acqBase (a : Nat) : Nat := if 32 ≤ a then (a - 32) * 4 else a

/-- Samples of a burst. -/
def burstOf (s : State) (n : Nat) : Nat := cfgNat s (fiObj n) "BURST"

/-- A burst of `n` samples in 0.1 µs: the set-up, and then the samples (R280). -/
def burstSpan (n : Nat) (simul : Bool) : Nat := 10 + n * (if simul then 4 else 1)

/-- The same in ticks, the last one not whole included. -/
def spanTicks (d : Nat) : Nat := (4 * d + 4) / 5

/-- An acquisition of its own: not owned, and not a follower in a SIMUL quad. -/
def acqOwn (s : State) (n : Nat) : Bool := acqOf s n = n && !cfgIs s (fiObj n) "ACQ" "OFF"

/-- The FREE interval in µs. -/
def periodUs (s : State) (n : Nat) : Nat := max 1 (cfgInt s (fiObj n) "PERIOD" 1000).toNat

/-- The FREE load, exactly, as a fraction (R282). -/
def fcShare (s : State) : Nat × Nat :=
  let l := (List.range 32).filter fun n => acqOwn s n && cfgIs s (fiObj n) "TRIG" "FREE"
  l.foldl (fun q n =>
    let d := 10 * periodUs s n
    (q.1 * d + burstSpan (burstOf s n) (cfgIs s (fiObj n) "ACQ" "SIMUL") * q.2, q.2 * d)) (0, 1)

/-- The FREE load in units of 0.1 %. -/
def fcLoad (s : State) : Nat := 1000 * (fcShare s).1 / (fcShare s).2

/-- The acquisition is active: the firmware's, or one whose route is on; those of FI08 to FI31 wait for the first calibration
(R273, R292). -/
def acqActive (s : State) (a : Nat) : Bool :=
  32 ≤ a || (fiRouted s a && acqOwn s a && (s.cnv.calFirst || a < 8))

def fcMissed (s : State) : State := { s with cnv := { s.cnv with fcMiss := satInc 0xFFFFFFFF s.cnv.fcMiss } }

/-- A burst begins now; the firmware acquires whole quads. -/
def burstStart (s : State) (a : Nat) : State :=
  let n := acqBase a
  let own := 32 ≤ a
  { s with cnv := { s.cnv with burst := some { fi := n, owned := own, simul := own || cfgIs s (fiObj n) "ACQ" "SIMUL", unset := s.cnv.ref != .ok, n := burstOf s n, start := s.now } } }

/-- The order of pending triggers: firmware-owned quads first, then the first input. -/
def pendKey (a : Nat) : Nat := if 32 ≤ a then a - 32 else a + 2

/-- The acquisition of a burst. -/
def burstAcq (b : FcBurst) : Nat := if b.owned then 32 + b.fi / 4 else b.fi

/-- A trigger for an acquisition (R281, R288, R305). -/
def fcTrigger (s : State) (a : Nat) : State :=
  if s.cnv.phase = 1 && a < 32 then fcMissed s
  else if s.cnv.fcPend.contains a || (s.cnv.burst.any fun b => burstAcq b = a) then fcMissed s
  else match s.cnv.burst with
    | none => burstStart s a
    | some _ => { s with cnv := { s.cnv with fcPend := (s.cnv.fcPend ++ [a]).mergeSort fun x y => pendKey x ≤ pendKey y } }

/-- The match of a counter triggers every acquisition that it is the source of; one that is still to be served is missed. -/
def fcMatched (s : State) (ct : Nat) : State :=
  ((List.range 32).filter fun n => acqOwn s n && cfgObj s (fiObj n) "TRIG" = some ⟨.counter, ct⟩).foldl (fun s n =>
    if s.cnv.fcDue.contains n then fcMissed s else { s with cnv := { s.cnv with fcDue := s.cnv.fcDue ++ [n] } }) s

/-- A trigger of a FREE acquisition at its period: the next one is a period later, or from now where periods were passed
over. -/
def fcPeriod (a : Nat) (s : State) : State :=
  let p := periodUs s a * 8
  let due := match s.cnv.fcLast.find? (·.1 = a) with | some (_, t) => t + p | none => s.now
  fcTrigger { s with cnv := { s.cnv with fcLast := tset s.cnv.fcLast a (if due + p ≤ s.now then s.now else due) } } a

/-- FC_TRIGGER: by a FREE period, by the match of a counter, or by the firmware for a quad of its own, within its share of
FC's time. -/
def execFcTrigger (fi : Fin 32) (ct : Option (Fin 16)) (s : State) : Host.Outcome State Fault Refusal :=
  .next (
    let a := acqOf s fi
    if !sensing s || !acqActive s a then s
    else if 32 ≤ a then (if ct = none then atTick s (some s.cnv.fcOwnFrom) fun s => fcTrigger s a else s)
    else match ct with
      | none =>
        if cfgIs s (fiObj a) "TRIG" "FREE" then
          atTick s (some (match s.cnv.fcLast.find? (·.1 = a) with | some (_, t) => t + periodUs s a * 8 | none => s.now)) (fcPeriod a)
        else s
      | some _ =>
        if s.cnv.fcDue.contains a && cfgObj s (fiObj a) "TRIG" = ct.map (fun c => ⟨.counter, c.val⟩) then
          fcTrigger { s with cnv := { s.cnv with fcDue := s.cnv.fcDue.filter (· != a) } } a
        else s)

/-- The signed inputs of Table CNV-3. -/
def fiSigned (n : Nat) : Bool := n < 8 && n % 2 = 0

/-- A code corrected for its slice (R283): the result and whether it saturated. -/
def fcCorrect (s : State) (slice n : Nat) (code : BitVec 12) : Int × Bool :=
  let x : Int := if fiSigned n then code.toInt else code.toNat
  let y := ((16 * x - s.cnv.fcOff.getD slice 0) * (s.cnv.fcGain.getD slice 16384 : Nat) + 8192) / 16384
  let lo : Int := if fiSigned n then -32768 else 0
  let hi : Int := if fiSigned n then 32767 else 65535
  (max lo (min hi y), y < lo || hi < y)

/-- The word of a corrected sample (Table CNV-6). -/
def fcWord (s : State) (n : Nat) (y : Int) : XWord :=
  if cfgIs s (fiObj n) "ALIGN" "LEFT" then BitVec.ofInt 16 y
  else
    let r := (y + 8) / 16
    BitVec.ofInt 16 (if fiSigned n then max (-2048) (min 2047 r) else max 0 (min 4095 r))

/-- The tick at which sample `j` of a burst has been taken. -/
def sampleTick (b : FcBurst) (j : Nat) : Nat :=
  b.start + spanTicks (burstSpan (if b.simul then j / 4 + 1 else j + 1) b.simul)

/-- One sample of a burst reaches its cell. -/
def fcSample (b : FcBurst) (s : State) (j : Nat) (code : BitVec 12) : State :=
  let n := if b.simul then b.fi + j % 4 else b.fi
  let t := sampleTick b j
  let y := fcCorrect s (j % 4) n code
  let f : WFlags := ⟨winMarked s t (t + 1), b.unset, y.2, false, false, false⟩
  churnWord s (96 + n) (fcWord s n y.1) 0 f (t - s.rel)

def fcSamples (b : FcBurst) : State → Nat → List (BitVec 12) → State
  | s, _, [] => s
  | s, j, c :: l => fcSamples b (fcSample b s j c) (j + 1) l

/-- The codes are those of a whole burst: BURST of each input; of a firmware-owned quad, whole sets of four. -/
def burstFits (b : FcBurst) (n : Nat) : Bool :=
  if b.owned then n % 4 = 0 else n = b.n * (if b.simul then 4 else 1)

/-- A burst ends: its samples, and the next pending trigger.  A quad of the firmware leaves four times its own time to others
(R282). -/
def burstOver (b : FcBurst) (codes : List (BitVec 12)) (s : State) : State :=
  let c := { s.cnv with burst := none, fcOwnFrom := if b.owned then b.start + 5 * (s.now - b.start) else s.cnv.fcOwnFrom }
  let s := fcSamples b { s with cnv := c } 0 codes
  match s.cnv.fcPend with
  | a :: l => burstStart { s with cnv := { s.cnv with fcPend := l } } a
  | [] => s

/-- FC_BURST_END: the burst's codes in the order in which they were taken; the next pending trigger is served. -/
def execFcBurstEnd (codes : List (BitVec 12)) (s : State) : Host.Outcome State Fault Refusal :=
  .next (match s.cnv.burst with
    | none => s
    | some b =>
      if !sensing s || !burstFits b codes.length then s
      else
        let n := if b.simul then codes.length / 4 else codes.length
        atTick s (some (b.start + spanTicks (burstSpan n b.simul))) (burstOver b codes))

/-- FC_CLR. -/
def execFcClr (v : Word) (s : State) : Host.Outcome State Fault Refusal :=
  .next (if v.getLsbD 0 then { s with cnv := { s.cnv with fcMiss := 0 } } else s)

/-- CHAN_CLR: every TRIPS field. -/
def execChanClr (v : Word) (s : State) : Host.Outcome State Fault Refusal :=
  .next (if v.getLsbD 0 then { s with cnv := { s.cnv with grps := s.cnv.grps.map fun p => (p.1, { p.2 with trips := 0 }) } } else s)

/-! ### The line converters (R284, R313) -/

/-- The product word of a feed's power and whether it saturated. -/
def powerWord (v i : Int) : XWord × Bool :=
  let p := (v * i + 8192) / 16384
  (BitVec.ofInt 16 (max (-32768) (min 32767 p)), p < -32768 || 32767 < p)

/-- The sets missing between two sequence numbers. -/
def lcMissing (last : Option (BitVec 16)) (sq : BitVec 16) : Nat :=
  match last with
  | some l => (sq - l - 1).toNat
  | none => 0

/-- One feed's word and its product. -/
def lcFeed (lv : XWord) (m : Bool) (s : State) (f : Nat) (i : XWord) : State :=
  let s := churnWord s (129 + f) i 0 { noFlags with mark := m } (mono s)
  let p := powerWord lv.toInt i.toInt
  churnWord s (137 + f) p.1 0 { noFlags with mark := m, sat := p.2 } (mono s)

def lcFeeds (lv : XWord) (m : Bool) : State → Nat → List XWord → State
  | s, _, [] => s
  | s, f, i :: l => if f < 8 then lcFeeds lv m (lcFeed lv m s f i) (f + 1) l else s

/-- A sample set of LV and LI0 to LI7. -/
def lcSet (s : State) (sq : BitVec 16) (lv : XWord) (li : List XWord) : State :=
  let n := lcMissing s.cnv.lcSeq sq
  let s := { s with cnv := { s.cnv with lcSeq := some sq } }
  let s := if n = 0 then s else (List.range 17).foldl (fun s k => cellLost s (128 + k) n) s
  let m := marked s
  lcFeeds lv m (churnWord s 128 lv 0 { noFlags with mark := m } (mono s)) 0 li

/-- LC_SAMPLE_SET. -/
def execLcSampleSet (sq : BitVec 16) (lv : XWord) (li : List XWord) (s : State) : Host.Outcome State Fault Refusal :=
  .next (if sensing s && linkOk s then lcSet s sq lv li else s)

/-! ### Calibration (R287 to R292) -/

/-- The module temperature in 0.01 °C: the last value of X145 delivered. -/
def moduleTemp (s : State) : Option Int := (xCurrent s 145).map (·.val)

/-- Leave for the phases that remain is requested. -/
def calAsk (s : State) : State :=
  let s := { s with cnv := { s.cnv with cal := 1, phase := 0 } }
  match leaveReq s .cal .service 0 none with
  | some r => askLeave s s.epoch r
  | none => s

/-- A calibration is requested. -/
def calStart (s : State) (auto : Bool) : State := calAsk { s with cnv := { s.cnv with phases := 0, calAuto := auto, calDone := false } }

def calActive (s : State) : Bool := s.cnv.cal = 1 || s.cnv.cal = 2

/-- The device's own calibration falls due: it joins one that is queued or running, and otherwise waits for REF and for the end
of a BIST (R290, R291, R679). -/
def calDue (s : State) : State :=
  if calActive s then { s with cnv := { s.cnv with calAuto := true } } else { s with cnv := { s.cnv with calAgain := true } }

/-- The device requests its own calibration at a boundary. -/
def calOwn (s : State) : State :=
  if s.cnv.calAgain && s.cnv.ref = .ok && s.ana.mode != .bist && !calActive s then
    calStart { s with cnv := { s.cnv with calAgain := false } } true
  else s

/-- The phase after the completed ones begins; in the FC phase the triggers that others than the firmware wait with are missed
(R288). -/
def phaseNext (s : State) : State :=
  let s := { s with cnv := { s.cnv with cal := 2, phase := s.cnv.phases + 1, phaseAt := s.now, calWins := 0 } }
  if s.cnv.phase = 1 then
    let gone := s.cnv.fcPend.filter (· < 32)
    gone.foldl (fun s _ => fcMissed s) { s with cnv := { s.cnv with fcPend := s.cnv.fcPend.filter (32 ≤ ·) } }
  else s

/-- The commands that wait on the calibration end. -/
def calEnds (s : State) (body : String) : State :=
  (s.vil.outs.filter fun o => o.work = .cal).foldl (fun s o => finish s o.id body) s

/-- The calibration ends without completing. -/
def calAbort (s : State) (body : String) : State :=
  calEnds { s with cnv := { s.cnv with cal := 0, phase := 0, phases := 0, calDone := false } } body

/-- The answer of Lamplighter for a calibration (R289, R95, R96). -/
def calAnswer (s : State) (a : LAnswer) : State :=
  if s.cnv.cal = 0 || s.cnv.cal = 3 then s
  else match a with
    | .granted => if s.cnv.cal = 1 then phaseNext s else s
    | .refused w => calAbort s ("FAIL LEAVE " ++ w)
    | .timeout => calAbort s "FAIL LEAVE-TIMEOUT"
    | .calmBreak => s

/-- A calm break, or the end of the grant before the phase completed: the phase is discarded and leave asked anew. -/
def calBroken (s : State) : State :=
  if s.cnv.cal = 2 && s.cnv.phases < 3 then
    let s := leaveReturn s .cal
    calAsk { s with cnv := { s.cnv with calBreaks := satInc 0xFFFFFFFF s.cnv.calBreaks, win := match s.cnv.win with | some w => if w.calib then none else some w | none => none } }
  else s

def clampInt (lo hi v : Int) : Int := max lo (min hi v)

/-- When a phase can complete. -/
def phaseDue (s : State) : Option Nat :=
  if s.cnv.phase = 1 then some (s.cnv.phaseAt + 120 * tickMs)
  else if s.cnv.phase = 2 then some (s.cnv.phaseAt + 40 * tickMs)
  else if s.cnv.phase = 3 && 10 ≤ s.cnv.calWins then some s.now
  else none

/-- A phase completes: its constants wait for the next boundary; the next phase begins, or the calibration is over. -/
def phaseEnd (vals : List Int) (s : State) : State :=
  let p := s.cnv.phase
  let s := { s with cnv := { s.cnv with pendCal := s.cnv.pendCal ++ [(p, vals)], phases := p } }
  if p < 3 then phaseNext s
  else leaveReturn { s with cnv := { s.cnv with phase := 0, calDone := true } } .cal

/-- The constants that a phase gives: four pairs, nine offsets, two pairs. -/
def calFits (p n : Nat) : Bool := n = (if p = 1 then 8 else if p = 2 then 9 else 4)

/-- CAL_PHASE_END: FC gives four pairs of offset and gain, LC nine offsets, IC two pairs. -/
def execCalPhaseEnd (vals : List Int) (s : State) : Host.Outcome State Fault Refusal :=
  .next (if s.cnv.cal = 2 && sensing s && calFits s.cnv.phase vals.length then atTick s (phaseDue s) (phaseEnd vals) else s)

/-- CALCHG on the cells that a phase serves (R325). -/
def calFlags (s : State) (p : Nat) : State :=
  let hit (k : Nat) : Bool := if p = 1 then 96 ≤ k && k < 128 else if p = 2 then 128 ≤ k && k < 145 else cellExt s k
  ((List.range 158).filter fun k => hit k && cellEnabled s k).foldl (fun s k => setCell s k { cellOf s k with flags := (cellOf s k).flags ||| flCalchg }) s

/-- Every second item. -/
def evens {α : Type} : List α → List α
  | a :: _ :: l => a :: evens l
  | [a] => [a]
  | [] => []

/-- The constants of a phase take effect. -/
def calTake (s : State) (q : Nat × List Int) : State :=
  let v := q.2
  let c := s.cnv
  let c := if q.1 = 1 then { c with fcOff := (evens v).map (clampInt (-2048) 2047), fcGain := (evens (v.drop 1)).map fun g => (clampInt 14746 18022 g).toNat, fcValid := true }
    else if q.1 = 2 then { c with lcOff := v }
    else { c with icCal := v, icValid := true }
  calFlags { s with cnv := c } q.1

/-- The calibration completes at a boundary. -/
def calComplete (s : State) : State :=
  if !s.cnv.calDone then s
  else
    let t := moduleTemp s
    let s := { s with cnv := { s.cnv with calDone := false, cal := 3, phases := 0, calFirst := true, calTemp := t, driftIssued := false } }
    let s := notify s "CNV.CAL-DONE" none ("CALTEMP=" ++ milliStr ((t.getD 0) * 10) 2 ++ "C")
    calEnds s "DONE"

/-- The drift of the module temperature since the last IC phase (R290). -/
def calDrift (s : State) : State :=
  match s.cnv.calTemp, xTrusted s 145 with
  | some a, some b =>
    let d := b - a
    if (cfgInt s convObj "CALDRIFT" 10000000).natAbs < d.natAbs && !s.cnv.driftIssued then
      let s := notify { s with cnv := { s.cnv with driftIssued := true } } "CNV.CAL-DRIFT" none ("DELTA=" ++ milliStr (d * 10) 2 ++ "C")
      if cfgOn s convObj "CALAUTO" then calDue s else s
    else s
  | _, _ => s

/-- The grant of a calibration has ended while a phase is in progress. -/
def calGrantGone (s : State) : Bool :=
  s.cnv.cal = 2 && s.cnv.phase != 0 && !(s.lve.grants.any fun g => g.h = .cal)

/-- REF becomes OK: a calibration that the device owes is requested at the boundary (R290, R291), at once where this is its
tick. -/
def refOk (s : State) : State :=
  let s := { s with cnv := { s.cnv with ref := .ok } }
  if s.now = epochTick s s.epoch then calOwn s else s

/-- The converters' part of an epoch boundary. -/
def convBoundary (s : State) : State :=
  let s := s.cnv.pendCal.foldl calTake { s with cnv := { s.cnv with pendCal := [] } }
  icFree (calOwn (calDrift (calComplete s)))

/-! ### The reference buffer (R285, R291) -/

/-- The buffer is enabled. -/
def refEnable (s : State) : State := { s with cnv := { s.cnv with ref := .settling, refAt := s.now } }

/-- REF_FAULT: more than 0.5 % from the bandgap; a calibration in progress ends. -/
def refFault (s : State) : State :=
  let was := calActive s
  let again := s.cnv.calAgain || (was && s.cnv.calAuto)
  let s := notify { s with cnv := { s.cnv with ref := .fault } } "CNV.REF-FAULT" none
  if was then
    let s := leaveWithdraw (leaveReturn { s with cnv := { s.cnv with calAgain := again } } .cal) .cal
    calAbort s "FAIL UNSETTLED"
  else s

def execRefFault (s : State) : Host.Outcome State Fault Refusal :=
  .next (if sensing s && (s.cnv.ref = .ok || s.cnv.ref = .settling) then refFault s else s)

/-- REF_RECOVER: agreed with the bandgap for 5 ms. -/
def execRefRecover (s : State) : Host.Outcome State Fault Refusal :=
  .next (if sensing s && s.cnv.ref = .fault then notify (refOk s) "CNV.REF-OK" none else s)

/-- The converters stop for QUIET (R285, R301). -/
def convQuiet (s : State) : State :=
  { s with cnv := { s.cnv with ref := .off, win := none, held := [], burst := none, fcPend := [], fcDue := [], fcLast := [] } }

/-! ### CAL CONVERTERS (R205, R291) -/

def verbNeed (v : String) : Nat := match verbRow v with | some r => r.2.2 | none => 1

/-- The checks of the command below. -/
def calConvertersSpec (q : Hdr) (s : State) : CmdSpec :=
  let t := moduleTemp s
  { verb := "CAL", body := "CAL CONVERTERS", need := verbNeed "CAL", audit := some 16, heavy := true, p9 := (worldFail s q.ses .fc).or (worldFail s q.ses .ic), p10 := firstOf [(modeIs s [.bist, .replay, .cooldown], "STATE " ++ modeName s.ana.mode), (s.cnv.ref != .ok, "UNSETTLED"), (match t with | some v => v < -4000 || 9000 < v | none => false, "TEMP")] }

/-- CAL CONVERTERS. -/
def execCalConverters (q : Hdr) (s : State) : Host.Outcome State Fault Refusal :=
  .next (lineIn (.calConverters q) q s fun s => submit s q (calConvertersSpec q s)
    fun s _ => (if calActive s then s else calStart s false, .cal))

/-! ### Attributes and registers (R307, R308) -/

def refName : RefState → String
  | .off => "OFF" | .settling => "SETTLING" | .ok => "OK" | .fault => "FAULT"
def refCode : RefState → Nat
  | .off => 0 | .settling => 1 | .ok => 2 | .fault => 3

/-- Whether an attribute applies to a channel in a mode (Table CNV-9). -/
def chanApplies (u : Nat) (m a : String) : Bool :=
  if a = "RRANGE" then m = "RES" else if a = "SCAN" then icMode m else if a = "FAST" then u < 24
  else if a = "DIAG" then m = "V10IN" else if a = "WAKE" then m = "DRY" else if a = "OUTV" then m = "V10OUT"
  else if a = "OUT" then m = "ODOUT" else true

/-- The read-only and the output attributes of a channel. -/
def chanAttr (s : State) (u : Nat) (a : String) : String :=
  if a = "VERDICT" then verdictName (chanSt s u).verdict
  else if a = "OWNER" then ownerStr (chanOwner s u)
  else if a = "OUTV" then milliStr (chanSt s u).out 2 ++ "V"
  else if (chanSt s u).out = 1 then "on" else "off"

/-- The window length in 10 µs: the last one, or 20 ms. -/
def scanTime (s : State) : Nat :=
  (scanList s).length * (if s.cnv.len = 0 then 160000 else s.cnv.len) / 8000

def calStateName (n : Nat) : String :=
  if n = 0 then "NONE" else if n = 1 then "QUEUED" else if n = 2 then "RUNNING" else "VALID"

/-- The read-only attributes of IC, FC, LC and CONVERTERS. -/
def convAttr (s : State) (k : ObjKind) (a : String) : String :=
  let c := s.cnv
  if k = .ic then
    if a = "SCANTIME" then natStr (scanTime s) ++ "ms"
    else if a = "WINDOW" then (if c.len = 0 then "-" else milliStr (c.len / 8) 3 ++ "ms," ++ if c.lenSync then "MAINS" else "FREE")
    else natStr c.discMark ++ "," ++ natStr c.discMode
  else if k = .fc then
    if a = "LOAD" then milliStr (fcLoad s * 100) 1 ++ "%" else natStr c.fcMiss
  else if k = .lc then joinStr "," (c.lcOff.map intStr)
  else if a = "REF" then refName c.ref
  else if a = "CALSTATE" then calStateName c.cal
  else if a = "CALTEMP" then (match c.calTemp with | some t => milliStr (t * 10) 2 ++ "C" | none => "-")
  else natStr c.calBreaks

def rrangeCode (s : State) (u : Nat) : Nat :=
  let r := cfgWord s (chanObj u) "RRANGE"
  if r = "LOW" then 0 else if r = "MID" then 1 else 2

/-- The code of a channel's output. -/
def outCode (s : State) (u : Nat) : Nat :=
  if chanMode s u = "V10OUT" then Config.dacCode 12 (chanSt s u).out else (chanSt s u).out

/-- The CHAN block. -/
def chanReg (s : State) (off : Nat) : Option Word :=
  if off < 0x180 then
    let u := off / 4
    let o := chanObj u
    some (fieldWord [(0, 4, modeCodeOf (chanMode s u)), (4, 2, rrangeCode s u), bit 8 (cfgOn s o "SCAN"), bit 9 (cfgOn s o "FAST"), bit 10 (cfgOn s o "WAKE"), bit 11 (chanOwner s u).isSome, (16, 8, cfgNat s o "DIAG"), (24, 3, (chanSt s u).verdict)])
  else if 0x200 ≤ off && off < 0x380 then
    let u := (off - 0x200) / 4
    some (fieldWord [(0, 12, outCode s u), bit 16 (chanSt s u).trip])
  else if 0x400 ≤ off && off < 0x430 then
    let g := (off - 0x400) / 4
    let x := grpSt s g
    some (fieldWord [(0, 3, ((List.range 8).filter fun i => chanMode s (8 * g + i) = "V10OUT").length), (4, 12, x.ma), bit 16 x.tripped, (24, 8, x.trips)])
  else if off = 0x460 then some 0
  else none

/-- One word of the scan mask. -/
def scanMask (s : State) (w : Nat) : Word :=
  (List.range 32).foldl (fun acc n => if scanned s (32 * w + n) then acc ||| (1#32 <<< n) else acc) 0

/-- The IC block. -/
def icReg (s : State) (off : Nat) : Option Word :=
  let c := s.cnv
  if off = 0 then
    let w := c.win
    some (fieldWord [(0, 2, refCode c.ref), bit 2 (periodKnown s), bit 3 c.icValid, bit 4 (scanReady s && c.phase != 3), (5, 2, c.phase), (8, 7, (w.map (·.ch)).getD 0), bit 15 (w.any (·.probe))])
  else if off = 4 || off = 8 || off = 12 then some (scanMask s (off / 4 - 1))
  else if off = 0x10 then some (fieldWord [(0, 24, 2 * c.len)])
  else if off = 0x14 then some (fieldWord [(0, 16, c.discMark), (16, 16, c.discMode)])
  else if off = 0x18 then some 0
  else if 0x20 ≤ off && off ≤ 0x2C then some (fieldWord [(0, 24, signedField 24 (c.icCal.getD ((off - 0x20) / 4) 0))])
  else none

/-- FC_CFG.TRIG: the code of an acquisition's trigger. -/
def trigCode (s : State) (n : Nat) : Nat :=
  if fiOwned s n then 17 else match cfgObj s (fiObj n) "TRIG" with | some o => o.n + 1 | none => 0

def acqCode (a : String) : Nat := if a = "INTER" then 1 else if a = "SIMUL" then 2 else 0

/-- The FC block. -/
def fcReg (s : State) (off : Nat) : Option Word :=
  let c := s.cnv
  if off = 0 then some (fieldWord [bit 0 c.burst.isSome, (8, 5, (c.burst.map (·.fi)).getD 0), bit 13 c.fcValid])
  else if 0x10 ≤ off && off ≤ 0x1C then some (fieldWord [(0, 12, signedField 12 (c.fcOff.getD ((off - 0x10) / 4) 0))])
  else if 0x20 ≤ off && off ≤ 0x2C then some (fieldWord [(0, 16, c.fcGain.getD ((off - 0x20) / 4) 0)])
  else if off = 0x30 then some (BitVec.ofNat 32 c.fcMiss)
  else if off = 0x34 then some (fieldWord [(0, 10, fcLoad s)])
  else if off = 0x3C then some 0
  else if 0x100 ≤ off && off < 0x180 then
    let n := (off - 0x100) / 4
    some (fieldWord [(0, 2, acqCode (fiAcq s n)), bit 2 (cfgIs s (fiObj n) "ALIGN" "LEFT"), (4, 5, trigCode s n), (16, 13, burstOf s n), bit 31 (fiOwned s n)])
  else if 0x200 ≤ off && off < 0x280 then
    some (fieldWord [(0, 23, (cfgInt s (fiObj ((off - 0x200) / 4)) "PERIOD" 100000).toNat)])
  else none

/-- The PROBE block. -/
def probeReg (s : State) (off : Nat) : Option Word :=
  let c := s.cnv
  if off = 0 then some (fieldWord [bit 0 (c.win.any (·.probe)), (8, 7, c.probeCh), (16, 10, c.probeCode)])
  else if off = 4 then some (fieldWord [(0, 16, c.probes), (16, 16, c.found)])
  else if off = 8 then some 0
  else none

/-- The LEAVE block (R114). -/
def leaveReg (s : State) (off : Nat) : Option Word :=
  let l := s.lve
  let lim (n : Nat) : Nat := n * l.scaleNum / l.scaleDen
  if off = 0 then some (fieldWord [bit 0 (l.ran && l.scaleNum = 0), bit 1 l.sagK, bit 2 (l.overL || l.overP || l.overA), bit 3 (calmHeld l), bit 4 (windowOpen l), (8, 6, l.grants.length), (16, 7, l.queue.length)])
  else if off = 4 then some (fieldWord [(0, 10, 1000 * l.scaleNum / l.scaleDen)])
  else if off = 8 then some (fieldWord [(0, 16, lim l.budL), (16, 16, l.comL / 4)])
  else if off = 0xC then some (fieldWord [(0, 16, lim l.budP / 10), (16, 16, l.comP / 10)])
  else if off = 0x10 then some (fieldWord [(0, 16, l.budA), (16, 16, l.comA)])
  else if off = 0x14 then some (fieldWord [(0, 16, cfgMilli s leaveObj "STAGGER"), (16, 16, cfgMilli s leaveObj "STAGGERU")])
  else if off = 0x18 then some (fieldWord [(0, 16, match l.lastInrush with | some t => (s.now - t) / tickMs | none => 0xFFFF), (16, 4, l.lastOp), (24, 6, (l.lastHolder.map holderCode).getD 0)])
  else if off = 0x20 then some (BitVec.ofNat 32 l.nGrant)
  else if off = 0x24 then some (fieldWord [(0, 16, l.nRefused), (16, 16, l.nTimeout)])
  else if off = 0x28 then some (fieldWord [(0, 16, l.nCalm), (16, 16, l.nOver)])
  else if off = 0x2C then some 0
  else none

end Sys2Proof.Machine
end

