-- ==== Sys2Proof/Machine/Counters.lean ====
section
/-!
DEFINITION. The counters CT0 to CT15 (*Counters, captures and compares*): the steps of one COUNT edge (R343), chains
(R341, R342), compare writes (R345, R346), captures and their records (R350 to R352), QUIET and HALT (R353, R354), and
the CNT registers.
-/
namespace Sys2Proof.Machine
open Sys2Proof

def ctObj (n : Nat) : Obj := ⟨.counter, n⟩
def ctSt (s : State) (n : Nat) : CtSt := tget {} s.cnt.cts n
def setCt (s : State) (n : Nat) (c : CtSt) : State := { s with cnt := { s.cnt with cts := tset s.cnt.cts n c } }
def modCt (s : State) (n : Nat) (f : CtSt → CtSt) : State := setCt s n (f (ctSt s n))

/-! ### Chains (R341, R342) -/

def ctSource (s : State) (n : Nat) : String := cfgWord s (ctObj n) "SOURCE"

def isCascade (s : State) (n : Nat) : Bool := ctSource s n = "CASCADE"

/-- How many counters directly above `n` are CASCADE, among the next `k`. -/
def cascadesAbove (s : State) (n : Nat) : Nat → Nat
  | 0 => 0
  | k + 1 => if n + 1 < 16 && isCascade s (n + 1) then 1 + cascadesAbove s (n + 1) k else 0

/-- The members of the chain of a bottom counter, from the bottom. -/
def chainOf (s : State) (n : Nat) : List Nat := (List.range (cascadesAbove s n 15 + 1)).map (n + ·)

/-- The bottom counter of a counter's chain. -/
def chainBottom (s : State) : Nat → Nat
  | 0 => 0
  | n + 1 => if isCascade s (n + 1) then chainBottom s n else n + 1

def bottoms (s : State) : List Nat := (List.range 16).filter fun n => !isCascade s n

/-- The owner of a counter: a loop that names its crossing. -/
def ctOwner (s : State) (n : Nat) : Option Obj :=
  ((List.range 96).find? fun l => (loopNames s l).contains (xobj (160 + n))).map loopObj

/-! ### Running (R353, R354, R339) -/

def ctFrozen (s : State) (n : Nat) : Bool :=
  modeIs s [.safe, .bist] && cfgIs s (ctObj (chainBottom s n)) "HALT" "FREEZE"

def ctSleeping (s : State) : Bool := s.ana.mode = .quiet

/-- The channel of a PULSE counter is not in PULSE mode. -/
def ctNoInput (s : State) (n : Nat) : Bool :=
  ctSource s n = "PULSE" && (match cfgObj s (ctObj n) "CHAN" with | some o => chanMode s o.n != "PULSE" | none => true)

/-- Advancing is permitted. -/
def ctRuns (s : State) (n : Nat) : Bool :=
  let b := chainBottom s n
  (ctSt s b).running && !ctFrozen s n && !ctSleeping s

/-! ### The prescaler of CLK and TICK (R339, R344) -/

/-- The source clocks of one tick: 12 COUNT clocks for CLK, the tick itself for TICK; none for the other sources. -/
def clkRate (s : State) (n : Nat) : Nat :=
  let w := ctSource s n
  if w = "CLK" then 12 else if w = "TICK" then 1 else 0

def prescale (s : State) (n : Nat) : Nat := max 1 (cfgNat s (ctObj n) "PRE")

/-- The prescaler of a counter follows whether the counter runs: it counts source clocks from its residue, and keeps the
residue when the counter stops (R344, R353). -/
def ctPark (s : State) (n : Nat) : State :=
  let c := ctSt s n
  match ctRuns s n && !isCascade s n && clkRate s n != 0, c.phase with
  | true, none => setCt s n { c with phase := some ((clkRate s n * s.now : Nat) - (c.residue : Int)) }
  | false, some p => setCt s n { c with phase := none, residue := ((clkRate s n * s.now : Nat) - p).toNat % prescale s n }
  | _, _ => s

def countParks (s : State) : State := (List.range 16).foldl ctPark s

/-- A source clock that ends a period of the prescaler has come by the end of this tick: the state without that period. -/
def clkEvent (s : State) (n : Nat) : Option State :=
  let c := ctSt s n
  let m := clkRate s n
  match c.phase with
  | none => if m = 0 then some s else none
  | some p =>
    if p + (prescale s n : Int) ≤ (m * s.now + (m - 1) : Nat) then some (setCt s n { c with phase := some (p + (prescale s n : Int)) })
    else none

/-! ### Loading 0, and the captures (R344, R350, R352) -/

/-- Every member of the chain holds 0; the residue is cleared. -/
def chainClear (s : State) (b : Nat) : State :=
  (chainOf s b).foldl (fun s n => modCt s n fun c => { c with count := 0, residue := 0, phase := c.phase.map fun _ => (clkRate s n * s.now : Nat) }) s

def capMode (s : State) (b : Nat) : String := cfgWord s (ctObj b) "CAPMODE"

/-- A capture of a chain: into the register in FILTERED, into the queue in QUEUED and SAMPLE, and lost where the queue
is full. -/
def ctCapture (s : State) (b kind : Nat) : State :=
  let c := ctSt s b
  let m := capMode s b
  let e : CtCap := { vals := (chainOf s b).map fun n => (ctSt s n).count, kind := kind, tick := mono s, overwr := 0, makeup := c.makeup, frozen := ctFrozen s b }
  if m = "OFF" then s
  else if m = "FILTERED" then
    let n := match c.capReg with | some o => min 255 (o.overwr + 1) | none => 0
    setCt s b { c with capReg := some { e with overwr := n, makeup := e.makeup || (match c.capReg with | some o => o.makeup | none => false) }, overwr := if c.capReg.isSome then satInc 65535 c.overwr else c.overwr, makeup := false }
  else if c.queue.length < 16 then setCt s b { c with queue := c.queue ++ [e], makeup := false }
  else
    let s' := setCt s b { c with capLost := satInc 65535 c.capLost, lostNoted := true }
    if c.lostNoted then s' else notify s' "CNT.CAP-LOST" (some (ctObj b))

/-! ### One COUNT edge (R343, Table CNT-2) -/

/-- The place of a write in step 1. -/
def writeKey : CtWrite → Nat
  | .runOff => 0 | .cmp _ => 1 | .clear => 2 | .runOn => 3

/-- One write applied. -/
def writeApply (n : Nat) (s : State) (w : CtWrite) : State :=
  match w with
  | .runOff => modCt s n fun c => { c with running := false }
  | .cmp v => modCt s n fun c => { c with cmp := v }
  | .clear => chainClear s (chainBottom s n)
  | .runOn => modCt s n fun c => { c with running := true }

/-- The order of the writes: line by line (R357), and RUN off, CMP, CLEAR, RUN on within one. -/
def writeBefore (a b : CtFlight) : Bool := a.line < b.line || (a.line = b.line && writeKey a.w ≤ writeKey b.w)

/-- The writes in flight of a counter that satisfy a test take effect. -/
def writesWhere (p : CtFlight → Bool) (s : State) (n : Nat) : State :=
  let l := (ctSt s n).writes
  let s := modCt s n fun c => { c with writes := l.filter fun w => !p w }
  ((l.filter p).mergeSort writeBefore).foldl (fun s w => writeApply n s w.w) s

/-- Step 1 for one counter: the writes whose handshake came in an earlier tick (R345). -/
def stepWrites (s : State) (n : Nat) : State := writesWhere (fun w => w.at_ < s.now) s n

/-- Step 2 for one counter: STOP, then RESET, then START; a STOP leaves it stopped (R360). -/
def stepActs (s : State) (n : Nat) : State :=
  let a := (ctSt s n).acts
  let s := if a.contains .reset then chainClear s n else s
  if a.contains .stop then modCt s n fun c => { c with running := false }
  else if a.contains .start then modCt s n fun c => { c with running := true } else s

/-- What an edge did to one counter. -/
structure EdgeRes where
  adv : Bool := false
  ovf : Bool := false
  hit : Bool := false
  deriving DecidableEq, Repr

/-- Step 3: one counter advances; whether it did, and whether it wrapped. -/
def stepAdvance (s : State) (n : Nat) : State × Bool :=
  let c := ctSt s n
  let wrap := c.count = 0xFFFF
  (setCt s n { c with count := c.count + 1, ovfs := if wrap then satInc 65535 c.ovfs else c.ovfs }, wrap)

/-- Step 3 for the members of a chain: a carry reaches the next member. -/
def chainAdvance : List Nat → State → Tbl EdgeRes → State × Tbl EdgeRes
  | [], s, e => (s, e)
  | n :: l, s, e =>
    let r := stepAdvance s n
    let e := tset e n { adv := true, ovf := r.2 }
    if r.2 then chainAdvance l r.1 e else (r.1, e)

/-- A member that advanced matches (step 4). -/
def stepMatch (s : State) (n : Nat) (e : Tbl EdgeRes) : Bool :=
  let b := chainBottom s n
  (tget {} e n).adv && (ctSt s n).count = (ctSt s n).cmp
    && (if cfgOn s (ctObj b) "CHAINMATCH" then
        n = b && (chainOf s b).all fun m => m = b || (ctSt s m).count = (ctSt s m).cmp
      else true)

/-- Step 4 for every counter; a match is also the trigger of the fast acquisitions that name it (R281). -/
def edgeMatch (s : State) (e : Tbl EdgeRes) : State × Tbl EdgeRes :=
  (List.range 16).foldl (fun p n =>
    if stepMatch p.1 n e then
      (fcMatched (modCt p.1 n fun c => { c with matches_ := satInc 65535 c.matches_ }) n, tset p.2 n { tget {} p.2 n with hit := true })
    else p) (s, e)

def onMatch (s : State) (b : Nat) (a : String) : Bool := (cfgWords s (ctObj b) "ONMATCH").contains a
def onOvf (s : State) (b : Nat) (a : String) : Bool := (cfgWords s (ctObj b) "ONOVF").contains a

/-- The overflow of a chain: that of its top member (R348). -/
def chainOvf (s : State) (b : Nat) (e : Tbl EdgeRes) : Bool := (tget {} e (b + cascadesAbove s b 15)).ovf

/-- Step 5 for a chain: the edge capture, one capture for match and overflow (R358), and a linked capture. -/
def stepCapture (capEv : Nat → Bool) (e : Tbl EdgeRes) (s : State) (b : Nat) : State :=
  let m := (tget {} e b).hit && onMatch s b "CAPTURE"
  let o := chainOvf s b e && onOvf s b "CAPTURE"
  let linked := (ctSt s b).acts.contains .capture
  let s := if capEv b && !ctFrozen s b then ctCapture s b 2 else s
  let s := if m then ctCapture s b 3 else if o then ctCapture s b 4 else s
  if linked then ctCapture s b 5 else s

/-- Step 6 for a chain. -/
def stepOwn (e : Tbl EdgeRes) (s : State) (b : Nat) : State :=
  let hit := (tget {} e b).hit
  let o := chainOvf s b e
  let s := if (hit && onMatch s b "STOP") || (o && onOvf s b "STOP") then modCt s b fun c => { c with running := false } else s
  if hit && onMatch s b "RESET" then chainClear s b else s

def linkAct (w : String) : CtAct :=
  if w = "START" then .start else if w = "STOP" then .stop else if w = "CAPTURE" then .capture else .reset

/-- Step 7 for a chain: its linked action reaches the target at the next edge. -/
def stepLink (e : Tbl EdgeRes) (s : State) (b : Nat) : State :=
  let o := ctObj b
  match cfgObj s o "LINK" with
  | none => s
  | some t =>
    let ev := if cfgIs s o "LINKON" "OVF" then chainOvf s b e else (tget {} e b).hit
    if ev then modCt s t.n fun c => { c with acts := c.acts ++ [linkAct (cfgWord s o "LINKACT")] } else s

/-- A COUNT edge after the writes and the actions of the edge before it: advance, match, capture and the rules of each counter. -/
def edgeTakes (s : State) (src capEv : Nat → Bool) : State :=
  let acts : Tbl (List CtAct) := (List.range 16).map fun n => (n, (ctSt s n).acts)
  let p := (bottoms s).foldl (fun p b => if src b && ctRuns p.1 b then chainAdvance (chainOf p.1 b) p.1 p.2 else p) (s, [])
  let p := edgeMatch p.1 p.2
  let s := (bottoms s).foldl (stepCapture capEv p.2) p.1
  let s := (bottoms s).foldl (stepOwn p.2) s
  let s := (List.range 16).foldl (fun s n => modCt s n fun c => { c with acts := c.acts.drop (tget [] acts n).length }) s
  (bottoms s).foldl (stepLink p.2) s

/-- Steps 1 and 2 for every counter; the prescalers follow. -/
def edgeBegins (s : State) : State := countParks ((List.range 16).foldl stepActs ((List.range 16).foldl stepWrites s))

/-- One COUNT edge: `src` are the bottom counters at which a source event occurs, `capEv` those with an edge capture. -/
def countEdge (s : State) (src capEv : Nat → Bool) : State :=
  countParks (edgeTakes (edgeBegins s) src capEv)

def noEvent : Nat → Bool := fun _ => false

/-- The COUNT island runs: after START and outside QUIET (R353, R355). -/
def counting (s : State) : Bool := sensing s && s.ana.mode != .start && s.ana.mode != .off

/-! ### The rows -/

def edgeFits (w : String) (rise : Bool) : Bool := w = "BOTH" || (if rise then w = "RISE" else w = "FALL")

/-- A qualified edge of a channel as a source event of a counter (every PRE-th), and the residue it leaves. -/
def pulseSource (s : State) (u : Nat) (rise : Bool) (n : Nat) : Bool :=
  ctSource s n = "PULSE" && cfgObj s (ctObj n) "CHAN" = some (chanObj u) && edgeFits (cfgWord s (ctObj n) "SRCEDGE") rise
    && chanMode s u = "PULSE"

def pulseCapture (s : State) (u : Nat) (rise : Bool) (n : Nat) : Bool :=
  cfgObj s (ctObj n) "CAPCHAN" = some (chanObj u) && edgeFits (cfgWord s (ctObj n) "CAPEDGE") rise && chanMode s u = "PULSE"

/-- Edge captures are taken in FILTERED and QUEUED (Table CNT-4). -/
def capsEdges (s : State) (n : Nat) : Bool := capMode s n = "FILTERED" || capMode s n = "QUEUED"

/-- The prescalers of the counters that a pulse edge feeds: the state, and the counters whose source event it is. -/
def pulsePrescale (s : State) (l : List Nat) : State × List Nat :=
  l.foldl (fun p n =>
    let c := ctSt p.1 n
    if !ctRuns p.1 n then p
    else if prescale s n ≤ c.residue + 1 then (setCt p.1 n { c with residue := 0 }, n :: p.2)
    else (setCt p.1 n { c with residue := c.residue + 1 }, p.2)) (s, [])

/-- The capture dividers: the counters whose CAPDIV-th edge this is. -/
def capDivide (s : State) (l : List Nat) : State × List Nat :=
  l.foldl (fun p n =>
    let c := ctSt p.1 n
    if cfgNat s (ctObj n) "CAPDIV" ≤ c.capDiv + 1 then (setCt p.1 n { c with capDiv := 0 }, n :: p.2)
    else (setCt p.1 n { c with capDiv := c.capDiv + 1 }, p.2)) (s, [])

/-- PULSE_EDGE_QUALIFIED: the edge of a channel reaches every counter that counts or captures it, at one COUNT edge
(R340, R350, R359). -/
def execPulseEdgeQualified (u : Fin 96) (rise : Bool) (s : State) : Host.Outcome State Fault Refusal :=
  .next (if !counting s then s
    else
      let bs := bottoms s
      let p := pulsePrescale s (bs.filter (pulseSource s u rise))
      let q := capDivide p.1 (bs.filter fun n => pulseCapture s u rise n && capsEdges s n && !ctFrozen s n)
      countEdge q.1 p.2.contains q.2.contains)

/-- COUNTER_ADVANCE: a source event of the counter's chain, once the prescaler has counted the clocks of one (R339). -/
def execCounterAdvance (n : Fin 16) (s : State) : Host.Outcome State Fault Refusal :=
  .next (if !counting s || ctSource s n = "OFF" || isCascade s n || ctNoInput s n then s
    else match clkEvent (edgeBegins s) n with
      | some t => countParks (edgeTakes t (· == n.val) noEvent)
      | none => s)

/-- LINKED_ACTION: the edge at which the actions linked to a counter apply. -/
def execLinkedAction (n : Fin 16) (s : State) : Host.Outcome State Fault Refusal :=
  .next (if counting s && !(ctSt s n).acts.isEmpty then countEdge s noEvent noEvent else s)

/-- The capture channel of a counter is one in PULSE mode (R339, Table CNT-8). -/
def capInput (s : State) (n : Nat) : Bool :=
  match cfgObj s (ctObj n) "CAPCHAN" with | some o => chanMode s o.n = "PULSE" | none => false

/-- CAPTURE_EDGE: a qualified edge of a counter's capture channel; every CAPDIV-th latches. -/
def execCaptureEdge (n : Fin 16) (s : State) : Host.Outcome State Fault Refusal :=
  .next (if !counting s || isCascade s n || !capsEdges s n || ctFrozen s n || !capInput s n then s
    else
      let q := capDivide s [n.val]
      countEdge q.1 noEvent q.2.contains)

/-- A place of the output is taken: the first free one at or after this tick. -/
def outPlace (s : State) : Nat := max s.cnt.outAt (3 * s.now)

/-- One record leaves, at the tick of its place (R351). -/
def sendRecord (s : State) (x : Nat) (v : BitVec 16) (tick : Nat) (p : Pay) : State :=
  let t := outPlace s
  let s := { s with cnt := { s.cnt with outAt := t + 1 } }
  { s with ana := (arrive { s with now := t / 3 } x v (some tick) p).ana }

/-- The records of one capture, one per member (R351, Table CNT-5). -/
def sendMembers (b : Nat) (e : CtCap) : State → Nat → List (BitVec 16) → State
  | s, _, [] => s
  | s, i, v :: l =>
    let s := modCt s (b + i) fun c => { c with lastVal := v, lastKind := e.kind, lastTick := e.tick }
    sendMembers b e (sendRecord s (160 + b + i) v e.tick (.count e.kind i e.overwr e.makeup e.frozen)) (i + 1) l

/-- The head of a capture queue. -/
def queueHead (s : State) (n : Nat) : Option (Nat × Nat) := ((ctSt s n).queue.head?).map fun e => (e.tick, n)

/-- The counter whose capture is sent next, and its capture edge: by capture edge, then by number (R351). -/
def nextCapture (s : State) : Option (Nat × Nat) :=
  let l := (List.range 16).filterMap (queueHead s)
  match l with
  | [] => none
  | a :: l => some (l.foldl (fun m x => if x.1 < m.1 then x else m) a)

/-- The capture at the head of a counter's queue is sent. -/
def queueSend (s : State) (n : Nat) : State :=
  match (ctSt s n).queue with
  | [] => s
  | e :: l => sendMembers n e (modCt s n fun c => { c with queue := l, lostNoted := if l.isEmpty then false else c.lostNoted }) 0 e.vals

/-- The captures of earlier edges than this tick are sent, at most `k` of them. -/
def queuesDrain : Nat → State → State
  | 0, s => s
  | k + 1, s => match nextCapture s with
    | some (t, n) => if t < mono s then queuesDrain k (queueSend s n) else s
    | none => s

/-- Less than 250 ns before the next epoch tick (R351). -/
def nearTick (s : State) : Bool := tickMs - 2 ≤ mono s % tickMs

/-- The output can take a record in this tick. -/
def outFree (s : State) : Bool := outPlace s / 3 = s.now

/-- CAPTURE_RECORD_SEND. -/
def execCaptureRecordSend (s : State) : Host.Outcome State Fault Refusal :=
  .next (if !counting s || nearTick s || !outFree s then s
    else match nextCapture s with
      | none => s
      | some (_, n) => queueSend s n)

/-- The first COUNT edge of the epoch: that of the tick at which it begins. -/
def epochEdge (s : State) : Bool := s.now = epochTick s s.epoch

/-- A SAMPLE record of a counter is due at this edge (Table CNT-4). -/
def sampleDue (s : State) (n : Nat) : Bool :=
  let p := cfgMilli s (ctObj n) "SAMPLE"
  !isCascade s n && capMode s n = "SAMPLE" && p != 0 && s.epoch % p = 0 && (ctSt s n).sampled != some s.epoch

/-- A SAMPLE record of a counter is sent. -/
def sampleSend (s : State) (n : Nat) : State :=
  let c := ctSt s n
  let e : CtCap := { vals := (chainOf s n).map fun m => (ctSt s m).count, kind := 1, tick := mono s, overwr := 0, makeup := c.makeup, frozen := ctFrozen s n }
  sendMembers n e (setCt s n { c with sampled := some s.epoch, makeup := false }) 0 e.vals

/-- What a counter sends at the epoch tick: a SAMPLE record, or the capture of the epoch before. -/
def epochSend (s : State) (n : Nat) : State :=
  match (ctSt s n).filt with
  | some e => sendMembers n e (modCt s n fun c => { c with filt := none }) 0 e.vals
  | none => if sampleDue s n then sampleSend s n else s

/-- The records of the epoch tick up to those of a counter, behind the captures of earlier edges (R351). -/
def epochSends (s : State) (n : Nat) : State := (List.range (n + 1)).foldl epochSend (queuesDrain 256 (edgeBegins s))

/-- SAMPLE_RECORD: at the first edge of an epoch whose number is a multiple of SAMPLE. -/
def execSampleRecord (n : Fin 16) (s : State) : Host.Outcome State Fault Refusal :=
  .next (if counting s && epochEdge s && sampleDue s n then epochSends s n else s)

/-- FILTERED_RECORD: the latest capture of the epoch before, if there was one. -/
def execFilteredRecord (n : Fin 16) (s : State) : Host.Outcome State Fault Refusal :=
  .next (if counting s && epochEdge s && (ctSt s n).filt.isSome then epochSends s n else s)

/-- The line of the oldest compare write that has completed its handshake. -/
def cmpLine (s : State) (n : Nat) : Option Nat :=
  ((ctSt s n).writes.find? fun w => w.at_ ≤ s.now && (match w.w with | .cmp _ => true | _ => false)).map (·.line)

/-- COMPARE_WRITE_EFFECT: the oldest compare write takes effect, with what its line wrote beside it (R345, R347 step 4). -/
def execCompareWriteEffect (n : Fin 16) (s : State) : Host.Outcome State Fault Refusal :=
  .next (if !coreRuns s || ctSleeping s then s
    else match cmpLine s n with
      | some k => countParks (writesWhere (fun w => w.line ≤ k && w.at_ ≤ s.now) s n)
      | none => s)

/-- COUNTER_CLEAR: every member of the counter's chain holds 0, and the residue is cleared; the writes that came with it take
effect at the same edge. -/
def execCounterClear (n : Fin 16) (s : State) : Host.Outcome State Fault Refusal :=
  .next (if !coreRuns s || ctSleeping s then s
    else
      let b := chainBottom s n
      chainClear (countParks (writesWhere (fun w => w.at_ ≤ s.now) s b)) b)

/-- The tick of the handshake of a write that WORK0 sends now: one epoch later through the keeper where CNT is assigned S
(R345). -/
def ctWriteAt (s : State) : Nat := if blockS s 7 then epochTick s (s.epoch + 1) else s.now

/-- A write leaves for the COUNT island. -/
def ctWrite (s : State) (n : Nat) (w : CtWrite) : State := modCt s n fun c => { c with writes := c.writes ++ [⟨w, ctWriteAt s, s.cnt.lines⟩] }

/-- The next writes belong to another line. -/
def ctLine (s : State) : State := { s with cnt := { s.cnt with lines := s.cnt.lines + 1 } }

/-- CNT_CMP_WRITE: the live compare, unless the counter is owned. -/
def execCntCmpWrite (n : Fin 16) (v : Word) (s : State) : Host.Outcome State Fault Refusal :=
  .next (if coreRuns s && (ctOwner s n).isNone then ctWrite (ctLine s) n (.cmp (v.truncate 16)) else s)

/-- CAPTURE_TICK_LATCH: bits 63:32 of the last record's tick. -/
def capLatch (s : State) (n : Nat) : State := modCt s n fun c => { c with capH := BitVec.ofNat 32 (c.lastTick / 4294967296) }

def execCaptureTickLatch (n : Fin 16) (s : State) : Host.Outcome State Fault Refusal :=
  .next (if coreRuns s then capLatch s n else s)

/-- The events of a counter since reset (Table CNT-8). -/
def ctEvents (c : CtSt) : List Nat := sinceReset 65535 [c.matches_, c.ovfs, c.capLost, c.overwr] c.past

/-- CNT_CLR. -/
def execCntClr (v : Word) (s : State) : Host.Outcome State Fault Refusal :=
  .next (if v.getLsbD 0 then
      { s with cnt := { s.cnt with cts := s.cnt.cts.map fun p => (p.1, { p.2 with past := ctEvents p.2, matches_ := 0, ovfs := 0, capLost := 0, overwr := 0 }) } }
    else s)

/-! ### Boundaries, configuration, RUN and QUIET (R353, R355) -/

/-- The latest capture of the epoch that has ended stands for the FILTERED record of this one. -/
def filtTake (s : State) (n : Nat) : State := modCt s n fun c => { c with filt := c.capReg, capReg := none }

/-- At a boundary: writes and linked actions whose edge has come are applied, and the captures of the epoch before stand for
their records. -/
def countBoundary (s : State) : State :=
  if !coreRuns s then s
  else
    let s := (List.range 16).foldl stepWrites s
    let s := if (List.range 16).any fun n => !(ctSt s n).acts.isEmpty then countEdge s noEvent noEvent else s
    (List.range 16).foldl filtTake (countParks s)

/-- RUN on from START: every counter with RUN on starts from 0, with CMP from CMPINIT; a chain follows its bottom (R342, R355). -/
def countStart (s : State) : State :=
  (List.range 16).foldl (fun s n =>
    if cfgOn s (ctObj (chainBottom s n)) "RUN" then
      modCt s n fun c => { c with running := true, count := 0, residue := 0, phase := none, cmp := BitVec.ofNat 16 (cfgNat s (ctObj n) "CMPINIT") }
    else s) s

/-- The settings whose change clears the chain (R355). -/
def ctSettings (s : State) (n : Nat) : List Val := ["SOURCE", "PRE", "CHAN", "SRCEDGE"].map fun a => cfgVal s (ctObj n) a

/-- A change of the settings or of the chain clears the chain; RUN becomes a write. -/
def ctAfter (old s : State) (n : Nat) : State :=
  let chain (t : State) : List Nat := chainOf t (chainBottom t n)
  let s := if ctSettings old n != ctSettings s n || chain old != chain s then chainClear (modCt s n fun c => { c with phase := none }) (chainBottom s n) else s
  let a := cfgOn old (ctObj n) "RUN"
  let b := cfgOn s (ctObj n) "RUN"
  if a = b || s.ana.mode = .start then s else ctWrite s n (if b then .runOn else .runOff)

/-- The counters after a change of the configuration. -/
def ctsAfter (old s : State) : State := countParks ((List.range 16).foldl (ctAfter old) s)

/-- The advances of a make-up jump carried through a chain: counts and overflows. -/
def chainJump : List Nat → State → Nat → State
  | [], s, _ => s
  | n :: l, s, k =>
    let c := ctSt s n
    let t := c.count.toNat + k
    let o := t / 65536
    chainJump l (setCt s n { c with count := BitVec.ofNat 16 t, ovfs := min 65535 (c.ovfs + o) }) o

/-- The make-up jump of one counter after `t` ticks of QUIET (R353). -/
def makeUp (t : Nat) (s : State) (b : Nat) : State :=
  let o := ctObj b
  let src := ctSource s b
  if !cfgIs s o "SLEEP" "DOZE" || !(src = "CLK" || src = "TICK") || !(ctSt s b).running then s
  else
    let c := ctSt s b
    let n := clkRate s b * t + c.residue
    let k := n / prescale s b
    let dist := (c.cmp - c.count - 1).toNat + 1
    let s := setCt s b { c with residue := n % prescale s b, makeup := true, mkup := k }
    let s := chainJump (chainOf s b) s k
    notify s "CNT.MAKEUP" (some o) ("ADV=" ++ natStr k ++ " PASSED=" ++ if dist ≤ k then "yes" else "no")

/-- Entry to QUIET, and the return. -/
def countSleep (s : State) : State := countParks { s with cnt := { s.cnt with sleepAt := s.now } }
def countWake (s : State) : State := (bottoms s).foldl (makeUp (s.now - s.cnt.sleepAt)) s

/-! ### Attributes and registers (R365, R366) -/

def kindName (k : Nat) : String := ["-", "SAMPLE", "EDGE", "MATCH", "OVF", "LINK"].getD k "-"

def ctState (s : State) (n : Nat) : String :=
  if ctSleeping s then "SLEEPING" else if ctFrozen s n then "FROZEN"
  else if ctNoInput s n then "NOINPUT" else if (ctSt s (chainBottom s n)).running then "RUNNING" else "STOPPED"

/-- The read-only attributes of a counter, and CMP and CLEAR. -/
def ctAttr (s : State) (n : Nat) (a : String) : String :=
  let c := ctSt s n
  if a = "COUNT" then natStr c.count.toNat
  else if a = "CMP" then natStr c.cmp.toNat
  else if a = "STATE" then ctState s n
  else if a = "LAST" then
    if c.lastKind = 0 then "-" else natStr c.lastVal.toNat ++ "," ++ kindName c.lastKind ++ "," ++ natStr c.lastTick
  else if a = "EVENTS" then joinStr "," ((ctEvents c).map natStr)
  else if a = "OWNER" then ownerStr (ctOwner s n)
  else "-"

def edgeCode (w : String) : Nat := if w = "FALL" then 2 else if w = "BOTH" then 3 else 1
def idxOf (l : List String) (w : String) : Nat := (l.findIdx? (· = w)).getD 0
def objNum (o : Option Obj) : Nat := match o with | some o => o.n | none => 0

/-- The registers of one counter (Tables CNT-10 and CNT-11). -/
def ctReg (s : State) (n r : Nat) : Option Word :=
  let o := ctObj n
  let c := ctSt s n
  let on (l : List String) (w : String) : Bool := l.contains w
  let am := cfgWords s o "ONMATCH"
  let ao := cfgWords s o "ONOVF"
  if r = 0x00 then some (fieldWord [(0, 3, idxOf ["OFF", "CLK", "TICK", "PULSE", "CASCADE"] (ctSource s n)), (4, 4, (cfgNat s o "PRE").log2), (8, 7, objNum (cfgObj s o "CHAN")), (16, 2, edgeCode (cfgWord s o "SRCEDGE")), bit 20 (cfgOn s o "RUN"), bit 21 (cfgIs s o "SLEEP" "DOZE"), bit 22 (cfgIs s o "HALT" "FREEZE"), bit 23 (cfgOn s o "CHAINMATCH"), bit 31 (ctOwner s n).isSome])
  else if r = 0x04 then some (fieldWord [(0, 2, idxOf ["OFF", "SAMPLE", "FILTERED", "QUEUED"] (capMode s n)), (4, 7, objNum (cfgObj s o "CAPCHAN")), (12, 2, edgeCode (cfgWord s o "CAPEDGE")), (16, 8, cfgNat s o "CAPDIV" - 1)])
  else if r = 0x08 then some (fieldWord [(0, 14, (cfgInt s o "SRCFILT" 1000).toNat), (16, 14, (cfgInt s o "CAPFILT" 1000).toNat)])
  else if r = 0x0C then some (fieldWord [bit 0 (on am "CAPTURE"), bit 1 (on am "RESET"), bit 2 (on am "STOP"), bit 4 (on ao "CAPTURE"), bit 5 (on ao "STOP"), (8, 4, objNum (cfgObj s o "LINK")), bit 12 (cfgObj s o "LINK").isSome, bit 13 (cfgIs s o "LINKON" "OVF"), (14, 2, idxOf ["RESET", "START", "STOP", "CAPTURE"] (cfgWord s o "LINKACT"))])
  else if r = 0x10 then some (fieldWord [(0, 16, cfgMilli s o "SAMPLE")])
  else if r = 0x14 then some (fieldWord [(0, 16, c.count.toNat)])
  else if r = 0x18 then some (fieldWord [(0, 16, c.cmp.toNat)])
  else if r = 0x1C then some (fieldWord [(0, 16, c.lastVal.toNat), (16, 3, c.lastKind)])
  else if r = 0x20 then some (BitVec.ofNat 32 c.lastTick)
  else if r = 0x24 then some c.capH
  else if r = 0x28 then some (fieldWord [bit 0 (ctRuns s n), bit 1 (ctFrozen s n), bit 2 (ctSleeping s), bit 3 (ctNoInput s n), bit 4 (16 ≤ c.queue.length), (8, 5, c.queue.length)])
  else if r = 0x2C then some (fieldWord [(0, 16, c.matches_), (16, 16, c.ovfs)])
  else if r = 0x30 then some (fieldWord [(0, 16, c.capLost), (16, 16, c.overwr)])
  else if r = 0x34 then some (BitVec.ofNat 32 c.mkup)
  else none

/-- The CNT block. -/
def cntReg (s : State) (off : Nat) : Option Word :=
  if off < 0x400 then ctReg s (off / 64) (off % 64)
  else if off = 0x400 then some (fieldWord ((List.range 16).map fun n => bit n (ctRuns s n)))
  else if off = 0x404 then some 0
  else none

end Sys2Proof.Machine
end

