-- ==== Sys2Proof/Machine/Line.lean ====
section
/-!
DEFINITION. The feeds of the line die and the DC ports of the MOTION island (*Drives*): closing at zero crossings, the
interlock and the dead times (R370 to R373), encoders (R374), the Snuffer's trips (R375, R376), the barrier link
(R377 to R379), and the position models of the drives (R380 to R384).
-/
namespace Sys2Proof.Machine
open Sys2Proof

def feedOf (s : State) (f : Nat) : Feed := tget {} s.drv.feeds f
def setFeed (s : State) (f : Nat) (x : Feed) : State := { s with drv := { s.drv with feeds := tset s.drv.feeds f x } }
def portOf_ (s : State) (p : Nat) : Port := tget {} s.drv.ports p
def setPort (s : State) (p : Nat) (x : Port) : State := { s with drv := { s.drv with ports := tset s.drv.ports p x } }
def drOf (s : State) (d : Nat) : Dr := tget {} s.drv.drives d
def setDr (s : State) (d : Nat) (x : Dr) : State := { s with drv := { s.drv with drives := tset s.drv.drives d x } }
def modDr (s : State) (d : Nat) (f : Dr → Dr) : State := setDr s d (f (drOf s d))

/-- A line drive: PAIR or SINGLE. -/
def lineDrive (s : State) (d : Nat) : Bool := driveKind s d = "PAIR" || driveKind s d = "SINGLE"

/-- The first feed, port or channel of a drive. -/
def firstOut (s : State) (d : Nat) : Nat := match driveOuts s d with | o :: _ => o.n | [] => 0

/-- The feed that drives a PAIR drive in a direction, or the feed of a SINGLE drive (R368). -/
def feedFor (s : State) (d : Nat) (toward100 : Bool) : Nat :=
  let f := firstOut s d
  if driveKind s d = "SINGLE" then f
  else if toward100 != cfgOn s (drvObj d) "DIRINV" then f + 1 else f

/-- The channel that drives a FLOAT drive in a direction. -/
def floatFor (s : State) (d : Nat) (toward100 : Bool) : Nat :=
  match driveOuts s d with
  | [a, b] => if toward100 != cfgOn s (drvObj d) "DIRINV" then b.n else a.n
  | _ => firstOut s d

/-- The drive of a feed, the second feed of a pair included. -/
def driveOfFeed (s : State) (f : Nat) : Option Nat :=
  match feedDrive s f with
  | some d => some d
  | none => (usedDrives s).find? fun d => driveKind s d = "PAIR" && firstOut s d + 1 = f

def partner (f : Nat) : Nat := if f % 2 = 0 then f + 1 else f - 1

/-- A pair's feeds belong to one PAIR drive: they are interlocked. -/
def paired (s : State) (f : Nat) : Bool := (usedDrives s).any fun d => driveKind s d = "PAIR" && firstOut s d / 2 = f / 2

/-- The end of the dead time that began when a feed opened. -/
def feedDead (s : State) (f : Nat) : Option Nat := tget none s.drv.dead f

/-- The end of the dead times of a pair. -/
def pairDead (s : State) (q : Nat) : Option Nat :=
  match feedDead s (2 * q), feedDead s (2 * q + 1) with
  | some a, some b => some (max a b)
  | some a, none => some a
  | none, b => b

/-- The first of them to end. -/
def pairFirst (s : State) (q : Nat) : Option Nat :=
  match feedDead s (2 * q), feedDead s (2 * q + 1) with
  | some a, some b => some (min a b)
  | some a, none => some a
  | none, b => b

/-- The dead time that holds a feed runs from the opening of its partner (R371). -/
def pairDeadNow (s : State) (f : Nat) : Bool := match feedDead s (partner f) with | some t => s.now < t | none => false

/-- A dead time that is over is dropped. -/
def deadOver (now : Nat) (l : Tbl (Option Nat)) (f : Nat) : Tbl (Option Nat) :=
  match tget none l f with
  | some t => if t ≤ now then tset l f none else l
  | none => l

/-- DEADT of the drive on a pair or a port, in ticks. -/
def deadTicks (s : State) (d : Option Nat) : Nat := match d with | some d => cfgTicks s (drvObj d) "DEADT" | none => 250 * tickMs

/-! ### The position models (R380, R384) -/

def fullTime (s : State) (d : Nat) (toward100 : Bool) : Nat := max 1 (cfgTicks s (drvObj d) (if toward100 then "TDOWN" else "TUP"))

/-- TILTT in ticks; 0 without a tilt axis. -/
def tiltTicks (s : State) (d : Nat) : Nat := if driveKind s d = "PAIR" then cfgTicks s (drvObj d) "TILTT" else 0

/-- The position models of a kind (Table DRV-1). -/
def posModels (k : String) : List String :=
  if k = "PAIR" then ["TIMED", "ENDSTOP"] else if k = "DC" then ["TIMED", "ENCODER"] else if k = "FLOAT" then ["TIMED"]
  else if k = "ANALOG" then ["COMMANDED"] else ["NONE"]

def posModel (s : State) (d : Nat) : String :=
  let k := driveKind s d
  if k = "ANALOG" then "COMMANDED" else if k = "SINGLE" then "NONE"
  else match cfgVal s (drvObj d) "POSMODEL" with
    | .word w :: _ => if (posModels k).contains w then w else "TIMED"
    | _ => "TIMED"

/-- Models run as TIMED in BENCH and REPLAY, without outputs (R401). -/
def modelOnly (s : State) : Bool := modeIs s [.bench, .replay]

/-- The model's position and angle at tick `t` of a running travel. -/
def modelPos (s : State) (d : Nat) (t : Nat) : Nat × Nat :=
  let r := drOf s d
  let t := match r.stopAt with | some e => min t e | none => t
  let el := t - r.t0
  let tt := tiltTicks s d
  let turn := if tt = 0 then 0 else (90 * el + tt / 2) / tt
  let ang := if r.dir then r.tilt0 - turn else if tt = 0 then r.tilt0 else min 90 (r.tilt0 + turn)
  if r.tiltRun then (r.pos0, ang)
  else
    let mv := 10000 * (el - tt) / fullTime s d r.dir
    (if r.dir then min 10000 (r.pos0 + mv) else r.pos0 - mv, ang)

/-- Position and angle now. -/
def posNow (s : State) (d : Nat) : Nat × Nat :=
  let r := drOf s d
  if !r.running then (r.pos, r.tilt)
  else if posModel s d = "NONE" then (10000, r.tilt)
  else if posModel s d = "ENCODER" && !modelOnly s && r.encSpan != 0 then
    ((clampInt 0 10000 (10000 * (portOf_ s (firstOut s d)).enc / r.encSpan)).toNat, r.tilt)
  else modelPos s d s.now

/-- The position record, as a travel starts or ends (R383); held in SRAM while journal writing is forbidden. -/
def writeRec (s : State) (d : Nat) (moving : Bool) : State :=
  modDr s d fun r =>
    let x : DrRec := ⟨r.pos, r.q, moving⟩
    if s.thm.winJournal && !s.tst.heldJournal then { r with rec_ := some x, recHeld := none } else { r with recHeld := some x }

/-- A travel begins: its output is on now.  A travel to an end from an UNKNOWN position counts from the other end. -/
def travelBegins (s : State) (d : Nat) (dir : Bool) : State :=
  let tilts := match (drOf s d).legs with | l :: _ => l.tilt.isSome | [] => false
  let s := modDr s d fun r =>
    let p := if r.q = 2 && !tilts then (if dir then 0 else 10000) else r.pos
    { r with running := true, dir := dir, t0 := s.now, pos := p, pos0 := p, tilt0 := r.tilt, tiltRun := tilts, stopAt := none, endPos := none, est := false, lowSince := none, phase := .moving, exceed := 0, evalAt := s.now, byCur := false, lastCount := s.now, verdict := false, bins := r.bins.map fun b => (b.1, { b.2 with sp := 0, si := 0, n := 0 }) }
  writeRec s d true

/-- The quality after a travel (Table DRV-5). -/
def qualityAfter (s : State) (d : Nat) (r : Dr) : Nat :=
  let m := posModel s d
  if r.est then max r.q 1
  else if m = "NONE" then 0
  else if r.endPos.isSome then (if m = "TIMED" || modelOnly s then 1 else 0)
  else if m = "ENCODER" && !modelOnly s && r.q = 0 then 0 else max r.q 1

/-- A travel stops where it stands, or at the end it has reached. -/
def travelFreezes (s : State) (d : Nat) : State :=
  if !(drOf s d).running then s
  else
    let p := if posModel s d = "NONE" then (0, 0) else posNow s d
    writeRec (modDr s d fun r => { r with running := false, pos := r.endPos.getD p.1, tilt := p.2, q := qualityAfter s d r, endPos := none, lowSince := none }) d false

/-! ### Feeds (R370 to R372) -/

def untestedLine (s : State) : Bool := s.tst.heldLine

/-- The outputs that latched self-test faults hold off (Table BST-5): LF0 to LF7, then DP0 to DP3. -/
def bstHeld (s : State) : BitVec 12 := s.tst.holds.foldl (fun a p => a ||| p.2) 0

/-- A thermal level, a THERMO bit (ch. *Thermal models*) or a latched self-test fault holds the output off: LF0 to LF7
and DP0 to DP3. -/
def outHot (s : State) (m : Nat) : Bool := s.thm.hot.getLsbD m || (bstHeld s).getLsbD m

/-- The outputs of a drive among LF0 to LF7 and DP0 to DP3. -/
def driveBits (s : State) (d : Nat) : BitVec 12 :=
  let k := driveKind s d
  let f := firstOut s d
  if k = "PAIR" then 3#12 <<< (f / 2 * 2) else if k = "SINGLE" then 1#12 <<< f else if k = "DC" then 1#12 <<< (8 + f) else 0

/-- The self-test faults by bit of TST_FAULT. -/
def bstNames : List String := ["BST.ROM", "BST.SRAM", "BST.CLOCK", "BST.RAIL", "BST.SNUFFER", "BST.LINE", "BST.THERMAL", "BST.CONV", "BST.JOURNAL", "BST.LINK"]

/-- The latched self-test fault that holds an output of a drive off (R665). -/
def bstFault (s : State) (d : Nat) : Option String :=
  (s.tst.holds.find? fun p => p.2 &&& driveBits s d != 0).map fun p => bstNames.getD p.1 "-"

/-- The line die opens a feed: the dead time of its pair begins. -/
def feedOpens (s : State) (f : Nat) : State :=
  let x := feedOf s f
  if !x.closed then setFeed s f { x with openCmd := none }
  else
    let s := setFeed s f { x with closed := false, openCmd := none }
    let d := driveOfFeed s f
    let s := if paired s f then { s with drv := { s.drv with dead := tset s.drv.dead f (some (s.now + deadTicks s d)) } } else s
    match d with
    | some d => if (drOf s d).stopAt.isSome || modelOnly s then s else travelFreezes s d
    | none => s

/-- What keeps the line die from closing a feed. -/
def feedHeld (s : State) (f : Nat) : Bool :=
  let x := feedOf s f
  !s.drv.configured || untestedLine s || s.pwr.nomKind = .none || x.trip || outHot s f || s.pwr.hold || s.pwr.committed
    || (paired s f && ((feedOf s (partner f)).closed || (feedOf s (partner f)).trip || pairDeadNow s f))

/-- A feed whose close command is carried out at this zero crossing; one that has still to open, opens first. -/
def feedCloses (s : State) (f : Nat) : State :=
  let x := feedOf s f
  match x.closeCmd with
  | none => s
  | some t =>
    if x.closed then (if x.openCmd.isNone then setFeed s f { x with closeCmd := none } else s)
    else if s.now < t + 400 || feedHeld s f then s
    else
      let s := setFeed s f { x with closed := true, closeCmd := none, openCmd := none, closes := satInc 65535 x.closes }
      match driveOfFeed s f with
      | some d => match (drOf s d).legs with
        | l :: _ => travelBegins s d l.dir
        | [] => s
      | none => s

/-- ZERO_CROSSING: the line die carries out the close commands that wait (R370), and the SENSE island ends and begins
its windows (R276); `raw` is the result of a window that ends here. -/
def zeroCrossing (s : State) (raw : Nat) : State :=
  let s := { s with pwr := { s.pwr with lastCross := some s.now }, drv := { s.drv with cross2 := s.drv.cross1, cross1 := some s.now } }
  let s := (List.range 8).foldl feedCloses s
  icCrossing s raw

def execZeroCrossing (raw : BitVec 20) (s : State) : Host.Outcome State Fault Refusal := .next (zeroCrossing s raw.toNat)

/-- A close command reaches the line die at `t`. -/
def feedCommand (s : State) (f t : Nat) : State := setFeed s f { feedOf s f with closeCmd := some t }

/-- FEED_CLOSE_COMMAND. -/
def execFeedCloseCommand (f : Fin 8) (s : State) : Host.Outcome State Fault Refusal :=
  .next (if s.drv.configured && !untestedLine s then feedCommand s f s.now else s)

/-- An open command for a feed: a close command that waits is dropped. -/
def feedStop (s : State) (f : Nat) : State :=
  let x := feedOf s f
  setFeed s f { x with closeCmd := none, openCmd := if x.closed then some (x.openCmd.getD s.now) else none }

/-- FEED_OPEN: after an open command, the feed current is below 20 mA. -/
def execFeedOpen (f : Fin 8) (s : State) : Host.Outcome State Fault Refusal :=
  .next (if (feedOf s f).openCmd.isSome then feedOpens s f else s)

/-- FEED_OPEN_TIMEOUT: 11 ms after the open command. -/
def execFeedOpenTimeout (f : Fin 8) (s : State) : Host.Outcome State Fault Refusal :=
  .next (atTick s ((feedOf s f).openCmd.map (· + 11 * tickMs)) fun s => feedOpens s f)

/-! ### DC ports (R373, R374) -/

/-- The gates go on in a direction. -/
def portGo (s : State) (p : Nat) (dir : Bool) : State :=
  let x := portOf_ s p
  match portDrive s p with
  | none => s
  | some d =>
    let o := drvObj d
    let cap := if tget 0 s.thm.lvl (8 + p) = 2 then (cfgInt s ⟨.tp, p⟩ "THRDUTY" 1000000000).toNat else 100
    let target := min cap (cfgInt s o "DUTY" 1000000000).toNat * 10
    let ramp := cfgTicks s o "RAMP"
    let s := setPort s p { x with run := true, dir := dir, target := target, duty := if ramp = 0 then target else 0, rampEnd := if ramp = 0 then none else some (s.now + ramp), rampLen := ramp, brake := false, pend := none, encErr := 0 }
    travelBegins s d dir

/-- A start in a direction: held while the dead time runs toward the other one. -/
def portStart (s : State) (p : Nat) (dir : Bool) : State :=
  let x := portOf_ s p
  let dead := match x.deadUntil with | some t => s.now < t | none => false
  if x.trip || outHot s (8 + p) || s.pwr.committed then s
  else if dead && x.dir != dir then setPort s p { x with pend := some dir }
  else portGo s p dir

/-- All four gates off; BRAKE holds both low sides on. -/
def portStop (s : State) (p : Nat) : State :=
  let x := portOf_ s p
  let d := portDrive s p
  let brake := match d with | some d => cfgOn s (drvObj d) "BRAKE" | none => false
  let s := setPort s p { x with run := false, duty := 0, rampEnd := none, pend := none, brake := if x.run then brake else x.brake, deadUntil := if x.run then some (s.now + deadTicks s d) else x.deadUntil }
  match d with
  | some d => if x.run && !modelOnly s then travelFreezes s d else s
  | none => s

/-- Every gate of a port off, BRAKE or not (R57, R375, R426). -/
def gatesOff (s : State) (p : Nat) : State :=
  let s := portStop s p
  setPort s p { portOf_ s p with brake := false }

/-- Every gate of every port off: the gate outputs are low in QUIET, SAFE, COOL-DOWN and BIST, and in reset (Table ELC-7). -/
def portsLow (s : State) : State := (List.range 4).foldl gatesOff s

/-- DEAD_TIME_END: the dead time of a pair or a port is over, and a start that waits for it may proceed. -/
def execDeadTimeEnd (o : DeadOut) (s : State) : Host.Outcome State Fault Refusal :=
  .next (match o with
    | .pair q => atTick s (pairFirst s q) fun s => { s with drv := { s.drv with dead := deadOver s.now (deadOver s.now s.drv.dead (2 * q)) (2 * q + 1) } }
    | .port p => atTick s (portOf_ s p).deadUntil fun s =>
        let x := portOf_ s p
        let s := setPort s p { x with deadUntil := none }
        match x.pend with
        | some dir => portGo s p dir
        | none => s)

/-- RAMP_END: the duty reaches DUTY. -/
def execRampEnd (p : Fin 4) (s : State) : Host.Outcome State Fault Refusal :=
  .next (atTick s (portOf_ s p).rampEnd fun s =>
    let x := portOf_ s p
    setPort s p { x with duty := x.target, rampEnd := none })

/-- The duty in force, 0.1 %: rising in a line over the ramp (R373). -/
def dutyNow (s : State) (x : Port) : Nat :=
  match x.rampEnd with
  | some e => x.target * (s.now + x.rampLen - e) / max 1 x.rampLen
  | none => x.duty

/-- The gate outputs AH, AL, BH and BL of a port, a driven half-bridge counting as on (R368, R373). -/
def portGates (s : State) (p : Nat) : Bool × Bool × Bool × Bool :=
  let x := portOf_ s p
  let inv := match portDrive s p with | some d => cfgOn s (drvObj d) "DIRINV" | none => false
  let a := x.dir != inv
  if x.run then (a, !a, !a, a) else (false, x.brake, false, x.brake)

/-- The place of a quadrature state in the cycle 00, 01, 11, 10 (EB EA). -/
def quadPos (a b : Bool) : Nat := if !b then (if a then 1 else 0) else (if a then 2 else 3)

/-- The step of a quadrature transition: +1 where EA leads, −1 where EB does; none where both change at once. -/
def quadStep (a b a' b' : Bool) : Option Int :=
  let n := (quadPos a' b' + 4 - quadPos a b) % 4
  if n = 0 then some 0 else if n = 1 then some 1 else if n = 3 then some (-1) else none

/-! ### The Snuffer (R375, R376) -/

def trippedOut (s : State) (o : TripOut) : Bool :=
  match o with | .feed f => (feedOf s f).trip | .port p => (portOf_ s p).trip

/-- A feed trips: it opens at once, and its pair stays open; the verdict goes through X189. -/
def feedTrips (s : State) (f : Nat) : State :=
  let x := feedOf s f
  let s := feedOpens s f
  let y := feedOf s f
  let s := setFeed s f { y with trip := true, closeCmd := none, openCmd := none, tripAt := s.now :: lastDay s x.tripAt, trips := satInc 255 x.trips }
  let g := partner f
  let s := if paired s f then feedOpens s g else s
  arrive s 189 (BitVec.ofNat 16 f) (some (mono s)) (.trip (.feed (Fin.ofNat 8 f)) 1)

/-- FEED_TRIP: the instantaneous current exceeds TRIPA. -/
def execFeedTrip (f : Fin 8) (ma : Nat) (s : State) : Host.Outcome State Fault Refusal :=
  .next (if (feedOf s f).closed && 100 * (feedOf s f).lim < ma && !(feedOf s f).trip then feedTrips s f else s)

/-- A port trips: all gates off; the verdict goes through X190. -/
def portTrips (s : State) (p : Nat) : State :=
  let x := portOf_ s p
  let s := gatesOff s p
  let y := portOf_ s p
  let s := setPort s p { y with trip := true, tripAt := s.now :: lastDay s x.tripAt, trips := satInc 255 x.trips }
  arrive s 190 (BitVec.ofNat 16 p) (some (mono s)) (.trip (.port (Fin.ofNat 4 p)) 1)

/-- PORT_TRIP: the shunt voltage exceeds TRIPMV in either polarity. -/
def execPortTrip (p : Fin 4) (mv : Int) (s : State) : Host.Outcome State Fault Refusal :=
  .next (if (portOf_ s p).lim < mv.natAbs && !(portOf_ s p).trip then portTrips s p else s)

def outName : TripOut → String
  | .feed f => "LF" ++ natStr f.val | .port p => "DP" ++ natStr p.val

def driveOfOut (s : State) (o : TripOut) : Option Nat :=
  match o with | .feed f => driveOfFeed s f | .port p => portDrive s p

def tripTicks (s : State) (o : TripOut) : List Nat :=
  match o with | .feed f => (feedOf s f).tripAt | .port p => (portOf_ s p).tripAt

/-- A latch clears. -/
def latchClears (s : State) (o : TripOut) : State :=
  let s := match o with
    | .feed f => setFeed s f { feedOf s f with trip := false }
    | .port p => setPort s p { portOf_ s p with trip := false }
  notify s "DRV.TRIP-CLEAR" ((driveOfOut s o).map drvObj) ("OUTPUT=" ++ outName o)

/-- When a latch clears by itself: fewer than three trips in 24 h, TRIPCLR not off. -/
def latchDue (s : State) (o : TripOut) : Option Nat :=
  match tripTicks s o, driveOfOut s o with
  | t :: _, some d =>
    if trippedOut s o && ((tripTicks s o).filter fun u => t < u + dayTicks).length < 3 then
      (cfgNano s (drvObj d) "TRIPCLR").map fun v => t + (v / 125).toNat
    else none
  | _, _ => none

/-- TRIP_LATCH_CLEAR. -/
def execTripLatchClear (o : TripOut) (s : State) : Host.Outcome State Fault Refusal :=
  .next (atTick s (latchDue s o) fun s => latchClears s o)

/-- SNUFFER_LIMIT_WRITE: TRIPA from 1.0 A to 8.0 A, TRIPMV from 20 mV to 250 mV; in force at the next boundary. -/
def limitWrite (s : State) (o : TripOut) (v : Nat) : State :=
  match o with
  | .feed f => if 10 ≤ v && v ≤ 80 then setFeed s f { feedOf s f with limNext := some v } else s
  | .port p => if 20 ≤ v && v ≤ 250 then setPort s p { portOf_ s p with limNext := some v } else s

def execSnufferLimitWrite (o : TripOut) (v : Word) (s : State) : Host.Outcome State Fault Refusal :=
  .next (limitWrite s o (match o with | .feed _ => v.toNat % 128 | .port _ => v.toNat % 256))

/-- The limits written come into force at a boundary. -/
def limitsTake (s : State) : State :=
  { s with drv := { s.drv with feeds := s.drv.feeds.map (fun p => (p.1, { p.2 with lim := p.2.limNext.getD p.2.lim, limNext := none })), ports := s.drv.ports.map fun p => (p.1, { p.2 with lim := p.2.limNext.getD p.2.lim, limNext := none }) } }

/-! ### The barrier link (R377 to R379, R403) -/

/-- A feed status word (R403). -/
def feedWord (s : State) (f : Nat) : XWord :=
  let x := feedOf s f
  let hot := outHot s f
  (fieldWord [bit 0 (s.drv.configured && !x.trip && !hot), bit 1 x.closed, bit 2 x.closeCmd.isSome, bit 3 x.trip, bit 4 hot, bit 5 (paired s f && pairDeadNow s f)]).truncate 16

/-- A port status word (R403). -/
def portWord (s : State) (p : Nat) : XWord :=
  let x := portOf_ s p
  let hot := outHot s (8 + p)
  let dead := match x.deadUntil with | some t => s.now < t | none => false
  (fieldWord [bit 0 (!x.trip && !hot), bit 1 x.run, bit 2 x.dir, bit 3 x.trip, bit 4 hot, bit 5 dead, bit 6 (16 ≤ x.encErr), bit 7 x.brake]).truncate 16

/-- BARRIER_HEARTBEAT: the line die hears the core die, and answers with a status word for each feed. -/
def barrierHeartbeat (s : State) : State :=
  let gap := s.drv.lastWord + 2 * tickMs < s.now
  let back := if s.drv.lost then (if gap then some s.now else some (s.drv.backSince.getD s.now)) else none
  let s := { s with drv := { s.drv with lastHb := s.now, lastWord := s.now, backSince := back } }
  let s := (List.range 8).foldl (fun s f => arrive (setFeed s f { feedOf s f with word := feedWord s f }) (180 + f) (feedWord s f) (some (mono s)) .none) s
  if s.drv.lost then s else arrive s 201 1 none .none

def execBarrierHeartbeat (s : State) : Host.Outcome State Fault Refusal :=
  .next (if coreRuns s && s.pwr.linkUp then barrierHeartbeat s else s)

/-- HEARTBEAT_LOSS: 5 ms without a heartbeat; the line die opens every closed feed, drops the commands that wait, and
closes none until it is configured again. -/
def lineSilent (s : State) : State :=
  (List.range 8).foldl feedStop { s with drv := { s.drv with configured := false } }

def execHeartbeatLoss (s : State) : Host.Outcome State Fault Refusal :=
  .next (if s.drv.configured then atTick s (some (s.drv.lastHb + 5 * tickMs)) lineSilent else s)

/-- BARRIER_LINK_LOST: 5 ms without a word from the line die; reported through X201. -/
def linkLost (s : State) : State :=
  let until_ := s.drv.lastWord + 16 * tickMs
  let s := (usedDrives s).foldl (fun s d => if lineDrive s d && (drOf s d).running then modDr s d fun r => { r with stopAt := some until_ } else s) s
  let s := { s with drv := { s.drv with lost := true, losses := satInc 255 s.drv.losses, backSince := none }, cnv := { s.cnv with lcSeq := none } }
  icCut (arrive s 201 0 none .none)

def execBarrierLinkLost (s : State) : Host.Outcome State Fault Refusal :=
  .next (if coreRuns s && s.pwr.linkUp && !s.drv.lost then atTick s (some (s.drv.lastWord + 5 * tickMs)) linkLost else s)

/-- BARRIER_LINK_BACK: 100 ms of words without a gap; the keeper configures the line die with all feeds open. -/
def linkBack (s : State) : State :=
  let s := { s with drv := { s.drv with lost := false, backSince := none, configured := true } }
  let s := (List.range 8).foldl feedStop s
  notifyLate (arrive s 201 1 none .none) "DRV.LINE-BACK"

/-- MOT_CLR and LINE_CLR. -/
def execMotClr (v : Word) (s : State) : Host.Outcome State Fault Refusal :=
  .next (if v.getLsbD 0 then { s with drv := { s.drv with ports := s.drv.ports.map fun p => (p.1, { p.2 with trips := 0 }) } } else s)

def execLineClr (v : Word) (s : State) : Host.Outcome State Fault Refusal :=
  .next (if v.getLsbD 0 then { s with drv := { s.drv with losses := 0, feeds := s.drv.feeds.map fun p => (p.1, { p.2 with trips := 0 }) } } else s)

/-! ### Stopping a drive's outputs -/

/-- The stop of a drive: an open command, gates off, or channels off. -/
def driveStop (s : State) (d : Nat) : State :=
  let k := driveKind s d
  if modelOnly s then travelFreezes s d
  else if k = "PAIR" then feedStop (feedStop s (firstOut s d)) (firstOut s d + 1)
  else if k = "SINGLE" then feedStop s (firstOut s d)
  else if k = "DC" then portStop s (firstOut s d)
  else if k = "FLOAT" then
    let was := (drOf s d).running
    let s := travelFreezes ((driveOuts s d).foldl (fun s o => setOd s o.n false) s) d
    if was then modDr s d fun r => { r with deadUntil := some (s.now + deadTicks s (some d)) } else s
  else s

/-- The drive stands: no output is on and no close command waits. -/
def driveStands (s : State) (d : Nat) : Bool :=
  let k := driveKind s d
  if modelOnly s then !(drOf s d).running
  else if k = "PAIR" then
    let f := firstOut s d
    !(feedOf s f).closed && !(feedOf s (f + 1)).closed && (feedOf s f).closeCmd = none && (feedOf s (f + 1)).closeCmd = none
  else if k = "SINGLE" then (feedOf s (firstOut s d)).openCmd = none && (feedOf s (firstOut s d)).closeCmd = none
  else if k = "DC" then !(portOf_ s (firstOut s d)).run && (portOf_ s (firstOut s d)).pend = none
  else !(drOf s d).running

/-- Every output off: a takeover, a commit, or an entry that stops the outputs (R410). -/
def outputsOff (s : State) : State :=
  let s := (List.range 8).foldl feedStop s
  let s := (List.range 4).foldl portStop s
  (usedDrives s).foldl (fun s d => if driveKind s d = "FLOAT" then driveStop s d else s) s

end Sys2Proof.Machine
end

