-- ==== Sys2Proof/Machine/Operands.lean ====
section
/-!
DEFINITION. The operand forms that the chapters share: values in the units of a source (R41, R391, R453), positions as
the device sends them, and the instants of R398.
-/
namespace Sys2Proof.Machine
open Sys2Proof

/-! ### Source units -/

/-- The size of a unit in 10^-9 of its base. -/
def unitSize (u : String) : Int := match unitOf u with | some p => p.2 | none => 1000000000

/-- A channel whose crossing carries a node voltage and whose source unit is the resistance (Table CHN-6). -/
def srcNtc (s : State) (x : Nat) : Bool := x < 96 && (chanMode s x = "NTC10K" || chanMode s x = "NTC20K")

/-- The source unit of a crossing. -/
def srcUnit (s : State) (x : Nat) : String :=
  if srcNtc s x then "ohm" else if x < 158 then (cellScale s x).1 else ""

/-- One step of a crossing's word, in 10^-21 of the base unit. -/
def srcStep (s : State) (x : Nat) : Int :=
  if x < 158 then (cellScale s x).2 * unitSize (cellScale s x).1 else 1000000000000000000000

/-- A word in 10^-21 of the base unit of its source; none for an NTC at or beyond its pull-up. -/
def srcValue (s : State) (x : Nat) (v : Int) : Option Int :=
  if srcNtc s x then
    let n := v * 40000000
    if 2500000000000 ≤ n then none
    else some ((pullUp (chanMode s x) : Int) * n * 1000000000000000000000 / (2500000000000 - n))
  else some (v * srcStep s x)

/-- Whether a word lies at or above a threshold given in 10^-9 of the base unit. -/
def srcGe (s : State) (x : Nat) (v nano : Int) : Bool :=
  match srcValue s x v with | some a => nano * 1000000000000 ≤ a | none => true

def srcLe (s : State) (x : Nat) (v nano : Int) : Bool :=
  match srcValue s x v with | some a => a ≤ nano * 1000000000000 | none => false

/-- The integer nearest a quotient, the lower one where two are equally near (R41); the divisor is positive. -/
def nearLow (a b : Int) : Int := -((b - 2 * a) / (2 * b))

/-- The word of a node voltage whose resistance lies nearest a resistance, the lower one where two are equally near: the
word `w` stands for `pu · w / (62500 − w)`. -/
def ntcWord (pu nano : Int) : Int :=
  if nano ≤ 0 then 0
  else
    let w := 62500 * nano / (nano + pu)
    let d0 := 62500 - w
    let d1 := 62499 - w
    if d1 ≤ 0 || 2 * nano * d0 * d1 ≤ pu * (w * d1 + (w + 1) * d0) then w else w + 1

/-- The word nearest a value in 10^-9 of the base unit. -/
def srcWord (s : State) (x : Nat) (nano : Int) : Int :=
  if srcNtc s x then ntcWord ((pullUp (chanMode s x) : Int) * 1000000000) nano
  else nearLow (nano * 1000000000000) (srcStep s x)

/-- A word as the device sends it in source units. -/
def srcStr (s : State) (x : Nat) (v : Int) : String :=
  if srcNtc s x then ntcOhm (chanMode s x) (v * 40000000)
  else if x < 158 then picoStr (v * (cellScale s x).2) ++ (cellScale s x).1 else intStr v

/-! ### Positions, instants and names -/

/-- A position in 0.01 %, with only the decimals it needs (R126). -/
def posStr (p : Nat) : String :=
  natStr (p / 100) ++ (if p % 100 = 0 then "" else "." ++ (if p % 10 = 0 then natStr (p % 100 / 10) else padStr 2 (p % 100))) ++ "%"

/-- An instant as UNTIL names it: network time, or without it seconds of monotonic time. -/
def untilStr (s : State) (t : Nat) : String :=
  if s.tim.quality = 0 then natStr ((t - s.rel) / (1000 * tickMs)) ++ "s"
  else utcStr (utcSeconds s + (t - s.now) / (1000 * tickMs))

/-- A percentage attribute in whole percent. -/
def cfgPct (s : State) (o : Obj) (a : String) : Nat := (cfgInt s o a 1000000000).toNat

end Sys2Proof.Machine
end

