-- ==== Sys2Proof/Machine/Drives.lean ====
section
/-!
DEFINITION. The drive layer (*Drives*): orders and their arbitration (R394 to R399), holds, the legs of a travel and
their leave (R382, R384, R400), the ends of travels (R380, R381), learning (R385), obstacles (R386 to R389), the sag
stop (R390), the protections (R391, R392), local switches (R393), and the modes (R401, R410).
-/
namespace Sys2Proof.Machine
open Sys2Proof

/-! ### Names of ranks, sources and models -/

def rankName (r : Nat) : String := ["AUTOMATION", "OPERATOR", "INSTALLER", "MAKER", "SAFETY"].getD r "-"

/-- The class of a rank (R88). -/
def rankClass (r : Nat) : LClass := if r = 4 then .urgent else if r = 0 then .routine else .manual

/-- A source as WINNER and ORDER name it (Table DRV-6). -/
def srcLabel (src no : Nat) : String :=
  if src = 16 then objName (loopObj no) else if src = 17 then objName ⟨.sched, no⟩
  else ["LINK0", "LINK1", "BUS1", "BUS2", "BUS3", "BUS4", "MACRO", "LOCAL", "SEALED", "SNUFFER", "OBSTACLE", "FIRE", "WIND", "RAIN", "FROST"].getD (src - 1) "-"

def srcSnuffer : Nat := 10
def srcObstacle : Nat := 11

/-- The thermal model of a drive's output. -/
def driveModel (s : State) (d : Nat) : Option Nat :=
  if lineDrive s d then some (firstOut s d) else if driveKind s d = "DC" then some (8 + firstOut s d) else none

def modelName (m : Nat) : String :=
  if m < 8 then "TF" ++ natStr m else if m < 12 then "TP" ++ natStr (m - 8) else "TMOD"

/-- The level of a model, a force bit counting as SHUTDOWN (R428). -/
def modelLevel (s : State) (m : Nat) : Nat := if m < 12 && s.thm.force.getLsbD m then 3 else tget 0 s.thm.lvl m

/-- The model that ends every move order of a drive (Table THM-2). -/
def hotMove (s : State) (d : Nat) : Option String :=
  match driveModel s d with
  | some m => if modelLevel s m = 3 then some (modelName m) else none
  | none => none

/-- The model that refuses a start of a rank (Table THM-2, R431). -/
def hotStart (s : State) (d rank : Nat) : Option String :=
  let own := match driveModel s d with
    | some m => if modelLevel s m = 3 || (modelLevel s m = 2 && rank < 4) then some (modelName m) else none
    | none => none
  match own with
  | some n => some n
  | none => if modelLevel s 12 = 3 || (modelLevel s 12 = 2 && rank < 4) then some "TMOD" else none

/-- The outputs of a drive on the line die or the ports, as the Snuffer names them. -/
def tripOuts (s : State) (d : Nat) : List TripOut :=
  let n := firstOut s d
  let k := driveKind s d
  if k = "PAIR" then [.feed (Fin.ofNat 8 n), .feed (Fin.ofNat 8 (n + 1))] else if k = "SINGLE" then [.feed (Fin.ofNat 8 n)]
  else if k = "DC" then [.port (Fin.ofNat 4 n)] else []

def driveTripped (s : State) (d : Nat) : Bool := (tripOuts s d).any (trippedOut s)

/-- The status crossing of an output. -/
def outCrossing : TripOut → Nat
  | .feed f => 180 + f.val | .port p => 176 + p.val

/-- A status crossing of the drive's outputs is in a failure episode (R404). -/
def driveXFails (s : State) (d : Nat) : Bool := !modelOnly s && (tripOuts s d).any fun o => xFailing s (outCrossing o)

/-- The block that a drive's starts and stops are written to is assigned S (R400). -/
def driveBlockS (s : State) (d : Nat) : Bool :=
  blockS s (if lineDrive s d then 13 else if driveKind s d = "DC" then 12 else 10)

/-- The modes in which no output is driven (R401). -/
def halted (s : State) : Bool := modeIs s [.safe, .cooldown, .bist]

/-! ### What orders report -/

/-- The failures of an order that leave the target of its loop as it is (R460). -/
def blocksLoop (body : String) : Bool :=
  ["HELD", "SUPERSEDED", "LEAVE", "LEAVE-TIMEOUT"].contains (String.ofList (spanChars (· != ' ') (body.toList.drop 5)).1)

/-- A loop is blocked at a drive, or no longer. -/
def loopBlock (s : State) (l d : Nat) (on : Bool) : State :=
  { s with clm := { s.clm with loops := tmod {} s.clm.loops l fun x => { x with blocked := if on then d :: x.blocked.filter (· != d) else x.blocked.filter (· != d) } } }

/-- The outcome of an order for the command, the sealed order or the loop that placed it. -/
def orderResult (s : State) (d : Nat) (o : Order) (ok : Bool) (body : String) : State :=
  let s := if o.src = 16 && !ok && blocksLoop body then loopBlock s o.srcNo d true else s
  let s := match o.cmd with
    | some id => { s with drv := { s.drv with results := s.drv.results ++ [⟨s.epoch + 1, id, d, ok, body⟩] } }
    | none => s
  match o.sealed_ with
  | some n => { s with drv := { s.drv with sealEnds := s.drv.sealEnds ++ [(n, body)] } }
  | none => s

/-- The final line of a command on a range (R197): the first drive to fail. -/
def rangeFinal (l : List DrvEnd) : String :=
  match l.find? fun e => !e.ok with
  | some e => e.done.getD "FAIL STATE" ++ " DRIVE=" ++ objName (drvObj e.drive)
  | none => "DONE"

/-- An outcome reaches WORK0. -/
def reportResult (s : State) (r : DrvRes) : State :=
  match findOut s r.cmd with
  | none => s
  | some o => match o.work with
    | .drives false _ => finish s r.cmd r.body
    | .drives true l =>
      let l := (l.filter fun e => e.drive != r.drive) ++ [⟨r.drive, some r.body, r.ok⟩]
      let s := more (setWork s r.cmd (.drives true l)) r.cmd (objName (drvObj r.drive) ++ " " ++ r.body)
      if l.all fun e => e.done.isSome then finish s r.cmd (rangeFinal l) else s
    | .learn d => if r.ok then setWork (queueStore s r.cmd (.learnt d)) r.cmd (.store (.learnt d) r.body) else finish s r.cmd r.body
    | _ => s

def driveResults (s : State) : State :=
  let due := s.drv.results.filter fun r => r.epoch ≤ s.epoch
  due.foldl reportResult { s with drv := { s.drv with results := s.drv.results.filter fun r => s.epoch < r.epoch } }

/-- An order placed on a drive, in the order of R177. -/
def placeOrder (s : State) (d : Nat) (o : Order) : State :=
  let s := modDr s d fun r => { r with pend := r.pend ++ [{ o with sq := s.drv.sq }] }
  { s with drv := { s.drv with sq := s.drv.sq + 1 } }

/-! ### Holds (R398) -/

/-- A hold of a rank for a time: the higher rank and the later end stand. -/
def holdPlace (s : State) (d rank ticks : Nat) : State :=
  let e := s.now + ticks
  let h := match (drOf s d).hold with | some (r, t) => (max r rank, max t e) | none => (rank, e)
  let s := modDr s d fun r => { r with hold := some h }
  notifyLate s "DRV.HOLD" (some (drvObj d)) ("RANK=" ++ rankName h.1 ++ " UNTIL=" ++ untilStr s h.2)

def holdEnd (s : State) (d : Nat) (reason : String) : State :=
  if (drOf s d).hold.isNone then s
  else notifyLate (modDr s d fun r => { r with hold := none }) "DRV.HOLD-END" (some (drvObj d)) ("REASON=" ++ reason)

/-- RELEASE applied to drives by a rank (R199), after the holds that have expired (R395 step 1). -/
def holdsRelease (s : State) (ds : List Nat) (rank : Nat) : State :=
  ds.foldl (fun s d => match (drOf s d).hold with
    | some (r, t) => if t ≤ s.now then holdEnd s d "EXPIRED" else if r ≤ rank then holdEnd s d "RELEASE" else s
    | none => s) s

/-- HOLD_EXPIRY. -/
def execHoldExpiry (d : Fin 32) (s : State) : Host.Outcome State Fault Refusal :=
  .next (if !coreRuns s then s else atTick s ((drOf s d).hold.map (·.2)) fun s => holdEnd s d "EXPIRED")

/-! ### Stops, and the ends of orders -/

/-- A stop written at this boundary, or one epoch later where its block is assigned S (R400). -/
def driveHalt (s : State) (d : Nat) : State :=
  let r := drOf s d
  let s := if r.phase = .waiting then withdrawPost s (.drive (Fin.ofNat 32 d)) else s
  if driveBlockS s d && !modelOnly s then modDr s d fun r => { r with stopReq := some (s.epoch + 1), startAt := none }
  else driveStop (modDr s d fun r => { r with startAt := none }) d

/-- A drive has something to stop. -/
def driveBusy (s : State) (d : Nat) : Bool :=
  let r := drOf s d
  r.running || r.phase = .waiting || r.phase = .starting || r.phase = .moving

/-- The protection of a source index. -/
def protOfSrc (src : Nat) : Option Nat :=
  if src = 13 then some 0 else if src = 14 then some 1 else if src = 15 then some 2 else if src = 12 then some 3 else none

def protSt (s : State) (p : Nat) : ProtSt := tget {} s.drv.prots p
def setProt (s : State) (p : Nat) (x : ProtSt) : State := { s with drv := { s.drv with prots := tset s.drv.prots p x } }

/-- A standing order that has left force is placed again when it can start (R379, R427). -/
def standingAgain (s : State) (d : Nat) (o : Order) : State :=
  match o.standing, protOfSrc o.src with
  | true, some p => setProt s p { protSt s p with placed := (protSt s p).placed.filter (· != d) }
  | _, _ => s

/-- What LEARN measured is dropped. -/
def learnClear (r : Dr) : Dr := { r with learnRun := 0, learnDown := 0, learnUp := 0, learnSpan := 0, samples := [] }

/-- An order leaves force with its travel ended. -/
def orderDone (s : State) (d : Nat) (o : Order) : State :=
  let s := modDr s d fun r => { r with phase := .idle, legs := [], order := if o.standing then some { o with reached := true } else none }
  orderResult s d o true ("DONE POS=" ++ posStr (posNow s d).1)

/-- An order in force fails; `again`: a protection may place it again. -/
def orderFail (s : State) (d : Nat) (o : Order) (body : String) (again : Bool) : State :=
  let s := if driveBusy s d then driveHalt s d else s
  let s := modDr s d fun r => learnClear { r with phase := if r.running || r.stopReq.isSome then .ending else .idle, legs := [], order := none }
  let s := if again then standingAgain s d o else s
  orderResult s d o false body

/-- A cause that ends the order in force at the next boundary; the first in R405 stands. -/
def driveCause (s : State) (d place : Nat) (body : String) : State :=
  modDr s d fun r => match r.cause with
    | some (p, _) => if p ≤ place then r else { r with cause := some (place, body) }
    | none => { r with cause := some (place, body) }

/-! ### Legs (R382, R384, R399, R400) -/

/-- The legs of an order. -/
def legsPlan (s : State) (d : Nat) (o : Order) : List Leg :=
  let far := o.tilt.isSome || (0 < o.target && o.target < 10000)
  if o.learn then [⟨0, false, none⟩, ⟨10000, true, none⟩, ⟨0, false, none⟩]
  else
    let home := if (drOf s d).q = 2 && far then [⟨0, false, none⟩] else []
    let tl := match o.tilt with | some a => [⟨o.target, false, some a⟩] | none => []
    home ++ [⟨o.target, false, none⟩] ++ tl

/-- A leg has something to travel. -/
def legNeeded (s : State) (d : Nat) (o : Order) (l : Leg) : Bool :=
  o.learn || (match l.tilt with
    | some a => (posNow s d).2 != a
    | none => (drOf s d).q = 2 || (posNow s d).1 != l.target)

/-- A leg's direction: toward 100 %, or toward smaller angles. -/
def legDir (s : State) (d : Nat) (l : Leg) : Bool :=
  match l.tilt with
  | some a => a < (posNow s d).2
  | none => if l.target = 10000 then true else if l.target = 0 then false else (posNow s d).1 < l.target

/-- Why an order of a rank cannot start (R372, R376, R404, Table THM-2). -/
def startRefused (s : State) (d rank : Nat) : Option String :=
  if modelOnly s then none
  else if driveTripped s d then some "FAIL FAULT TRIPPED"
  else if (bstFault s d).isSome then some ("FAIL FAULT " ++ (bstFault s d).getD "")
  else match hotStart s d rank with
    | some n => some ("FAIL HOT " ++ n)
    | none =>
      if lineDrive s d && s.drv.lost then some "FAIL LINE-LOST"
      else if lineDrive s d && untestedLine s then some "FAIL UNTESTED"
      else if driveXFails s d then some "FAIL FAULT XING" else none

/-- The output voltage of an ANALOG drive in mV, to the nearest 10 mV. -/
def analogMv (s : State) (d pos : Nat) : Nat :=
  let a : Int := cfgMilli s (drvObj d) "V0"
  let b : Int := cfgMilli s (drvObj d) "V100"
  (roundDiv (a * 10000 + (b - a) * pos) 100000 * 10).toNat

/-- The start of the leg at the head is written (R400). -/
def legWrite (s : State) (d : Nat) : State :=
  let k := driveKind s d
  match (drOf s d).legs with
  | [] => s
  | l :: _ =>
    if k = "ANALOG" then
      let s := if modelOnly s then s else setV10 s (firstOut s d) (analogMv s d l.target)
      modDr s d fun r => { r with pos := l.target, q := 0, phase := .ending }
    else if modelOnly s then travelBegins s d l.dir
    else if k = "PAIR" then feedCommand (modDr s d fun r => { r with phase := .starting }) (feedFor s d l.dir) (s.now + 10)
    else if k = "SINGLE" then feedCommand (modDr s d fun r => { r with phase := .starting }) (firstOut s d) (s.now + 10)
    else if k = "DC" then portStart (modDr s d fun r => { r with phase := .starting }) (firstOut s d) l.dir
    else
      let wait := match (drOf s d).deadUntil with | some t => s.now < t && (drOf s d).dir != l.dir | none => false
      if wait then modDr s d fun r => { r with phase := .starting }
      else travelBegins (setOd s (floatFor s d l.dir) true) d l.dir

/-- The write of a start, now or one epoch later. -/
def legStart (s : State) (d : Nat) : State :=
  if driveBlockS s d && !modelOnly s then modDr s d fun r => { r with phase := .starting, startAt := some (s.epoch + 1) }
  else legWrite s d

/-- The request for a start (R399). -/
def legAsk (s : State) (d : Nat) (o : Order) : State :=
  match leaveReq s (.drive (Fin.ofNat 32 d)) (rankClass o.rank) 0 o.cmd with
  | some q => askLeave (modDr s d fun r => { r with phase := .waiting }) (s.epoch + 1) q
  | none => s

/-- A measured travel time in 0.1 s, within the range of TUP and TDOWN. -/
def learnTenths (t : Nat) : Nat := min 6000 (max 10 ((t + 400000) / 800000))

/-- The mean of the samples of a direction whose place in the run falls into a bin. -/
def binMean (l : List (Bool × Nat × Nat × Nat)) (dir : Bool) (len bin : Nat) : Bin :=
  let m := l.filter fun x => x.1 = dir && (let i := min 49 (50 * x.2.1 / max 1 len); (if dir then i else 49 - i) = bin)
  let n := max 1 m.length
  { p := m.foldl (fun acc x => acc + x.2.2.1) 0 / n, i := m.foldl (fun acc x => acc + x.2.2.2) 0 / n }

def learnBins (r : Dr) : Tbl Bin :=
  (List.range 100).map fun n => (n, if n < 50 then binMean r.samples false r.learnUp n else binMean r.samples true r.learnDown (n - 50))

def secTenths (t : Nat) : Val := [.num (t * 100000000)]

/-- LEARN has measured both directions: what it keeps is written to the store (R176, R385). -/
def learnDone (s : State) (d : Nat) (o : Order) : State :=
  let r := drOf s d
  let dn := learnTenths r.learnDown
  let up := learnTenths r.learnUp
  let s := modDr s d fun r => learnClear { r with phase := .idle, legs := [], order := none, learnt := some ⟨up, dn, learnBins r, if r.learnSpan = 0 then r.encSpan else r.learnSpan⟩ }
  orderResult s d o true ("DONE TUP=" ++ milliStr (up * 100) 1 ++ "s TDOWN=" ++ milliStr (dn * 100) 1 ++ "s")

/-- The legs still to travel: the first that has something to do starts, under leave of its own. -/
def legsFrom (d : Nat) (o : Order) : List Leg → State → State
  | [], s => if o.learn then learnDone s d o else orderDone s d o
  | l :: rest, s =>
    if !legNeeded s d o l then legsFrom d o rest s
    else
      let s := modDr s d fun r => { r with legs := { l with dir := legDir s d l } :: rest, learnRun := if o.learn then 3 - rest.length else 0 }
      if driveKind s d = "ANALOG" then legStart s d
      else if driveKind s d = "SINGLE" && l.target = 0 then driveHalt (modDr s d fun r => { r with phase := .ending }) d
      else match startRefused s d o.rank with
        | some e => orderFail s d o e true
        | none => legAsk s d o

/-- A STOP takes force: what moves is stopped, what waits is withdrawn. -/
def stopApply (s : State) (d : Nat) : State :=
  let s := if driveBusy s d && !(driveKind s d = "SINGLE" && (drOf s d).phase = .idle) then driveHalt s d else s
  modDr s d fun r => learnClear { r with legs := [], phase := .ending }

/-- A new move carries on in the present direction of travel (R397). -/
def carriesOn (s : State) (d : Nat) (plan : List Leg) : Bool :=
  let r := drOf s d
  match plan with
  | l :: _ => r.running && r.phase = .moving && !r.tiltRun && r.stopReq.isNone && driveKind s d != "SINGLE" && l.tilt.isNone
      && (if r.dir then (posNow s d).1 < l.target || l.target = 10000 else l.target < (posNow s d).1 || l.target = 0)
  | [] => false

/-- A move takes force. -/
def moveApply (s : State) (d : Nat) (o : Order) : State :=
  if !modelOnly s && driveTripped s d then orderFail s d o "FAIL FAULT TRIPPED" true
  else if !modelOnly s && (bstFault s d).isSome then orderFail s d o ("FAIL FAULT " ++ (bstFault s d).getD "") true
  else match (if modelOnly s then none else hotMove s d) with
    | some n => orderFail s d o ("FAIL HOT " ++ n) true
    | none =>
      if !modelOnly s && lineDrive s d && untestedLine s then orderFail s d o "FAIL UNTESTED" true
      else
        let plan := legsPlan s d o
        if carriesOn s d plan && !o.learn then
          modDr s d fun r => { r with legs := plan.map fun l => { l with dir := r.dir } }
        else
          let s := if driveBusy s d && !(driveKind s d = "SINGLE" && (drOf s d).phase = .idle) then driveHalt s d else s
          legsFrom d o plan (modDr s d learnClear)

/-- An order wins and takes force: a manual rank places a hold (R398). -/
def orderApply (s : State) (d : Nat) (o : Order) : State :=
  let s := modDr s d fun r => { r with order := some o }
  let s := if o.src = 16 then loopBlock s o.srcNo d false else s
  let s := if 1 ≤ o.rank && o.rank ≤ 3 then holdPlace s d o.rank (cfgTicks s (drvObj d) "HOLDT") else s
  if o.stop then stopApply s d else moveApply s d o

/-! ### Arbitration (R395, R396) -/

def posGap (a b : Nat) : Nat := ((a : Int) - b).natAbs

/-- A move is toward the safe position. -/
def towardSafe (s : State) (d : Nat) (o : Order) : Bool :=
  let sp := cfgPct s (drvObj d) "SAFEPOS" * 100
  posGap o.target sp < posGap (posNow s d).1 sp

/-- The first order beats the second (R395, step 3). -/
def orderBeats (s : State) (d : Nat) (a b : Order) : Bool :=
  if a.rank != b.rank then b.rank < a.rank
  else if a.stop != b.stop then a.stop
  else if !a.stop && towardSafe s d a != towardSafe s d b then towardSafe s d a
  else if a.src != b.src then a.src < b.src
  else if a.srcNo != b.srcNo then a.srcNo < b.srcNo else b.sq < a.sq

def bestOrder (s : State) (d : Nat) : Order → List Order → Order
  | b, [] => b
  | b, o :: l => bestOrder s d (if orderBeats s d o b then o else b) l

/-- WINNER for a loser (R222, R395). -/
def winnerName (w l : Order) : String :=
  if w.src = l.src && w.src ≤ 7 then (match w.tag with | some t => natStr t | none => srcLabel w.src w.srcNo)
  else srcLabel w.src w.srcNo

/-- The audit record of an order from a session that lost (Table SEC-3). -/
def auditLoses (s : State) (d : Nat) (w l : Order) : State :=
  if 1 ≤ l.src && l.src ≤ 7 && l.cmd.isSome then
    auditAdd s 13 (l.src - 1) l.rank (l.tag.getD 0) (failRow "SUPERSEDED") (sReach s (sesOf (l.src - 1))) ("SUPERSEDED " ++ objName (drvObj d) ++ " WINNER=" ++ winnerName w l)
  else s

def orderLoses (s : State) (d : Nat) (w l : Order) : State :=
  auditLoses (orderResult (standingAgain s d l) d l false ("FAIL SUPERSEDED WINNER=" ++ winnerName w l)) d w l

def modeFail (s : State) : String := "FAIL STATE " ++ modeName s.ana.mode

/-- An order that never competes: no drive, no output in this mode, or a hold (R367, R395, R401). -/
def orderBarred (s : State) (d : Nat) (o : Order) : Option (Bool × String) :=
  if driveKind s d = "NONE" then some (false, "FAIL STATE")
  else if halted s then some (if o.stop then (true, "DONE POS=" ++ posStr (posNow s d).1) else (false, modeFail s))
  else match (drOf s d).hold with
    | some (_, t) => if o.rank = 0 && !o.stop then some (false, "FAIL HELD UNTIL=" ++ untilStr s t) else none
    | none => none

/-- The orders of the epoch compete. -/
def arbitrate (s : State) (d : Nat) (due : List Order) : State :=
  let s := due.foldl (fun s o => match orderBarred s d o with | some (ok, e) => orderResult s d o ok e | none => s) s
  match due.filter fun o => (orderBarred s d o).isNone with
  | [] => s
  | o :: l =>
    let w := bestOrder s d o l
    let lost := (o :: l).filter fun x => x.sq != w.sq
    match (drOf s d).order with
    | none => orderApply (lost.foldl (fun s x => orderLoses s d w x) s) d w
    | some c =>
      if c.rank ≤ w.rank then orderApply ((lost ++ [c]).foldl (fun s x => orderLoses s d w x) s) d w
      else (w :: lost).foldl (fun s x => orderLoses s d c x) s

/-! ### One drive at a boundary (R395, R405) -/

/-- The cause that ends the order in force. -/
def causeTakes (s : State) (d : Nat) : State :=
  match (drOf s d).cause with
  | none => s
  | some (place, body) =>
    let s := modDr s d fun r => { r with cause := none, rev := if place = 5 then r.rev else none }
    let s := if driveBusy s d then modDr (driveHalt s d) d fun r => { r with phase := .ending } else s
    let s := match (drOf s d).order with
      | some o => if o.stop then s else orderFail s d o body (body != "FAIL FAULT CUTOUT" && body != "FAIL FAULT ENDSTOP")
      | none => s
    if place = 1 then placeOrder s d { src := srcSnuffer, rank := 4, stop := true, epoch := s.epoch }
    else if place = 5 then placeOrder s d { src := srcObstacle, rank := 4, stop := true, epoch := s.epoch }
    else s

/-- A reversal follows its STOP, where that STOP has won (R389). -/
def reversal (s : State) (d : Nat) : State :=
  match (drOf s d).rev, (drOf s d).order with
  | some (t, _), some o =>
    let s := modDr s d fun r => { r with rev := none }
    if o.src = srcObstacle && o.stop && !halted s then
      let n : Order := { src := srcObstacle, rank := 4, target := t, epoch := s.epoch, sq := s.drv.sq }
      legsFrom d n [⟨t, false, none⟩] (modDr s d fun r => { r with order := some n })
    else s
  | _, _ => modDr s d fun r => { r with rev := none }

/-- What has come to stand ends its leg or its order. -/
def driveSettle (s : State) (d : Nat) : State :=
  let r := drOf s d
  if r.phase = .moving && driveKind s d = "SINGLE" && r.running then
    let s := modDr s d fun r => { r with pos := 10000, q := 0, phase := .idle }
    match r.order with
    | some o => legsFrom d o r.legs.tail s
    | none => s
  else if r.phase = .ending && r.stopReq.isNone && driveStands s d then
    let s := modDr s d fun r => { r with phase := .idle }
    match r.order with
    | some o => if o.stop then orderDone s d o else legsFrom d o r.legs.tail s
    | none => s
  else s

/-- Writes that fall due, and the models that end by themselves. -/
def driveDue (s : State) (d : Nat) : State :=
  let r := drOf s d
  let s := match r.stopReq with
    | some e => if e ≤ s.epoch then driveStop (modDr s d fun r => { r with stopReq := none }) d else s
    | none => s
  let s := match r.stopAt with
    | some t => if r.running && t ≤ s.now then modDr (travelFreezes s d) d fun r => { r with stopAt := none } else s
    | none => s
  let s := match r.startAt with
    | some e => if e ≤ s.epoch then legWrite (modDr s d fun r => { r with startAt := none }) d else s
    | none => s
  if driveKind s d = "FLOAT" && (drOf s d).phase = .starting && (drOf s d).startAt.isNone && !(drOf s d).running then legWrite s d else s

/-- A moving drive whose status crossing fails is stopped (R404). -/
def driveXing (s : State) (d : Nat) : State :=
  if driveXFails s d && (drOf s d).running && (drOf s d).order.isSome then
    driveCause (modDr s d fun r => { r with est := true }) d 6 "FAIL FAULT XING"
  else s

/-- One drive's part of a boundary. -/
def driveTurn (s : State) (d : Nat) : State :=
  let s := match (drOf s d).hold with | some (_, t) => if t ≤ s.now then holdEnd s d "EXPIRED" else s | none => s
  let s := causeTakes (driveXing (driveDue s d) d) d
  let due := (drOf s d).pend.filter fun o => o.epoch ≤ s.epoch
  let s := modDr s d fun r => { r with pend := r.pend.filter fun o => s.epoch < o.epoch }
  driveSettle (reversal (arbitrate s d due) d) d

/-- A verdict that falls at a boundary acts at that boundary. -/
def driveNow (s : State) (d : Nat) : State :=
  if s.now = epochTick s s.epoch then driveTurn s d else s

/-! ### Protections (R391, R392, R409, R414) -/

def protNames : List String := ["WIND", "RAIN", "FROST", "FIRE"]
def protObj (p : Nat) : Obj := ⟨.prot, p⟩
def protSrc (p : Nat) : Nat := if p = 3 then 12 else 13 + p
def protIdx : Prot → Nat
  | .wind => 0 | .rain => 1 | .frost => 2 | .fire => 3

def protStateName (n : Nat) : String := if n = 0 then "CLEAR" else if n = 1 then "ACTIVE" else "FAILSAFE"

/-- The drives of a protection. -/
def protDrives (s : State) (p : Nat) : List Nat := (cfgObjs s (protObj p) "DRIVES").map (·.n)

/-- The standing orders of a protection lapse; a drive that travels under one stops where it is. -/
def protLapses (s : State) (p : Nat) : State :=
  (List.range 32).foldl (fun s d =>
    let s := modDr s d fun r => if r.pend.isEmpty then r else { r with pend := r.pend.filter fun o => !(o.standing && o.src = protSrc p) }
    match (drOf s d).order with
    | some o =>
      if o.standing && o.src = protSrc p then
        let s := if driveBusy s d then driveHalt s d else s
        modDr s d fun r => { r with order := none, legs := [], phase := if r.running || r.stopReq.isSome then .ending else .idle }
      else s
    | none => s) s

/-- A protection changes its state. -/
def protState (s : State) (p n : Nat) : State :=
  let x := protSt s p
  if x.state = n then s
  else
    let s := setProt s p { x with state := n, fresh := x.fresh || x.state = 0, placed := if n = 0 then [] else x.placed }
    let s := notifyLate s "DRV.PROT" (some (protObj p)) ("STATE=" ++ protStateName n)
    if n = 0 then protLapses s p else jrnTrigger s 7

/-- The delivered value lies at or beyond ON, or beyond OFF on the other side. -/
def protOn (s : State) (p x : Nat) (v : Int) : Bool :=
  match cfgNano s (protObj p) "ON" with
  | some n => if cfgIs s (protObj p) "SENSE" "ABOVE" then srcGe s x v n else srcLe s x v n
  | none => false

def protOff (s : State) (p x : Nat) (v : Int) : Bool :=
  match cfgNano s (protObj p) "OFF" with
  | some n => if cfgIs s (protObj p) "SENSE" "ABOVE" then !srcGe s x v n else !srcLe s x v n
  | none => false

def recFails (r : Rec) : Bool := r.range || r.stale || r.silent

/-- A record of SOURCE reaches a protection. -/
def protDeliver (r : Rec) (s : State) (p : Nat) : State :=
  if payEmpty r.pay then s
  else if recFails r then
    protState (setProt s p { protSt s p with onSince := none, offSince := none }) p 2
  else
    let s := if (protSt s p).state = 2 then protState s p 1 else s
    let x := protSt s p
    let on := if protOn s p r.x r.val then some (x.onSince.getD s.now) else none
    let off := if protOff s p r.x r.val then some (x.offSince.getD s.now) else none
    let s := setProt s p { x with onSince := on, offSince := off }
    if x.state = 0 && on.isSome && cfgTicks s (protObj p) "ONDLY" = 0 then protState s p 1
    else if x.state = 1 && off.isSome && cfgTicks s (protObj p) "OFFDLY" = 0 then protState s p 0
    else s

/-- PROTECTION_ON_DELAY. -/
def execProtectionOnDelay (q : Prot) (s : State) : Host.Outcome State Fault Refusal :=
  let p := protIdx q
  .next (if (protSt s p).state != 0 || s.ana.mode = .quiet then s
    else atTick s ((protSt s p).onSince.map (· + cfgTicks s (protObj p) "ONDLY")) fun s => protState s p 1)

/-- PROTECTION_OFF_DELAY. -/
def execProtectionOffDelay (q : Prot) (s : State) : Host.Outcome State Fault Refusal :=
  let p := protIdx q
  .next (if (protSt s p).state != 1 || s.ana.mode = .quiet then s
    else atTick s ((protSt s p).offSince.map (· + cfgTicks s (protObj p) "OFFDLY")) fun s => protState s p 0)

/-- The standing order of a protection for a drive (R392). -/
def standingOrder (s : State) (p d : Nat) : Order :=
  let a := cfgWord s (protObj p) "ACTION"
  { src := protSrc p, rank := 4, stop := a = "BLOCK", target := 100 * cfgPct s (drvObj d) (if a = "FIREPOS" then "FIREPOS" else "SAFEPOS"), epoch := s.epoch, standing := true }

/-- The drive could start under a standing order. -/
def standingCan (s : State) (d : Nat) (o : Order) : Bool :=
  o.stop || ((startRefused s d 4).isNone && (hotMove s d).isNone && s.drv.sagRun.isNone)

/-- A protection places its standing orders: at once where it is new, and again where no SAFETY order is in force. -/
def protPlace (s : State) (p : Nat) : State :=
  let x := protSt s p
  if x.state = 0 || halted s then setProt s p { x with fresh := false }
  else
    let s := (protDrives s p).foldl (fun s d =>
      if driveKind s d = "NONE" || (protSt s p).placed.contains d then s
      else
        let o := standingOrder s p d
        let safe := match (drOf s d).order with | some c => c.rank = 4 | none => false
        if x.fresh || (!safe && standingCan s d o) then
          placeOrder (setProt s p { protSt s p with placed := d :: (protSt s p).placed }) d o
        else s) s
    setProt s p { protSt s p with fresh := false }

/-! ### What deliveries tell the drive layer -/

/-- A trip is delivered (R375). -/
def tripDeliver (s : State) (o : TripOut) : State :=
  let s := jrnTrigger s 3
  match driveOfOut s o with
  | some d => notify (driveCause s d 1 "FAIL TRIP") "DRV.TRIP" (some (drvObj d)) ("OUTPUT=" ++ outName o)
  | none => notify s "DRV.TRIP" none ("OUTPUT=" ++ outName o)

/-- A thermal SHUTDOWN is delivered (Table THM-2): model `m`, or TMOD for every drive that needs an output.  From RUN and
QUIET the SHUTDOWN of TMOD leads to COOL-DOWN, whose entry ends the orders (R223). -/
def hotDeliver (s : State) (m : Nat) : State :=
  if m = 12 && modeIs s [.run, .quiet, .cooldown] then s
  else (usedDrives s).foldl (fun s d => if m = 12 || driveModel s d = some m then driveCause s d 4 ("FAIL HOT " ++ modelName m) else s) s

/-- X201 reaches the keeper, LOST or UP (R378). -/
def linkDeliver (s : State) (r : Rec) : State :=
  if r.x != 201 || s.ana.mode = .quiet then s
  else if r.val = 1 && !r.silent then { s with drv := { s.drv with lostK := false } }
  else if s.drv.lostK then s
  else notify (jrnTrigger { s with drv := { s.drv with lostK := true, lostAct := some (s.epoch + 1) } } 5) "DRV.LINE-LOST"

/-- WORK1 ends the orders of the line drives (R378). -/
def linkActs (s : State) : State :=
  match s.drv.lostAct with
  | some e =>
    if e ≤ s.epoch then
      (usedDrives s).foldl (fun s d => if lineDrive s d && ((drOf s d).order.isSome || driveBusy s d) then driveCause (modDr s d fun r => { r with est := r.est || r.running }) d 2 "FAIL LINE-LOST" else s) { s with drv := { s.drv with lostAct := none } }
    else s
  | none => s

/-- The start of a half-cycle whose record is delivered: half a period before its end. -/
def halfStartOf (s : State) (r : Rec) (freq : Nat) : Nat :=
  if freq = 0 then s.pwr.lastCross.getD s.now
  else (s.rel + r.ptick.getD (mono s)) - 400000000 / freq

/-- A health record that passes its guard starts, extends or ends the run of R390. -/
def sagDeliver (s : State) (r : Rec) (rms freq : Nat) (present : Bool) : State :=
  if !present || (nomSet s && 100 * rms < 70 * nomTenth s) then
    { s with drv := { s.drv with sagRun := some (s.drv.sagRun.getD (halfStartOf s r freq)), sagTo := s.rel + r.ptick.getD (mono s), sagActed := s.drv.sagRun.isSome && s.drv.sagActed } }
  else { s with drv := { s.drv with sagRun := none, sagActed := false } }

/-- A run has been reported that has lasted more than 100 ms, and no drive has been stopped for it. -/
def sagKnown (s : State) : Bool :=
  !s.drv.sagActed && (match s.drv.sagRun with | some t => t + 100 * tickMs < s.drv.sagTo | none => false)

/-- The detection method in force; a change restarts every count (R388). -/
def methodDeliver (s : State) : State :=
  let deep := match s.pwr.sag with | some m => m.depth < 750 | none => false
  if deep = s.drv.sagDeep then s
  else { s with drv := { s.drv with sagDeep := deep, drives := s.drv.drives.map fun p => (p.1, { p.2 with exceed := 0 }) } }

/-- The current of a PAIR drive under ENDSTOP (R381). -/
def endaDeliver (r : Rec) (s : State) (d : Nat) : State :=
  let x := drOf s d
  if driveKind s d = "PAIR" && x.running && r.x = 129 + feedFor s d x.dir && x.t0 + cfgTicks s (drvObj d) "INRUSHT" ≤ s.now then
    modDr s d fun x => { x with lowSince := if r.val < 4 * (cfgMilli s (drvObj d) "ENDA" : Int) then some (x.lowSince.getD s.now) else none }
  else s

/-- A drive travels, or is about to travel, in a direction. -/
def goesToward (s : State) (d : Nat) (dir : Bool) : Bool :=
  let r := drOf s d
  if r.phase = .moving || r.running then r.running && r.dir = dir
  else if r.phase = .waiting || r.phase = .starting then (match r.legs with | l :: _ => l.dir = dir | [] => false) else false

/-- A local switch has closed (R393). -/
def localCloses (s : State) (d : Nat) (down : Bool) : State :=
  let r := drOf s d
  let o : Order := { src := 8, rank := 1, epoch := s.epoch }
  if (r.lup && r.ldn) || goesToward s d down then placeOrder s d { o with stop := true }
  else placeOrder s d { o with target := if down then 10000 else 0 }

def localDeliver (r : Rec) (s : State) (d : Nat) : State :=
  let c := 1 ≤ r.val
  let up := cfgObj s (drvObj d) "LOCALUP" = some (chanObj r.x)
  let dn := cfgObj s (drvObj d) "LOCALDN" = some (chanObj r.x)
  let was := drOf s d
  let s := modDr s d fun x => { x with lup := if up then c else x.lup, ldn := if dn then c else x.ldn }
  if up && c && !was.lup then localCloses s d false
  else if dn && c && !was.ldn then localCloses s d true
  else s

/-- A port's record joins those of its last ten epochs (R387). -/
def portDeliver (s : State) (r : Rec) : State :=
  match r.pay with
  | .port _ ma v =>
    { s with drv := { s.drv with meas := tmod [] s.drv.meas (r.x - 176) fun l => ⟨r.stamp, ma, v⟩ :: l.filter fun m => s.epoch ≤ m.stamp / tickMs + 10 } }
  | _ => s

/-- A delivered record as the drive layer takes it. -/
def driveDeliver (s : State) (r : Rec) : State :=
  if s.ana.mode = .quiet then s
  else
    let s := match r.pay with
      | .trip o 1 => tripDeliver s o
      | .mains rms freq present => if recFails r then s else sagDeliver s r rms freq present
      | _ => s
    let s := if r.x = 188 then methodDeliver s else s
    let s := portDeliver s r
    let s := if 129 ≤ r.x && r.x < 137 && !recFails r && !payEmpty r.pay then (usedDrives s).foldl (endaDeliver r) s else s
    let s := if r.x < 96 && !recFails r && !payEmpty r.pay then (match cellDrive s r.x with | some d => localDeliver r s d | none => s) else s
    if r.x < 176 && (128 ≤ r.x || s.cnv.calFirst) then
      (List.range 4).foldl (fun s p => if cfgObj s (protObj p) "SOURCE" = some (xobj r.x) then protDeliver r s p else s) s
    else s

/-! ### The drive layer at a boundary -/

/-- The drives that have something to do. -/
def turnDrives (s : State) : List Nat :=
  (List.range 32).filter fun d => driveKind s d != "NONE" || !(drOf s d).pend.isEmpty

/-- The drive layer's part of an epoch boundary. -/
def driveBoundary (s : State) : State :=
  if modeIs s [.off, .start, .quiet] then s
  else
    let s := [3, 0, 1, 2].foldl protPlace (linkActs s)
    (turnDrives s).foldl driveTurn s

/-- Lamplighter's answer reaches a drive (R399, R400). -/
def driveAnswer (s : State) (d : Nat) (m : LMsg) : State :=
  match (drOf s d).order with
  | some o =>
    if (drOf s d).phase != .waiting || m.cmd != o.cmd then (if m.a = .granted then grantBack s m.h else s)
    else match m.a with
      | .granted => legStart s d
      | .refused why => orderFail (modDr s d fun r => { r with phase := .idle }) d o ("FAIL LEAVE " ++ why) false
      | .timeout => orderFail (modDr s d fun r => { r with phase := .idle }) d o "FAIL LEAVE-TIMEOUT" false
      | .calmBreak => s
  | none => if m.a = .granted then grantBack s m.h else s

/-! ### The ends of travels (R380, R381, R384) -/

/-- The leg in progress. -/
def headLeg (s : State) (d : Nat) : Option Leg :=
  let r := drOf s d
  if r.running && r.phase = .moving then r.legs.head? else none

/-- The model runs by counts (Table DRV-5). -/
def encModel (s : State) (d : Nat) : Bool := posModel s d = "ENCODER" && !modelOnly s
def endModel (s : State) (d : Nat) : Bool := posModel s d = "ENDSTOP" && !modelOnly s

def isEnd (p : Nat) : Bool := p = 0 || p = 10000

/-- The first boundary at or after a tick: the drive layer decides at boundaries (R400). -/
def epochCeil (s : State) (t : Nat) : Nat := s.rel + (t - s.rel + tickMs - 1) / tickMs * tickMs

/-- The tick at which the model of the leg ends, with or without OVERRUN. -/
def modelEnds (s : State) (d : Nat) (l : Leg) : Nat :=
  let r := drOf s d
  match l.tilt with
  | some a => r.t0 + posGap a r.tilt0 * tiltTicks s d / 90
  | none =>
    let full := fullTime s d r.dir
    r.t0 + tiltTicks s d + (posGap l.target r.pos0 * full + 9999) / 10000
      + (if isEnd l.target then full * cfgPct s (drvObj d) "OVERRUN" / 100 else 0)

/-- The measured profile is taken over by one eighth after an end-to-end travel (R386). -/
def binMoves (b : Bin) : Bin :=
  if b.n = 0 then b
  else { b with p := (7 * b.p + b.sp / b.n) / 8, i := (7 * b.i + b.si / b.n) / 8, sp := 0, si := 0, n := 0 }

def profileMoves (s : State) (d : Nat) (e : Nat) : State :=
  let r := drOf s d
  if r.learned && !r.verdict && r.learnRun = 0 && r.pos0 = 10000 - e then
    modDr s d fun r => { r with bins := r.bins.map fun b => (b.1, if (b.1 < 50) = (e = 0) then binMoves b.2 else b.2) }
  else s

/-- An end is reached, or a target: the drive stops. -/
def legEnds (s : State) (d : Nat) (e : Option Nat) : State :=
  let s := match e with | some p => profileMoves s d p | none => s
  driveHalt (modDr s d fun r => { r with phase := .ending, endPos := e }) d

/-- TRAVEL_END. -/
def execTravelEnd (d : Fin 32) (s : State) : Host.Outcome State Fault Refusal :=
  .next (if !coreRuns s then s
    else match headLeg s d with
      | none => s
      | some l =>
        let ends := isEnd l.target && l.tilt.isNone
        if (endModel s d && ends) || (encModel s d && l.tilt.isNone) || posModel s d = "NONE" || (drOf s d).learnRun != 0 then s
        else atTick s (some (epochCeil s (modelEnds s d l))) fun s => legEnds s d (if ends then some l.target else none))

/-- A drive fails by its end switch: it stops, and its order ends at the next boundary. -/
def driveFault (s : State) (d : Nat) (body : String) : State :=
  driveNow (driveHalt (modDr (driveCause s d 6 body) d fun r => { r with phase := .ending }) d) d

/-- A run of LEARN has found its end: what it measured, `late` ticks ago. -/
def learnEnd (s : State) (d late : Nat) : State :=
  let r := drOf s d
  let len := s.now - late - r.t0 - tiltTicks s d
  let enc := (portOf_ s (firstOut s d)).enc
  let s := modDr s d fun r =>
    if r.learnRun = 2 then { r with learnDown := len, learnSpan := if encModel s d then enc.natAbs else 0 }
    else if r.learnRun = 3 then { r with learnUp := len } else r
  let s := if encModel s d && r.learnRun != 2 then setPort s (firstOut s d) { portOf_ s (firstOut s d) with enc := 0 } else s
  legEnds s d (some (if r.learnRun = 2 then 10000 else 0))

/-- ENDSTOP_COLLAPSE: the current has stayed below ENDA for 200 ms. -/
def execEndstopCollapse (d : Fin 32) (s : State) : Host.Outcome State Fault Refusal :=
  .next (if !coreRuns s || !endModel s d then s
    else match headLeg s d with
      | none => s
      | some _ => atTick s ((drOf s d).lowSince.map (· + 200 * tickMs)) fun s =>
          let r := drOf s d
          let e := if r.dir then 10000 else 0
          if r.learnRun != 0 then learnEnd s d (200 * tickMs)
          else if posGap (posNow s d).1 e ≤ 100 * cfgPct s (drvObj d) "ENDWIN" then legEnds s d (some e)
          else driveFault s d "FAIL FAULT CUTOUT")

/-- ENDSTOP_TIMEOUT: no collapse by the model time plus OVERRUN. -/
def execEndstopTimeout (d : Fin 32) (s : State) : Host.Outcome State Fault Refusal :=
  .next (if !coreRuns s || !endModel s d || (drOf s d).learnRun != 0 then s
    else match headLeg s d with
      | none => s
      | some l =>
        if !isEnd l.target || l.tilt.isSome then s
        else atTick s (some (epochCeil s (modelEnds s d l))) fun s => driveFault (notifyLate s "DRV.ENDSTOP" (some (drvObj d))) d "FAIL FAULT ENDSTOP")

/-- LEARN_RUN_TIMEOUT: 600 s. -/
def execLearnRunTimeout (d : Fin 32) (s : State) : Host.Outcome State Fault Refusal :=
  .next (if !coreRuns s || (drOf s d).learnRun = 0 || !(drOf s d).running then s
    else atTick s (some (epochCeil s ((drOf s d).t0 + 600000 * tickMs))) fun s => driveFault s d "FAIL FAULT ENDSTOP")

/-! ### Encoders (R374) -/

/-- The count that an edge adds: one step with QUAD; with PULSE a rising edge of EA in the commanded direction; none for
an error. -/
def edgeStep (pulse : Bool) (x : Port) (a b : Bool) : Option Int :=
  if pulse then some (if a && !x.ea then (if x.dir then 1 else -1) else 0) else quadStep x.ea x.eb a b

/-- The count reaches the target of the leg. -/
def encReached (s : State) (d p : Nat) (l : Leg) : Bool :=
  let r := drOf s d
  let c := (portOf_ s p).enc * 10000
  let t : Int := l.target * r.encSpan
  if r.dir then t ≤ c else c ≤ t

/-- ENCODER_EDGE. -/
def execEncoderEdge (p : Fin 4) (ea eb : Bool) (s : State) : Host.Outcome State Fault Refusal :=
  .next (match portDrive s p with
    | none => let x := portOf_ s p; setPort s p { x with ea := ea, eb := eb }
    | some d =>
      let x := portOf_ s p
      match edgeStep (cfgIs s (drvObj d) "ENCTYPE" "PULSE") x ea eb with
      | none =>
        let s := setPort s p { x with ea := ea, eb := eb, encErr := x.encErr + 1 }
        if x.encErr + 1 = 16 then notifyLate (modDr s d fun r => { r with q := max r.q 1 }) "DRV.ENCODER" (some (drvObj d)) else s
      | some n =>
        let s := setPort s p { x with ea := ea, eb := eb, enc := (BitVec.ofInt 32 (x.enc + n)).toInt }
        let s := if n = 0 then s else modDr s d fun r => { r with lastCount := s.now }
        match headLeg s d with
        | some l => if encModel s d && (drOf s d).encSpan != 0 && (drOf s d).q != 2 && (drOf s d).learnRun = 0 && encReached s d p l then legEnds s d none else s
        | none => s)

/-! ### Obstacles (R386 to R389) -/

/-- An obstacle verdict; during a reversal it only stops the drive, without a hold or a notice (DEDUCED, log 91). -/
def obstacleVerdict (s : State) (d : Nat) : State :=
  let s := jrnTrigger s 2
  let r := drOf s d
  let o := drvObj d
  let rd := cfgPct s o "REVDIST" * 100
  let own := match r.order with | some x => x.src = srcObstacle && !x.stop | none => false
  let pos := (posNow s d).1
  let rev := if r.dir && rd != 0 then some (pos - rd, 0) else none
  if own then driveNow (driveCause (modDr s d fun r => { r with verdict := true, exceed := 0, rev := none }) d 5 "FAIL OBSTACLE") d
  else
  let s := notifyLate s "DRV.OBSTACLE" (some o) ("POS=" ++ posStr pos ++ " DIR=" ++ (if r.dir then "DOWN" else "UP"))
  let s := driveCause (modDr s d fun r => { r with verdict := true, exceed := 0, rev := rev }) d 5 "FAIL OBSTACLE"
  let s := match cfgNano s o "OBSHOLD" with
    | some v => holdPlace s d 1 (v / 125).toNat
    | none => s
  driveNow s d

/-- The bin of a position in a direction. -/
def binAt (dir : Bool) (pos : Nat) : Nat := (if dir then 50 else 0) + min 49 (pos / 200)

/-- The normalised power in mW and the RMS current in mA of a PAIR drive, as delivered. -/
def pairPower (s : State) (d : Nat) : Nat :=
  let f := firstOut s d
  let v (x : Nat) : Nat := (match xCurrent s x with | some r => r.val | none => 0).toNat
  let p := (v (137 + f) + v (138 + f)) * 6144 / 100
  let u := v 128 * 15
  if u = 0 then 0 else p * (nomTenth s * 100) * (nomTenth s * 100) / (u * u)

def pairCurrent (s : State) (d : Nat) : Nat :=
  (match xCurrent s (129 + feedFor s d (drOf s d).dir) with | some r => r.val | none => 0).toNat / 4

/-- The records of a DC drive's port in the last 10 ms. -/
def portMeas (s : State) (d : Nat) : List Meas :=
  (tget [] s.drv.meas (firstOut s d)).filter fun m => s.epoch ≤ m.stamp / tickMs + 10

/-- The mean bus voltage of a DC drive in 10 mV. -/
def dcVolts (s : State) (d : Nat) : Nat := ((portMeas s d).map (·.busv)).sum / (portMeas s d).length

/-- BUSNOM in 10 mV. -/
def busNom (s : State) (d : Nat) : Nat := cfgMilli s (drvObj d) "BUSNOM" / 10

/-- The normalised power in mW and the RMS current in mA of a DC drive, from the port records delivered in 10 ms. -/
def dcPower (s : State) (d : Nat) : Nat :=
  let l := portMeas s d
  let v := dcVolts s d
  let p : Nat := ((l.map fun (m : Meas) => m.ma * (m.busv : Int) / 100).sum / (l.length : Int)).toNat
  if v = 0 then 0 else p * busNom s d * busNom s d / (v * v)

def dcCurrent (s : State) (d : Nat) : Nat :=
  isqrt (((portMeas s d).map fun m => (m.ma * m.ma).toNat).sum / (portMeas s d).length)

/-- The measured power and current of a travelling drive, as delivered. -/
def driveMeasures (s : State) (d : Nat) : Nat × Nat :=
  if driveKind s d = "PAIR" then (pairPower s d, pairCurrent s d) else (dcPower s d, dcCurrent s d)

/-- A DC drive's bus voltage is below 75 % of BUSNOM (R388). -/
def busLow (s : State) (d : Nat) : Bool := driveKind s d = "DC" && 100 * dcVolts s d < 75 * busNom s d

/-- An evaluation exceeds (R387, R388). -/
def evalExceeds (s : State) (d p i : Nat) (byCur : Bool) : Bool :=
  let r := drOf s d
  let b := tget {} r.bins (binAt r.dir (posNow s d).1)
  let m := cfgPct s (drvObj d) "OBSMARGIN"
  if byCur then (200 + m) * b.i < 200 * i else (100 + m) * b.p < 100 * p

/-- The evaluation is made: after the first INRUSHT, outside OBSEND of the end sought, with a profile, not in LEARN. -/
def evalMade (s : State) (d : Nat) (l : Leg) : Bool :=
  let r := drOf s d
  let o := drvObj d
  cfgOn s o "OBSDET" && r.learned && r.learnRun = 0 && !modelOnly s && l.tilt.isNone && r.t0 + cfgTicks s o "INRUSHT" ≤ s.now
    && !(isEnd l.target && posGap (posNow s d).1 l.target ≤ 100 * cfgPct s o "OBSEND")

/-- A measured sample joins the profile of this travel, or the record of LEARN. -/
def sampleTakes (s : State) (d p i : Nat) : State :=
  let pos := (posNow s d).1
  modDr s d fun r =>
    if 2 ≤ r.learnRun then { r with samples := (r.dir, s.now - r.t0 - tiltTicks s d, p, i) :: r.samples }
    else { r with bins := tmod {} r.bins (binAt r.dir pos) fun b => { b with sp := b.sp + p, si := b.si + i, n := b.n + 1 } }

/-- One evaluation of a travelling drive: a change of the method restarts the count (R388). -/
def evaluates (s : State) (d : Nat) (l : Leg) (m : Nat × Nat) : State :=
  let s := sampleTakes s d m.1 m.2
  if !evalMade s d l || (drOf s d).verdict then s
  else
    let c := s.drv.sagDeep || busLow s d
    let k := if c = (drOf s d).byCur then (drOf s d).exceed else 0
    let n := if evalExceeds s d m.1 m.2 c then k + 1 else 0
    let s := modDr s d fun r => { r with exceed := n, byCur := c }
    if cfgMilli s (drvObj d) "OBSTIME" / 10 ≤ n then obstacleVerdict s d else s

/-- OBSTACLE_EVALUATION: every 10 ms of travel. -/
def execObstacleEvaluation (d : Fin 32) (s : State) : Host.Outcome State Fault Refusal :=
  .next (if !coreRuns s || !(driveKind s d = "PAIR" || driveKind s d = "DC") || modelOnly s then s
    else match headLeg s d with
      | none => s
      | some l =>
        atTick s (some (epochCeil s ((drOf s d).evalAt + 10 * tickMs))) fun s =>
          let s := modDr s d fun r => { r with evalAt := s.now }
          if driveKind s d = "DC" && (portMeas s d).isEmpty then s else
          evaluates s d l (driveMeasures s d))

/-- STALL: no encoder count for 300 ms while driven after the RAMP. -/
def stalled (s : State) (d : Nat) : State :=
  let r := drOf s d
  if r.learnRun != 0 then learnEnd s d (300 * tickMs)
  else if r.q = 2 then
    legEnds (setPort s (firstOut s d) { portOf_ s (firstOut s d) with enc := if r.dir then r.encSpan else 0 }) d (some (if r.dir then 10000 else 0))
  else if r.verdict then s else obstacleVerdict s d

def execStall (d : Fin 32) (s : State) : Host.Outcome State Fault Refusal :=
  .next (if !coreRuns s || driveKind s d != "DC" || !encModel s d || (headLeg s d).isNone then s
    else
      let r := drOf s d
      atTick s (some (epochCeil s (max r.lastCount (r.t0 + cfgTicks s (drvObj d) "RAMP") + 300 * tickMs))) fun s => stalled s d)

/-! ### Sag stop (R390) -/

/-- A line drive that the sag stops: it moves, waits, or is switched on. -/
def sagStops (s : State) (d : Nat) : State :=
  let r := drOf s d
  let told := match r.cause with | some (_, b) => b = "FAIL LINE-SAG" | none => false
  if lineDrive s d && driveBusy s d && r.phase != .ending && !told then
    let s := jrnTrigger s 6
    notifyLate (driveCause (modDr s d fun r => { r with est := true, q := if r.q = 0 then 1 else r.q }) d 3 "FAIL LINE-SAG") "DRV.SAG-STOP" (some (drvObj d))
  else s

/-- SAG_STOP: the boundary at which a run of more than 100 ms is known. -/
def execSagStop (s : State) : Host.Outcome State Fault Refusal :=
  .next (if !coreRuns s || modeIs s [.quiet, .start, .off] || modelOnly s || !sagKnown s then s
    else
      let s := (usedDrives s).foldl sagStops { s with drv := { s.drv with sagActed := true } }
      (usedDrives s).foldl driveNow s)

/-! ### Modes and restarts (R223, R383, R401, R410) -/

/-- Every order ends with FAIL STATE and the new mode; outputs stop, reversals drop, requests are withdrawn. -/
def driveEnds (m : Mode) (s : State) (d : Nat) : State :=
  let s := if driveBusy s d then driveStop s d else s
  let o := (drOf s d).order
  let s := modDr s d fun r => learnClear { r with order := none, legs := [], rev := none, cause := none, startAt := none, phase := if r.running then .ending else .idle }
  match o with
  | some o => standingAgain (orderResult s d o o.stop (if o.stop then "DONE POS=" ++ posStr (posNow s d).1 else "FAIL STATE " ++ modeName m)) d o
  | none => s

/-- Entry to SAFE, COOL-DOWN, BIST or REPLAY. -/
def drivesStop (s : State) (m : Mode) : State := outputsOff ((usedDrives s).foldl (driveEnds m) (leaveDrop s isDriveHolder))

/-- Entry to BENCH: outputs off, the models go on; the positions are kept. -/
def drivesBench (s : State) : State :=
  let s := (usedDrives s).foldl (fun s d => modDr s d fun r => { r with bench := some (r.pos, r.q) }) s
  let s := (List.range 8).foldl feedStop s
  let s := (List.range 4).foldl portStop s
  (usedDrives s).foldl (fun s d => if driveKind s d = "FLOAT" then (driveOuts s d).foldl (fun s o => setOd s o.n false) s else s) s

/-- Departure from BENCH to a mode. -/
def drivesUnbench (s : State) (m : Mode) : State :=
  (usedDrives s).foldl (fun s d =>
    let s := driveEnds m s d
    modDr s d fun r => match r.bench with
      | some (p, q) => { r with pos := p, q := q, bench := none, running := false, phase := .idle }
      | none => r) s

/-- The protections are not evaluated in QUIET: their delays start anew after it (R392). -/
def protsSleep (s : State) : State :=
  { s with drv := { s.drv with prots := s.drv.prots.map fun p => (p.1, { p.2 with onSince := none, offSince := none }) } }

/-- The drive layer of the workers is lost (R25, R54): orders, legs and pending work; positions, holds and profiles stay. -/
def driveForgets (r : Dr) : Dr :=
  learnClear { r with order := none, phase := .idle, legs := [], startAt := none, stopReq := none, cause := none, rev := none, pend := [], exceed := 0, lup := false, ldn := false, lowSince := none }

/-- A drive's position after a reset of the core die (R383). -/
def driveRestart (s : State) (d : Nat) : State :=
  let k := driveKind s d
  let s := modDr s d fun r => driveForgets { r with running := false, stopAt := none, endPos := none, bench := none, est := false, recHeld := none }
  if k = "ANALOG" || k = "SINGLE" then modDr s d fun r => { r with pos := 0, q := 0, tilt := 0 }
  else match (drOf s d).rec_ with
    | some c =>
      if c.moving || c.q = 2 then notifyLate (modDr s d fun r => { r with q := 2, pos := 0 }) "DRV.POS-UNKNOWN" (some (drvObj d))
      else modDr s d fun r => { r with pos := c.pos, q := 1 }
    | none => notifyLate (modDr s d fun r => { r with q := 2, pos := 0 }) "DRV.POS-UNKNOWN" (some (drvObj d))

def drivesRestart (s : State) : State :=
  let s := (usedDrives s).foldl driveRestart { s with drv := { s.drv with drives := s.drv.drives.map fun p => (p.1, driveForgets { p.2 with running := false }) } }
  { s with drv := { s.drv with prots := [], results := [], lostAct := none, lostK := false, sagRun := none, sagDeep := false, sealEnds := [] } }

/-- The last-gasp entry of each drive (R58): its position now, moving or not; the record that stood before is kept beside
it, for a flush that the rails do not carry. -/
def drivesGasp (s : State) : State :=
  (usedDrives s).foldl (fun s d =>
    let p := posNow s d
    modDr s d fun r => { r with rec_ := some ⟨p.1, r.q, r.running⟩, recHeld := r.rec_ }) s

/-! ### The verbs -/

def rangeDrives (o : ObjRange) : List Nat := (List.range (o.hi + 1 - o.lo)).map (· + o.lo)

/-- The rank of a session's orders (R394). -/
def sesRank (s : State) (q : Hdr) : Nat := if q.ses = .mac then 0 else roleNum (roleFor s q)

def moveTarget (s : State) (d : Nat) : MoveTo → Nat
  | .up => 0 | .down => 10000 | .safe => 100 * cfgPct s (drvObj d) "SAFEPOS" | .to p => 100 * p

def moveStr : MoveTo → String
  | .up => "UP" | .down => "DOWN" | .safe => "SAFE" | .to p => "TO " ++ natStr p ++ "%"

def rangeName (o : ObjRange) : String :=
  if o.isRange then objName ⟨o.kind, o.lo⟩ ++ ".." ++ objName ⟨o.kind, o.hi⟩ else objName ⟨o.kind, o.lo⟩

/-- An order of a session for a drive. -/
def sessionOrder (s : State) (q : Hdr) (id : Nat) : Order :=
  { src := sesIdx q.ses + 1, rank := sesRank s q, cmd := some id, tag := q.tag, epoch := s.epoch + 1 }

/-- The steps 6 and 7 of a MOVE on one drive. -/
def moveRange (s : State) (dest : MoveTo) (tilt : Option Nat) (d : Nat) : Option String :=
  let axis := driveKind s d = "PAIR" && tiltTicks s d != 0
  let t := moveTarget s d dest
  if tilt.isSome && !axis then some "ATTR"
  else if 10000 < t then some "RANGE LO=0% HI=100% STEP=1%"
  else if 90 < tilt.getD 0 then some "RANGE LO=0deg HI=90deg STEP=1deg"
  else if driveKind s d = "SINGLE" && !isEnd t then some "RANGE"
  else none

/-- Step 10 of a MOVE or a LEARN. -/
def moveState (s : State) (d : Nat) : Option String :=
  if driveKind s d = "NONE" then some "STATE"
  else if halted s then some ("STATE " ++ modeName s.ana.mode)
  else if lineDrive s d && untestedLine s then some "UNTESTED" else none

/-- The checks of the command below. -/
def moveSpec (o : ObjRange) (dest : MoveTo) (tilt : Option Nat) (s : State) : CmdSpec :=
  let ds := rangeDrives o
  { verb := "MOVE", body := bodyOf ["MOVE", rangeName o, moveStr dest, (match tilt with | some a => "TILT=" ++ natStr a ++ "deg" | none => "")], need := verbNeed "MOVE", audit := some 12, p67 := ds.findSome? (moveRange s dest tilt), p10 := ds.findSome? (moveState s) }

/-- MOVE. -/
def execMove (q : Hdr) (o : ObjRange) (dest : MoveTo) (tilt : Option Nat) (s : State) : Host.Outcome State Fault Refusal :=
  let ds := rangeDrives o
  .next (lineIn (.move q o dest tilt) q s fun s => submit s q (moveSpec o dest tilt s)
    fun s id => (ds.foldl (fun s d => placeOrder s d { sessionOrder s q id with target := moveTarget s d dest, tilt := tilt }) s, .drives o.isRange (ds.map fun d => { drive := d })))

/-- The checks of the command below. -/
def stopSpec (o : Option ObjRange) (s : State) : CmdSpec :=
  let ds := match o with | some o => rangeDrives o | none => usedDrives s
  { verb := "STOP", body := bodyOf ["STOP", (match o with | some o => rangeName o | none => "ALL")], need := verbNeed "STOP", audit := some 12, auditFree := true, p10 := if ds.any fun d => driveKind s d = "NONE" then some "STATE" else none }

/-- STOP, of the named drives or of all. -/
def execStop (q : Hdr) (o : Option ObjRange) (s : State) : Host.Outcome State Fault Refusal :=
  let ds := match o with | some o => rangeDrives o | none => usedDrives s
  let many := match o with | some o => o.isRange | none => true
  .next (lineIn (.stop q o) q s fun s => submit s q (stopSpec o s)
    fun s id =>
      let pos (d : Nat) : String := "DONE POS=" ++ posStr (posNow s d).1
      if halted s && !many then (s, doneNow (pos (ds.headD 0)) s)
      else if halted s then (s, .reply s.epoch (ds.map fun d => objName (drvObj d) ++ " " ++ pos d) "DONE")
      else if ds.isEmpty then (s, doneNow "DONE" s)
      else (ds.foldl (fun s d => placeOrder s d { sessionOrder s q id with stop := true }) s, .drives many (ds.map fun d => { drive := d })))

/-- The holds that a RELEASE may not end. -/
def releaseRole (s : State) (rank : Nat) (ds : List Nat) : Option String :=
  ds.findSome? fun d => match (drOf s d).hold with
    | some (r, _) => if rank < r then some ("ROLE NEED=" ++ rankName r) else none
    | none => none

/-- The checks of the command below. -/
def releaseSpec (q : Hdr) (o : Option ObjRange) (s : State) : CmdSpec :=
  let ds := match o with | some o => rangeDrives o | none => (usedDrives s).filter fun d => (drOf s d).hold.isSome
  let rank := roleNum (roleFor s q)
  { verb := "RELEASE", body := bodyOf ["RELEASE", (match o with | some o => rangeName o | none => "ALL")], need := verbNeed "RELEASE", audit := some 12, auditLate := true, p67 := if roleFor s q = none then none else releaseRole s rank ds, p10 := if ds.isEmpty || ds.any (fun d => driveKind s d = "NONE" || (drOf s d).hold.isNone) then some "STATE" else none }

/-- RELEASE, on the named drives or on every drive that holds one. -/
def execRelease (q : Hdr) (o : Option ObjRange) (s : State) : Host.Outcome State Fault Refusal :=
  let ds := match o with | some o => rangeDrives o | none => (usedDrives s).filter fun d => (drOf s d).hold.isSome
  let rank := roleNum (roleFor s q)
  .next (lineIn (.release q o) q s fun s => submit s q (releaseSpec q o s)
    fun s _ => (s, .effect (s.epoch + 1) (.release ds rank) "DONE"))

/-- A drive that learns (R385). -/
def learns (s : State) (d : Nat) : Bool :=
  (driveKind s d = "PAIR" && posModel s d = "ENDSTOP") || (driveKind s d = "DC" && posModel s d = "ENCODER")

/-- The checks of the command below. -/
def learnSpec (d : Fin 32) (s : State) : CmdSpec :=
  { verb := "LEARN", body := "LEARN " ++ objName (drvObj d), need := verbNeed "LEARN", audit := some 12, heavy := true, p10 := match moveState s d with | some e => some e | none => if learns s d && !modelOnly s then none else some "STATE" }

/-- LEARN. -/
def execLearn (q : Hdr) (d : Fin 32) (s : State) : Host.Outcome State Fault Refusal :=
  .next (lineIn (.learn q d) q s fun s => submit s q (learnSpec d s)
    fun s id => (placeOrder s d { sessionOrder s q id with learn := true }, .learn d))

/-- CANCEL of a MOVE or a LEARN: a STOP at the rank of the order (R161). -/
def driveCancel (s : State) (id : Nat) : State :=
  (List.range 32).foldl (fun s d =>
    let r := drOf s d
    let s := match r.pend.find? fun o => o.cmd = some id with
      | some o => placeOrder (modDr s d fun r => { r with pend := r.pend.filter fun o => o.cmd != some id }) d { src := o.src, rank := o.rank, stop := true, tag := o.tag, epoch := s.epoch + 1 }
      | none => s
    match r.order with
    | some o => if o.cmd = some id then
        placeOrder (modDr s d fun r => { r with order := some { o with cmd := none } }) d { src := o.src, rank := o.rank, stop := true, tag := o.tag, epoch := s.epoch + 1 }
      else s
    | none => s) s

/-! ### Attributes and registers (R413 to R415) -/

/-- The attributes that apply to a kind. -/
def driveApplies (k a : String) : Bool :=
  if ["KIND", "OUTPUT", "STATE", "ORDER", "HOLD"].contains a then true
  else if k = "NONE" then false
  else if ["POS", "POSQ", "SAFEPOS", "FIREPOS", "HOLDT", "LOCALUP", "LOCALDN", "POSMODEL"].contains a then true
  else if ["DIRINV", "DEADT", "TUP", "TDOWN", "OVERRUN"].contains a then ["PAIR", "DC", "FLOAT"].contains k
  else if ["STARTA", "INRUSHT"].contains a then ["PAIR", "SINGLE", "DC"].contains k
  else if ["ENDA", "ENDWIN", "TILTT", "TILT"].contains a then k = "PAIR"
  else if a = "TRIPA" then k = "PAIR" || k = "SINGLE"
  else if a = "TRIPCLR" then ["PAIR", "SINGLE", "DC"].contains k
  else if ["V0", "V100"].contains a then k = "ANALOG"
  else if a = "AUXMA" then k = "FLOAT"
  else if ["TRIPMV", "PWMF", "DUTY", "RAMP", "BRAKE", "ENCTYPE", "BUSNOM", "ENCSPAN"].contains a then k = "DC"
  else if ["OBSDET", "OBSMARGIN", "OBSTIME", "OBSEND", "REVDIST", "OBSHOLD", "PROFILE"].contains a then k = "PAIR" || k = "DC"
  else true

def driveState (s : State) (d : Nat) : String :=
  let r := drOf s d
  if driveTripped s d then "TRIPPED"
  else if (hotMove s d).isSome then "BLOCKED"
  else if r.phase = .waiting then "WAITING"
  else if r.phase = .starting then
    let f := firstOut s d
    let dead := if driveKind s d = "PAIR" then pairDeadNow s f else if driveKind s d = "DC" then (portOf_ s f).pend.isSome else r.deadUntil.isSome
    if dead then "DEAD" else "MOVING"
  else if (r.running && driveKind s d != "SINGLE") || r.phase = .moving then "MOVING" else "IDLE"

def orderStr (o : Order) : String :=
  joinStr "," [rankName o.rank, srcLabel o.src o.srcNo, (match o.tag with | some t => natStr t | none => "-"), if o.stop then "STOP" else if o.learn then "LEARN" else posStr o.target]

/-- The read-only attributes of a drive. -/
def driveAttr (s : State) (d : Nat) (a : String) : String :=
  let r := drOf s d
  if a = "POS" then posStr (posNow s d).1
  else if a = "POSQ" then ["EXACT", "ESTIMATED", "UNKNOWN"].getD r.q "-"
  else if a = "TILT" then (if tiltTicks s d = 0 then "-" else natStr (posNow s d).2 ++ "deg")
  else if a = "STATE" then driveState s d
  else if a = "ORDER" then (match r.order with | some o => orderStr o | none => "-")
  else if a = "HOLD" then (match r.hold with | some (k, t) => rankName k ++ "," ++ untilStr s t | none => "-")
  else if a = "PROFILE" then (if r.learned then "LEARNED" else "NONE")
  else natStr r.encSpan

/-- The Snuffer limit in force of a drive's output, as TRIPA or TRIPMV reads it (R415). -/
def tripAttr (s : State) (d : Nat) : Option String :=
  match tripOuts s d with
  | .feed f :: _ => some (milliStr (100 * (feedOf s f).lim) 1 ++ "A")
  | .port p :: _ => some (natStr (portOf_ s p).lim ++ "mV")
  | [] => none

def protAttr (s : State) (p : Nat) : String := protStateName (protSt s p).state

/-- Dead time left in ms. -/
def msLeft (s : State) (t : Option Nat) : Nat := match t with | some e => (e - s.now + tickMs - 1) / tickMs | none => 0

/-- MOT (Table DRV-12). -/
def motReg (s : State) (off : Nat) : Option Word :=
  if off < 0x100 then
    let p := off / 64
    let x := portOf_ s p
    let d := portDrive s p
    let r := off % 64
    let on (a : String) : Bool := match d with | some d => cfgOn s (drvObj d) a | none => false
    let enc := match d with | some d => if posModel s d = "ENCODER" then (if cfgIs s (drvObj d) "ENCTYPE" "QUAD" then 1 else 2) else 0 | none => 0
    let pwm := match d with | some d => (cfgInt s (drvObj d) "PWMF" 1000000000000).toNat | none => 20
    if r = 0x00 then some (fieldWord [bit 0 d.isSome, (1, 2, enc), bit 3 (on "BRAKE"), (8, 5, pwm)])
    else if r = 0x04 then some (fieldWord [(0, 10, dutyNow s x), bit 16 x.dir])
    else if r = 0x08 then some ((portWord s p).zeroExtend 32)
    else if r = 0x0C then some (BitVec.ofInt 32 x.enc)
    else if r = 0x10 then some (fieldWord [(0, 16, signedField 16 x.ma), (16, 16, x.busv)])
    else if r = 0x14 then some (fieldWord [(0, 16, deadTicks s d / tickMs), (16, 16, msLeft s x.deadUntil)])
    else none
  else if off = 0x400 then some 0
  else if 0x800 ≤ off && off < 0x840 && off % 16 = 0 then
    let x := portOf_ s ((off - 0x800) / 16)
    some (fieldWord [(0, 8, x.limNext.getD x.lim), (16, 8, x.trips), bit 31 x.trip])
  else none

/-- The use of a feed: 0 unused, 1 SINGLE, 2 PAIR toward 0 %, 3 PAIR toward 100 %. -/
def feedUse (s : State) (f : Nat) : Nat :=
  match driveOfFeed s f with
  | none => 0
  | some d => if driveKind s d = "SINGLE" then 1 else if feedFor s d true = f then 3 else 2

/-- LINE (Table DRV-13). -/
def lineReg (s : State) (off : Nat) : Option Word :=
  if off < 0x80 then
    let f := off / 16
    let x := feedOf s f
    let r := off % 16
    if r = 0 then some (fieldWord [(0, 2, feedUse s f)])
    else if r = 4 then some (x.word.zeroExtend 32)
    else if r = 8 then some (fieldWord [(0, 16, x.ma), (16, 16, x.closes)])
    else none
  else if off = 0x100 then some (fieldWord [bit 0 (s.pwr.linkUp && !s.drv.lost), (8, 8, s.drv.losses)])
  else if off = 0x104 then
    some (fieldWord [(0, 16, match s.drv.cross1, s.drv.cross2 with | some a, some b => if s.pwr.mains then (a - b) / 4 else 0 | _, _ => 0)])
  else if 0x110 ≤ off && off < 0x120 && off % 4 = 0 then
    let q := (off - 0x110) / 4
    some (fieldWord [(0, 16, deadTicks s (driveOfFeed s (2 * q)) / tickMs), (16, 16, msLeft s (pairDead s q))])
  else if off = 0x400 then some 0
  else if 0x800 ≤ off && off < 0x820 && off % 4 = 0 then
    let x := feedOf s ((off - 0x800) / 4)
    some (fieldWord [(0, 7, x.limNext.getD x.lim), (16, 8, x.trips), bit 31 x.trip])
  else if off = 0x840 then some (fieldWord ((List.range 8).map fun f => bit f (feedOf s f).trip))
  else none

/-! ### Changes of the configuration (R369, R392, R413) -/

/-- The drive layer after a change of the configuration from that of `old`. -/
def driveAfter (old s : State) (d : Nat) : State :=
  let o := drvObj d
  if ["KIND", "OUTPUT", "TRIPA", "TRIPMV", "V0", "V100"].all fun a => cfgVal old o a = cfgVal s o a then s
  else
    let bound := driveKind old d != driveKind s d || driveOuts old d != driveOuts s d
    let k := driveKind s d
    let s := if bound then
        modDr s d fun r => driveForgets { r with pos := 0, tilt := 0, q := if k = "ANALOG" || k = "SINGLE" then 0 else 2, rec_ := none, learned := false, bins := [], encSpan := 0, running := false }
      else s
    let s := (tripOuts s d).foldl (fun s o => limitWrite s o (match o with | .feed _ => cfgMilli s (drvObj d) "TRIPA" / 100 | .port _ => cfgMilli s (drvObj d) "TRIPMV")) s
    if k = "ANALOG" && !modelOnly s then setV10 s (firstOut s d) (analogMv s d (drOf s d).pos) else s

def protAfter (old s : State) (p : Nat) : State :=
  let ch (l : List String) : Bool := l.any fun a => cfgVal old (protObj p) a != cfgVal s (protObj p) a
  let s := if ch ["DRIVES", "ACTION"] then protLapses (setProt s p { protSt s p with placed := [] }) p else s
  let s := if ch ["SOURCE", "SENSE", "ON", "OFF"] then setProt s p { protSt s p with onSince := none, offSince := none } else s
  if ch ["SOURCE"] then protState s p 0 else s

def drivesAfter (old s : State) : State :=
  if old.cfg = s.cfg then s
  else (List.range 4).foldl (protAfter old) ((List.range 32).foldl (driveAfter old) s)

end Sys2Proof.Machine
end

