-- ==== Sys2Proof/Machine/Reals.lean ====
section
/-!
DEFINITION. The real functions that the spec names, as integers below the exact result: natural logarithm, decaying
exponential, and the conversions of NTC10K, NTC20K and PT1000 sensors (R421).  The last unit of a result is rounded up
or not as `Config.roundUp` says: the spec states no rounding.
-/
namespace Sys2Proof.Machine
open Sys2Proof

/-- The unit of the fixed-point results here: 2^-64. -/
def fixOne : Nat := 18446744073709551616

/-- The series of the inverse hyperbolic tangent from term `k`, `z` and its power in 2^-64. -/
def atanhSum : Nat → Nat → Nat → Nat → Nat
  | 0, _, _, _ => 0
  | n + 1, k, z2, p => p / (2 * k + 1) + atanhSum n (k + 1) z2 (p * z2 / fixOne)

/-- ln of a number from 1 to 2, in 2^-64. -/
def lnMant (m : Nat) : Nat :=
  let z := (m - fixOne) * fixOne / (m + fixOne)
  2 * atanhSum 34 0 (z * z / fixOne) z

def ln2 : Nat := lnMant (2 * fixOne)

/-- ln of a fraction of positive numbers, in 2^-64. -/
def lnFix (num den : Nat) : Int :=
  let a := num * fixOne * fixOne / den
  let e : Int := (a.log2 : Int) - 128
  let m := if 64 ≤ a.log2 then a / 2 ^ (a.log2 - 64) else a * 2 ^ (64 - a.log2)
  e * ln2 + lnMant m

/-- The series of exp(-r) from term `k`: the present term, in 2^-64. -/
def expSum : Nat → Nat → Nat → Int → Int
  | 0, _, _, _ => 0
  | n + 1, k, r, t => t + expSum n (k + 1) r (-(t * r / ((fixOne * k : Nat) : Int)))

/-- exp(-num/den) in 2^-64. -/
def expNeg (num den : Nat) : Nat :=
  let y := num * fixOne / max 1 den
  let k := y / ln2
  if 64 ≤ k then 0 else (expSum 34 1 (y % ln2) fixOne).toNat / 2 ^ k

/-- One unit more where the device rounds up. -/
def rounded (place : Nat) (a b v : Int) : Int := if Config.roundUp place a b then v + 1 else v

/-- The temperature of an NTC in 2^-`k` °C, from its crossing's word and BETA; none outside the divider (R421). -/
def ntcBits (k : Nat) (v beta : Int) : Option Int :=
  let n := v * 40000000
  if n ≤ 0 || 2500000000000 ≤ n || beta ≤ 0 then none
  else
    let inv : Int := (fixOne * 100 / 29815 : Nat) + lnFix n.toNat (2500000000000 - n).toNat / beta
    if inv ≤ 0 then none
    else some (rounded (100 + k) v beta (((fixOne * 100 * 2 ^ k : Nat) / inv - 27315 * 2 ^ k) / 100))

/-- The temperature of a PT1000 in 2^-`k` °C, from its crossing's word. -/
def ptBits (k : Nat) (v : Int) : Option Int :=
  let d : Int := 39083000 * 39083000 + 23100 * (10000000000 - 1600000 * v)
  if d < 0 then none
  else
    let q : Int := isqrt (d.toNat * fixOne * fixOne)
    some (rounded (200 + k) v 0 ((39083000 * (fixOne : Int) - q) * 2 ^ k / (11550 * (fixOne : Int))))

/-- A rise that has decayed for a time (R434). -/
def decayed (m : Int) (num den : Nat) : Int := rounded 3 m num (m * expNeg num den / (fixOne : Int))

/-- The temperature of a resistive channel in 2^-`k` °C; none where it is no sensor or cannot be converted. -/
def chanBits (s : State) (k u : Nat) (v beta : Int) : Option Int :=
  let m := chanMode s u
  if m = "NTC10K" || m = "NTC20K" then ntcBits k v beta else if m = "PT1000" then ptBits k v else none

def chanTemp (s : State) (u : Nat) (v beta : Int) : Option Int := chanBits s 16 u v beta

/-- A temperature in 2^-16 °C in tenths of a degree, and as the device sends it. -/
def tenthC (t : Int) : Int := roundDiv (t * 10) 65536
def tempStr (t : Int) : String := milliStr (tenthC t * 100) 1 ++ "C"

end Sys2Proof.Machine
end

