-- ==== Sys2Proof/Machine/Thermal.lean ====
section
/-!
DEFINITION. The thermal models (*Thermal models, the Snuffer and temperature limits*): the two-node step (R418, R419),
ambients (R421 to R423), levels (R424, R425), shutdown in hardware (R426), thermostats (R428), the module model (R429 to
R432), state records (R433 to R435), fault records (R436) and the temperature windows (R437).
-/
namespace Sys2Proof.Machine
open Sys2Proof

def therObj (m : Nat) : Obj := if m < 8 then ⟨.tf, m⟩ else if m < 12 then ⟨.tp, m - 8⟩ else ⟨.tmod, 0⟩
def thmObj : Obj := ⟨.thm, 0⟩
def therOf (s : State) (m : Nat) : TherM := tget {} s.thm.models m
def setTher (s : State) (m : Nat) (x : TherM) : State := { s with thm := { s.thm with models := tset s.thm.models m x } }
def modTher (s : State) (m : Nat) (f : TherM → TherM) : State := setTher s m (f (therOf s m))

/-- The drive that a model serves (R417). -/
def therDrive (s : State) (m : Nat) : Option Nat := (usedDrives s).find? fun d => driveModel s d = some m

def therUsed (s : State) (m : Nat) : Bool := (therDrive s m).isSome

/-- Degrees in 2^-16 °C. -/
def degC (v : Int) : Int := v * 65536

/-- An attribute in whole degrees. -/
def cfgDeg (s : State) (o : Obj) (a : String) : Int := cfgInt s o a 1000000000

/-! ### Coefficients and the step (R418 to R420) -/

/-- round(n / d), ties up. -/
def ratioRound (n d : Nat) : Nat := (2 * n + d) / max 1 (2 * d)

def cfgHundredth (s : State) (o : Obj) (a : String) : Nat := (cfgInt s o a 10000000).toNat

def coefA (s : State) (o : Obj) : Nat := ratioRound 16777216 (cfgHundredth s o "RWB" * cfgNat s o "CW")
def coefB (s : State) (o : Obj) : Nat := ratioRound 16777216 (cfgHundredth s o "RWB" * cfgNat s o "CB")
def coefC (s : State) (o : Obj) : Nat := ratioRound 16777216 (cfgHundredth s o "RBA" * cfgNat s o "CB")
def coefG (s : State) (o : Obj) : Nat := ratioRound (16777216 * 65536) (100000 * cfgNat s o "CW")

/-- The bound of R420. -/
def coefsOk (s : State) (o : Obj) : Bool := coefA s o ≤ 4194304 && coefB s o + coefC s o ≤ 4194304

/-- A term rounded. -/
def term (x : Int) : Int := (x + 8388608) / 16777216

def wrap32 (v : Int) : Int := (BitVec.ofInt 32 v).toInt

/-- Both nodes after a step with a mean power in mW. -/
def nodeStep (s : State) (m : Nat) (pe : Int) (x : TherM) : TherM :=
  let o := therObj m
  let p := (max 0 pe * cfgPct s o "LOSSF" + 50) / 100
  let tw := x.tw + term (coefG s o * p) - term (coefA s o * (x.tw - x.tb))
  let tb := x.tb + term (coefB s o * (x.tw - x.tb)) - term (coefC s o * (x.tb - x.ta))
  { x with tw := wrap32 tw, tb := wrap32 tb }

/-! ### Levels (R424) -/

/-- The thresholds in force, in °C. -/
def therThr (s : State) (m : Nat) : Nat × Nat × Nat :=
  let o := therObj m
  let c (a : String) : Nat := (cfgDeg s o a).toNat
  if m = 12 then s.thm.modThr.getD (c "MWARNC", c "MTHROTC", c "MSHUTC")
  else (therOf s m).thr.getD (c "WARNC", c "THROTC", c "SHUTC")

def therHys (s : State) (m : Nat) : Nat × Nat × Nat :=
  let o := therObj m
  let c (a : String) : Nat := (cfgDeg s o a).toNat
  if m = 12 then (c "MWARNH", c "MTHROTH", c "MSHUTH") else (c "WARNH", c "THROTH", c "SHUTH")

def third (t : Nat × Nat × Nat) (l : Nat) : Nat := if l = 1 then t.1 else if l = 2 then t.2.1 else t.2.2

/-- The highest level whose threshold is reached. -/
def levelUp (thr : Nat × Nat × Nat) (t : Int) : Nat :=
  if degC thr.2.2 ≤ t then 3 else if degC thr.2.1 ≤ t then 2 else if degC thr.1 ≤ t then 1 else 0

/-- The fall from a level, repeated. -/
def levelDown (thr hys : Nat × Nat × Nat) (t : Int) : Nat → Nat
  | 0 => 0
  | l + 1 => if t ≤ degC ((third thr (l + 1) : Int) - third hys (l + 1)) then levelDown thr hys t l else l + 1

def levelStep (thr hys : Nat × Nat × Nat) (t : Int) (l : Nat) : Nat := max (levelUp thr t) (levelDown thr hys t l)

/-! ### Records (R433, R436, R447) -/

def journalOpen (s : State) : Bool := s.thm.winJournal && !s.tst.heldJournal

/-- The hot spot of the module. -/
def hotSpot (s : State) : Int := s.thm.ts.getD 0 + s.thm.delta

/-- A fault record: in the ring of 64, or held in SRAM, at most 16. -/
def faultRecord (s : State) (kind : String) (m : Nat) : State :=
  let x := therOf s m
  let r : FltRec := { kind := kind, model := m, boot := s.sec.boot, tick := mono s, utc := utcField s, peak := if m = 12 then hotSpot s else x.tw, ta := if m = 12 then s.thm.ts.getD 0 else x.ta }
  if journalOpen s then { s with thm := { s.thm with flts := (r :: s.thm.flts).take 64 } }
  else { s with thm := { s.thm with fltsHeld := (r :: s.thm.fltsHeld).take 16 } }

/-- The RTC in 1/32 768 s, and in seconds (R565). -/
def rtcFine (s : State) : Nat := s.tim.rtcBase + (s.now - s.tim.rtcAt) * 32768 / (1000 * tickMs)
def rtcNow (s : State) : Nat := rtcFine s / 32768

/-- The state of every model. -/
def therImage (s : State) : TherRec :=
  { nodes := (List.range 12).map fun m => let x := therOf s m; (x.tw, x.tb, x.ta, tget 0 s.thm.lvl m), delta := s.thm.delta, ts := s.thm.ts.getD 0, lvl := tget 0 s.thm.lvl 12, rtc := if s.pwr.rtcValid && !s.pwr.timeLost then some (rtcNow s) else none }

def therRecord (s : State) : State :=
  if journalOpen s then { s with thm := { s.thm with rec_ := some (therImage s), recHeld := none } }
  else { s with thm := { s.thm with recHeld := some (therImage s) } }

/-- THERMAL_STATE_RECORD: every 60 s. -/
def execThermalStateRecord (s : State) : Host.Outcome State Fault Refusal :=
  .next (if !coreRuns s then s
    else atTick s (some (s.thm.recAt + 60000 * tickMs)) fun s => therRecord { s with thm := { s.thm with recAt := s.now } })

/-- JOURNAL opens: what SRAM held for the journal die's pages is written. -/
def journalOpens (s : State) : State :=
  let s := { s with thm := { s.thm with rec_ := match s.thm.recHeld with | some r => some r | none => s.thm.rec_, recHeld := none, flts := (s.thm.fltsHeld ++ s.thm.flts).take 64, fltsHeld := [] } }
  { s with drv := { s.drv with drives := s.drv.drives.map fun p => (p.1, match p.2.recHeld with | some r => { p.2 with rec_ := some r, recHeld := none } | none => p.2) } }

/-! ### Power removed in hardware (R426, R428, R431, R444) -/

/-- The outputs of a model that is bound: feeds 0 to 7, ports 8 to 11. -/
def therOuts (s : State) (m : Nat) : List Nat :=
  match therDrive s m with
  | some d => (tripOuts s d).map fun o => match o with | .feed f => f.val | .port p => 8 + p.val
  | none => []

/-- The outputs held off. -/
def hotOuts (s : State) : List Nat :=
  if tget 0 s.thm.lvl 12 = 3 then List.range 12
  else ((List.range 12).filter fun m => modelLevel s m = 3).flatMap (therOuts s)

/-- The holds follow the levels: what becomes held is switched off. -/
def hotRefresh (s : State) : State :=
  let l := hotOuts s
  let new := l.filter fun n => !s.thm.hot.getLsbD n
  let s := { s with thm := { s.thm with hot := BitVec.ofNat 12 (l.eraseDups.foldl (fun acc n => acc + 2 ^ n) 0) } }
  new.foldl (fun s n => if n < 8 then feedStop s n else gatesOff s (n - 8)) s

/-- A running port's duty under THROTTLE (Table THM-2). -/
def dutyFollows (s : State) (m : Nat) : State :=
  if m < 8 || 12 ≤ m then s
  else
    let p := m - 8
    let x := portOf_ s p
    match portDrive s p with
    | some d =>
      let cap := if tget 0 s.thm.lvl m = 2 then cfgPct s (therObj m) "THRDUTY" else 100
      let t := 10 * min cap (cfgPct s (drvObj d) "DUTY")
      if x.run then setPort s p { x with target := t, duty := if x.rampEnd.isSome then min x.duty t else t } else s
    | none => s

/-- A drive model changes its level: verdict through X189 or X190, hold, records. -/
def levelChanges (s : State) (m l : Nat) : State :=
  let s := { s with thm := { s.thm with lvl := tset s.thm.lvl m l } }
  let s := if l = 3 then therRecord (faultRecord (modTher s m fun x => { x with shuts := satInc 255 x.shuts }) "SHUTDOWN" m) else s
  let s := hotRefresh (dutyFollows s m)
  if m < 8 then arrive s 189 (BitVec.ofNat 16 m) (some (mono s)) (.trip (.feed (Fin.ofNat 8 m)) (2 + 16 * l))
  else arrive s 190 (BitVec.ofNat 16 (m - 8)) (some (mono s)) (.trip (.port (Fin.ofNat 4 (m - 8))) (2 + 16 * l))

/-- One drive model's step. -/
def therStep (pe : Int) (s : State) (m : Nat) : State :=
  if !therUsed s m then s
  else
    let s := dutyFollows (modTher s m (nodeStep s m pe)) m
    let old := tget 0 s.thm.lvl m
    let l := levelStep (therThr s m) (therHys s m) (therOf s m).tw old
    if l = old then s else levelChanges s m l

/-! ### The module model (R429 to R432) -/

/-- The internal dissipation in µW. -/
def moduleLoss (s : State) : Nat :=
  1500000 + (List.range 8).foldl (fun acc f => let w := leaveMeasure s (129 + f) 6000; acc + w * w / 64) 0
    + 100 * leaveMeasure s 150 (fullPower s)

/-- TMOD changes its level. -/
def moduleLevel (s : State) (l : Nat) : State :=
  let old := tget 0 s.thm.lvl 12
  if l = old then s
  else
    let s := { s with thm := { s.thm with lvl := tset s.thm.lvl 12 l, tmodMsgs := s.thm.tmodMsgs ++ [(s.epoch + 1, l, hotSpot s)] } }
    let s := if l = 3 then therRecord (faultRecord s "SHUTDOWN" 12) else s
    hotRefresh s

/-- TMOD's step: Δ follows twice the dissipation with a time constant of 60 s; a failing X145 counts as too hot. -/
def moduleStep (s : State) : State :=
  let target : Int := (moduleLoss s : Int) * 131072 / 1000000
  let s := { s with thm := { s.thm with delta := s.thm.delta + term (2796 * (target - s.thm.delta)) } }
  if s.thm.sensF then moduleLevel s 3
  else if s.thm.ts.isNone then s
  else moduleLevel s (levelStep (therThr s 12) (therHys s 12) (hotSpot s) (tget 0 s.thm.lvl 12))

/-- 10 ms. -/
def stepTicks : Nat := 10 * tickMs

/-- The last step before now, on the grid of the steps: those that no command has made are not made up. -/
def stepAligned (s : State) : Nat := s.now - (s.now - s.thm.stepAt) % stepTicks

/-- One step of the models that run. -/
def thermalStep (pe : List Int) (s : State) : State :=
  let s := (List.range 8).foldl (fun s m => therStep (pe.getD m 0) s m) s
  if !coreRuns s || s.ana.mode = .quiet then s
  else moduleStep ((List.range 4).foldl (fun s p => therStep (pe.getD (8 + p) 0) s (8 + p)) s)

/-- THERMAL_STEP: every 10 ms, with the mean power of each drive model's step in mW.  The line die's models step through
QUIET and a reset of the core die; the others do not (R434, R435). -/
def execThermalStep (pe : List Int) (s : State) : Host.Outcome State Fault Refusal :=
  .next (atTick s (some (s.thm.stepAt + stepTicks)) fun s => thermalStep pe { s with thm := { s.thm with stepAt := s.thm.stepAt + stepTicks } })

/-! ### Ambients (R421 to R423) -/

/-- The crossing that a model's AMBIENT names; MODULE is X145. -/
def ambCrossing (s : State) (m : Nat) : Option Nat :=
  match cfgObj s (therObj m) "AMBIENT" with
  | some o => some o.n
  | none => if cfgIs s (therObj m) "AMBIENT" "MODULE" then some 145 else none

/-- KEEPER's ambient for a model; a port's model takes it at once. -/
def ambTake (s : State) (m : Nat) (t : Int) : State :=
  modTher s m fun x => { x with taK := t, ta := if m < 8 then x.ta else t }

/-- The ambient of a model fails, or is measured. -/
def ambSet (s : State) (m : Nat) (src : String) (t : Option Int) : State :=
  let was := (therOf s m).sens
  match t with
  | none =>
    let s := ambTake (modTher s m fun x => { x with sens := true }) m (degC (cfgDeg s (therObj m) "AMBHOT"))
    if was || !therUsed s m then s
    else notify (faultRecord s "SENSOR-FAIL" m) "THM.SENSOR" (some (therObj m)) ("SOURCE=" ++ src ++ " STATE=FAIL")
  | some v =>
    let s := ambTake (modTher s m fun x => { x with sens := false }) m v
    if was && therUsed s m then notify (faultRecord s "SENSOR-OK" m) "THM.SENSOR" (some (therObj m)) ("SOURCE=" ++ src ++ " STATE=OK")
    else s

/-- A channel's verdict says OPEN or SHORT. -/
def sensorBad (s : State) (u : Nat) : Bool := (chanSt s u).verdict = 1 || (chanSt s u).verdict = 2

/-- A record of a channel reaches a model that takes its ambient from it. -/
def ambDeliver (r : Rec) (s : State) (m : Nat) : State :=
  if ambCrossing s m != some r.x || r.x = 145 || payEmpty r.pay then s
  else ambSet s m (objName (xobj r.x)) (if recFails r || sensorBad s r.x then none else chanTemp s r.x r.val (cfgNat s (therObj m) "BETA"))

/-- FIXED ambients follow AMBFIX. -/
def ambFixed (s : State) (m : Nat) : State :=
  if cfgIs s (therObj m) "AMBIENT" "FIXED" then ambTake (modTher s m fun x => { x with sens := false }) m (degC (cfgDeg s (therObj m) "AMBFIX")) else s

/-- AMBIENT_WORD: every 100 ms. -/
def execAmbientWord (s : State) : Host.Outcome State Fault Refusal :=
  .next (if !coreRuns s || s.ana.mode = .quiet || !s.pwr.linkUp || s.drv.lost then s
    else atTick s (some (s.thm.ambAt + 100 * tickMs)) fun s =>
      let s := { s with thm := { s.thm with ambAt := s.now } }
      (List.range 8).foldl (fun s m => modTher s m fun x => { x with ta := x.taK }) s)

/-- AMBIENT_TIMEOUT: no ambient word for 1 s. -/
def execAmbientTimeout (s : State) : Host.Outcome State Fault Refusal :=
  .next (if s.ana.mode = .quiet then s
    else atTick s (some (s.thm.ambAt + 1000 * tickMs)) fun s =>
      (List.range 8).foldl (fun s m => modTher s m fun x => { x with ta := degC (cfgDeg s (therObj m) "AMBHOT") }) s)

/-! ### Thermostats (R428, R444) -/

def forceSet (s : State) (m : Nat) (on : Bool) : State :=
  hotRefresh { s with thm := { s.thm with force := if on then s.thm.force ||| (1#12 <<< m) else s.thm.force &&& ~~~(1#12 <<< m) } }

/-- A thermostat reads open: the output is held off. -/
def thermoOpens (s : State) (m : Nat) : State :=
  let s := modTher s m fun x => { x with closedSince := none }
  if s.thm.force.getLsbD m then s
  else hotDeliver (notify (faultRecord (forceSet s m true) "THERMO" m) "THM.THERMO" (some (therObj m)) "STATE=OPEN") m

def thermoDeliver (r : Rec) (s : State) (m : Nat) : State :=
  if !therUsed s m || cfgObj s (therObj m) "THERMO" != some (chanObj r.x) || payEmpty r.pay then s
  else if recFails r || r.val < 1 then thermoOpens s m
  else modTher s m fun x => { x with closedSince := some (x.closedSince.getD s.now) }

/-- THERMO_CLEAR: the contact has read closed in every delivery for 10 s. -/
def execThermoClear (m : Fin 12) (s : State) : Host.Outcome State Fault Refusal :=
  .next (if !coreRuns s || !s.thm.force.getLsbD m then s
    else atTick s ((therOf s m).closedSince.map (· + 10000 * tickMs)) fun s =>
      notify (forceSet s m false) "THM.THERMO" (some (therObj m)) "STATE=CLOSED")

/-! ### Temperature windows (R437) -/

/-- A window's new state. -/
def winStep (isOpen fail : Bool) (t : Option Int) (lo hi h : Int) : Bool :=
  if fail then false
  else match t with
    | none => isOpen
    | some v => if isOpen then degC lo ≤ v && v ≤ degC hi else degC (lo + h) ≤ v && v ≤ degC (hi - h)

/-- The limits of the PANEL window: the bands of the waveform table (R590). -/
def panelSpan (s : State) : Int × Int :=
  let l := (cfgVal s ⟨.lan, 0⟩ "BANDS").filterMap fun i => match i with | .num v => some (v / 1000000000) | _ => none
  (max 0 (l.headD 0), min 50 (l.getLastD 50))

def winNotice (s : State) (name : String) (was is : Bool) (t : Option Int) : State :=
  if was = is then s
  else notify s "THM.WINDOW" none ("NAME=" ++ name ++ " STATE=" ++ (if is then "OPEN" else "CLOSED") ++ " TEMP=" ++ (match t with | some v => tempStr v | none => "-"))

/-- CHARGE closes: no charging; a fast-charge grant is returned. -/
def chargeCloses (s : State) : State :=
  if s.pwr.trickle || s.pwr.fast || s.lve.grants.any (·.h = .charge) then grantBack (stopCharging s) .charge else s

/-- The three windows evaluated. -/
def windowsStep (s : State) : State :=
  let t := if s.thm.sensF then none else s.thm.ts
  let own := cfgIs s thmObj "PANELSRC" "MODULE"
  let pt := if own then t else if s.thm.panelFail then none else s.thm.panelT
  let w := s.thm
  let c := winStep w.winCharge w.sensF w.ts 0 45 2
  let j := winStep w.winJournal w.sensF w.ts (-30) 85 2
  let p := winStep w.winPanel (if own then w.sensF else w.panelFail) (if own then w.ts else w.panelT) (panelSpan s).1 (panelSpan s).2 1
  let s := { s with thm := { s.thm with winCharge := c, winJournal := j, winPanel := p } }
  let s := winNotice s "CHARGE" w.winCharge c t
  let s := if w.winCharge && !c then chargeCloses s else s
  let s := winNotice s "JOURNAL" w.winJournal j t
  let s := if !w.winJournal && j then journalOpens s else s
  winNotice s "PANEL" w.winPanel p pt

/-! ### Deliveries -/

/-- A delivery of X145 (R429, R430, R437). -/
def x145Deliver (r : Rec) (s : State) : State :=
  let was := s.thm.sensF
  let s :=
    if recFails r then
      let s := { s with thm := { s.thm with sensF := true } }
      if was then s else notify (faultRecord s "SENSOR-FAIL" 12) "THM.SENSOR" (some (therObj 12)) "SOURCE=X145 STATE=FAIL"
    else
      let s := { s with thm := { s.thm with sensF := false, ts := some (r.val * 65536 / 100) } }
      if was then notify (faultRecord s "SENSOR-OK" 12) "THM.SENSOR" (some (therObj 12)) "SOURCE=X145 STATE=OK" else s
  let t := if s.thm.sensF then none else s.thm.ts
  let s := (List.range 12).foldl (fun s m => if ambCrossing s m = some 145 then ambSet s m "X145" t else s) s
  windowsStep (if s.thm.sensF then moduleLevel s 3 else s)

def panelDeliver (r : Rec) (s : State) : State :=
  if cfgObj s thmObj "PANELSRC" != some (xobj r.x) || payEmpty r.pay then s
  else
    let t := if recFails r || sensorBad s r.x then none else chanTemp s r.x r.val 3435
    let s := { s with thm := { s.thm with panelFail := t.isNone, panelT := match t with | some v => some v | none => s.thm.panelT } }
    if t.isNone && s.thm.winPanel then winNotice { s with thm := { s.thm with winPanel := false } } "PANEL" true false none else s

def levelName (l : Nat) : String := ["NORMAL", "WARN", "THROTTLE", "SHUTDOWN"].getD l "-"

/-- A thermal verdict of a drive model is delivered (R425). -/
def levelDeliver (s : State) (o : TripOut) (l : Nat) : State :=
  let m := match o with | .feed f => f.val | .port p => 8 + p.val
  let s := notify s "THM.LEVEL" (some (therObj m)) ("LEVEL=" ++ levelName l ++ " TEMP=" ++ tempStr (therOf s m).tw)
  if l = 3 then hotDeliver (jrnTrigger s 4) m else s

/-- A delivered record as the thermal functions take it. -/
def thermDeliver (s : State) (r : Rec) : State :=
  let s := match r.pay with
    | .trip o v => if v % 16 = 2 then levelDeliver s o (v / 16) else s
    | _ => s
  if r.x = 145 && !payEmpty r.pay then x145Deliver r s
  else if r.x < 96 then panelDeliver r ((List.range 12).foldl (fun s m => thermoDeliver r (ambDeliver r s m) m) s)
  else s

/-- TMOD's level reaches KEEPER (R425, R431). -/
def tmodDeliver (s : State) (l : Nat) (th : Int) : State :=
  let old := s.thm.tmodK
  let s := { s with thm := { s.thm with tmodK := l } }
  let s := notify s "THM.LEVEL" (some (therObj 12)) ("LEVEL=" ++ levelName l ++ " TEMP=" ++ tempStr th)
  let s := if l = 3 then hotDeliver (jrnTrigger s 4) 12 else s
  let s := if l = 2 && s.lve.grants.any (·.h = .charge) then grantBack (chargeEnds s) .charge else s
  if old = 3 then notify s "THM.COOLED" none ("TH=" ++ tempStr th) else s

/-- The thermal functions at a boundary: ambients whose channel fails without a delivery, and TMOD's messages. -/
def thermBoundary (s : State) : State :=
  let due := s.thm.tmodMsgs.filter fun p => p.1 ≤ s.epoch
  let s := { s with thm := { s.thm with tmodMsgs := s.thm.tmodMsgs.filter fun p => s.epoch < p.1 } }
  let s := due.foldl (fun s p => tmodDeliver s p.2.1 p.2.2) s
  (List.range 12).foldl (fun s m =>
    match ambCrossing s m with
    | some x => if x != 145 && !(therOf s m).sens && (xFailing s x || sensorBad s x) then ambSet s m (objName (xobj x)) none else s
    | none => ambFixed s m) s

/-- Entry to COOL-DOWN: counted; beyond COOLMAX in 24 h the fault latches (R432). -/
def coolEntry (s : State) : State :=
  let day := s.now :: lastDay s s.thm.cdDay
  let s := faultRecord { s with thm := { s.thm with cdDay := day, cdTotal := satInc 65535 s.thm.cdTotal } } "COOL-DOWN" 12
  let s := notify s "THM.COOL-DOWN" none ("TH=" ++ tempStr (hotSpot s))
  if cfgNat s (therObj 12) "COOLMAX" < day.length && !s.thm.cdLatch then
    faultRecord { s with thm := { s.thm with cdLatch := true } } "COOLDOWN" 12
  else s

/-! ### Starts, and QUIET (R434, R435, R446) -/

/-- The slowest time constant of a model in 0.01 s. -/
def therTau (s : State) (m : Nat) : Nat :=
  let o := therObj m
  (cfgHundredth s o "RWB" + cfgHundredth s o "RBA") * (cfgNat s o "CW" + cfgNat s o "CB")

/-- A node after cooling for `t` hundredths of a second: the larger rise above the ambient decays. -/
def therCredit (s : State) (m t : Nat) (x : TherM) (ta : Int) : TherM :=
  let v := ta + decayed (max (x.tw - ta) (x.tb - ta)) t (therTau s m)
  { x with tw := v, tb := v, ta := ta, taK := ta }

/-- The ambient of a model without any measurement. -/
def ambDefault (s : State) (m : Nat) : Int :=
  degC (cfgDeg s (therObj m) (if cfgIs s (therObj m) "AMBIENT" "FIXED" then "AMBFIX" else "AMBHOT"))

/-- A level restored falls by R424. -/
def levelRestore (s : State) (m l : Nat) (t : Int) : State :=
  { s with thm := { s.thm with lvl := tset s.thm.lvl m (levelStep (therThr s m) (therHys s m) t l) } }

/-- One model from a record, `t` hundredths of a second ago; none without credit. -/
def therFrom (s : State) (r : TherRec) (t : Option Nat) (m : Nat) : State :=
  match r.nodes[m]? with
  | none => s
  | some (tw, tb, ta, l) =>
    let x := { therOf s m with tw := tw, tb := tb, ta := ta, taK := ta, sens := false, closedSince := none, shuts := 0, thr := none }
    let x := match t with | some n => therCredit s m n x ta | none => x
    levelRestore (setTher s m x) m l x.tw

def therFresh (s : State) (m : Nat) : State :=
  let ta := ambDefault s m
  let t := max ta (degC ((cfgDeg s (therObj m) "WARNC") - cfgDeg s (therObj m) "WARNH"))
  setTher { s with thm := { s.thm with lvl := tset s.thm.lvl m 0 } } m { tw := t, tb := t, ta := ta, taK := ta }

/-- The models in `l`, and TMOD, start from the newest valid record (R434). -/
def therStart (s : State) (l : List Nat) : State :=
  match s.thm.rec_ with
  | none =>
    let s := l.foldl therFresh s
    notify { s with thm := { s.thm with delta := 0, lvl := tset s.thm.lvl 12 0, start := 0 } } "THM.STATE-DEFAULT"
  | some r =>
    let el := match r.rtc with
      | some a => if s.pwr.rtcValid && !s.pwr.timeLost then some (100 * (rtcNow s - a)) else none
      | none => none
    let s := l.foldl (fun s m => therFrom s r el m) s
    let d := match el with | some n => decayed r.delta n 6000 | none => r.delta
    let s := levelRestore { s with thm := { s.thm with delta := d } } 12 r.lvl (r.ts + d)
    if el.isSome then { s with thm := { s.thm with start := 1 } }
    else notify { s with thm := { s.thm with start := 2 } } "THM.NO-CREDIT"

/-- The models at the release of the core die; `kept`: mains stayed present and the line die ran on. -/
def thermRestart (s : State) (kept : Bool) : State :=
  let s := { s with thm := { s.thm with ts := none, sensF := false, modThr := none, tmodMsgs := [], force := 0, winCharge := false, winJournal := false, winPanel := false, panelT := none, panelFail := false, recHeld := none, fltsHeld := [], recAt := s.now, ambAt := s.now, stepAt := if kept then stepAligned s else s.now } }
  let s := if kept then { therStart s [8, 9, 10, 11] with thm := { (therStart s [8, 9, 10, 11]).thm with start := 3 } } else therStart s (List.range 12)
  let s := (List.range 8).foldl (fun s m => modTher s m fun x => { x with thr := none, shuts := 0, closedSince := none }) s
  hotRefresh { s with thm := { s.thm with tmodK := tget 0 s.thm.lvl 12 } }

def thermSleep (s : State) : State := { s with thm := { s.thm with sleepAt := s.now } }

/-- The return from QUIET: the ports' models and TMOD take the credit of the time elapsed. -/
def thermWake (s : State) : State :=
  let t := (s.now - s.thm.sleepAt) / 80000
  let s := (List.range 4).foldl (fun s p => modTher s (8 + p) fun x => therCredit s (8 + p) t x x.ta) s
  { s with thm := { s.thm with delta := decayed s.thm.delta t 6000, ambAt := s.now, stepAt := stepAligned s } }

/-! ### Thresholds written, CLR, attributes and registers (R450, R451) -/

def thrWord (t : Nat × Nat × Nat) : Nat := t.1 + 256 * t.2.1 + 65536 * t.2.2

/-- The write is in range: rising, and within the limits of Table THM-5. -/
def thrOk (m : Nat) (t : Nat × Nat × Nat) : Bool :=
  t.1 < t.2.1 && t.2.1 < t.2.2 && (if m = 12 then 60 ≤ t.1 && t.2.2 ≤ 125 else 40 ≤ t.1 && t.2.2 ≤ 200)

def thrWritten (s : State) (m : Nat) (v mask : Word) : Nat × Nat × Nat :=
  let w := (BitVec.ofNat 32 (thrWord (therThr s m)) &&& ~~~mask) ||| (v &&& mask)
  (w.toNat % 256, w.toNat / 256 % 256, w.toNat / 65536 % 256)

def thrSet (s : State) (m : Nat) (t : Option (Nat × Nat × Nat)) : State :=
  if m = 12 then { s with thm := { s.thm with modThr := t } } else modTher s m fun x => { x with thr := t }

/-- THM_THRESHOLD_WRITE. -/
def execThmThresholdWrite (m : Fin 13) (v mask : Word) (s : State) : Host.Outcome State Fault Refusal :=
  .next (let t := thrWritten s m v mask
    if thrOk m t then thrSet s m (some t) else s)

/-- THM_CLR. -/
def thmClr (s : State) : State := { s with thm := { s.thm with models := s.thm.models.map fun p => (p.1, { p.2 with shuts := 0 }) } }
def execThmClr (v : Word) (s : State) : Host.Outcome State Fault Refusal := .next (if v.getLsbD 0 then thmClr s else s)

/-- CAUSE: 0 MODEL, 1 THERMO, 2 SENSOR. -/
def therCause (s : State) (m : Nat) : Nat :=
  if m = 12 then (if s.thm.sensF then 2 else 0)
  else if s.thm.force.getLsbD m then 1 else if (therOf s m).sens then 2 else 0

def causeName (n : Nat) : String := ["MODEL", "THERMO", "SENSOR"].getD n "-"

def therAttr (s : State) (m : Nat) (a : String) : String :=
  let x := therOf s m
  if a = "LEVEL" then levelName (modelLevel s m)
  else if a = "CAUSE" then causeName (therCause s m)
  else if m = 12 then (match s.thm.ts with | some t => tempStr (if a = "TS" then t else t + s.thm.delta) | none => "-")
  else if !therUsed s m then "-"
  else tempStr (if a = "TW" then x.tw else if a = "TB" then x.tb else x.ta)

def thmAttr (s : State) (a : String) : String :=
  let w (b : Bool) : String := if b then "OPEN" else "CLOSED"
  if a = "WINDOWS" then joinStr "," [w s.thm.winCharge, w s.thm.winJournal, w s.thm.winPanel]
  else ["DEFAULT", "CREDIT", "NOCREDIT", "KEPT"].getD s.thm.start "-"

/-- SHOW THM FAULTS, newest first. -/
def fltStr (r : FltRec) : String :=
  joinStr " " [r.kind, "MODEL=" ++ objName (therObj r.model), "BOOT=" ++ natStr r.boot, "TICK=" ++ natStr r.tick, "UTC=" ++ utcStr (r.utc / 256), "PEAK=" ++ tempStr r.peak, "TA=" ++ tempStr r.ta]

def showFaults (s : State) : List String := (s.thm.fltsHeld ++ s.thm.flts).map fltStr

/-- The registers of one drive model (Table THM-10). -/
def therReg (s : State) (m r : Nat) : Option Word :=
  let o := therObj m
  let x := therOf s m
  let h := therHys s m
  if r = 0x00 then some (fieldWord [(0, 24, thrWord (therThr s m)), (24, 7, cfgPct s o "LOSSF")])
  else if r = 0x04 then some (fieldWord [(0, 6, h.1), (8, 6, h.2.1), (16, 6, h.2.2)])
  else if r = 0x08 then some (fieldWord [(0, 24, coefA s o)])
  else if r = 0x0C then some (fieldWord [(0, 24, coefB s o)])
  else if r = 0x10 then some (fieldWord [(0, 24, coefC s o)])
  else if r = 0x14 then some (fieldWord [(0, 24, coefG s o)])
  else if r = 0x18 then some (fieldWord [(0, 16, signedField 16 (tenthC x.tw)), (16, 16, signedField 16 (tenthC x.tb))])
  else if r = 0x1C then some (fieldWord [(0, 2, modelLevel s m), (2, 2, therCause s m), bit 4 (therUsed s m), bit 5 (s.thm.force.getLsbD m), (8, 8, x.shuts), (16, 16, signedField 16 (tenthC x.ta))])
  else none

/-- THM (Tables THM-10 and THM-11). -/
def thmReg (s : State) (off : Nat) : Option Word :=
  if off < 0x180 then therReg s (off / 32) (off % 32)
  else if off = 0x200 then some (fieldWord [(0, 24, thrWord (therThr s 12))])
  else if off = 0x204 then
    some (fieldWord [(0, 16, signedField 16 (tenthC (s.thm.ts.getD 0))), (16, 16, if s.thm.ts.isNone then 0 else signedField 16 (tenthC (hotSpot s)))])
  else if off = 0x208 then
    some (fieldWord [(0, 2, tget 0 s.thm.lvl 12), bit 2 s.thm.sensF, bit 3 s.thm.cdLatch, (4, 4, (lastDay s s.thm.cdDay).length), (8, 16, s.thm.cdTotal)])
  else if off = 0x220 then
    some (fieldWord [bit 0 s.thm.winCharge, bit 1 s.thm.winJournal, bit 2 s.thm.winPanel, (8, 5, s.thm.fltsHeld.length)])
  else if off = 0x230 then some (fieldWord [(0, 2, s.thm.start)])
  else if off = 0x240 then some (fieldWord [(0, 8, s.thm.flts.length)])
  else if off = 0x244 then some 0
  else none

/-- The thermal functions after a change of the configuration: a SET of a threshold ends what THM wrote; a THERMO no
longer named releases its force bit; AMBIENT takes its first value at the first delivery. -/
def thermAfter (old s : State) : State :=
  if old.cfg = s.cfg then s
  else
    let ch (o : Obj) (l : List String) : Bool := l.any fun a => cfgVal old o a != cfgVal s o a
    let s := (List.range 12).foldl (fun s m =>
      let s := if ch (therObj m) ["WARNC", "THROTC", "SHUTC"] then thrSet s m none else s
      let s := if s.thm.force.getLsbD m && ch (therObj m) ["THERMO"] then forceSet s m false else s
      ambFixed s m) s
    hotRefresh (if ch (therObj 12) ["MWARNC", "MTHROTC", "MSHUTC"] then thrSet s 12 none else s)

end Sys2Proof.Machine
end

