-- ==== Sys2Proof/Machine/Time.lean ====
section
/-!
DEFINITION. Time (*Time, the time pulse and the network time master*): network time (R545, R546), quality and
uncertainty (R548, R549), the reference exchange (R550 to R552), election (R553, R554), the servo (R555 to R557), slew
and step (R558 to R560), TPULSE (R561 to R563), holdover (R564), the RTC (R565, R566), civil time (R567) and TIME SET
(R569).  Network time is counted in 12.5 ns; θ in fifths of that, 2.5 ns.
-/
namespace Sys2Proof.Machine
open Sys2Proof

def timeObj : Obj := ⟨.time, 0⟩
def busObj : Obj := ⟨.bus, 0⟩

/-- The node address, 0 where it is NONE. -/
def nodeAddr (s : State) : Nat := cfgNat s busObj "NODE"

/-- 12.5 ns units of a second, and θ units of a microsecond. -/
def netSec : Int := 80000000
def thetaUs : Int := 400

/-- The second of network time in progress. -/
def netSecs (s : State) : Int := timeNow s / netSec

/-- The first tick at which network time has reached a value. -/
def tickOf (s : State) (net : Int) : Nat :=
  let need := net * 4294967296 - s.tim.base
  let rate := 10 * timeRate s
  ((s.tim.refTick : Int) + max 0 ((need + rate - 1) / rate)).toNat

/-- Network time counts on from now with a new rate. -/
def timeRebase (s : State) : State :=
  { s with tim := { s.tim with base := s.tim.base + 10 * ((s.now : Int) - s.tim.refTick) * timeRate s, refTick := s.now } }

/-- REFINT in ticks of 250 ms. -/
def refintTicks (n : Nat) : Nat := n * 250 * tickMs

/-- This node's REFINT in 250 ms. -/
def refintOwn (s : State) : Nat := cfgMilli s timeObj "REFINT" / 250

/-- Parts per million in 2^-32, rounded to nearest. -/
def ppmRate (ppm : Int) : Int := roundDiv (ppm * 4294967296) 1000000

/-! ### Text -/

/-- Decimals of a second without trailing zeros: `n` ten-billionths. -/
def fracChars : Nat → Nat → List Char
  | 0, _ => []
  | k + 1, n => if n = 0 then [] else Char.ofNat (48 + n / 1000000000 % 10) :: fracChars k (n % 1000000000 * 10)

/-- An instant as TIME.STEP names it. -/
def isoStr (net : Int) : String :=
  let secs := (net / netSec).toNat
  let c := civil (secs / 86400)
  let t := secs % 86400
  let f := (net % netSec).toNat * 125
  dateStr c.1 c.2.1 c.2.2 ++ "T" ++ padStr 2 (t / 3600) ++ ":" ++ padStr 2 (t / 60 % 60) ++ ":" ++ padStr 2 (t % 60)
    ++ (if f = 0 then "" else "." ++ String.ofList (fracChars 10 f))

def qualName (q : Nat) : String := ["INVALID", "FREE", "HOLDOVER", "LOCKED"].getD q "-"

/-! ### Quality and uncertainty (R548, R549) -/

/-- The part of a slew that has been applied at the present tick, in 2^-32 of 12.5 ns. -/
def slewDone (s : State) : Int := 10 * ((s.now : Int) - s.tim.slewAt) * s.tim.slew

/-- θ not yet applied, of a slew or a decided step, in 12.5 ns. -/
def thetaRem (s : State) : Int :=
  match s.tim.step with
  | some p => p.theta / 5
  | none => if s.tim.slewEnd.isNone then 0 else s.tim.slewTheta / 5 - slewDone s / 4294967296

/-- Reported uncertainty in 12.5 ns. -/
def timeUnc (s : State) : Nat :=
  s.tim.us + (thetaRem s).natAbs + 10 * (s.now - s.tim.ts) * (cfgInt s timeObj "DRIFT" 10000).toNat / 10000000

def timeUncUs (s : State) : Nat := timeUnc s / 80

def holdLim (s : State) : Int := (cfgInt s timeObj "HOLDLIM" 1000000000) * netSec

/-- The quality that the sources and the anchor instant give. -/
def timeQual (s : State) : Nat :=
  if s.tim.quality = 0 then 0
  else if s.tim.bus && s.tim.good = 4 && !s.tim.isMaster then 3
  else if timeNow s < s.tim.anchor + holdLim s then 2 else 1

/-- The crystal term of R564, zero while LOCKED and before the first sample acted on. -/
def holdTerm (s : State) : Int :=
  match s.tim.temp, s.tim.tempLock with
  | some t, some l =>
    if s.tim.quality = 3 then 0
    else roundDiv (Config.xtc * ((t - 2500) * (t - 2500) - (l - 2500) * (l - 2500)) * 4294967296) 10000000000000000000
  | _, _ => 0

def holdRefresh (s : State) : State :=
  let h := holdTerm s
  if h = s.tim.hold then s else { timeRebase s with tim := { (timeRebase s).tim with hold := h } }

/-- The quality follows. -/
def qualRefresh (s : State) : State := holdRefresh { s with tim := { s.tim with quality := timeQual s } }

/-- A change of quality is noticed (R564). -/
def qualNote (s : State) : State :=
  if s.tim.quality = s.tim.qualNoted then s
  else notify { s with tim := { s.tim with qualNoted := s.tim.quality } } "TIME.QUALITY" none ("QUALITY=" ++ qualName s.tim.quality ++ " UNC=" ++ natStr (timeUncUs s) ++ "us")

def sourceNote (s : State) (st : String) : State := notify s "TIME.SOURCE" none ("SOURCE=BUS STATE=" ++ st)

/-! ### The RTC (R565, R573) -/

/-- The RTC written, with what the Pilot domain stores beside it. -/
def rtcWrite (s : State) : State :=
  if s.tim.quality = 0 || s.pwr.pilot != .normal || xFailing s 196 then s
  else { s with tim := { s.tim with rtcBase := (timeNow s).toNat * 32768 / 80000000, rtcAt := s.now, tAlign := timeNow s, uAlign := timeUnc s, rtcAnchor := s.tim.anchor }, pwr := { s.pwr with rtcValid := true } }

/-- The next whole minute after the present network time. -/
def nextMinute (s : State) : Int := (netSecs s / 60 + 1) * 60 * netSec

/-- RTC_WRITE: at the second boundary of each whole minute. -/
def execRtcWrite (s : State) : Host.Outcome State Fault Refusal :=
  .next (if !coreRuns s then s
    else atTick s (s.tim.rtcDue.map (tickOf s)) fun s =>
      { rtcWrite s with tim := { (rtcWrite s).tim with rtcDue := some (nextMinute s) } })

/-! ### Slew and step (R558 to R560, R575 to R577) -/

def slewMax (s : State) : Int := (cfgInt s timeObj "SLEWMAX" 100000) * 4294967296 / 1000000

/-- S for an offset: θ over REFINT, never beyond SLEWMAX. -/
def slewRate (s : State) (theta : Int) : Int :=
  let r := roundDiv (theta * 4294967296) (refintOwn s * 100000000)
  max (-(slewMax s)) (min (slewMax s) r)

/-- The slew of an offset begins. -/
def slewStart (s : State) (theta : Int) : State :=
  let s := timeRebase s
  let v := slewRate s theta
  if v = 0 then { s with tim := { s.tim with slew := 0, slewEnd := none, step := none } }
  else
    let ticks := (theta.natAbs * 4294967296 + 50 * v.natAbs - 1) / (50 * v.natAbs)
    { s with tim := { s.tim with slew := v, slewTheta := theta, slewAt := s.now, slewEnd := some (s.now + ticks), step := none } }

/-- A step is decided: it waits for the next second boundary. -/
def stepDecide (s : State) (theta anchor : Int) : State :=
  let s := timeRebase s
  { s with tim := { s.tim with slew := 0, slewEnd := none, step := some ⟨theta, netSecs s + 1, anchor⟩ } }

/-- An offset applied by R558 or R559; whether it slews. -/
def slews (s : State) (theta : Int) : Bool := theta.natAbs ≤ 20000000 && s.tim.quality != 0

/-- An offset from a source, with its anchor instant: it holds at once with a slew, and with the step otherwise. -/
def offsetApply (s : State) (theta anchor : Int) : State :=
  if slews s theta then slewStart { s with tim := { s.tim with anchor := anchor } } theta else stepDecide s theta anchor

/-- SLEW_COMPLETE: the whole of θ has been applied, and no more. -/
def execSlewComplete (s : State) : Host.Outcome State Fault Refusal :=
  .next (atTick s s.tim.slewEnd fun s =>
    let over_ := slewDone s - s.tim.slewTheta * 4294967296 / 5
    let s := timeRebase s
    { s with tim := { s.tim with base := s.tim.base - over_, slew := 0, slewEnd := none } })

/-- The next instant at which the fraction of network time is 0.5 s (R551). -/
def nextHalf (s : State) : Int := ((timeNow s - netSec / 2) / netSec + 1) * netSec + netSec / 2

/-- A pulse (R561): the pad, the label and the record. -/
def pulse (s : State) : State :=
  match s.tim.pulseDue with
  | none => s
  | some n =>
    let on := cfgOn s timeObj "PULSE"
    let s := { s with tim := { s.tim with pulseHigh := on, label := n.toNat, pulseAt := some s.now, pulseEnd := if on then some (n * netSec + 8000000) else none, pulseDue := some (n + 1) } }
    arrive s 196 1 (some (mono s)) .none

/-- The level of the TPULSE pad, high or low, as PULSEPOL sets it. -/
def tpulseHigh (s : State) : Bool := s.tim.pulseHigh != cfgIs s timeObj "PULSEPOL" "LOW"

/-- PULSE_START: the second boundary of the next label. -/
def execPulseStart (s : State) : Host.Outcome State Fault Refusal :=
  .next (if !coreRuns s || s.pwr.committed then s
    else atTick s (s.tim.pulseDue.map fun n => tickOf s (n * netSec)) pulse)

/-- PULSE_END: 100 ms of network time later. -/
def execPulseEnd (s : State) : Host.Outcome State Fault Refusal :=
  .next (atTick s (s.tim.pulseEnd.map (tickOf s)) fun s => { s with tim := { s.tim with pulseHigh := false, pulseEnd := none } })

/-- The labels that a step leaves out or repeats: the first and the last (Table TIM-6). -/
def stepLabels (l theta : Int) : Int × Int × Int :=
  let new := l * 400000000 + theta
  if 0 ≤ theta then
    let next := (new + 200000000 + 399999999) / 400000000
    (next, l + 1, next - 1)
  else ((new + 400000000 + 399999999) / 400000000, new / 400000000 + 1, l)

def stepText (l theta : Int) : String :=
  let p := stepLabels l theta
  if p.2.2 < p.2.1 then ""
  else (if 0 ≤ theta then " SKIPPED=" else " REPEATED=") ++ isoStr (p.2.1 * netSec) ++ ".." ++ isoStr (p.2.2 * netSec)

/-- A step applied at its second boundary: the pulse due there has its old label. -/
def stepApply (p : StepPend) (s : State) : State :=
  let s := if s.tim.pulseDue = some p.label then pulse s else s
  let q := stepLabels p.label p.theta
  let base := p.label * netSec * 4294967296 + p.theta * 4294967296 / 5
  let t := s.tim
  let t := { t with base := base, refTick := s.now, step := none, stepped := some (p.label * netSec, p.label * netSec + p.theta / 5, stepText p.label p.theta), pulseDue := t.pulseDue.map fun _ => q.1, pulseEnd := t.pulseEnd.map (· + p.theta / 5), nSteps := satInc 0xFFFF t.nSteps, nLabels := min 0xFFFF (t.nLabels + (q.2.2 + 1 - q.2.1).toNat), held := t.held.map fun h => (h.1, h.2 - p.theta), refs := t.refs.map fun r => { r with net := r.net + p.theta / 5 } }
  let s := { s with tim := t }
  let s :=
    if s.tim.quality = 0 then { s with tim := { s.tim with quality := 2, ts := s.now, anchor := timeNow s } }
    else { s with tim := { s.tim with anchor := p.anchor + p.theta / 5 } }
  let to_ := (timeNow s / netSec).toNat
  let sched (x : SchedSt) : SchedSt := if 0 < p.theta then { x with jumpTo := to_ } else { x with upTo := some to_ }
  let s := { s with clm := { s.clm with scheds := s.clm.scheds.map fun (x : Nat × SchedSt) => (x.1, sched x.2) } }
  let s := qualRefresh { s with pwr := { s.pwr with timeLost := false }, tim := { s.tim with refDue := s.tim.refDue.map fun _ => nextHalf s, rtcDue := some (nextMinute s) } }
  rtcWrite s

/-- TIME_STEP: the step decided is applied at t_b. -/
def execTimeStep (s : State) : Host.Outcome State Fault Refusal :=
  .next (if !coreRuns s then s
    else match s.tim.step with
      | some p => atTick s (some (tickOf s (p.label * netSec))) (stepApply p)
      | none => s)

/-! ### Election (R553, R554, R579) -/

def timeRole (s : State) : String := cfgWord s timeObj "ROLE"

/-- The node takes part in the exchange. -/
def timeTakesPart (s : State) : Bool := timeRole s != "OFF" && nodeAddr s != 0

/-- This node is a candidate. -/
def isCandidate (s : State) : Bool :=
  timeTakesPart s && timeRole s != "SLAVE" && s.tim.quality != 0 && s.ana.mode != .quiet

/-- A candidate ranks before another: role, PRIO, node. -/
def candBefore (a b : Bool × Nat × Nat) : Bool :=
  if a.1 != b.1 then a.1 else if a.2.1 != b.2.1 then a.2.1 < b.2.1 else a.2.2 < b.2.2

def candKey (c : TimeCand) : Bool × Nat × Nat := (c.master, c.prio, c.node)
def ownKey (s : State) : Bool × Nat × Nat := (timeRole s = "MASTER", cfgNat s timeObj "PRIO", nodeAddr s)

/-- A candidate heard within 3 of its REFINT. -/
def candHeard (s : State) (c : TimeCand) : Bool := s.now < c.at_ + 3 * refintTicks c.refint

/-- The best candidate heard. -/
def bestCand (s : State) : Option TimeCand :=
  (s.tim.cands.filter (candHeard s)).foldl (fun b c =>
    match b with | none => some c | some x => if candBefore (candKey c) (candKey x) then some c else some x) none

def masterNote (s : State) : State :=
  if s.tim.isMaster then notifyLate s "TIME.MASTER" none ("NODE=" ++ natStr (nodeAddr s) ++ " ROLE=MASTER")
  else notifyLate s "TIME.MASTER" none ("NODE=" ++ (match s.tim.follow with | some n => natStr n | none => "NONE") ++ " ROLE=SLAVE")

/-- The master to follow (R554). -/
def followOf (s : State) : Option Nat :=
  if s.tim.isMaster || !timeTakesPart s || timeRole s = "MASTER" then none else (bestCand s).map (·.node)

/-- The node follows the best candidate; a change starts acquisition afresh. -/
def followRefresh (s : State) : State :=
  let f := followOf s
  if f = s.tim.follow then s
  else masterNote { s with tim := { s.tim with follow := f, acq := false, held := none } }

/-- A loaded frame has begun: known of one whose attempt has ended, and a free value of another, for no command tells the
start of an SOF bit (R509). -/
def txBegun (s : State) (p : Nat × TxBuf) : Bool := p.2.begun || (freeBits 8 s).getLsbD p.1

/-- No further TIMEREF is sent: one loaded and not begun is withdrawn from TB0. -/
def timerefStops (s : State) : State :=
  let held (p : Nat × TxBuf) : Bool := match p.2.what with | .timeref _ => p.1 = 0 && !txBegun s p | _ => false
  let s := drawn { s with bus := { s.bus with tbs := s.bus.tbs.filter fun p => !held p } }
  { s with tim := { s.tim with isMaster := false, refDue := none } }

/-- The node sends no more TIMEREF. -/
def masterStops (s : State) : State := if s.tim.isMaster then masterNote (timerefStops s) else s

/-- The candidacy follows the configuration and the quality. -/
def candRefresh (s : State) : State :=
  if isCandidate s then { s with tim := { s.tim with candSince := some (s.tim.candSince.getD s.now) } }
  else masterStops { s with tim := { s.tim with candSince := none } }

/-- The instant at which this node claims: no better candidate heard for 3 × REFINT + NODE × 20 ms. -/
def claimAt (s : State) : Option Nat :=
  if s.tim.isMaster then none
  else s.tim.candSince.map fun t =>
    (s.tim.cands.filter fun c => candBefore (candKey c) (ownKey s)).foldl (fun a c => max a c.at_) t + 3 * refintTicks (refintOwn s) + nodeAddr s * 20 * tickMs

/-- MASTER_CLAIM. -/
def execMasterClaim (s : State) : Host.Outcome State Fault Refusal :=
  .next (if !isCandidate s || !coreRuns s then s
    else atTick s (claimAt s) fun s =>
      let s := { s with tim := { s.tim with isMaster := true, follow := none, acq := false, held := none, refDue := some (nextHalf s) } }
      masterNote (qualRefresh s))

/-- FOLLOWED_MASTER_UNHEARD: nothing heard for 3 of the sender's REFINT. -/
def execFollowedMasterUnheard (s : State) : Host.Outcome State Fault Refusal :=
  .next (match s.tim.follow with
    | none => s
    | some n =>
      match s.tim.cands.find? (·.node = n) with
      | some c => atTick s (some (c.at_ + 3 * refintTicks c.refint)) followRefresh
      | none => s)

/-! ### The reference exchange (R550 to R552) -/

/-- An Aravo identifier (Table BUS-5). -/
def aravoId (prio kind dest src sub : Nat) : BitVec 29 :=
  BitVec.ofNat 29 (prio * 67108864 + kind * 1048576 + dest * 16384 + src * 256 + sub)

/-- The controller can transmit. -/
def busSends (s : State) : Bool :=
  s.bus.joined && !s.bus.asleep && !s.bus.busOff && !cfgOn s busObj "LISTEN" && !s.pwr.committed

/-- Bytes of a number, at most `w` of them, saturating. -/
def satBytes (w n : Nat) : List Byte := bytesBE w (min n (256 ^ w - 1))

/-- TIMEREF's data (Table TIM-4). -/
def timerefData (s : State) (sq : Nat) : List Byte :=
  [BitVec.ofNat 8 sq, BitVec.ofNat 8 ((if timeRole s = "MASTER" then 1 else 0) + 4 * s.tim.quality), BitVec.ofNat 8 (cfgNat s timeObj "PRIO"), BitVec.ofNat 8 (refintOwn s)] ++ satBytes 4 (timeUncUs s)

/-- TIMEFUP's data for a SOF at a network time. -/
def timefupData (sq : Nat) (net : Int) : List Byte :=
  let f := (net % netSec).toNat
  BitVec.ofNat 8 (sq + 16 * (f % 10)) :: bytesBE 4 (net / netSec).toNat ++ bytesBE 3 (f / 10)

def tb0Load (s : State) (kind : Nat) (data : List Byte) (what : TxWhat) : State :=
  { s with bus := { s.bus with tbs := tset s.bus.tbs 0 { f := { ident := aravoId 0 kind 0 (nodeAddr s) 0, data := data }, what := what, at_ := mono s } } }

/-- TIMEREF_SEND: the master's reference instant. -/
def execTimerefSend (s : State) : Host.Outcome State Fault Refusal :=
  .next (if !s.tim.isMaster || !coreRuns s then s
    else atTick s (s.tim.refDue.map (tickOf s)) fun s =>
      let sq := (s.tim.outSeq + 1) % 16
      let due := s.tim.refDue.map (· + (refintOwn s : Int) * 20000000)
      let s := { s with tim := { s.tim with outSeq := sq, refDue := due } }
      if busSends s then tb0Load s 0x18 (timerefData s sq) (.timeref sq) else s)

/-- The TIMEREF has reached the success point: SENT through X196, and the TIMEFUP is loaded. -/
def timerefSent (s : State) (sq sof sub : Nat) : State :=
  let s := arrive s 196 4 (some sof) .none
  tb0Load s 0x19 (timefupData sq (netAt s (s.rel + sof) + sub)) .timefup

/-- A reject through X196. -/
def timeReject (s : State) (sof : Nat) : State :=
  arrive { s with tim := { s.tim with nRejects := satInc 0xFFFF s.tim.nRejects } } 196 3 (some sof) .none

def byteAt (l : List Byte) (n : Nat) : Nat := (l.getD n 0).toNat

/-- TIMEREF's layout. -/
def timerefOk (l : List Byte) : Bool :=
  l.length = 8 && byteAt l 0 < 16 && byteAt l 1 &&& 0xF2 = 0 && 1 ≤ byteAt l 3 && byteAt l 3 ≤ 40

/-- The sender's announcement is heard. -/
def candHear (s : State) (src : Nat) (data : List Byte) : State :=
  let c : TimeCand := { node := src, master := (byteAt data 1).testBit 0, prio := byteAt data 2, refint := byteAt data 3, qual := byteAt data 1 / 4 % 4, unc := natBE (data.drop 4), at_ := s.now }
  let s := { s with tim := { s.tim with cands := c :: s.tim.cands.filter (·.node != src) } }
  let s := if s.tim.isMaster && candBefore (candKey c) (ownKey s) then
      let s := timerefStops s
      masterNote { s with tim := { s.tim with follow := followOf s, acq := false, held := none } }
    else s
  followRefresh s

/-- TIME takes frames of the bus: the node takes part, and the controller is awake. -/
def timeHears (s : State) : Bool := timeTakesPart s && s.bus.joined && !s.bus.asleep && coreRuns s && s.ana.mode != .quiet

/-- TIMEREF_RECEIVED: stamped at its SOF, tick `sof` and sub-tick `sub`. -/
def execTimerefReceived (src : Fin 64) (data : List Byte) (sof : Nat) (sub : Fin 10) (s : State) : Host.Outcome State Fault Refusal :=
  .next (if !timeHears s then s
    else if !timerefOk data then timeReject s sof
    else
      let old := s.tim.refs.find? (·.src = src.val)
      let r : TimeRef := { src := src.val, sq := byteAt data 0, at_ := s.now, sof := sof, net := netAt s (s.rel + sof) + sub.val }
      let s := match old with | some o => timeReject s o.sof | none => s
      let s := { s with tim := { s.tim with refs := r :: s.tim.refs.filter (·.src != src.val) } }
      candHear s src.val data)

/-- TIMEFUP's layout. -/
def timefupOk (l : List Byte) : Bool := l.length = 8 && byteAt l 0 / 16 < 10 && natBE (l.drop 5) < 8000000

/-- The time that a TIMEFUP carries. -/
def timefupNet (l : List Byte) : Int :=
  (natBE ((l.drop 1).take 4) : Int) * netSec + 10 * (natBE (l.drop 5) : Int) + (byteAt l 0 / 16 : Nat)

/-- PROPDLY in 2.5 ns. -/
def propDly (s : State) : Int := (cfgInt s timeObj "PROPDLY" 10) * 4

/-- A matched pair gives a sample. -/
def sampleForm (s : State) (r : TimeRef) (data : List Byte) : State :=
  let c := (s.tim.cands.find? (·.node = r.src)).getD ⟨r.src, false, 0, 4, 0, 0, s.now⟩
  let theta := 5 * (timefupNet data - r.net) + propDly s
  let s := { s with tim := { s.tim with refs := s.tim.refs.filter (·.src != r.src) } }
  let w := 16777216 * r.sq + 65536 * ((if c.master then 1 else 0) + 4 * c.qual) + 256 * c.prio + c.refint
  let s := arrive s 196 2 (some r.sof) (.sample theta w)
  if (xcell s 196).cur = some 2 then { s with tim := { s.tim with samples := s.tim.samples ++ [⟨r.src, theta, c.unc, c.refint, s.now⟩] } } else s

/-- TIMEFUP_RECEIVED. -/
def execTimefupReceived (src : Fin 64) (data : List Byte) (s : State) : Host.Outcome State Fault Refusal :=
  .next (if !timeHears s then s
    else match (if timefupOk data then s.tim.refs.find? (fun r => r.src = src.val && r.sq = byteAt data 0 % 16 && s.now ≤ r.at_ + 100 * tickMs) else none) with
      | some r => sampleForm s r data
      | none => timeReject s (mono s))

/-! ### The servo (R555 to R557) -/

/-- F after a sample. -/
def freqStep (s : State) (theta : Int) : State :=
  if thetaUs * 1000 < theta.natAbs || s.tim.step.isSome then s
  else
    let f := s.tim.freq + roundDiv (theta * 4294967296) (8 * refintOwn s * 100000000)
    let s := timeRebase s
    { s with tim := { s.tim with freq := max (-429496) (min 429496 f) } }

/-- A sample acted on. -/
def sampleAct (s : State) (m : TimeSmp) : State :=
  let t := s.tim
  let good := if m.theta.natAbs ≤ 10 * thetaUs then min 4 (t.good + 1) else 0
  let s := { s with tim := { t with us := 80 * (m.unc + 1), ts := s.now, acted := some s.now, actedRef := m.refint, bus := true, tempLock := t.temp, offset := m.theta, nSamples := satInc 0xFFFF t.nSamples, good := good, held := some (m.src, m.theta) } }
  let was := s.tim.quality
  let s := qualNote (qualRefresh (freqStep (offsetApply s m.theta (timeNow s)) m.theta))
  if was != 3 && s.tim.quality = 3 then sourceNote s "LOCKED" else s

/-- Samples agree within 1 ms. -/
def agrees (s : State) (m : TimeSmp) : Bool :=
  match s.tim.held with
  | some (n, th) => n = m.src && (m.theta - th).natAbs ≤ thetaUs * 1000
  | none => false

/-- A delivered sample. -/
def sampleTake (s : State) (m : TimeSmp) : State :=
  if s.tim.follow != some m.src then s
  else if !s.tim.acq then sourceNote { s with tim := { s.tim with acq := true, held := some (m.src, m.theta) } } "ACQUIRING"
  else if agrees s m then sampleAct s m
  else { s with tim := { s.tim with held := some (m.src, m.theta) } }

/-- The keeper takes the oldest sample, where it has been delivered. -/
def sampleStep (s : State) : State :=
  match s.tim.samples with
  | m :: l => if m.at_ < epochTick s s.epoch then sampleTake { s with tim := { s.tim with samples := l } } m else s
  | [] => s

/-- TIME_SAMPLE: the boundary takes the samples delivered with it before lines are accepted (R574); one that is still there
is taken now. -/
def execTimeSample (s : State) : Host.Outcome State Fault Refusal := .next (if coreRuns s then sampleStep s else s)

/-- The source is lost: F is held, and a slew runs on. -/
def sourceLost (s : State) : State :=
  if !s.tim.bus then s
  else qualNote (qualRefresh (sourceNote { s with tim := { s.tim with bus := false, acq := false, held := none, acted := none, good := 0 } } "LOST"))

/-- TIME_SOURCE_LOST: no sample acted on for 5 of the master's REFINT. -/
def execTimeSourceLost (s : State) : Host.Outcome State Fault Refusal :=
  .next (if !s.tim.bus || !coreRuns s then s
    else atTick s (s.tim.acted.map (· + 5 * refintTicks s.tim.actedRef)) sourceLost)

/-- HOLDLIM_EXPIRY: its notice comes at the next boundary. -/
def execHoldlimExpiry (s : State) : Host.Outcome State Fault Refusal :=
  .next (if s.tim.quality != 2 || !coreRuns s then s
    else atTick s (some (tickOf s (s.tim.anchor + holdLim s))) fun s => { s with tim := { s.tim with quality := 1 } })

/-! ### TIME SET (R205, R569, R574) -/

def timeSetBody (y mo d h mi sec : Nat) (unc : Option Nat) : String :=
  bodyOf ["TIME SET", dateStr y mo d, todStr (h * 3600 + mi * 60 + sec), "UTC", (match unc with | some u => "UNC=" ++ natStr u ++ "ms" | none => "")]

/-- The checks of the command below. -/
def timeSetSpec (q : Hdr) (y mo d h mi sec : Nat) (unc : Option Nat) (s : State) : CmdSpec :=
  let bad := y < 2000 || mo < 1 || 12 < mo || d < 1 || monthDays y mo < d || 23 < h || 59 < mi || 59 < sec
  let u := unc.getD 1000
  { verb := "TIME", body := timeSetBody y mo d h mi sec unc, need := verbNeed "TIME", audit := some 15, auditLate := true, p67 := if bad then some "RANGE" else if u < 1 || 60000 < u then some "RANGE LO=1ms HI=60s STEP=1ms" else none, p9 := worldFail s q.ses .time, p10 := if s.tim.quality = 3 then some "STATE" else none }

/-- TIME SET. -/
def execTimeSet (q : Hdr) (y mo d h mi sec : Nat) (unc : Option Nat) (s : State) : Host.Outcome State Fault Refusal :=
  let u := unc.getD 1000
  let at_ := epochTick s s.epoch
  let theta := ((dayOf y mo d : Int) * 86400 + (h * 3600 + mi * 60 + sec : Nat)) * 400000000 - 5 * netAt s at_
  .next (lineIn (.timeSet q y mo d h mi sec unc) q s fun s => submit s q (timeSetSpec q y mo d h mi sec unc s)
    fun s _ => (s, .effect (s.epoch + 1) (.timeSet theta at_ u) ""))

/-- KEEPER takes the instant: the slew begins, or a step is decided. -/
def timeSetApply (s : State) (theta : Int) (at_ unc : Nat) : State :=
  let s := { s with tim := { s.tim with manual := true, us := unc * 80000, ts := at_, good := 0, offset := theta } }
  rtcWrite (qualNote (qualRefresh (offsetApply s theta (netAt s at_))))

/-- The final line of TIME SET. -/
def timeSetDone (s : State) : String := "DONE QUALITY=" ++ qualName s.tim.quality

/-! ### Starts, modes and boundaries (R560, R563, R566, R570) -/

/-- Network time at a start. -/
def timeRestart (s : State) : State :=
  let o := s.tim
  let fine := rtcFine s
  let t : Tim := { rtcBase := o.rtcBase, rtcAt := o.rtcAt, tAlign := o.tAlign, uAlign := o.uAlign, rtcAnchor := o.rtcAnchor, refTick := s.now, ts := s.now }
  if s.pwr.rtcValid && !s.pwr.timeLost then
    let net : Int := (fine * 80000000 / 32768 : Nat)
    let us := o.uAlign + (net - o.tAlign).toNat * (cfgInt s timeObj "RTCDRIFT" 100000).toNat / 1000000 + 31 * 80
    let s := { s with tim := { t with base := net * 4294967296, us := us, anchor := o.rtcAnchor, rtc := true, quality := 1 } }
    let q := timeQual s
    { s with tim := { s.tim with quality := q, qualNoted := q, rtcDue := some (nextMinute s) } }
  else { s with tim := t }

/-- The configuration has been read: TPULSE starts at the next second boundary. -/
def timeConfigured (s : State) : State := candRefresh { s with tim := { s.tim with pulseDue := some (netSecs s + 1) } }

/-- The commit to shutdown: the pad becomes inactive at once. -/
def timeCommit (s : State) : State := { s with tim := { s.tim with pulseHigh := false, pulseEnd := none, pulseDue := none } }

/-- Entry to QUIET: a master stops, and the source of a slave is lost. -/
def timeQuietEntry (s : State) : State :=
  let s := sourceLost s
  let s := masterStops { s with tim := { s.tim with candSince := none } }
  followRefresh { s with tim := { s.tim with cands := [], refs := [], samples := [] } }

/-- At each boundary: the notice of a step, changes of quality, and the candidacy. -/
def timeBoundary (s : State) : State :=
  let s := match s.tim.stepped with
    | some (o, n, l) => notify { s with tim := { s.tim with stepped := none } } "TIME.STEP" none ("OLD=" ++ isoStr o ++ " NEW=" ++ isoStr n ++ l)
    | none => s
  let s := qualNote (s.tim.samples.foldl (fun s _ => sampleStep s) s)
  let s := candRefresh s
  if s.tim.step.isSome then s
  else (s.vil.outs.filter fun o => o.work = .timeStep).foldl (fun s o => finish s o.id (timeSetDone s)) s

/-- A delivery of K152, the temperature of the core die. -/
def timeDeliver (s : State) (r : Rec) : State :=
  if r.x = 152 && !payEmpty r.pay then holdRefresh { s with tim := { s.tim with temp := some r.val } } else s

/-- After a change of the configuration. -/
def timeAfter (old s : State) : State :=
  if old.cfg = s.cfg then s
  else
    let s := if timeTakesPart s then s else { s with tim := { s.tim with cands := [], refs := [], samples := [] } }
    let s := if cfgVal old timeObj "ROLE" != cfgVal s timeObj "ROLE" || cfgVal old busObj "NODE" != cfgVal s busObj "NODE" then masterStops { s with tim := { s.tim with candSince := none } } else s
    let s := if cfgOn s timeObj "PULSE" then s else { s with tim := { s.tim with pulseHigh := false, pulseEnd := none } }
    qualRefresh (followRefresh (candRefresh s))

/-! ### Civil time (R567, R568) -/

/-- A date rule of a TZ string. -/
inductive TzDay where
  | julian (n : Nat)
  | zero (n : Nat)
  | week (m w d : Nat)
  deriving DecidableEq, Repr

/-- The summer part of a TZ string: name, offset east in seconds, start and end with their times. -/
structure TzDst where
  name : String
  off : Int
  from_ : TzDay
  fromAt : Nat
  to_ : TzDay
  toAt : Nat
  deriving DecidableEq, Repr

structure Tz where
  name : String
  off : Int
  dst : Option TzDst
  deriving DecidableEq, Repr

/-- A zone's name: letters, or a quoted form in angle brackets; three characters at least. -/
def tzName : List Char → Option (String × List Char)
  | '<' :: l =>
    let p := spanChars (fun c => isLetter c || isDigit c || c = '+' || c = '-') l
    match p.2 with
    | '>' :: r => if 3 ≤ p.1.length then some (String.ofList p.1, r) else none
    | _ => none
  | l =>
    let p := spanChars isLetter l
    if 3 ≤ p.1.length then some (String.ofList p.1, p.2) else none

def tzNum (l : List Char) : Option (Nat × List Char) :=
  let p := spanChars isDigit l
  if p.1.isEmpty || 4 < p.1.length then none else some (digitsVal p.1 0, p.2)

/-- `h[:m[:s]]` in seconds. -/
def tzHms (l : List Char) : Option (Nat × List Char) :=
  match tzNum l with
  | none => none
  | some (h, ':' :: r) =>
    match tzNum r with
    | none => none
    | some (m, ':' :: r') =>
      match tzNum r' with
      | some (sec, q) => if m < 60 && sec < 60 then some (h * 3600 + m * 60 + sec, q) else none
      | none => none
    | some (m, q) => if m < 60 then some (h * 3600 + m * 60, q) else none
  | some (h, q) => some (h * 3600, q)

/-- An offset: west is positive in the string, east in the result. -/
def tzOff (l : List Char) : Option (Int × List Char) :=
  let body (neg : Bool) (r : List Char) : Option (Int × List Char) :=
    match tzHms r with
    | some (v, q) => if v ≤ 89999 then some (if neg then (v : Int) else -(v : Int), q) else none
    | none => none
  match l with
  | '-' :: r => body true r
  | '+' :: r => body false r
  | r => body false r

def tzDay (l : List Char) : Option (TzDay × List Char) :=
  match l with
  | 'J' :: r => match tzNum r with | some (n, q) => if 1 ≤ n && n ≤ 365 then some (.julian n, q) else none | none => none
  | 'M' :: r =>
    match tzNum r with
    | some (m, '.' :: r1) =>
      match tzNum r1 with
      | some (w, '.' :: r2) =>
        match tzNum r2 with
        | some (d, q) => if 1 ≤ m && m ≤ 12 && 1 ≤ w && w ≤ 5 && d ≤ 6 then some (.week m w d, q) else none
        | none => none
      | _ => none
    | _ => none
  | r => match tzNum r with | some (n, q) => if n ≤ 365 then some (.zero n, q) else none | none => none

/-- A date with its time, 2:00:00 where none is given. -/
def tzRule (l : List Char) : Option ((TzDay × Nat) × List Char) :=
  match tzDay l with
  | some (d, '/' :: r) => match tzHms r with | some (t, q) => if t ≤ 86400 then some ((d, t), q) else none | none => none
  | some (d, q) => some ((d, 7200), q)
  | none => none

/-- The two rules after the names and offsets. -/
def tzRules (std : String × Int) (name : String) (off : Int) (l : List Char) : Option Tz :=
  match l with
  | ',' :: r =>
    match tzRule r with
    | some (a, ',' :: r') =>
      match tzRule r' with
      | some (b, []) => some ⟨std.1, std.2, some ⟨name, off, a.1, a.2, b.1, b.2⟩⟩
      | _ => none
    | _ => none
  | _ => none

/-- A TZ string read; `none` where it is not of the forms of R567. -/
def tzParse (t : String) : Option Tz :=
  match tzName t.toList with
  | none => none
  | some (n, r) =>
    match tzOff r with
    | none => none
    | some (o, []) => some ⟨n, o, none⟩
    | some (o, r') =>
      match tzName r' with
      | none => none
      | some (dn, ',' :: q) => tzRules (n, o) dn (o + 3600) (',' :: q)
      | some (dn, q) => match tzOff q with | some (dof, q') => tzRules (n, o) dn dof q' | none => none

/-- The weekday of a day since 2000-01-01, Sunday 0. -/
def weekday (day : Nat) : Nat := (day + 6) % 7

/-- The day of a rule in a year. -/
def tzDayOf (y : Nat) : TzDay → Nat
  | .julian n => dayOf y 1 1 + n - 1 + (if leapYear y && 60 ≤ n then 1 else 0)
  | .zero n => dayOf y 1 1 + n
  | .week m w d =>
    let first := dayOf y m 1
    let day := first + (d + 7 - weekday first) % 7 + 7 * (w - 1)
    if first + monthDays y m ≤ day then day - 7 else day

/-- The offset east of UTC, and the zone's name, at a network time in seconds. -/
def tzAt (z : Tz) (utc : Int) : Int × String :=
  match z.dst with
  | none => (z.off, z.name)
  | some d =>
    let y := (civil (((utc + z.off) / 86400).toNat)).1
    let a := (tzDayOf y d.from_ : Int) * 86400 + d.fromAt - z.off
    let b := (tzDayOf y d.to_ : Int) * 86400 + d.toAt - d.off
    let on := if a < b then a ≤ utc && utc < b else !(b ≤ utc && utc < a)
    if on then (d.off, d.name) else (z.off, z.name)

/-- The TZ rule in force. -/
def tzOf (s : State) : Tz :=
  (match cfgVal s timeObj "TZ" with | .str t :: _ => tzParse t | _ => none).getD ⟨"UTC", 0, none⟩

/-- Civil time in seconds since 2000-01-01. -/
def civilOf (s : State) (utc : Int) : Nat := (utc + (tzAt (tzOf s) utc).1).toNat

/-! ### Attributes and registers (R582, R583) -/

def timeLockCode (s : State) : Nat := if s.tim.quality = 3 then 2 else if s.tim.acq then 1 else 0

def timeSource (s : State) : String :=
  if s.tim.bus then "BUS" ++ (match s.tim.follow with | some n => "," ++ natStr n | none => "")
  else if s.tim.manual then "MANUAL" else if s.tim.rtc then "RTC" else "NONE"

/-- θ in ns. -/
def thetaNs (theta : Int) : Int := roundDiv (theta * 5) 2
def ratePpb (r : Int) : Int := roundDiv (r * 1000000000) 4294967296

def timeAttr (s : State) (a : String) : String :=
  let t := s.tim
  if a = "UTC" then (if t.quality = 0 then "-" else utcStr (utcSeconds s))
  else if a = "CIVIL" then (if t.quality = 0 then "-" else utcStr (civilOf s (netSecs s)) ++ "," ++ (tzAt (tzOf s) (netSecs s)).2)
  else if a = "QUALITY" then qualName t.quality
  else if a = "UNC" then (if t.quality = 0 then "-" else natStr (timeUncUs s) ++ "us")
  else if a = "SOURCE" then timeSource s
  else if a = "LOCK" then ["NONE", "ACQUIRING", "LOCKED"].getD (timeLockCode s) "-"
  else if a = "MASTER" then (if t.isMaster then "SELF" else match t.follow with | some n => natStr n | none => "NONE")
  else if a = "OFFSET" then milliStr (thetaNs t.offset) 3 ++ "us"
  else if a = "FREQ" then milliStr (ratePpb t.freq) 3 ++ "ppm"
  else milliStr (Config.xtc / 1000000) 3 ++ "ppm"

/-- A signed value that saturates at `w` bits. -/
def satSigned (w : Nat) (v : Int) : Int := max (-(2 ^ (w - 1) : Nat)) (min ((2 ^ (w - 1) : Nat) - 1) v)

/-- TIME (Table TIM-11). -/
def timeReg (s : State) (off : Nat) : Option Word :=
  let t := s.tim
  if off = 0x00 then
    some (fieldWord [(0, 2, t.quality), (2, 2, timeLockCode s), (4, 3, idxOf ["OFF", "SLAVE", "MASTER", "AUTO"] (timeRole s)), bit 7 t.isMaster, bit 8 t.slewEnd.isSome, bit 9 t.step.isSome, bit 10 (cfgOn s timeObj "PULSE"), (16, 6, t.follow.getD 0)])
  else if off = 0x04 then some (BitVec.ofNat 32 (utcSeconds s))
  else if off = 0x08 then some (BitVec.ofNat 32 t.frac)
  else if off = 0x0C then some (if t.quality = 0 then 0xFFFFFFFF else BitVec.ofNat 32 (min 0xFFFFFFFF (timeUncUs s)))
  else if off = 0x10 then some (BitVec.ofInt 32 (satSigned 32 (thetaNs t.offset)))
  else if off = 0x14 then some (BitVec.ofInt 32 (ratePpb (t.freq + t.slew)))
  else if off = 0x18 then some (BitVec.ofInt 32 (ratePpb t.freq))
  else if off = 0x1C then some (BitVec.ofNat 32 t.label)
  else if off = 0x20 then some (fieldWord [(0, 16, t.nSamples), (16, 16, t.nRejects)])
  else if off = 0x24 then some (fieldWord [(0, 16, t.nSteps), (16, 16, t.nLabels)])
  else if off = 0x28 then
    some (fieldWord [(0, 8, cfgNat s timeObj "PRIO"), (8, 6, refintOwn s), (16, 10, (cfgInt s timeObj "PROPDLY" 10).toNat)])
  else if off = 0x2C then some (BitVec.ofNat 32 (t.anchor / netSec).toNat)
  else if off = 0x3C then some 0
  else none

/-- TIME_SEC_LATCH: a read of TIME_SEC latches TIME_FRAC. -/
def timeLatch (s : State) : State := { s with tim := { s.tim with frac := (timeNow s % netSec).toNat / 10 } }
def execTimeSecLatch (s : State) : Host.Outcome State Fault Refusal := .next (timeLatch s)

/-- TIME_CLR. -/
def timeClr (s : State) : State := { s with tim := { s.tim with nSamples := 0, nRejects := 0, nSteps := 0, nLabels := 0 } }
def execTimeClr (v : Word) (s : State) : Host.Outcome State Fault Refusal := .next (if v.getLsbD 0 then timeClr s else s)

end Sys2Proof.Machine
end

