-- ==== Sys2Proof/Machine/Climate.lean ====
section
/-!
DEFINITION. Climate (*Zones, loops and schedules*): binary64 arithmetic (R463), inputs (R453, R461, R462), the periods and
the deadline rule (R456, R457), the kinds of loop (R463 to R470), the issue of outputs (R455, R460), zones (R472 to
R475), schedules (R477 to R481) and the modes (R482, R483).
-/
namespace Sys2Proof.Machine
open Sys2Proof

/-! ### binary64 (R463) -/

/-- Trailing zeros of a mantissa go into the exponent. -/
def f64Strip : Nat → Nat → Int → F64
  | 0, m, e => ⟨m, e⟩
  | n + 1, m, e => if m % 2 = 0 then f64Strip n (m / 2) (e + 1) else ⟨m, e⟩

def f64Neg (a : F64) : F64 := ⟨-a.m, a.e⟩

/-- `n / d` of natural numbers to nearest, ties to even. -/
def nearEven (n d : Nat) : Nat :=
  let q := n / d
  let r := 2 * (n % d)
  if d < r || (r = d && q % 2 = 1) then q + 1 else q

/-- The value `n / d` rounded to 53 bits, with the subnormal limit. -/
def f64Pos (n d : Nat) : F64 :=
  let e0 : Int := (n.log2 : Int) - d.log2 - 52
  let scaled (e : Int) : Nat × Nat := if 0 ≤ e then (n, d * 2 ^ e.toNat) else (n * 2 ^ (-e).toNat, d)
  let s0 := scaled e0
  let e := max (-1074) (if s0.1 / s0.2 < 4503599627370496 then e0 - 1 else e0)
  let m := nearEven (scaled e).1 (scaled e).2
  if m = 0 then {} else f64Strip 60 m e

/-- A fraction as binary64. -/
def f64Of (n : Int) (d : Nat) : F64 :=
  if n = 0 || d = 0 then {} else if n < 0 then f64Neg (f64Pos n.natAbs d) else f64Pos n.natAbs d

/-- `m * 2^e` as a fraction. -/
def f64Num (a : F64) : Int := if 0 ≤ a.e then a.m * 2 ^ a.e.toNat else a.m
def f64Den (a : F64) : Nat := if 0 ≤ a.e then 1 else 2 ^ (-a.e).toNat

def f64Add (a b : F64) : F64 := f64Of (f64Num a * f64Den b + f64Num b * f64Den a) (f64Den a * f64Den b)
def f64Sub (a b : F64) : F64 := f64Add a (f64Neg b)
def f64Mul (a b : F64) : F64 := f64Of (f64Num a * f64Num b) (f64Den a * f64Den b)

/-- A quotient by a value that is not zero. -/
def f64Div (a b : F64) : F64 :=
  let n := f64Num a * f64Den b * (if b.m < 0 then -1 else 1)
  f64Of n (f64Den a * (f64Num b).natAbs)

def f64Lt (a b : F64) : Bool := f64Num a * f64Den b < f64Num b * f64Den a
def f64Le (a b : F64) : Bool := f64Num a * f64Den b ≤ f64Num b * f64Den a
def f64Max (a b : F64) : F64 := if f64Lt a b then b else a
def f64Min (a b : F64) : F64 := if f64Lt b a then b else a
def f64Nat (n : Nat) : F64 := f64Of n 1

/-- A percentage in 0.01 %, ties away from zero. -/
def f64Cent (a : F64) : Nat := (roundDiv (f64Num a * 100) (f64Den a)).toNat

/-- An attribute in its base unit. -/
def cfgF (s : State) (o : Obj) (a : String) : F64 := f64Of ((cfgNano s o a).getD 0) 1000000000

/-! ### Objects -/

def schedObj (n : Nat) : Obj := ⟨.sched, n⟩
def loopSt (s : State) (l : Nat) : LoopSt := tget {} s.clm.loops l
def setLoop (s : State) (l : Nat) (x : LoopSt) : State := { s with clm := { s.clm with loops := tset s.clm.loops l x } }
def modLoop (s : State) (l : Nat) (f : LoopSt → LoopSt) : State := setLoop s l (f (loopSt s l))
def zoneSt (s : State) (z : Nat) : ZoneSt := tget {} s.clm.zones z
def setZone (s : State) (z : Nat) (x : ZoneSt) : State := { s with clm := { s.clm with zones := tset s.clm.zones z x } }
def schedSt (s : State) (n : Nat) : SchedSt := tget {} s.clm.scheds n
def setSched (s : State) (n : Nat) (x : SchedSt) : State := { s with clm := { s.clm with scheds := tset s.clm.scheds n x } }

def loopKind (s : State) (l : Nat) : String := cfgWord s (loopObj l) "KIND"
def loopZone (s : State) (l : Nat) : Option Nat := (cfgObj s (loopObj l) "ZONE").map (·.n)

/-! ### Inputs (R453, R454) -/

/-- A temperature of a channel as binary64. -/
def tempF (s : State) (x : Nat) (v beta : Int) : Option F64 := (chanBits s 44 x v beta).map fun t => f64Of t 17592186044416

/-- The record a consumer takes a value from: an empty record carries the crossing's current value, and none where nothing
has been delivered yet (R329). -/
def xTaken (s : State) (x : Nat) : Option Rec :=
  (xCurrent s x).filter fun r => !(payEmpty r.pay && !recFails r && (xcell s x).cur.isNone)

/-- A DRY crossing reads closed when the snapshot's MAX is 1; a record with a substitute, or of a peek, has its value. -/
def dryClosed (r : Rec) : Bool :=
  match r.pay with
  | .churn n _ _ m => if n = 0 || recFails r then r.val = 1 else m = 1
  | _ => r.val = 1

/-- The crossing of a zone's temperature. -/
def zoneX (s : State) (z : Nat) : Option Nat := (cfgObj s (zoneObj z) "TEMP").map (·.n)

/-- The temperature that a zone's crossing delivered last. -/
def zoneTemp (s : State) (z : Nat) : Option F64 :=
  match zoneX s z with
  | some x => (xTaken s x).bind fun r => tempF s x r.val (cfgNat s (zoneObj z) "TEMP.BETA")
  | none => none

/-- D of a counter's records of one KIND. -/
def ctDiff (s : State) (b kind : Nat) : Option Nat :=
  match tget {} s.clm.cts (8 * b + kind) with
  | ⟨some p, some c, _⟩ =>
    let m := 2 ^ (16 * (chainOf s b).length)
    some ((c + m - p % m) % m)
  | _ => none

/-- The value of a counter input: K × D of SAMPLE records, K / D of the others; a division by 0 is a free value. -/
def counterF (s : State) (n : Nat) (k : F64) : Option F64 :=
  let b := chainBottom s n
  let kind := tget 0 s.clm.ctKind b
  match ctDiff s b kind with
  | none => none
  | some d =>
    if kind = 1 then some (f64Mul k (f64Nat d))
    else if d = 0 then some (f64Of (freeBits 32 s).toInt 65536)
    else some (f64Div k (f64Nat d))

/-- A crossing's delivered value in the engineering units of the input `name` of a loop. -/
def inputF (s : State) (l : Nat) (name : String) (x : Nat) : Option F64 :=
  let o := loopObj l
  if 160 ≤ x then counterF s (x - 160) (cfgF s o (name ++ ".K"))
  else (xTaken s x).bind fun r =>
    if chanMode s x = "V10IN" then
      let lo := cfgF s o (name ++ ".LO")
      some (f64Add lo (f64Div (f64Mul (f64Sub (cfgF s o (name ++ ".HI")) lo) (f64Of (r.val * 16) 100000)) (f64Nat 10)))
    else if chanMode s x = "DRY" then some (f64Nat (if dryClosed r then 1 else 0))
    else tempF s x r.val (cfgNat s o (name ++ ".BETA"))

/-- The inputs of a kind, numbered as `LoopSt.stale` numbers them. -/
def inputName (n : Nat) : String := ["PV", "SOLAR", "WIND", "OUTDOOR", "AQ", "ZONE", "DOOR"].getD n "-"

/-- The crossing of an input. -/
def inputX (s : State) (l n : Nat) : Option Nat :=
  let zx := (loopZone s l).bind (zoneX s)
  if n = 5 then zx
  else match cfgObj s (loopObj l) (inputName n) with
    | some o => if o.kind = .drive then none else some o.n
    | none => if cfgIs s (loopObj l) (inputName n) "ZONE" then zx else none

/-- The inputs that a kind of loop takes (Table CLM-1). -/
def kindInputs (k : String) : List Nat :=
  if k = "SHADE" then [1, 2, 3, 5] else if k = "VENT" then [4, 3, 5] else if k = "CURTAIN" then [6, 3, 5]
  else if k = "OFF" then [] else [0]

def loopInputsUsed (s : State) (l : Nat) : List Nat := (kindInputs (loopKind s l)).filter fun n => (inputX s l n).isSome

/-- An input is the zone's temperature, or reads a crossing of its own. -/
def inputVal (s : State) (l n : Nat) : Option F64 :=
  if n = 5 || cfgIs s (loopObj l) (inputName n) "ZONE" then (loopZone s l).bind (zoneTemp s)
  else (inputX s l n).bind (inputF s l (inputName n))

/-- A crossing in a failure episode, as delivered. -/
def seenFails (s : State) (x : Nat) : Bool := (xCurrent s x).any recFails

/-- A crossing's last record was an empty snapshot. -/
def seenEmpty (s : State) (x : Nat) : Bool := (xCurrent s x).any fun r => payEmpty r.pay

/-! ### Zones (R472 to R476) -/

def zoneModes : List String := ["COMFORT", "ECONOMY", "PROTECT", "OFF"]
def zoneModeName (n : Nat) : String := zoneModes.getD n "-"

/-- The setpoint of a zone's effective mode, in 10^-9 °C. -/
def zoneSp (s : State) (z : Nat) (heat : Bool) : Int :=
  let o := zoneObj z
  let c := if heat then "HEAT" else "COOL"
  match (zoneSt s z).eff.getD 0 with
  | 0 => (cfgNano s o ("C" ++ c)).getD 0 + (cfgNano s o "SHIFT").getD 0
  | 1 => (cfgNano s o ("E" ++ c)).getD 0
  | _ => (cfgNano s o ("P" ++ c)).getD 0

/-- A PRES crossing is stale. -/
def presStale (s : State) (z : Nat) : Bool := (cfgObjs s (zoneObj z) "PRES").any fun o => seenFails s o.n

def zoneOccupied (s : State) (z : Nat) : Bool := presStale s z || (zoneSt s z).occUntil.any (s.now < ·)

/-- A mode as presence changes it (R474). -/
def presChanges (s : State) (z m : Nat) : Nat :=
  let a := cfgWord s (zoneObj z) "PRESACT"
  if (cfgObjs s (zoneObj z) "PRES").isEmpty then m
  else if zoneOccupied s z then (if m = 1 && (a = "BOOST" || a = "BOTH") then 0 else m)
  else if m = 0 && (a = "SAVE" || a = "BOTH") then 1 else m

def zoneSched (s : State) (z : Nat) : Option Nat := (cfgObj s (zoneObj z) "SCHED").map (·.n)

/-- A schedule's value as a mode. -/
def schedMode (s : State) (n : Nat) : Nat :=
  match (schedSt s n).value with | some (.word w) => idxOf zoneModes w | _ => 0

/-- The effective mode and the row of R473 that gives it; 6 where presence changed it. -/
def zoneDecides (s : State) (z : Nat) : Nat × Nat :=
  let o := zoneObj z
  let m := cfgWord s o "MODE"
  let pres (base row : Nat) : Nat × Nat := (presChanges s z base, if presChanges s z base = base then row else 6)
  if m != "AUTO" then (idxOf zoneModes m, 1)
  else if (zoneSt s z).ovrEnd.isSome && !cfgIs s o "OVERRIDE" "NONE" then (idxOf zoneModes (cfgWord s o "OVERRIDE"), 2)
  else match zoneSched s z with
    | some n => if s.tim.quality = 0 then (idxOf zoneModes (cfgWord s o "NOTIMEMODE"), 3) else pres (schedMode s n) 4
    | none => pres 0 5

def causeWord (n : Nat) : String := ["-", "MODE", "OVERRIDE", "NOTIME", "SCHED", "COMFORT", "PRES"].getD n "-"

/-- Zones and schedules are evaluated in every mode but OFF and START (R482), and not before R292 allows. -/
def climRuns (s : State) : Bool := coreRuns s && !modeIs s [.off, .start]

/-- A zone that something names: its mode is configured, or a loop has it. -/
def zoneStarts (s : State) (z : Nat) : Bool := climRuns s && (s.cnv.calFirst || (zoneNames s z).isEmpty)

/-- A zone in OFF: the channels of its loops go to OUTLO (R476). -/
def outObjs (s : State) (l port : Nat) : List Obj := cfgObjs s (loopObj l) (if port = 0 then "OUT" else if port = 1 then "OUT2" else "FANV")

/-- A channel's output written, one epoch later through KEEPER where CHAN is secure (R232); in BENCH and REPLAY the outputs
stay where they are (Table ANA-6). -/
def loopChannel (s : State) (u pct : Nat) : State :=
  if modelOnly s then s
  else if blockS s 10 then { s with clm := { s.clm with writes := s.clm.writes ++ [(s.epoch + 1, u, pct)] } } else setOutput s u pct

def loopPct (s : State) (l : Nat) (a : String) : Nat := 100 * cfgPct s (loopObj l) a

/-- Every channel of a loop takes a value. -/
def loopChannels (s : State) (l pct : Nat) : State :=
  ([0, 1, 2].flatMap (outObjs s l)).foldl (fun s o => if o.kind = .chan then loopChannel s o.n pct else s) s

/-- A zone's effective mode is evaluated; a change is noticed. -/
def zoneEval (s : State) (z : Nat) : State :=
  if !zoneStarts s z then s
  else
    let d := zoneDecides s z
    let x := zoneSt s z
    let s := setZone s z { x with eff := some d.1, cause := d.2 }
    if x.eff = some d.1 then s
    else
      let s := if d.1 = 3 then ((usedLoops s).filter fun l => loopZone s l = some z).foldl (fun s l => loopChannels s l (loopPct s l "OUTLO")) s else s
      if x.eff = none && zoneNames s z = [] && (zoneSched s z).isNone && d.2 = 5 then s
      else notifyLate s "CLM.MODE" (some (zoneObj z)) ("MODE=" ++ zoneModeName d.1 ++ " CAUSE=" ++ causeWord d.2)

/-- An override is set: its timer starts; NONE ends it (R475). -/
def overrideSet (s : State) (z : Nat) : State :=
  let o := zoneObj z
  setZone s z { zoneSt s z with ovrEnd := if cfgIs s o "OVERRIDE" "NONE" then none else some (s.now + cfgTicks s o "OVRT") }

/-- An override ends other than by SET. -/
def overrideEnd (s : State) (z : Nat) : State :=
  if (zoneSt s z).ovrEnd.isNone then s
  else
    let s := { setZone s z { zoneSt s z with ovrEnd := none } with cfg := cfgSet s.cfg (zoneObj z, "OVERRIDE") (wv "NONE") }
    notifyLate s "CLM.OVERRIDE-END" (some (zoneObj z))

/-- OVERRIDE_EXPIRY. -/
def execOverrideExpiry (z : Fin 24) (s : State) : Host.Outcome State Fault Refusal :=
  .next (if !coreRuns s then s else atTick s (zoneSt s z).ovrEnd fun s => zoneEval (overrideEnd s z) z)

/-- OCCUPANCY_EXPIRY. -/
def execOccupancyExpiry (z : Fin 24) (s : State) : Host.Outcome State Fault Refusal :=
  .next (if !coreRuns s then s
    else atTick s (zoneSt s z).occUntil fun s => zoneEval (setZone s z { zoneSt s z with occUntil := none }) z)

/-! ### Schedules (R477 to R481) -/

/-- The day programs' values and times. -/
def programPoints (s : State) (n : Nat) (day : String) : List (Nat × Item) :=
  let o := schedObj n
  let ts := (cfgVal s o day).filterMap fun i => match i with | .tod t => some t | _ => none
  let vs := cfgVal s o (day ++ "V")
  if vs = wv "NONE" then [] else ts.zip vs

/-- Whether an exception covers a day. -/
def exCovers (s : State) (n day : Nat) (ex : String) : Bool :=
  match cfgVal s (schedObj n) ex with
  | [.date y m d] => dayOf y m d = day
  | [.date y m d, .date y' m' d'] => dayOf y m d ≤ day && day ≤ dayOf y' m' d'
  | _ => false

/-- The program of a civil date (R477): the lowest exception that covers it, or its weekday. -/
def dayProgram (s : State) (n day : Nat) : String :=
  match exNames.find? (exCovers s n day) with
  | some ex => cfgWord s (schedObj n) (ex ++ "D")
  | none => dayNames.getD ((weekday day + 6) % 7) "MON"

def dayPoints (s : State) (n day : Nat) : List (Nat × Item) := programPoints s n (dayProgram s n day)

/-- The instant of a civil time of day on its date (R478, R479), in network seconds: the first occurrence, or the change
that leaves it out. -/
def civilInstant (z : Tz) (day tod : Nat) : Int :=
  let loc : Int := day * 86400 + tod
  match z.dst with
  | none => loc - z.off
  | some d =>
    let a := loc - max z.off d.off
    let b := loc - min z.off d.off
    if a + (tzAt z a).1 = loc then a
    else if b + (tzAt z b).1 = loc then b
    else
      let y := (civil day).1
      let c1 := (tzDayOf y d.from_ : Int) * 86400 + d.fromAt - z.off
      let c2 := (tzDayOf y d.to_ : Int) * 86400 + d.toAt - d.off
      if a ≤ c1 && c1 ≤ b then c1 else c2

/-- A point of a schedule: its day, time of day, value and instant. -/
structure SPoint where
  day : Nat
  tod : Nat
  val : Item
  at_ : Int

def pointsOn (s : State) (n day : Nat) : List SPoint :=
  (dayPoints s n day).map fun p => ⟨day, p.1, p.2, civilInstant (tzOf s) day p.1⟩

/-- The last point due at or before an instant, looking back over earlier dates. -/
def lastDue (s : State) (n : Nat) (t : Int) : Nat → Nat → Option SPoint
  | 0, _ => none
  | k + 1, day =>
    match ((pointsOn s n day).filter fun p => p.at_ ≤ t).getLast? with
    | some p => some p
    | none => if day = 0 then none else lastDue s n t k (day - 1)

/-- The first point due after an instant, looking over later dates. -/
def nextDue (s : State) (n : Nat) (t : Int) : Nat → Nat → Option SPoint
  | 0, _ => none
  | k + 1, day =>
    match (pointsOn s n day).find? fun p => t < p.at_ with
    | some p => some p
    | none => nextDue s n t k (day + 1)

/-- Days that an exception and a week can span. -/
def lookDays : Nat := 6000

def civilDay (s : State) : Nat := civilOf s (netSecs s) / 86400

def schedValueNow (s : State) (n : Nat) : Option Item := (lastDue s n (netSecs s) lookDays (civilDay s)).map (·.val)

def usedScheds (s : State) : List Nat := (List.range 16).filter fun n => s.cfg.any fun p => p.1.1 = schedObj n

def schedPos (s : State) (n : Nat) : Bool := cfgIs s (schedObj n) "KIND" "POS"

/-- The position of a POS value in 0.01 %. -/
def itemPos : Item → Nat | .num v => (v / 10000000).toNat | _ => 0

/-- A POS schedule issues a point to its drives. -/
def posIssue (s : State) (n : Nat) (v : Item) : State :=
  (cfgObjs s (schedObj n) "DRIVES").foldl (fun s o => placeOrder s o.n { src := 17, rank := 0, srcNo := n, target := itemPos v, epoch := s.epoch + 1 }) s

/-- A point lies no more than CATCHUP before the present. -/
def withinCatchup (s : State) (n : Nat) (p : SPoint) : Bool :=
  match cfgNano s (schedObj n) "CATCHUP" with
  | some v => netSecs s - p.at_ ≤ v / 1000000000
  | none => false

/-- Points due since they were last looked at, and not yet fired, in order. -/
def duePoints (s : State) (n : Nat) : List SPoint :=
  let x := schedSt s n
  let d := civilDay s
  ((if d = 0 then [0] else [d - 1, d]).flatMap (pointsOn s n)).filter fun p =>
    p.at_ ≤ netSecs s && (match x.upTo with | some u => (u : Int) < p.at_ | none => false) && !x.fired.contains (p.day, p.tod)

/-- Points that have fired are remembered for their dates, and the points up to now have been looked at. -/
def markFired (s : State) (n : Nat) (l : List SPoint) : State :=
  let x := schedSt s n
  setSched s n { x with fired := (l.map fun p => (p.day, p.tod)) ++ x.fired, upTo := some (netSecs s).toNat }

/-- The value of a MODE schedule is that of the last switch point due (R478). -/
def modeValue (s : State) (n : Nat) : State :=
  if schedPos s n then s else setSched s n { schedSt s n with value := schedValueNow s n }

/-- Overrides that end at the next point of the schedule do so first (R475, R487). -/
def overridesEnd (s : State) (n : Nat) : State :=
  ((List.range 24).filter fun z => zoneSched s z = some n && cfgIs s (zoneObj z) "OVREND" "NEXT").foldl overrideEnd s

/-- The points due fire: every one of a MODE schedule; of a POS schedule each in turn, but of those that a forward step of
time has passed over the last alone, and within CATCHUP (R479). -/
def schedFire (s : State) (n : Nat) : State :=
  let l := duePoints s n
  if !schedPos s n then
    let s := modeValue (markFired s n l) n
    if l.isEmpty then s else overridesEnd s n
  else
    let to_ : Int := (schedSt s n).jumpTo
    let jumped := l.filter fun p => p.at_ ≤ to_
    let fires := (jumped.getLast?.toList.filter (withinCatchup s n)) ++ l.filter fun p => to_ < p.at_
    fires.foldl (fun s p => posIssue (setSched s n { schedSt s n with value := some p.val }) n p.val) (markFired s n fires)

/-- A schedule fires: time is valid, and it is not suspended. -/
def schedFires (s : State) (n : Nat) : Bool := !modeIs s [.quiet] && s.tim.quality != 0 && !(schedSt s n).suspended

/-- SWITCH_POINT: the boundary fires a point at its instant; a point that is due and has not fired fires now. -/
def execSwitchPoint (n : Fin 16) (s : State) : Host.Outcome State Fault Refusal :=
  .next (if !climRuns s || !schedFires s n then s else (List.range 24).foldl zoneEval (schedFire s n))

/-- Network time has become valid (R480): the schedule takes its value; a POS schedule catches up. -/
def schedResume (s : State) (n : Nat) : State :=
  let last := lastDue s n (netSecs s) lookDays (civilDay s)
  let x := schedSt s n
  let s := setSched s n { x with suspended := false, value := last.map (·.val), upTo := some (netSecs s).toNat }
  match last with
  | some p =>
    if schedPos s n && p.day = civilDay s && withinCatchup s n p && !x.fired.contains (p.day, p.tod) then posIssue (markFired s n [p]) n p.val
    else s
  | none => s

/-- One schedule at a boundary: it resumes, or its points due fire. -/
def schedStep (s : State) (n : Nat) : State :=
  if (schedSt s n).suspended then schedResume s n else if schedFires s n then schedFire s n else s

/-- The schedules at a boundary. -/
def schedsStep (s : State) : State :=
  if s.tim.quality = 0 then
    let s := (usedScheds s).foldl (fun s n => setSched s n { schedSt s n with suspended := true }) s
    if s.clm.noTime then s
    else notifyLate { s with clm := { s.clm with noTime := true } } "CLM.NOTIME"
  else
    let s := { s with clm := { s.clm with noTime := false } }
    (usedScheds s).foldl schedStep s

/-- The earliest switch point due among all schedules (R481), in network seconds. -/
def nextSwitch (s : State) : Option Int :=
  if s.tim.quality = 0 then none
  else (usedScheds s).foldl (fun b n =>
    match nextDue s n (match (schedSt s n).upTo with | some u => (u : Int) | none => netSecs s) 400 (civilDay s - 1) with
    | some p => (match b with | some t => some (min t p.at_) | none => some p.at_)
    | none => b) none

/-! ### PI and TWOPOS (R463, R464) -/

/-- One PI part: I and u before the rounding. -/
def piStep (s : State) (l : Nat) (kp ti : String) (i e : F64) : F64 × F64 :=
  let o := loopObj l
  let k := cfgF s o kp
  let ic := match cfgNano s o ti with
    | none => ({} : F64)
    | some v => f64Add i (f64Div (f64Mul (f64Mul k e) (f64Of (loopPeriod s l) 1000)) (f64Of v 1000000000))
  let u := f64Add (f64Mul k e) ic
  let hi := cfgF s o "OUTHI"
  let lo := cfgF s o "OUTLO"
  let up := if f64Lt hi u then (if f64Lt {} e then i else ic, hi) else (ic, u)
  if f64Lt up.2 lo then (if f64Lt e {} then i else up.1, lo) else up

/-- The fan of a CURTAIN loop runs in the zone (R469). -/
def fanRuns (s : State) (l : Nat) : Bool :=
  match loopZone s l with
  | some z => (usedLoops s).any fun c => loopKind s c = "CURTAIN" && loopZone s c = some z && (loopSt s c).fan
  | none => false

/-- The heat output with the feedforward of an open door. -/
def feedForward (s : State) (l : Nat) (u : F64) : F64 :=
  if fanRuns s l then f64Min (cfgF s (loopObj l) "OUTHI") (f64Add u (cfgF s (loopObj l) "FFHEAT")) else u

/-- The setpoint of a loop: its own, or its zone's. -/
def loopSp (s : State) (l : Nat) (heat : Bool) : Option F64 :=
  if cfgIs s (loopObj l) "SP" "ZONE" then (loopZone s l).map fun z => f64Of (zoneSp s z heat) 1000000000
  else some (cfgF s (loopObj l) "SP")

/-- The output boundary of a computation released now, at which every change of state takes effect (R456). -/
def outAt (s : State) (l : Nat) : Nat := s.now + tickMs * cfgMilli s (loopObj l) "DEADLINE"

/-- TWOPOS: the switch with its least times on and off, at the time it takes effect. -/
def twoStep (s : State) (l at_ : Nat) (c : LoopCore) (e diff : F64) : LoopCore :=
  let o := loopObj l
  let half := f64Div diff (f64Nat 2)
  let since (a : String) : Bool := match c.twoAt with | some t => t + cfgTicks s o a ≤ at_ | none => true
  if !c.two && f64Le half e && since "MINOFF" then { c with two := true, twoAt := some at_ }
  else if c.two && f64Le e (f64Neg half) && since "MINON" then { c with two := false, twoAt := some at_ }
  else c

/-! ### The computations of a period -/

/-- What a computation gives: the state to commit and the outputs. -/
abbrev Comp := LoopCore × List LoopOut

def heatAction (s : State) (l : Nat) : Bool := cfgIs s (loopObj l) "ACTION" "HEAT"

def errOf (heat : Bool) (sp pv : F64) : F64 := if heat then f64Sub sp pv else f64Sub pv sp

def piLoop (s : State) (l : Nat) (c : LoopCore) (pv : F64) : Option Comp :=
  (loopSp s l (heatAction s l)).map fun sp =>
    let p := piStep s l "KP" "TI" c.i (errOf (heatAction s l) sp pv)
    let u := if heatAction s l then feedForward s l p.2 else p.2
    ({ c with i := p.1 }, [⟨0, f64Cent u, none, 0, false⟩])

def twoLoop (s : State) (l : Nat) (c : LoopCore) (pv : F64) : Option Comp :=
  (loopSp s l (heatAction s l)).map fun sp =>
    let c := twoStep s l (outAt s l) c (errOf (heatAction s l) sp pv) (cfgF s (loopObj l) "DIFF")
    (c, [⟨0, loopPct s l (if c.two then "OUTHI" else "OUTLO"), none, 0, false⟩])

/-- SEQ: one part is at rest while the other is above 0 %. -/
def seqLoop (s : State) (l : Nat) (c : LoopCore) (pv : F64) : Option Comp :=
  match loopZone s l with
  | none => none
  | some z =>
    let sp (heat : Bool) : F64 := f64Of (zoneSp s z heat) 1000000000
    let ph := piStep s l "KP" "TI" c.i (f64Sub (sp true) pv)
    let uh := f64Cent (feedForward s l ph.2)
    let pc := piStep s l "KPC" "TIC" c.i2 (f64Sub pv (sp false))
    let uc := f64Cent pc.2
    let out (h u : Nat) : List LoopOut := [⟨0, h, none, 0, false⟩, ⟨1, u, none, 0, false⟩]
    if 0 < c.heat then some ({ c with i := ph.1, i2 := {}, heat := uh, cool := 0 }, out uh 0)
    else if 0 < c.cool then some ({ c with i := {}, i2 := pc.1, heat := 0, cool := uc }, out 0 uc)
    else if 0 < uh then some ({ c with i := ph.1, i2 := {}, heat := uh, cool := 0 }, out uh 0)
    else some ({ c with i := ph.1, i2 := pc.1, heat := 0, cool := uc }, out 0 uc)

/-- A demand within limits in %. -/
def limitF (lo hi u : F64) : F64 := f64Max lo (f64Min hi u)

/-- The opening demand of the air quality: the bounds may be equal, where the quotient has no value. -/
def aqDemand (s : State) (l : Nat) (aq : F64) : F64 :=
  let ppm (a : String) : F64 := f64Of ((cfgNano s (loopObj l) a).getD 0) 100000
  let num := f64Mul (f64Nat 100) (f64Sub aq (ppm "AQLO"))
  let den := f64Sub (ppm "AQHI") (ppm "AQLO")
  if den.m = 0 then (if num.m = 0 then f64Of ((freeBits 14 s).toNat % 10001 : Nat) 100 else if num.m < 0 then {} else f64Nat 100)
  else limitF {} (f64Nat 100) (f64Div num den)

/-- VENT (R466). -/
def ventLoop (s : State) (l : Nat) (c : LoopCore) : Comp :=
  let o := loopObj l
  let aq := match inputVal s l 4 with | some v => aqDemand s l v | none => {}
  let fc := match loopZone s l, inputVal s l 5, inputVal s l 3 with
    | some z, some t, some out =>
      if f64Le (f64Sub (f64Of (zoneSp s z false) 1000000000) (cfgF s o "FCBAND")) t && f64Le out (f64Sub t (cfgF s o "FCDELTA")) then cfgF s o "FCPOS" else {}
    | _, _, _ => {}
  let u := f64Min (f64Max aq fc) (cfgF s o "MAXOPEN")
  let u := match inputVal s l 3 with
    | some out => if f64Lt out (cfgF s o "COLDLIM") then f64Min u (cfgF s o "COLDMAX") else u
    | none => u
  (c, [⟨0, f64Cent (limitF (cfgF s o "OUTLO") (cfgF s o "OUTHI") u), none, 0, false⟩])

/-- A state that has held in every computation for a time. -/
def heldFor (s : State) (l : Nat) (since : Option Nat) (a : String) : Bool :=
  match since with | some t => t + cfgTicks s (loopObj l) a ≤ outAt s l | none => false

def sinceWhen (at_ : Nat) (on : Bool) (t : Option Nat) : Option Nat := if on then some (t.getD at_) else none

/-- The delays of SHADE (R470). -/
def shadeTimers (s : State) (l : Nat) (c : LoopCore) : LoopCore :=
  let o := loopObj l
  let sol := inputVal s l 1
  let cmp (f : F64 → Bool) : Bool := match sol with | some v => f v | none => false
  let c := { c with darkSince := sinceWhen (outAt s l) (cmp fun v => f64Lt v (cfgF s o "DARK")) c.darkSince, sunSince := sinceWhen (outAt s l) (cmp fun v => f64Le (cfgF s o "SUNON") v) c.sunSince, dimSince := sinceWhen (outAt s l) (cmp fun v => f64Le v (cfgF s o "SUNOFF")) c.dimSince }
  let c := { c with sun := if c.sun then !heldFor s l c.dimSince "SUNOFFDLY" else heldFor s l c.sunSince "SUNDLY" }
  let blow := (loopSt s l).stale.contains 2 || (match inputVal s l 2 with | some v => f64Le (cfgF s o "WINDRET") v | none => false)
  if blow then { c with wind := true, calmSince := none }
  else if c.wind then
    let c := { c with calmSince := sinceWhen (outAt s l) true c.calmSince }
    if heldFor s l c.calmSince "WINDDLY" then { c with wind := false, calmSince := none } else c
  else c

/-- The situation of Table CLM-2: 1 WIND to 7 IDLE. -/
def situation (s : State) (l : Nat) (c : LoopCore) : Nat :=
  let o := loopObj l
  let dark := heldFor s l c.darkSince "DARKDLY"
  let t := inputVal s l 5
  let sp := (loopZone s l).map fun z => f64Of (zoneSp s z true) 1000000000
  let atLeast (a : String) : Bool := match t, sp with | some v, some p => f64Le (f64Add p (cfgF s o a)) v | _, _ => false
  let below (a : String) : Bool := match t, sp with | some v, some p => f64Lt v (f64Add p (cfgF s o a)) | _, _ => false
  let cool := match t, inputVal s l 3 with | some v, some out => f64Le out (f64Sub v (cfgF s o "NCDELTA")) | _, _ => false
  let occ := match loopZone s l with | some z => zoneOccupied s z | none => false
  let glare := match inputVal s l 1 with | some v => f64Le (cfgF s o "GLAREON") v | none => false
  if c.wind then 1
  else if dark && cfgOn s o "NCOOL" && atLeast "NCBAND" && cool then 2
  else if dark && below "NCBAND" then 3
  else if occ && glare then 4
  else if c.sun && atLeast "SUNBAND" then 5
  else if c.sun && below "SUNBAND" then 6
  else 7

def situationName (n : Nat) : String := ["-", "WIND", "NIGHTCOOL", "NIGHT", "GLARE", "SUN", "GAIN", "IDLE"].getD n "-"

/-- SHADE. -/
def shadeLoop (s : State) (l : Nat) (c : LoopCore) : Comp :=
  let c := shadeTimers s l c
  let n := situation s l c
  let c := { c with situ := n }
  let pos (a : String) (t : Option Nat) : List LoopOut := [⟨0, loopPct s l a, t, 0, false⟩]
  let tilt (a : String) : Option Nat := some (cfgPct s (loopObj l) a)
  (c, if n = 1 then [⟨0, 0, none, 2, false⟩] else if n = 2 then pos "NCPOS" none else if n = 3 then pos "NIGHTPOS" none
    else if n = 4 then pos "GLAREPOS" (tilt "GLARETILT") else if n = 5 then pos "SUNPOS" (tilt "SUNTILT")
    else if n = 6 then [⟨0, 0, none, 0, false⟩]
    else if cfgIs s (loopObj l) "IDLEPOS" "NONE" then [] else pos "IDLEPOS" none)

/-! ### CURTAIN (R467, R468) -/

/-- The door is open; a contact whose record is stale, but for STALEACT SUBST, or has no value leaves it as it was. -/
def doorOpen (s : State) (l : Nat) : Bool :=
  match cfgObj s (loopObj l) "DOOR" with
  | some o =>
    if o.kind = .drive then
      (posNow s o.n).1 < 10000 || (match (drOf s o.n).order with | some r => !r.stop && !r.learn && r.target < (posNow s o.n).1 | none => false)
    else match xTaken s o.n with
      | some r => if recFails r && !cfgIs s (loopObj l) "STALEACT" "SUBST" then (loopSt s l).door else !dryClosed r
      | none => (loopSt s l).door
  | none => false

/-- The fan's speed. -/
def fanSpeed (s : State) (l : Nat) (out : F64) : Nat :=
  let o := loopObj l
  let lo := cfgF s o "FANLO"
  let hi := cfgF s o "FANHI"
  let mild := cfgF s o "OUTMILD"
  f64Cent (limitF lo hi (f64Add lo (f64Div (f64Mul (f64Sub hi lo) (f64Sub mild out)) (f64Sub mild (cfgF s o "OUTCOLD")))))

/-- R467 with the inputs delivered last, taking effect at a time. -/
def curtainLoop (s : State) (l at_ : Nat) (c : LoopCore) (fan : Bool) : Comp :=
  if !fan then
    ({ c with two := false, twoAt := if c.two then some at_ else c.twoAt }, [⟨0, 0, none, 0, false⟩, ⟨1, 0, none, 0, false⟩, ⟨2, 0, none, 0, false⟩])
  else
    let c := match inputVal s l 5 with
      | some t => twoStep s l at_ c (f64Sub (cfgF s (loopObj l) "HEATSP") t) (cfgF s (loopObj l) "HEATDIFF")
      | none => c
    let heat : LoopOut := ⟨1, loopPct s l (if c.two then "OUTHI" else "OUTLO"), none, 0, false⟩
    (c, [⟨0, 10000, none, 0, false⟩, heat] ++ (match inputVal s l 3 with | some out => [⟨2, fanSpeed s l out, none, 0, false⟩] | none => []))

/-! ### Issue (R455, R460) -/

/-- The position that an output gives a drive. -/
def driveTarget (s : State) (l : Nat) (o : LoopOut) (d : Nat) : Nat :=
  let k := driveKind s d
  let safe := moveTarget s d .safe
  if o.safe = 2 || (o.safe = 1 && k != "ANALOG") then safe
  else if k = "SINGLE" then (if o.u < 5000 then 0 else 10000)
  else if k = "ANALOG" || loopKind s l != "VENT" then o.u
  else 10000 - o.u

/-- A protection's order stands on the drive. -/
def drStands (s : State) (d : Nat) : Bool :=
  (drOf s d).order.any (·.standing) || (drOf s d).pend.any (·.standing)

/-- A loop's order for a drive, where R460 has it issued. -/
def driveIssue (s : State) (l : Nat) (o : LoopOut) (d : Nat) : State :=
  let t := driveTarget s l o d
  let gap := loopPct s l "MINSTEP"
  let moved := match tget none ((loopSt s l).targets.map fun p => (p.1, some p.2)) d with | some old => gap ≤ posGap t old && t != old | none => true
  let lost := !((drOf s d).order.any fun r => r.src = 16 && r.srcNo = l) && gap ≤ posGap (posNow s d).1 t && (posNow s d).1 != t
  if (drOf s d).hold.isSome || drStands s d || !(moved || lost) then s
  else
    let tilt := if driveKind s d = "PAIR" && tiltTicks s d != 0 then o.tilt else none
    let s := modLoop s l fun x => { x with targets := tset x.targets d t }
    placeOrder s d { src := 16, rank := 0, srcNo := l, target := t, tilt := tilt, epoch := s.epoch + 1 }

/-- One output issued. -/
def outIssue (s : State) (l : Nat) (o : LoopOut) : State :=
  let s := modLoop s l fun x => { x with outv := if o.chanOnly || o.safe != 0 then x.outv else tset x.outv o.port o.u }
  (outObjs s l o.port).foldl (fun s b =>
    if b.kind = .chan then loopChannel s b.n o.u else if o.chanOnly then s else driveIssue s l o b.n) s

def outsIssue (s : State) (l : Nat) (outs : List LoopOut) : State := outs.foldl (fun s o => outIssue s l o) s

/-! ### Release and output (R456, R457, R461, R462) -/

/-- The modes in which loops compute (R482). -/
def loopsCompute (s : State) : Bool := coreRuns s && (modeIs s [.run, .cooldown, .bench] || (modeIs s [.replay] && s.jrn.rpl.isSome))

/-- A stale episode begins or ends. -/
def staleNote (s : State) (o : Obj) (input : String) (on : Bool) : State :=
  notifyLate s "CLM.STALE" (some o) ("INPUT=" ++ input ++ " STATE=" ++ (if on then "STALE" else "OK"))

def staleSet (s : State) (l n : Nat) (on : Bool) : State :=
  let x := loopSt s l
  if x.stale.contains n = on then s
  else staleNote (setLoop s l { x with stale := if on then n :: x.stale else x.stale.filter (· != n) }) (loopObj l) (inputName n) on

def emptyMax (s : State) (l : Nat) : Nat := cfgNat s (loopObj l) "EMPTYMAX"

/-- The empty periods of an input at a release. -/
def emptyStep (l : Nat) (s : State) (n : Nat) : State :=
  match inputX s l n with
  | some x =>
    let e := if seenEmpty s x then tget 0 (loopSt s l).empties n + 1 else 0
    let s := modLoop s l fun y => { y with empties := tset y.empties n e }
    staleSet s l n (seenFails s x || emptyMax s l ≤ e)
  | none => s

/-- A stale WIND input of a SHADE loop counts as at WINDRET (R462). -/
def windStale (s : State) (l n : Nat) : Bool := n = 2 && loopKind s l = "SHADE" && (loopSt s l).stale.contains 2

/-- Every input that the loop takes has a value. -/
def inputsReady (s : State) (l : Nat) : Bool := (loopInputsUsed s l).all fun n => windStale s l n || (inputVal s l n).isSome

/-- The computation of a period. -/
def loopComputes (s : State) (l : Nat) (c : LoopCore) : Option Comp :=
  let k := loopKind s l
  let pv (f : F64 → Option Comp) : Option Comp := (inputVal s l 0).bind f
  if k = "PI" then pv (piLoop s l c) else if k = "TWOPOS" then pv (twoLoop s l c) else if k = "SEQ" then pv (seqLoop s l c)
  else if k = "SHADE" then some (shadeLoop s l c)
  else if k = "VENT" then some (ventLoop s l c)
  else if k = "CURTAIN" then some (curtainLoop s l (outAt s l) c (loopSt s l).fan) else none

/-- The outputs of STALEACT SAFE. -/
def safeOuts (s : State) (l : Nat) : List LoopOut :=
  [0, 1, 2].map fun p => ⟨p, loopPct s l "SAFEOUT", none, 1, false⟩

/-- The inputs whose staleness STALEACT answers: WIND of a SHADE loop is none of them. -/
def staleActs (s : State) (l : Nat) : Bool :=
  ((loopSt s l).stale.filter fun n => !(n = 2 && loopKind s l = "SHADE")).any (loopInputsUsed s l).contains

def zoneOff (s : State) (l : Nat) : Bool := match loopZone s l with | some z => (zoneSt s z).eff = some 3 | none => false

/-- An input delivered empty, and not stale, makes the period empty. -/
def periodEmpty (s : State) (l : Nat) : Bool :=
  (loopInputsUsed s l).any fun n => !(loopSt s l).stale.contains n && (inputX s l n).any (seenEmpty s)

/-- The result of a release. -/
def loopResult (s : State) (l : Nat) : State × LoopRes :=
  let x := loopSt s l
  let e := s.epoch + cfgMilli s (loopObj l) "DEADLINE"
  let skip (outs : List LoopOut) : LoopRes := ⟨e, x.core, outs, false⟩
  let act := cfgWord s (loopObj l) "STALEACT"
  if zoneOff s l then (s, skip ([0, 1, 2].map fun p => ⟨p, loopPct s l "OUTLO", none, 0, true⟩))
  else if staleActs s l && act != "SUBST" then (s, skip (if act = "SAFE" then safeOuts s l else []))
  else if periodEmpty s l then (modLoop s l fun x => { x with empty := x.empty + 1 }, skip [])
  else if !inputsReady s l && act != "SUBST" then (s, skip [])
  else match loopComputes s l x.core with
    | some (c, outs) => (drawn s, ⟨e, c, outs, true⟩)
    | none => (s, skip [])

/-- The loop's door at a period: the first period after a start or QUIET looks at it afresh. -/
def doorPeriod (s : State) (l : Nat) : State :=
  if loopKind s l != "CURTAIN" then s
  else modLoop s l fun x => if x.awake then x else { x with awake := true, door := doorOpen s l, fan := doorOpen s l, closedAt := none }

/-- Loops whose inputs are cells K000 to K127 start with the first calibration (R292, R483). -/
def loopStarts (s : State) (l : Nat) : Bool := s.cnv.calFirst || (loopInputsUsed s l).all fun n => (inputX s l n).any (128 ≤ ·)

/-- LOOP_RELEASE: the boundary after the end of a period. -/
def execLoopRelease (l : Fin 96) (s : State) : Host.Outcome State Fault Refusal :=
  .next (if !loopsCompute s || loopKind s l = "OFF" || s.epoch = 0 || (s.epoch - 1) % loopPeriod s l != 0 || (loopSt s l).released = some s.epoch || !loopStarts s l then s
    else
      let x := loopSt s l
      let s := if x.reset then setLoop s l { late := x.late, lateNoted := x.lateNoted, empty := x.empty, stale := x.stale } else s
      let s := (loopInputsUsed s l).foldl (emptyStep l) (doorPeriod s l)
      let p := loopResult s l
      modLoop p.1 l fun x => { x with released := some s.epoch, pend := some p.2 })

/-- The computation completed in time: it is committed and its outputs are issued. -/
def loopCommits (l : Nat) (r : LoopRes) (s : State) : State :=
  let s := modLoop s l fun x => { x with pend := none, core := if r.ran then r.core else x.core, completed := x.completed || r.ran, lateNoted := false }
  if (loopSt s l).completed || r.outs.any (·.chanOnly) then outsIssue s l r.outs else s

/-- It did not: the period is dropped. -/
def loopDrops (l : Nat) (s : State) : State :=
  let x := loopSt s l
  let s := setLoop s l { x with pend := none, late := x.late + 1, lateNoted := true }
  if x.lateNoted || !x.completed then s
  else notifyLate s "CLM.LATE" (some (loopObj l)) ("PERIOD=" ++ natStr (loopPeriod s l) ++ "ms")

/-- The verdict on a period at its output boundary, recorded in the journal (R458). -/
def loopVerdict (s : State) (l : Nat) (r : LoopRes) (met : Bool) : State :=
  let s := jrnPut s 4 (l + (if met then 0 else 128))
  if met then loopCommits l r s else loopDrops l s

/-- LOOP_OUTPUT: the output boundary, with whether the computation has completed; a period that computes nothing has
nothing to complete, and after the boundary it is too late.  In REPLAY the recorded verdicts stand in its place (R458). -/
def execLoopOutput (l : Fin 96) (done : Bool) (s : State) : Host.Outcome State Fault Refusal :=
  .next (if !loopsCompute s || modeIs s [.replay] then s
    else match (loopSt s l).pend with
      | some r =>
        if r.epoch ≤ s.epoch then loopVerdict s l r ((done && s.now = epochTick s r.epoch) || !r.ran) else s
      | none => s)

/-- A period whose output boundary has passed without its outputs is dropped. -/
def loopLate (s : State) (l : Nat) : State :=
  match (loopSt s l).pend with
  | some r => if r.epoch < s.epoch then loopVerdict s l r (!r.ran) else s
  | none => s

/-- The recorded verdicts of the epoch replayed. -/
def verdictsApply (s : State) : State :=
  let l := s.clm.verdicts
  l.foldl (fun s v => match (loopSt s v.1).pend with | some r => loopVerdict s v.1 r v.2 | none => s) { s with clm := { s.clm with verdicts := [] } }

/-! ### The door of a CURTAIN loop -/

/-- The loop evaluates R467 at once and issues its outputs (R468); at a boundary that is its output boundary too, its
computation issues none beside them (R492).  In a zone in OFF, and while a stale input stops the loop, it issues
nothing. -/
def curtainActs (s : State) (l : Nat) : State :=
  let x := loopSt s l
  if zoneOff s l || (staleActs s l && !cfgIs s (loopObj l) "STALEACT" "SUBST") then s
  else
    let p := curtainLoop s l s.now x.core x.fan
    let s := setLoop s l { x with core := p.1, pend := x.pend.map fun r => { r with core := p.1, outs := if r.epoch ≤ s.epoch then [] else p.2 } }
    if x.completed then outsIssue s l p.2 else s

/-- The fan stops. -/
def runonEnds (l : Nat) (s : State) : State := curtainActs (modLoop s l fun x => { x with fan := false, closedAt := none }) l

/-- When the fan has run on. -/
def runonDue (s : State) (l : Nat) : Option Nat :=
  if !(loopSt s l).fan || (loopSt s l).door then none else (loopSt s l).closedAt.map (· + cfgTicks s (loopObj l) "RUNON")

/-- RUNON_END: the boundary ends a RUNON at its time; one that is due and has not ended ends now. -/
def execRunonEnd (l : Fin 96) (s : State) : Host.Outcome State Fault Refusal :=
  .next (if !loopsCompute s then s else atTick s (runonDue s l) (runonEnds l))

def doorStep (s : State) (l : Nat) : State :=
  let x := loopSt s l
  if loopKind s l != "CURTAIN" || !x.awake || !loopsCompute s then s
  else if doorOpen s l then
    (if x.door then s else curtainActs (setLoop s l { x with door := true, fan := true, closedAt := none }) l)
  else
    let s := if x.door then setLoop s l { x with door := false, closedAt := some s.now } else s
    if (runonDue s l).any (· ≤ s.now) then runonEnds l s else s

/-! ### Deliveries and boundaries -/

/-- A counter record: the chain's value is complete with its top member. -/
def counterDeliver (s : State) (r : Rec) : State :=
  match r.pay with
  | .count kind member _ _ _ =>
    if kind < 1 || 3 < kind then s else
    let b := chainBottom s (r.x - 160)
    let s := { s with clm := { s.clm with parts := tset s.clm.parts (r.x - 160) (r.val % 65536).toNat } }
    if member + 1 = (chainOf s b).length then
      let v := (chainOf s b).foldl (fun acc n => acc + tget 0 s.clm.parts n * 65536 ^ (n - b)) 0
      { s with clm := { s.clm with ctKind := tset s.clm.ctKind b kind, cts := tmod {} s.clm.cts (8 * b + kind) fun p => ⟨if p.bad && !recFails r then none else p.cur, some v, recFails r⟩ } }
    else s
  | _ => s

/-- A PRES record that reads closed (R474). -/
def presDeliver (r : Rec) (s : State) (z : Nat) : State :=
  if !(cfgObjs s (zoneObj z) "PRES").contains (xobj r.x) || payEmpty r.pay || recFails r then s
  else
    if dryClosed r then setZone s z { zoneSt s z with occUntil := some (s.now + cfgTicks s (zoneObj z) "OCCHOLD") } else s

/-- A delivered record as climate takes it. -/
def climDeliver (s : State) (r : Rec) : State :=
  if 160 ≤ r.x && r.x < 176 then counterDeliver s r
  else if r.x < 96 then (List.range 24).foldl (presDeliver r) s
  else s

/-- Stale inputs, as the records delivered say (R462, R491). -/
def loopStale (s : State) (l : Nat) : State :=
  (loopInputsUsed s l).foldl (fun s n =>
    match inputX s l n with
    | some x => staleSet s l n (seenFails s x || emptyMax s l ≤ tget 0 (loopSt s l).empties n)
    | none => s) s

def zoneStale (s : State) (z : Nat) : State :=
  let xs := (match zoneX s z with | some x => [(0, x)] | none => []) ++ ((cfgObjs s (zoneObj z) "PRES").zipIdx.map fun p => (p.2 + 1, p.1.n))
  xs.foldl (fun s p =>
    let y := zoneSt s z
    let on := seenFails s p.2
    if y.stale.contains p.1 = on then s
    else staleNote (setZone s z { y with stale := if on then p.1 :: y.stale else y.stale.filter (· != p.1) }) (zoneObj z) (if p.1 = 0 then "TEMP" else "PRES") on) s

/-- Overrides and presence whose time has come (R474, R475). -/
def zoneTimes (s : State) (z : Nat) : State :=
  let x := zoneSt s z
  let s := if x.occUntil.any (· ≤ s.now) then setZone s z { x with occUntil := none } else s
  if x.ovrEnd.any (· ≤ s.now) then overrideEnd s z else s

/-- Climate at a boundary, after arbitration: what ends, then the schedules' points, then one evaluation of every zone
(R487, R488); then the loops. -/
def climBoundary (s : State) : State :=
  let due := s.clm.writes.filter fun w => w.1 ≤ s.epoch
  let s := { s with clm := { s.clm with writes := s.clm.writes.filter fun w => s.epoch < w.1 } }
  let s := if modelOnly s then s else due.foldl (fun s w => setOutput s w.2.1 w.2.2) s
  if !climRuns s then s
  else
    let s := (List.range 24).foldl zoneTimes s
    let s := schedsStep s
    let s := (List.range 24).foldl zoneStale s
    let s := (List.range 24).foldl zoneEval s
    let s := (usedLoops s).foldl loopStale s
    let s := if modeIs s [.replay] then verdictsApply s else if loopsCompute s then (usedLoops s).foldl loopLate s else s
    (usedLoops s).foldl doorStep s

/-- The channels of every loop take an attribute's value at once. -/
def loopsSet (s : State) (a : String) : State :=
  (usedLoops s).foldl (fun s l =>
    ([0, 1, 2].flatMap (outObjs s l)).foldl (fun s o => if o.kind = .chan then setOutput s o.n (loopPct s l a) else s) s)
    { s with clm := { s.clm with writes := [] } }

/-- The loops are parked: KEEPER puts their channels to SAFEOUT, or to OUTLO (R482). -/
def climPark (s : State) (safe : Bool) : State :=
  loopsSet ((usedLoops s).foldl (fun s l => modLoop s l fun x => { x with pend := none }) s) (if safe then "SAFEOUT" else "OUTLO")

/-- Entry to QUIET ends a RUNON (R495). -/
def climSleep (s : State) : State :=
  let s := climPark s false
  { s with clm := { s.clm with loops := s.clm.loops.map fun p => (p.1, { p.2 with awake := false, door := false, fan := false, closedAt := none }) } }

/-- Every state of climate is lost, overrides with it (R483). -/
def climRestart (s : State) : State :=
  { s with clm := {}, cfg := (List.range 24).foldl (fun c z => if c.any fun p => p.1 = (zoneObj z, "OVERRIDE") then cfgSet c (zoneObj z, "OVERRIDE") (wv "NONE") else c) s.cfg }

/-- After a change of the configuration (R490). -/
def climAfter (old s : State) : State :=
  if old.cfg = s.cfg then s
  else
    let ch (o : Obj) (l : List String) : Bool := l.any fun a => cfgVal old o a != cfgVal s o a
    let s := (List.range 96).foldl (fun s l =>
      if ch (loopObj l) ["KIND", "PV", "ACTION", "OUT", "OUT2", "FANV"] then modLoop s l fun x => { x with reset := true, pend := none } else s) s
    let s := (List.range 24).foldl (fun s z => if ch (zoneObj z) ["OVERRIDE"] then overrideSet s z else s) s
    let s := (usedScheds s).foldl (fun s n =>
      if (usedScheds old).contains n || s.tim.quality = 0 then s
      else setSched s n { schedSt s n with suspended := false, value := schedValueNow s n, upTo := some (netSecs s).toNat }) s
    (usedScheds s).foldl (fun s n => if s.tim.quality = 0 || (schedSt s n).suspended then s else modeValue s n) s

/-! ### Attributes -/

def loopStateName (s : State) (l : Nat) : String :=
  let x := loopSt s l
  if loopKind s l = "OFF" then "OFF" else if !loopsCompute s then "PARKED" else if !x.stale.isEmpty then "STALE"
  else if !x.completed then "PENDING" else if !x.blocked.isEmpty then "BLOCKED" else "RUNNING"

def loopAttr (s : State) (l : Nat) (a : String) : String :=
  let x := loopSt s l
  if a = "STATE" then loopStateName s l
  else if a = "OUTV" then (match x.outv with | (_, u) :: _ => posStr u | [] => "-")
  else if a = "SITUATION" then (if loopKind s l = "SHADE" then situationName x.core.situ else "-")
  else if a = "LATE" then natStr x.late else natStr x.empty

/-- A temperature in 0.01 °C, ties away from zero. -/
def centF (t : F64) : Int := roundDiv (f64Num t * 100) (f64Den t)

def zoneAttr (s : State) (z : Nat) (a : String) : String :=
  let x := zoneSt s z
  if a = "EFFMODE" then (match x.eff with | some m => zoneModeName m | none => "-")
  else if a = "CAUSE" then causeWord x.cause
  else if a = "OCC" then (if zoneOccupied s z then "yes" else "no")
  else if a = "TEMPNOW" then (match zoneTemp s z with | some t => milliStr (centF t * 10) 2 ++ "C" | none => "-")
  else milliStr (zoneSp s z (a = "SPH") / 1000000) 1 ++ "C"

def schedAttr (s : State) (n : Nat) (a : String) : String :=
  let x := schedSt s n
  let item (i : Item) : String := match i with | .num _ => posStr (itemPos i) | .word w => w | _ => "-"
  if a = "VALUE" then (match x.value with | some i => item i | none => "-")
  else if a = "SUSPENDED" then (if x.suspended then "yes" else "no")
  else if x.suspended then "-"
  else match nextDue s n (netSecs s) 400 (civilDay s) with
    | some p => utcStr p.at_.toNat ++ "," ++ item p.val
    | none => "-"

end Sys2Proof.Machine
end

