-- ==== Sys2Proof/Machine/BusTx.lean ====
section
/-!
DEFINITION. The CAN controller (*The building bus*): bit timing (R500, R501), filters and queues (R502 to R506),
transmit buffers and SEND (R507 to R510, R534, R535), errors and bus-off (R511, R512), sleep and wake (R514, R515), with
the registers and the attributes of BUS and its filters.
-/
namespace Sys2Proof.Machine
open Sys2Proof

def setBus (s : State) (f : Bus → Bus) : State := { s with bus := f s.bus }
def filterObj (n : Nat) : Obj := ⟨.filter, n⟩
def pointObj (p : Nat) : Obj := ⟨.point, p⟩
def segObj (e : Nat) : Obj := ⟨.seg, e⟩

/-! ### Bit timing (R500, R501) -/

/-- A derived timing: BRP, N, TSEG1 and TSEG2. -/
structure BitTiming where
  brp : Nat
  n : Nat
  tseg1 : Nat
  tseg2 : Nat

/-- The smallest BRP that divides the clock to `lo` to `hi` quanta. -/
def brpOf (rate lo hi : Nat) : Option (Nat × Nat) :=
  ((List.range 32).map (· + 1)).findSome? fun b =>
    if rate != 0 && 80000000 % (b * rate) = 0 then
      let n := 80000000 / (b * rate)
      if lo ≤ n && n ≤ hi then some (b, n) else none
    else none

/-- A timing from a rate in bit/s and a sample point in 10^-9 %; the refusal of R500 otherwise. -/
def timingOf (rate : Nat) (sp : Int) (lo hi : Nat) : Except String BitTiming :=
  match brpOf rate lo hi with
  | none => .error "RANGE"
  | some (b, n) =>
    let x := sp * n
    if x % 100000000000 != 0 then
      .error ("RANGE LO=50% HI=90% STEP=" ++ stepStr (1000000 / n) ++ "%")
    else
      let p := (x / 100000000000).toNat
      .ok ⟨b, n, p - 1, n - p⟩
where
  /-- Ten-thousandths without trailing zeros: 100 / N ends there for every N that divides the clock. -/
  stepStr (m : Nat) : String :=
    natStr (m / 10000) ++ (if m % 10000 = 0 then "" else if m % 1000 = 0 then "." ++ natStr (m % 10000 / 1000) else if m % 100 = 0 then "." ++ padStr 2 (m % 10000 / 100)
      else if m % 10 = 0 then "." ++ padStr 3 (m % 10000 / 10) else "." ++ padStr 4 (m % 10000))

def rateOf (s : State) (a : String) : Nat := (cfgInt s busObj a 1000000000).toNat

def nomTiming (s : State) : Except String BitTiming := timingOf (rateOf s "NBR") ((cfgNano s busObj "NSP").getD 0) 8 80
def dataTiming (s : State) : Except String BitTiming := timingOf (rateOf s "DBR") ((cfgNano s busObj "DSP").getD 0) 8 40

/-- SJW as set, or TSEG2 under MAX. -/
def sjwOf (s : State) (a : String) (t : BitTiming) : Nat := if cfgIs s busObj a "MAX" then t.tseg2 else cfgNat s busObj a

/-- The refusal of a timing that would stand (R500). -/
def timingFail (s : State) : Option String :=
  match nomTiming s, dataTiming s with
  | .error e, _ => some e
  | _, .error e => some e
  | .ok n, .ok d =>
    if rateOf s "DBR" < rateOf s "NBR" then some "RANGE"
    else if n.tseg2 < sjwOf s "NSJW" n then some ("RANGE LO=1 HI=" ++ natStr n.tseg2 ++ " STEP=1")
    else if d.tseg2 < sjwOf s "DSJW" d then some ("RANGE LO=1 HI=" ++ natStr d.tseg2 ++ " STEP=1")
    else none

def timingOr (t : Except String BitTiming) : BitTiming := match t with | .ok x => x | .error _ => ⟨1, 8, 5, 2⟩

/-- Transmitter delay compensation is on (R501). -/
def tdcOn (s : State) : Bool := cfgOn s busObj "BRS" && 1000000 < rateOf s "DBR"

/-! ### The state of the controller (R511) -/

/-- The codes of BUS_STAT.STATE. -/
def busState (s : State) : Nat :=
  let b := s.bus
  if b.asleep then 4 else if !b.joined then 5 else if b.busOff then 3
  else if 128 ≤ b.tec || 128 ≤ b.rec_ then 2 else if 96 ≤ b.tec || 96 ≤ b.rec_ then 1 else 0

def busStateName (n : Nat) : String := ["ACTIVE", "WARNING", "PASSIVE", "BUS-OFF", "SLEEP", "OFF"].getD n "-"

/-- A change of the state, told by the BUS island. -/
def busNote (s : State) : State :=
  notifyLate s "BUS.STATE" none ("STATE=" ++ busStateName (busState s) ++ " TEC=" ++ natStr (min 255 s.bus.tec) ++ " REC=" ++ natStr (min 255 s.bus.rec_))

/-! ### Filters and queues (R502 to R506) -/

/-- The profile owns a filter (R503). -/
def filterOwned (s : State) (n : Nat) : Bool := n < 8 && nodeAddr s != 0

/-- The code of an attribute that holds one. -/
def cfgCode (s : State) (o : Obj) (a : String) : Nat := match cfgVal s o a with | .code v :: _ => v | _ => 0

/-- A filter in force: MATCH, MASK, base format, DEST (0 OFF, 1 A, 2 B, 3 REJECT). -/
def filterOf (s : State) (n : Nat) : Nat × Nat × Bool × Nat :=
  if filterOwned s n then
    let node := nodeAddr s * 16384
    let kd := 0x3F * 1048576 + 0x3F * 16384
    if n = 0 then (0x08 * 1048576 + node, 0x3E * 1048576 + 0x3F * 16384, false, 1)
    else if n = 1 then (0x10 * 1048576 + node, kd, false, 1)
    else if n = 2 then (0x18 * 1048576, 0x3E * 1048576 + 0x3F * 16384, false, 1)
    else if n = 3 then (0x02 * 1048576 + node, kd, false, 2)
    else if n = 4 then (0x04 * 1048576, 0x3F * 1048576, false, 2)
    else (0, 0, false, 0)
  else
    let o := filterObj n
    (cfgCode s o "MATCH", cfgCode s o "MASK", cfgIs s o "FORMAT" "BASE", idxOf ["OFF", "A", "B", "REJECT"] (cfgWord s o "DEST"))

def filterNotify (s : State) (n : Nat) : Bool := !filterOwned s n && cfgOn s (filterObj n) "NOTIFY"

/-- A frame matches a filter. -/
def filterMatches (s : State) (f : CanFrame) (n : Nat) : Bool :=
  let p := filterOf s n
  p.2.2.2 != 0 && f.ext != p.2.2.1 && (f.ident ^^^ BitVec.ofNat 29 p.1) &&& BitVec.ofNat 29 p.2.1 &&& (if f.ext then BitVec.ofNat 29 0x1FFFFFFF else BitVec.ofNat 29 0x7FF) = 0

/-- A discarded frame of a queue. -/
def queueDrop (s : State) (b : Bool) : State :=
  if b then setBus s fun x => { x with dropsB := satInc 0xFFFF x.dropsB } else setBus s fun x => { x with dropsA := satInc 0xFFFF x.dropsA }

/-- The first drop of an episode is noticed. -/
def queueEpisode (s : State) (b : Bool) : State :=
  if b then (if s.bus.epiB then s else notifyLate (setBus s fun x => { x with epiB := true }) "BUS.QUEUE-OVF" none ("B DROPS=" ++ natStr s.bus.dropsB))
  else if s.bus.epiA then s else notifyLate (setBus s fun x => { x with epiA := true }) "BUS.QUEUE-OVF" none ("A DROPS=" ++ natStr s.bus.dropsA)

/-- A frame enters its queue, by its overflow policy where it is full (R505). -/
def queueAdd (s : State) (b : Bool) (q : QFrame) : State :=
  let l := if b then s.bus.qB else s.bus.qA
  let full := (if b then 48 else 16) ≤ l.length
  let old := cfgIs s busObj (if b then "QBOVF" else "QAOVF") "DROPOLD"
  let l' := if full then (if old then l.drop 1 ++ [q] else l) else l ++ [q]
  let s := if b then setBus s fun x => { x with qB := l', peakB := max x.peakB l'.length } else setBus s fun x => { x with qA := l', peakA := max x.peakA l'.length }
  if full then queueEpisode (queueDrop s b) b else s

/-- The transceiver is on; it is off in OFF and while the core die is in reset, and asleep in QUIET (Table ELC-7). -/
def busPads (s : State) : Bool := coreRuns s && s.ana.mode != .off && !s.bus.asleep

/-- The transceiver is to sleep by now (R514). -/
def busDozes (s : State) : Bool := s.bus.asleep || s.bus.sleepBy.any (· ≤ s.now)

/-- The controller receives. -/
def busHears (s : State) : Bool := coreRuns s && s.bus.joined && !busDozes s && !s.bus.busOff

/-- CAN_FRAME_VALID. -/
def execCanFrameValid (f : CanFrame) (s : State) : Host.Outcome State Fault Refusal :=
  .next (if !busHears s || (f.fdf && !cfgOn s busObj "FD") then s
    else
      let s := setBus s fun b => { b with rx := satInc 0xFFFFFFFF b.rx }
      let miss := setBus s fun b => { b with unmatched := satInc 0xFFFF b.unmatched }
      if f.remote then miss
      else match (List.range 48).find? (filterMatches s f) with
        | none => miss
        | some n =>
          let dest := (filterOf s n).2.2.2
          let s := setBus s fun b => { b with hits := tset b.hits n (satInc 0xFFFF (tget 0 b.hits n)) }
          if dest = 3 then s
          else if s.ana.mode = .quiet then queueDrop s (dest = 2)
          else queueAdd s (dest = 2) ⟨f, n, mono s⟩)

/-- The DLC code of a length. -/
def dlcOf (n : Nat) : Nat := if n ≤ 8 then n else 9 + idxOf_ [12, 16, 20, 24, 32, 48, 64] n
where
  idxOf_ (l : List Nat) (n : Nat) : Nat := (l.findIdx? (n ≤ ·)).getD 6

/-- The status word of a frame. -/
def frameWord (q : QFrame) : XWord :=
  BitVec.ofNat 16 (dlcOf q.f.data.length + (if q.f.fdf then 16 else 0) + (if q.f.brs then 32 else 0) + (if q.f.esi then 64 else 0) + q.bf * 128 + (if q.f.ext then 0 else 8192))

/-- QUEUE_DRAIN: the oldest frame of a queue, B or A, passes into its crossing (R504, R542). -/
def execQueueDrain (b : Bool) (s : State) : Host.Outcome State Fault Refusal :=
  .next (let x := if b then 192 else 191
    let l := if b then s.bus.qB else s.bus.qA
    let room := if b then s.bus.passB < 8 else s.bus.passA < 4
    match l with
    | [] => s
    | q :: rest =>
      if !coreRuns s || s.ana.mode = .quiet || !room || bufFull s x then s
      else
        let s := if b then setBus s fun y => { y with qB := rest, passB := y.passB + 1, epiB := y.epiB && !rest.isEmpty } else setBus s fun y => { y with qA := rest, passA := y.passA + 1, epiA := y.epiA && !rest.isEmpty }
        arrive s x (frameWord q) (some q.at_) (.can q.f q.bf false))

/-- A delivered frame that nothing uses. -/
def busUnused (s : State) : State := setBus s fun b => { b with unused := satInc 0xFFFF b.unused }

/-- Bytes as integer codes, the first byte in bits 31:24 (R506). -/
def byteCodes : Nat → List Byte → List String
  | 0, _ => []
  | _ + 1, [] => []
  | n + 1, l => codeStr (natBE ((l.take 4) ++ List.replicate (4 - (l.take 4).length) 0#8)) :: byteCodes n (l.drop 4)

def onOff (b : Bool) : String := if b then "on" else "off"

/-- BUS.FRAME: one notice, or two for more than 32 bytes. -/
def frameNotice (s : State) (bf : Nat) (f : CanFrame) : State :=
  let head := "ID=" ++ codeStr f.ident.toNat ++ " LEN=" ++ natStr f.data.length ++ " FD=" ++ onOff f.fdf
  let body (l : List Byte) : String := if l.isEmpty then "" else " DATA=" ++ joinStr "," (byteCodes 8 l)
  if f.data.length ≤ 32 then notify s "BUS.FRAME" (some (filterObj bf)) (head ++ body f.data)
  else
    let s := notify s "BUS.FRAME" (some (filterObj bf)) (head ++ body (f.data.take 32) ++ " PART=1")
    notify s "BUS.FRAME" (some (filterObj bf)) (head ++ body (f.data.drop 32) ++ " PART=2")

/-- USER_FRAME: WORK0 takes a delivered frame that no owned filter passed. -/
def execUserFrame (bf : Fin 48) (f : CanFrame) (s : State) : Host.Outcome State Fault Refusal :=
  .next (if !coreRuns s || s.ana.workersReset.isSome || modeIs s [.off, .quiet, .replay] || filterOwned s bf then s else if filterNotify s bf then frameNotice s bf f else busUnused s)

/-! ### Transmit buffers (R507 to R510) -/

def tbOf (s : State) (n : Nat) : Option TxBuf := (s.bus.tbs.find? (·.1 = n)).map (·.2)

/-- A buffer that WORK0 may load. -/
def tbFree (s : State) (n : Nat) : Bool := (tbOf s n).isNone && !(s.bus.owners.any (·.1 = n))

/-- The load of a buffer may be made now: at once where BUS is N, and one epoch after its posting to KEEPER where BUS is
assigned S (R232). -/
def loadNow (s : State) (b : TxBuf) : Bool := !blockS s 6 || (match b.post with | some e => e ≤ s.epoch | none => false)

/-- The loads of the first `n` frames that wait are posted to KEEPER. -/
def loadPosts (s : State) (n : Nat) (l : List TxBuf) : List TxBuf :=
  if blockS s 6 then (l.take n).map (fun b => { b with post := some (b.post.getD (s.epoch + 1)) }) ++ l.drop n else l

/-- The SENDs that wait are loaded in order of acceptance. -/
def sendLoad : Nat → State → State
  | 0, s => s
  | k + 1, s =>
    match s.bus.sends, [6, 7].find? (tbFree s) with
    | b :: l, some n =>
      if !loadNow s b then setBus s fun x => { x with sends := loadPosts s (([6, 7].filter (tbFree s)).length) x.sends }
      else
      let owners := match b.what with | .send (some id) => tset s.bus.owners n id | _ => s.bus.owners
      sendLoad k (setBus s fun x => { x with sends := l, tbs := tset x.tbs n { b with at_ := mono s }, owners := owners })
    | _, _ => s

/-- The profile frames that wait take TB1 to TB5. -/
def waitLoad : Nat → State → State
  | 0, s => s
  | k + 1, s =>
    match s.bus.waits, [1, 2, 3, 4, 5].find? (tbFree s) with
    | b :: l, some n =>
      if loadNow s b then waitLoad k (setBus s fun x => { x with waits := l, tbs := tset x.tbs n { b with at_ := mono s } })
      else setBus s fun x => { x with waits := loadPosts s (([1, 2, 3, 4, 5].filter (tbFree s)).length) x.waits }
    | _, _ => s

/-- A profile frame to send (R508, R519): a waiting publication of the same point is replaced. -/
def profSend (s : State) (f : TxFrame) (what : TxWhat) : State :=
  if !busSends s || s.bus.conflict || nodeAddr s = 0 then s
  else
    let b : TxBuf := { f := f, what := what }
    let same (x : TxBuf) : Bool := match what with | .point _ => x.what = what | _ => false
    if s.bus.waits.any same then setBus s fun x => { x with waits := x.waits.map fun y => if same y then b else y }
    else waitLoad 1 (setBus s fun x => { x with waits := x.waits ++ [b] })

/-- An outcome through X193. -/
def txOutcome (s : State) (tb code : Nat) (sof sub : Nat) : State :=
  arrive s 193 (BitVec.ofNat 16 (tb + 16 * code)) (some (mono s)) (.post sof sub)

/-- A frame goes before another in arbitration: the lower identifier, then the lower buffer (R507). -/
def txBefore (a b : Nat × TxBuf) : Bool :=
  a.2.f.ident.toNat < b.2.f.ident.toNat || (a.2.f.ident = b.2.f.ident && a.1 < b.1)

/-- A buffer is the one the controller offered at a start of arbitration: loaded by then, and before every other (R507). -/
def txOffered (s : State) (n : Nat) (b : TxBuf) (sof : Nat) : Bool :=
  b.at_ ≤ sof && sof ≤ mono s && s.bus.tbs.all fun p => p.1 = n || sof < p.2.at_ || txBefore (n, b) p

/-- A fragment's frame has reached the success point. -/
def fragSent (s : State) (c sq : Nat) : State :=
  let mark (f : Frag) : Frag := if f.sq = sq then { f with sent := true } else f
  let t := { tget ({ node := 0 } : Tun) s.bus.tuns c with unacked := (tget ({ node := 0 } : Tun) s.bus.tuns c).unacked.map mark }
  if s.bus.tuns.any (·.1 = c) then setBus s fun x => { x with tuns := tset x.tuns c t } else s

/-- CAN_TX_COMPLETE: an attempt of the buffer that the controller offered ends, its SOF stamped. -/
def execCanTxComplete (tb : Fin 8) (r : TxRes) (sof : Nat) (sub : Fin 10) (s : State) : Host.Outcome State Fault Refusal :=
  .next (match tbOf s tb with
    | none => s
    | some b =>
      if !txOffered s tb b sof then s else
      let gone := setBus s fun x => { x with tbs := tdel x.tbs tb }
      let begun := setBus s fun x => { x with tbs := tset x.tbs tb { b with begun := true } }
      match r with
      | .done =>
        let s := setBus gone fun x => { x with txn := satInc 0xFFFFFFFF x.txn }
        let s := if b.f.brs && tdcOn s then drawn (setBus s fun x => { x with delay := freeBits 8 s }) else s
        let s := txOutcome s tb 1 sof sub
        (match b.what with | .timeref sq => timerefSent s sq sof sub | .frag c sq => fragSent s c sq | _ => s)
      | .lost => txOutcome (if b.oneshot then gone else begun) tb 2 sof sub
      | .error =>
        let s := if b.oneshot then setBus gone fun x => { x with lastErr := some (tb, s.now) } else begun
        txOutcome s tb 3 sof sub)

/-! ### SEND and its cancellation (R206, R508 to R510, R534) -/

/-- The bytes of SEND's DATA. -/
def sendBytes (data : List Word) : List Byte := data.flatMap fun w => bytesBE 4 w.toNat

def sendLens (fd : Bool) (n : Nat) : Bool := n ≤ 8 || (fd && [12, 16, 20, 24, 32, 48, 64].contains n)

def sendBody (ident : BitVec 29) (len : Nat) (data : List Word) (fd brs oneshot : Bool) : String :=
  bodyOf ["SEND", "ID=" ++ codeStr ident.toNat, "LEN=" ++ natStr len, if data.isEmpty then "" else "DATA=" ++ joinStr "," (data.map fun w => codeStr w.toNat), if fd then "FD=on" else "", if brs then "BRS=on" else "", if oneshot then "ONESHOT=on" else ""]

/-- The checks of the command below. -/
def sendSpec (q : Hdr) (ident : BitVec 29) (len : Nat) (data : List Word) (fd brs oneshot : Bool) (s : State) : CmdSpec :=
  let bad := !sendLens fd len || (brs && !fd) || data.length != (len + 3) / 4 || ((sendBytes data).drop len).any (· != 0)
  { verb := "SEND", body := sendBody ident len data fd brs oneshot, need := verbNeed "SEND", audit := some 16, p67 := if bad then some "RANGE" else none, p9 := worldFail s q.ses .bus, p10 := firstOf [(cfgOn s busObj "LISTEN", "STATE LISTEN"), (!s.bus.joined || s.bus.asleep || (fd && !cfgOn s busObj "FD"), "STATE"), (16 ≤ s.bus.sends.length, "STATE TXFULL")] }

/-- SEND. -/
def execSend (q : Hdr) (ident : BitVec 29) (len : Nat) (data : List Word) (fd brs oneshot : Bool) (s : State) : Host.Outcome State Fault Refusal :=
  let b (id : Nat) : TxBuf := { f := { ident := ident, data := (sendBytes data).take len, fdf := fd, brs := brs }, what := .send (some id), oneshot := oneshot }
  .next (lineIn (.send q ident len data fd brs oneshot) q s fun s => submit s q (sendSpec q ident len data fd brs oneshot s)
    fun s id => if s.bus.busOff then (s, .reply (s.epoch + 1) [] "FAIL BUS-OFF") else (sendLoad 1 (setBus s fun x => { x with sends := x.sends ++ [b id] }), .send))

/-- The buffer that a SEND has. -/
def sendTb (s : State) (id : Nat) : Option Nat := (s.bus.owners.find? (·.2 = id)).map (·.1)

/-- A cancellation of a SEND: waiting, it ends at once; loaded, the BUS island decides.  Whether the SOF of a loaded
frame has started is not known from the commands: it is a free value. -/
def sendCancel (s : State) (id cancel : Nat) : State × Work :=
  match sendTb s id with
  | none =>
    let s := finish (setBus s fun x => { x with sends := x.sends.filter fun b => b.what != .send (some id) }) id "FAIL CANCELLED"
    (s, doneNow "DONE" s)
  | some n =>
    let begun := match tbOf s n with | some b => txBegun s (n, b) | none => true
    let s := drawn (setBus s fun x => { x with cancels := x.cancels ++ [(n, cancel, id)] })
    if begun then
      (txOutcome (setBus s fun x => { x with tbs := x.tbs.map fun p => if p.1 = n then (n, { p.2 with begun := true }) else p }) n 6 (mono s) 0, .cancel)
    else (txOutcome (setBus s fun x => { x with tbs := tdel x.tbs n }) n 5 (mono s) 0, .cancel)

/-- The SEND of a buffer ends. -/
def sendEnds (s : State) (n : Nat) (body : String) : State :=
  match tget none (s.bus.owners.map fun p => (p.1, some p.2)) n with
  | some id => finish (setBus s fun x => { x with owners := tdel x.owners n }) id body
  | none => s

/-- The CANCELs that wait for an outcome end. -/
def cancelEnds (s : State) (n : Nat) (body : String) : State :=
  let l := s.bus.cancels.filter (·.1 = n)
  l.foldl (fun s c => finish s c.2.1 body) (setBus s fun x => { x with cancels := x.cancels.filter (·.1 != n) })

/-- A delivered record of X193 (R509, R510, R533, R535). -/
def txDeliver (s : State) (r : Rec) : State :=
  if r.val = 0xFFFF then
    let s := [6, 7].foldl (fun s n => cancelEnds (sendEnds s n "FAIL FAULT XING") n "FAIL BEGUN") s
    setBus s fun x => { x with emptyAt := some (s.epoch + 1) }
  else
    let n := (r.val % 8).toNat
    let code := (r.val / 16).toNat
    let loaded := (tbOf s n).isSome
    if code = 1 then sendEnds s n "DONE"
    else if code = 2 then (if loaded then s else sendEnds s n "FAIL TXFAIL ARB")
    else if code = 3 then (if loaded then s else sendEnds s n (if s.bus.offTb = some n then "FAIL BUS-OFF" else "FAIL TXFAIL ERROR"))
    else if code = 4 then sendEnds s n "FAIL BUS-OFF"
    else if code = 5 then cancelEnds (sendEnds s n "FAIL CANCELLED") n "DONE"
    else if code = 6 then cancelEnds s n "FAIL BEGUN"
    else s

/-! ### Errors and bus-off (R511, R512) -/

/-- Every SEND loaded or waiting ends, and the buffers and the waiting frames are emptied. -/
def busEmpties (s : State) (body : String) : State :=
  let s := s.bus.sends.foldl (fun s b => match b.what with | .send (some id) => finish s id body | _ => s) s
  let s := [6, 7].foldl (fun s n => cancelEnds (sendEnds s n body) n "FAIL BEGUN") s
  setBus s fun x => { x with tbs := [], sends := [], waits := [] }

/-- Bus-off: loaded SENDs end by their records, waiting ones at the next boundary. -/
def busOffEnters (s : State) : State :=
  let loaded := s.bus.owners.filter fun p => (tbOf s p.1).isSome
  let s := loaded.foldl (fun s p => txOutcome s p.1 4 (mono s) 0) s
  let s := s.bus.sends.foldl (fun s b => match b.what with | .send (some id) => setWork s id (.reply (s.epoch + 1) [] "FAIL BUS-OFF") | _ => s) s
  let times := s.now :: s.bus.offTimes.filter fun t => s.now < t + 60000 * tickMs
  let cause := match s.bus.lastErr with | some (n, t) => if t = s.now then some n else none | none => none
  setBus s fun x => { x with tbs := [], sends := [], waits := [], offTb := cause, lastErr := none, busOff := true, recovering := false, offAt := s.now, offTimes := times, offs := satInc 0xFFFF x.offs, latch := x.latch || cfgIs s busObj "BOFF" "MANUAL" || 5 ≤ times.length }

/-- BUS_ERROR_STATE: the counters take new values; a transmit counter above 255 is bus-off. -/
def execBusErrorState (tec rec_ : Nat) (s : State) : Host.Outcome State Fault Refusal :=
  .next (if !busHears s then s
    else
      let old := busState s
      let s := setBus s fun x => { x with tec := tec, rec_ := rec_ }
      let s := if 256 ≤ tec then busOffEnters s else s
      if busState s = old then s else busNote s)

/-- BUS_OFF_DELAY_EXPIRY: the recovery starts BOFFDLY after the bus-off. -/
def execBusOffDelayExpiry (s : State) : Host.Outcome State Fault Refusal :=
  .next (if !s.bus.busOff || s.bus.recovering || s.bus.latch || !coreRuns s then s
    else atTick s (some (s.bus.offAt + cfgTicks s busObj "BOFFDLY")) fun s => setBus s fun x => { x with recovering := true })

/-- BUS_OFF_RECOVERED: the sequence has ended; the tunnels' timers restart (R540). -/
def execBusOffRecovered (s : State) : Host.Outcome State Fault Refusal :=
  .next (if !s.bus.busOff || !s.bus.recovering || !coreRuns s then s
    else
      let tuns := s.bus.tuns.map fun p => (p.1, { p.2 with sentAt := s.now, heardAt := s.now })
      busNote (setBus s fun x => { x with busOff := false, recovering := false, tec := 0, rec_ := 0, tuns := tuns }))

/-! ### Joining, sleep and wake (R514, R515, R530, R539) -/

/-- The configuration has been read: the controller is to join. -/
def busStart (s : State) : State := setBus s fun x => { x with joining := cfgOn s busObj "ENABLE" }

/-- BUS_JOIN: 11 recessive bits have been seen. -/
def execBusJoin (s : State) : Host.Outcome State Fault Refusal :=
  .next (if !s.bus.joining || s.bus.asleep || !coreRuns s || s.pwr.committed then s
    else setBus s fun x => { x with joined := true, joining := false, tec := 0, rec_ := 0, hbDue := some (epochTick s (s.epoch + 1)) })

/-- Frames that wait in the queues are discarded and counted. -/
def queuesDrop (s : State) : State :=
  setBus s fun x => { x with dropsA := min 0xFFFF (x.dropsA + x.qA.length), dropsB := min 0xFFFF (x.dropsB + x.qB.length), qA := [], qB := [], epiA := false, epiB := false }

/-- Entry to QUIET. -/
def busQuietEntry (s : State) : State := setBus (queuesDrop s) fun x => { x with sleepBy := some (s.now + 5 * tickMs) }

/-- The transceiver is put to sleep. -/
def busSleeps (s : State) : State :=
  setBus (busEmpties s "FAIL STATE") fun x => { x with asleep := true, joined := false, joining := false, sleepBy := none }

/-- At a boundary in QUIET, where the 5 ms have passed, it sleeps. -/
def busSleepDue (s : State) : State := if s.bus.sleepBy.any (· ≤ s.now) then busSleeps s else s

/-- BUS_SLEEP: the bus is idle, or 5 ms have passed. -/
def execBusSleep (s : State) : Host.Outcome State Fault Refusal :=
  .next (if s.ana.mode != .quiet || s.bus.asleep || s.bus.sleepBy.isNone then s else busSleeps s)

/-- The return from QUIET: the controller is to rejoin. -/
def busWakes (s : State) : State :=
  setBus s fun x => { x with asleep := false, sleepBy := none, joined := false, joining := cfgOn s busObj "ENABLE", tec := 0, rec_ := 0 }

def wakeKindCode : CanWakeKind → Nat
  | .pattern => 1 | .frame => 2 | .errors => 3

/-- CAN_WAKE: the wake that WAKEMODE arms (Table BUS-4). -/
def execCanWake (k : CanWakeKind) (s : State) : Host.Outcome State Fault Refusal :=
  .next (let m := cfgWord s busObj "WAKEMODE"
    let armed := match k with | .pattern => m = "PATTERN" | _ => m = "FRAME"
    if !s.bus.asleep || s.ana.mode != .quiet || !armed then s
    else { setBus s fun x => { x with wakeCause := wakeKindCode k } with pwr := { s.pwr with waking := some .can } })

/-- A change of the bus settings: the controller leaves and rejoins (R539). -/
def busLeaves (s : State) : State :=
  setBus (busEmpties s "FAIL STATE CONFIG") fun x => { x with qA := [], qB := [], epiA := false, epiB := false, joined := false, joining := cfgOn s busObj "ENABLE" && !x.asleep, busOff := false, recovering := false, tec := 0, rec_ := 0 }

/-- The commit to shutdown: what has begun runs to its end (R530). -/
def busCommit (s : State) : State := drawn (setBus s fun x => { x with tbs := x.tbs.filter (txBegun s), joining := false })

/-- ACK BUS clears the latch and starts the recovery; the conflict, after 10 s without such a heartbeat or with another
node (R512, R519). -/
def conflictAckable (s : State) : Bool :=
  s.bus.conflict && (s.bus.conflictAt + 10000 * tickMs ≤ s.now || s.bus.conflictNode != nodeAddr s)

def latchAck (s : State) : State := setBus s fun x => { x with latch := false, recovering := x.busOff }
def conflictAck (s : State) : State := setBus s fun x => { x with conflict := false }

/-! ### Attributes and registers (R543, R544) -/

def busTimingStr (s : State) : String :=
  let f (t : BitTiming) : List String := [natStr t.brp, natStr t.n, natStr t.tseg1, natStr t.tseg2]
  joinStr "," (f (timingOr (nomTiming s)) ++ f (timingOr (dataTiming s)))

def busAttr (s : State) (a : String) : String :=
  let b := s.bus
  if a = "STATE" then busStateName (busState s)
  else if a = "TEC" then natStr (min 255 b.tec) else if a = "REC" then natStr (min 255 b.rec_)
  else if a = "TIMING" then busTimingStr s
  else if a = "SESSIONS" then (if b.tuns.isEmpty then "NONE" else joinStr "," (b.tuns.map fun p => "BUS" ++ natStr (p.1 + 1) ++ "=" ++ natStr p.2.node))
  else
    let past (k : Nat) : Nat := b.past.getD k 0
    joinStr "," ([b.rx + past 0, b.txn + past 1, b.unmatched + past 2, b.unused + past 3, b.stale, b.macFails + past 4, b.offs + past 5].map natStr)

def filterAttr (s : State) (n : Nat) : String := natStr (tget 0 s.bus.hits n)

/-- Bits of a set of buffers. -/
def tbBits (s : State) (p : Nat × TxBuf → Bool) : Nat := s.bus.tbs.foldl (fun acc x => if p x then acc + 2 ^ x.1 else acc) 0

/-- BUS (Table BUS-13). -/
def busReg (s : State) (off : Nat) : Option Word :=
  let b := s.bus
  let n := timingOr (nomTiming s)
  let d := timingOr (dataTiming s)
  let codes (a : String) (k : Nat) : Nat := match (cfgVal s busObj a)[k]? with | some (.code v) => v | _ => 0
  if off = 0x00 then some (fieldWord [(0, 3, busState s), bit 3 (cfgOn s busObj "LISTEN"), bit 4 b.latch, bit 5 b.conflict, (8, 6, nodeAddr s)])
  else if off = 0x04 then some (fieldWord [(0, 8, min 255 b.tec), (8, 8, min 255 b.rec_)])
  else if off = 0x08 then some (fieldWord [(0, 6, n.brp), (8, 7, n.tseg1), (16, 7, n.tseg2), (24, 7, sjwOf s "NSJW" n)])
  else if off = 0x0C then some (fieldWord [(0, 6, d.brp), (8, 6, d.tseg1), (16, 6, d.tseg2), (24, 6, sjwOf s "DSJW" d)])
  else if off = 0x10 then some (fieldWord [(0, 8, b.delay.toNat), (8, 8, if tdcOn s then (1 + d.tseg1) * d.brp else 0), bit 16 (tdcOn s)])
  else if off = 0x14 then some (fieldWord [(0, 5, b.qA.length), (8, 5, b.peakA), (16, 16, b.dropsA)])
  else if off = 0x18 then some (fieldWord [(0, 6, b.qB.length), (8, 6, b.peakB), (16, 16, b.dropsB)])
  else if off = 0x1C then some (fieldWord [(0, 8, tbBits s fun _ => true), (8, 8, tbBits s (txBegun s)), (16, 8, tbBits s (·.2.oneshot))])
  else if off = 0x20 then some (fieldWord [(0, 2, idxOf ["OFF", "PATTERN", "FRAME"] (cfgWord s busObj "WAKEMODE")), (4, 2, b.wakeCause)])
  else if off = 0x24 then some (BitVec.ofNat 32 (codes "WAKEID" 0))
  else if off = 0x28 then some (BitVec.ofNat 32 (codes "WAKEMASK" 0))
  else if off = 0x2C then some (BitVec.ofNat 32 (cfgNat s busObj "WAKEDLC"))
  else if off = 0x30 then some (BitVec.ofNat 32 (codes "WAKEDATA" 0))
  else if off = 0x34 then some (BitVec.ofNat 32 (codes "WAKEDATA" 1))
  else if off = 0x40 then some (BitVec.ofNat 32 b.rx)
  else if off = 0x44 then some (BitVec.ofNat 32 b.txn)
  else if off = 0x48 then some (fieldWord [(0, 16, b.unmatched), (16, 16, b.unused)])
  else if off = 0x4C then some (fieldWord [(0, 16, b.offs), (16, 16, b.macFails)])
  else if off = 0x5C then some 0
  else if 0x100 ≤ off && off < 0x400 then
    let k := (off - 0x100) / 16
    let f := filterOf s k
    if off % 16 = 0 then some (BitVec.ofNat 32 f.1)
    else if off % 16 = 4 then some (BitVec.ofNat 32 f.2.1)
    else if off % 16 = 8 then some (fieldWord [(0, 2, f.2.2.2), bit 2 (filterNotify s k), bit 3 f.2.2.1, bit 4 (filterOwned s k), (16, 16, tget 0 b.hits k)])
    else none
  else none

/-- BUS_CLR. -/
def busClr (s : State) : State :=
  let b := s.bus
  let past := ([b.rx, b.txn, b.unmatched, b.unused, b.macFails, b.offs].zipIdx).map fun p => p.1 + b.past.getD p.2 0
  setBus s fun x => { x with past := past, rx := 0, txn := 0, unmatched := 0, unused := 0, offs := 0, macFails := 0, dropsA := 0, dropsB := 0, peakA := 0, peakB := 0 }

def execBusClr (v : Word) (s : State) : Host.Outcome State Fault Refusal := .next (if v.getLsbD 0 then busClr s else s)

end Sys2Proof.Machine
end

