-- ==== Sys2Proof/Machine/Lantern.lean ====
section
/-!
DEFINITION. The Lantern (*Lantern: driving the e-paper panel*): the waveform table, updates and their leave, frames,
hardware blink, aborts and recovery, the panel record, and the status crossing X198.
-/
namespace Sys2Proof.Machine
open Sys2Proof

def lanObj : Obj := ⟨.lan, 0⟩
def lanSegObj (e : Nat) : Obj := ⟨.seg, e⟩

def setLan (s : State) (f : Lan → Lan) : State := { s with lan := f s.lan }

/-- The modes in which DRAW, BLINK and toggles are allowed (R606). -/
def lanModeOk (s : State) : Bool := modeIs s [.run, .safe, .cooldown, .bench]

/-! ### The waveform table (R588 to R591) -/

/-- The name of a waveform's attribute (Table LAN-5). -/
def waveName (o n b : Nat) : String :=
  "WV" ++ (if o = 4 then "U" else natStr o) ++ "." ++ natStr n ++ "." ++ natStr b

/-- The unit of a band in the factory table (R591). -/
def waveUnit (b : Nat) : Nat := [5, 4, 4, 3, 2, 2, 2, 2].getD b 2

/-- The steps of a factory waveform: 1 DARK, 2 LIGHT. -/
def factorySteps (o n b : Nat) : List Nat :=
  let u := waveUnit b
  if o = n then []
  else if o = 4 then List.replicate (3 * u) 2 ++ List.replicate (n * u) 1
  else if o < n then List.replicate ((n - o) * u) 1 else List.replicate ((o - n) * u) 2

/-- Sixteen steps as one word, the first in bits 31:30. -/
def stepsWord (l : List Nat) : Nat := ((l ++ List.replicate 16 3).take 16).foldl (fun a c => 4 * a + c) 0

/-- The high and the low word of a waveform. -/
def waveCodes (s : State) (o n b : Nat) : Nat × Nat :=
  match cfgVal s lanObj (waveName o n b) with
  | [.code h, .code l] => (h, l)
  | _ => let f := factorySteps o n b; (stepsWord f, stepsWord (f.drop 16))

/-- The 32 steps of a waveform. -/
def waveSteps (h l : Nat) : List Nat :=
  ((List.range 16).map fun k => h / 4 ^ (15 - k) % 4) ++ ((List.range 16).map fun k => l / 4 ^ (15 - k) % 4)

/-- A waveform: the steps before its first END. -/
def waveform (s : State) (o n b : Nat) : List Nat :=
  let c := waveCodes s o n b
  (waveSteps c.1 c.2).takeWhile (· != 3)

/-- R589: no step after an END, and no step at all where the levels are equal. -/
def waveOk (o n h l : Nat) : Bool :=
  let st := waveSteps h l
  ((st.dropWhile (· != 3)).all (· = 3)) && (o != n || (st.takeWhile (· != 3)).isEmpty)

/-- BANDS in °C. -/
def lanBands (s : State) : List Int :=
  (cfgVal s lanObj "BANDS").filterMap fun i => match i with | .num v => some (v / 1000000000) | _ => none

/-- The temperature that PANELSRC last delivered, in 2^-16 °C. -/
def panelTemp (s : State) : Option Int :=
  if cfgIs s ⟨.thm, 0⟩ "PANELSRC" "MODULE" then s.thm.ts else s.thm.panelT

/-- The band of the present temperature (R590). -/
def bandNow (s : State) : Nat :=
  match panelTemp s with
  | none => 0
  | some t => min 7 ((((lanBands s).drop 1).filter fun b => b * 65536 ≤ t).length)

/-! ### Levels and targets (R586, R593) -/

def lvlOf (s : State) (e : Nat) : Nat := tget 4 s.lan.lvl e
def tgtOf (s : State) (e : Nat) : Nat := tget 4 s.lan.tgt e
def electrodes : List Nat := List.range 129

/-- The target that every accepted update leaves. -/
def wantOf (s : State) (e : Nat) : Nat :=
  s.lan.upds.foldl (fun w u => match u.els.find? (·.1 = e) with | some p => p.2 | none => w) (tgtOf s e)

/-- The slot of a segment. -/
def slotOf (s : State) (e : Nat) : Option (Nat × BlinkSt) := s.lan.slots.find? fun p => p.2.seg = e

/-- A segment blinks: its slot is armed. -/
def blinking (s : State) (e : Nat) : Bool := s.lan.slots.any fun p => p.2.seg = e && p.2.armed

def setSlot (s : State) (k : Nat) (b : BlinkSt) : State := setLan s fun x => { x with slots := tset x.slots k b }

/-- The electrodes that an update drives, with their targets and their waveforms (R592). -/
def lanPlan (s : State) (u : LanUpd) (band : Nat) : List (Nat × Nat × List Nat) :=
  if u.full then
    let pass := cfgNat s lanObj "FULLPASS"
    electrodes.filterMap fun e =>
      let n := match u.els.find? (·.1 = e) with | some p => p.2 | none => tgtOf s e
      if blinking s e || 3 < n then none else some (e, n, (List.replicate pass (waveform s 4 n band)).flatten)
  else
    u.els.filterMap fun p =>
      let o := lvlOf s p.1
      if o = p.2 || (u.kind = .draw && blinking s p.1) then none else some (p.1, p.2, waveform s o p.2 band)

/-- The frame count of a plan. -/
def planFrames (s : State) (l : List (Nat × Nat × List Nat)) : Nat :=
  l.foldl (fun m p => max m p.2.2.length) 0 + cfgNat s lanObj "SETTLE"

/-! ### The panel record (R587) -/

/-- A store write of the device itself, for which no command waits. -/
def storeInternal (s : State) (x : Eff) : State :=
  if storeReadOnly s then s
  else queueStore { s with vil := { s.vil with nextId := s.vil.nextId + 1 } } s.vil.nextId x

def panelWrite (s : State) (prog : List (Nat × Nat)) : State := storeInternal s (.panel s.lan.lvl s.lan.tgt prog)

/-- The write of a panel record completes. -/
def panelStored (s : State) (lvl tgt : Tbl Nat) (prog : List (Nat × Nat)) : State :=
  setLan s fun x => { x with recLvl := lvl, recTgt := tgt, recProg := prog }

/-! ### The status crossing (R608) -/

/-- Both rails are at 95 % or beyond: frames are being driven. -/
def pumpOk (s : State) : Bool := match s.lan.job with | some j => j.frameEnd.isSome | none => false

/-- The pump runs (R585). -/
def pumpOn (s : State) : Bool := s.lan.job.isSome

/-- The common plane of an electrode, and the voltage it is held at, in mV (R584, R585). -/
def vcomOf (s : State) (e : Nat) : Int := cfgInt s lanObj (if e < 64 then "VCOM0" else "VCOM1") 1000000

/-- The drive code that an electrode takes in the frame in progress: HOLD before frames, after its waveform, and where it is
not driven (Table LAN-1). -/
def driveCode (s : State) (e : Nat) : Nat :=
  match s.lan.job with
  | some j =>
    if j.frameEnd.isNone then 0
    else match j.run.find? (·.1 = e) with | some p => p.2.2.getD j.frame 0 | none => 0
  | none => 0

/-- The voltage of an electrode in mV. -/
def electrodeMv (s : State) (e : Nat) : Int :=
  match driveCode s e with | 1 => 15000 | 2 => -15000 | _ => vcomOf s e

/-- A panel pad: high impedance in OFF and while the core die is in reset (Table ELC-7). -/
def panelPad (s : State) (e : Nat) : Option Int := if coreRuns s && s.ana.mode != .off then some (electrodeMv s e) else none

def lanStatus (s : State) : XWord :=
  let x := s.lan
  BitVec.ofNat 16 ((if pumpOk s then 3 else 0) + (if x.aborted then 4 else 0) + 8 * (x.cause % 4) + 32 * (x.band % 8) + 256 * (x.driven % 256))

def lanPost (s : State) : State := arrive (setLan s fun x => { x with postAt := s.now }) 198 (lanStatus s) none .none

/-- LANTERN_STATUS_POST: 50 ms after the last post. -/
def execLanternStatusPost (s : State) : Host.Outcome State Fault Refusal :=
  .next (if coreRuns s && s.ana.mode != .quiet then atTick s (some (s.lan.postAt + 50 * tickMs)) lanPost else s)

/-! ### Leave (R594, R595) -/

/-- The head asks for leave where it may. -/
def lanAsk (s : State) : State :=
  let x := s.lan
  match x.upds with
  | u :: _ =>
    if x.phase != .idle || x.recov || !x.marks.isEmpty || x.xfail || !lanModeOk s then s
    else
      let dur := planFrames s (lanPlan s u (bandNow s)) * cfgMilli s lanObj "FRAME"
      match leaveReq s .lantern .routine (max 20 dur) u.cmd with
      | some r => askLeave (setLan s fun x => { x with phase := .asked, markSince := false }) (s.epoch + 1) r
      | none => s
  | [] => s

/-- The head leaves the list. -/
def lanPop (s : State) : State := setLan s fun x => { x with upds := x.upds.drop 1, phase := .idle }

def slotFreed (s : State) (k : Option Nat) : State :=
  match k with
  | some k => setLan s fun x => { x with slots := tdel x.slots k }
  | none => s

/-- The command of an update ends. -/
def lanEnds (s : State) (cmd : Option Nat) (body : String) : State :=
  match cmd with | some id => finish s id body | none => s

/-- The command of an update ends at the next boundary (R596). -/
def lanEndsNext (s : State) (cmd : Option Nat) (body : String) : State :=
  match cmd with | some id => setWork s id (.reply (s.epoch + 1) [] body) | none => s

/-- The head ends without a frame: a blink start frees its slot, a refresh is owed. -/
def lanGives (s : State) (u : LanUpd) (again : Bool) : State :=
  let s := lanPop s
  let s := if u.kind = .refresh then setLan s fun x => { x with owed := x.owed || again } else s
  slotFreed s u.slot

/-- Its command fails now, at a boundary. -/
def lanFails (s : State) (body : String) (again : Bool) : State :=
  match s.lan.upds with
  | [] => s
  | u :: _ => lanEnds (lanGives s u again) u.cmd body

/-- Its command fails at the next boundary. -/
def lanFailsNext (s : State) (body : String) (again : Bool) : State :=
  match s.lan.upds with
  | [] => s
  | u :: _ => lanEndsNext (lanGives s u again) u.cmd body

/-- The head's frames begin with the pump. -/
def lanStart (s : State) : State :=
  match s.lan.upds with
  | [] => s
  | u :: _ =>
    let band := bandNow s
    let l := lanPlan s u band
    setLan s fun x => { x with phase := .running, band := band, driven := 0, job := some { band := band, frameT := cfgTicks s lanObj "FRAME", pumpAt := s.now, run := l, total := planFrames s l } }

/-- The head starts at a boundary, where nothing holds it back (R595). -/
def lanTake (s : State) : State :=
  if !s.thm.winPanel then lanFails (leaveReturn s .lantern) "FAIL TEMP" true
  else if s.lan.markSince || s.lan.recov || s.lan.xfail || !s.lan.marks.isEmpty || !lanModeOk s then
    setLan (leaveReturn s .lantern) fun x => { x with phase := .idle }
  else if s.lan.job.isSome then setLan s fun x => { x with phase := .held }
  else lanStart s

/-- The grant of the head is delivered (R595): the start is written at once, or, where LAN is assigned S, posted to KEEPER and
made one epoch later (R232). -/
def lanGranted (s : State) : State :=
  if blockS s 14 && s.thm.winPanel then setLan s fun x => { x with phase := .held, startAt := some (s.epoch + 1) } else lanTake s

/-- A start that KEEPER makes at this boundary. -/
def lanPosted (s : State) : State :=
  match s.lan.startAt with
  | some e =>
    if s.epoch < e then s
    else
      let s := setLan s fun x => { x with startAt := none }
      if s.lan.phase = .held then lanTake (setLan s fun x => { x with phase := .asked }) else s
  | none => s

/-- Lamplighter's answer for the Lantern. -/
def lanAnswer (s : State) (m : LMsg) : State :=
  if s.lan.phase != .asked then (if m.a = .granted then leaveReturn s .lantern else s)
  else match m.a with
    | .granted => lanGranted s
    | .refused why => lanFails s ("FAIL LEAVE " ++ why) false
    | .timeout =>
      match s.lan.upds with
      | u :: l =>
        if u.kind = .refresh then
          lanEnds (setLan s fun x => { x with phase := .idle, upds := { u with cmd := none } :: l }) u.cmd "FAIL LEAVE-TIMEOUT"
        else lanFails s "FAIL LEAVE-TIMEOUT" false
      | [] => s
    | .calmBreak => s

/-! ### Toggles (R598, R599) -/

/-- The slots whose toggles wait. -/
def slotsWaiting (s : State) : List (Nat × BlinkSt) := s.lan.slots.filter fun p => p.2.armed && p.2.waits

/-- The level that a slot's next toggle drives its segment to. -/
def toggleTo (b : BlinkSt) : Nat := if b.atB then b.a else b.b

/-- The waiting toggles are driven as one update, where nothing holds them back. -/
def lanToggles (s : State) : State :=
  let x := s.lan
  let ws := slotsWaiting s
  if ws.isEmpty || x.job.isSome || x.gate || !x.marks.isEmpty || x.recov || !s.thm.winPanel || !lanModeOk s then s
  else
    let band := bandNow s
    let l := ws.map fun p => (p.2.seg, toggleTo p.2, waveform s (lvlOf s p.2.seg) (toggleTo p.2) band)
    setLan s fun x => { x with band := band, driven := 0, slots := x.slots.map (fun p => (p.1, { p.2 with waits := false })), job := some { toggle := true, slots := ws.map (·.1), band := band, frameT := cfgTicks s lanObj "FRAME", pumpAt := s.now, run := l, total := planFrames s l } }

/-- A toggle joins one that has been started at the same tick. -/
def toggleJoin (s : State) (k : Nat) : Bool :=
  match s.lan.job with
  | some j => j.toggle && j.frameEnd.isNone && j.pumpAt = s.now && !j.slots.contains k
  | none => false

def toggleAdd (s : State) (k : Nat) (b : BlinkSt) : State :=
  match s.lan.job with
  | some j =>
    let l := j.run ++ [(b.seg, toggleTo b, waveform s (lvlOf s b.seg) (toggleTo b) j.band)]
    setLan s fun x => { x with job := some { j with slots := j.slots ++ [k], run := l, total := planFrames s l } }
  | none => s

/-- A slot's half period elapses: a toggle that still waits is dropped, and this one is driven or waits. -/
def toggleDue (k : Nat) (b : BlinkSt) (t : Nat) (s : State) : State :=
  let s := if b.waits then setLan s fun x => { x with nDrop := satInc 255 x.nDrop } else s
  let b := match b.change with
    | some (p, a, c) => { b with period := p, a := a, b := c, change := none }
    | none => b
  let b := { b with next := some (t + b.period * tickMs / 2), waits := true }
  if toggleJoin s k then toggleAdd (setSlot s k { b with waits := false }) k b else lanToggles (setSlot s k b)

/-- BLINK_TOGGLE. -/
def execBlinkToggle (k : Fin 8) (s : State) : Host.Outcome State Fault Refusal :=
  .next (match s.lan.slots.find? (·.1 = k.val) with
    | some (_, b) => match b.next with
      | some t => if b.armed && lanModeOk s && coreRuns s then atTick s (some t) (toggleDue k b t) else s
      | none => s
    | none => s)

/-! ### The end of an update, and of a toggle (R596, R598) -/

/-- What follows the end of what was driven: a granted update that was held back, then the toggles that wait. -/
def lanNext (s : State) : State :=
  lanToggles (if s.lan.phase = .held && s.lan.startAt.isNone then lanTake (setLan s fun x => { x with phase := .asked }) else s)

/-- The slots of a toggle hold their new level. -/
def slotsToggled (s : State) (l : List Nat) : State :=
  setLan s fun x => { x with slots := x.slots.map fun p => if l.contains p.1 then (p.1, { p.2 with atB := !p.2.atB }) else p }

/-- A blink slot is armed at the end of its start (R597, R598). -/
def slotArm (s : State) (k : Option Nat) : State :=
  match k.bind fun k => s.lan.slots.find? (·.1 = k) with
  | some (k, b) => setSlot s k { b with armed := true, atB := false, waits := false, next := some (s.now + b.period * tickMs / 2) }
  | none => s

/-- The body of a finished update's final line. -/
def lanDone (slot : Option Nat) (frames : Nat) : String :=
  if slot.isSome then "DONE" else "DONE FRAMES=" ++ natStr frames

/-- The update at the head has been driven to its end. -/
def updDone (s : State) : State :=
  match s.lan.upds with
  | [] => s
  | u :: _ =>
    let s := leaveReturn (lanPop s) .lantern
    lanEndsNext (slotArm s u.slot) u.cmd (lanDone u.slot u.frames)

/-- The last frame ends. -/
def lanFinish (s : State) (j : LanJob) : State :=
  let lvl := j.run.foldl (fun t p => tset t p.1 p.2.1) s.lan.lvl
  let s := setLan s fun x => { x with lvl := lvl, job := none, abort := none, nUpd := satInc 65535 x.nUpd }
  let s := panelWrite s []
  lanNext (if j.toggle then slotsToggled s j.slots else updDone s)

/-! ### Aborts (R602, R603, R609, R610) -/

def abortName (c : Nat) : String := ["MARK", "PUMP", "MODE", "XING"].getD c "-"

/-- The cause of a status word: bits 4:3 have no code for an abort by X198, a free value there. -/
def causeCode (s : State) (c : Nat) : State × Nat :=
  if c < 3 then (s, c) else (drawn s, (freeBits 2 s).toNat)

/-- Recovery is pending from now on. -/
def recovStarts (s : State) (pump : Bool) : State :=
  setLan s fun x => { x with recov := true, recUntil := max (if x.recov then x.recUntil else 0) (s.now + 100 * tickMs), abortAt := s.now, pumpCause := pump || (x.recov && x.pumpCause) }

/-- What was driven is aborted at the end of a frame: electrodes with steps left become U with their targets. -/
def lanAborts (s : State) (j : LanJob) (c : Nat) : State :=
  let cutEls := j.run.filter fun p => j.frame < p.2.2.length
  let s := setLan s fun x => { x with lvl := cutEls.foldl (fun t p => tset t p.1 4) x.lvl, job := none, abort := none, nAbort := satInc 255 x.nAbort }
  let cc := causeCode s c
  let s := setLan cc.1 fun x => { x with aborted := true, cause := cc.2 }
  let s := panelWrite s []
  let s := recovStarts s (c = 1)
  let s :=
    if j.toggle then slotsToggled s j.slots
    else if cutEls.isEmpty then updDone s
    else match s.lan.upds with
      | u :: _ =>
        let c : Option LanCut := if u.cmd.isSome || u.slot.isSome then some ⟨u.cmd, u.frames, u.slot⟩ else none
        leaveReturn (setLan (lanPop s) fun x => { x with cut := c }) .lantern
      | [] => s
  let s := notifyLate s "LAN.ABORT" none ("SEGMENTS=" ++ natStr cutEls.length ++ " CAUSE=" ++ abortName c)
  lanPost s

/-- A start of the pump for an update or a toggle is given up before its first frame: the update goes back to the head of
the queue without its grant, and the toggles wait again. -/
def lanUnstart (s : State) (j : LanJob) : State :=
  let s := setLan s fun x => { x with job := none, abort := none }
  if j.toggle then setLan s fun x => { x with slots := x.slots.map fun p => if j.slots.contains p.1 then (p.1, { p.2 with waits := true }) else p }
  else leaveReturn (setLan s fun x => { x with phase := .idle }) .lantern

/-- An abort is commanded: PUMP stands before the others (R610). -/
def lanAbortAsk (s : State) (c : Nat) : State :=
  match s.lan.job with
  | some j =>
    if j.test then s
    else if j.frameEnd.isNone then lanUnstart s j
    else setLan s fun x => { x with abort := match x.abort with | some a => if c = 1 then some 1 else some a | none => some c }
  | none => s

/-- After a commit, what is driven stops at the end of the step in progress (R57): electrodes with steps left become U. -/
def lanStops (s : State) (j : LanJob) : State :=
  setLan s fun x => { x with lvl := (j.run.filter fun p => j.frame < p.2.2.length).foldl (fun t p => tset t p.1 4) x.lvl, job := none, abort := none }

/-- PUMP_DIP: a rail below 90 % while frames are driven. -/
def execPumpDip (s : State) : Host.Outcome State Fault Refusal :=
  .next (if pumpOk s then lanAbortAsk s 1 else s)

/-! ### Frames (R585, R592, R595) -/

/-- A frame of the head has been driven. -/
def countFrame (s : State) (j : LanJob) : State :=
  if j.toggle then s
  else setLan s fun x => { x with upds := match x.upds with | u :: l => { u with frames := u.frames + 1 } :: l | [] => [] }

/-- LAN_FRAME_END. -/
def execLanFrameEnd (s : State) : Host.Outcome State Fault Refusal :=
  .next (match s.lan.job with
    | none => s
    | some j => atTick s j.frameEnd fun s =>
      let j := { j with frame := j.frame + 1 }
      let ended := j.run.filter fun p => p.2.2.length ≤ j.frame
      let s := countFrame (setLan s fun x => { x with driven := j.frame, lvl := ended.foldl (fun t p => tset t p.1 p.2.1) x.lvl, job := some { j with frameEnd := some (s.now + j.frameT) } }) j
      if s.pwr.committed then lanStops s j
      else if j.total ≤ j.frame then lanPost (lanFinish s j)
      else match s.lan.abort with
        | some c => lanAborts s j c
        | none => lanPost s)

/-- Recovery ends: a refresh of every U electrode to its target is placed ahead of the DRAWs (R604). -/
def placeRefresh (s : State) : State :=
  let els := (electrodes.filter fun e => lvlOf s e = 4 && tgtOf s e ≤ 3).map fun e => (e, tgtOf s e)
  let c := s.lan.cut
  let s := setLan s fun x => { x with cut := none, owed := false }
  let cmd := c.bind (·.cmd)
  let slot := c.bind (·.slot)
  let frames := (c.map (·.frames)).getD 0
  if els.isEmpty then lanEndsNext (slotArm s slot) cmd (lanDone slot frames)
  else
    let u : LanUpd := { kind := .refresh, els := els, cmd := cmd, frames := frames, slot := slot }
    let s := setLan s fun x => { x with upds := if x.phase = .idle then u :: x.upds else x.upds.take 1 ++ u :: x.upds.drop 1 }
    lanAsk (notify s "LAN.REFRESH" none ("SEGMENTS=" ++ natStr els.length))

/-- Recovery is over: the refresh is placed once the mode and the window allow updates. -/
def recovEnds (s : State) : State :=
  let s := setLan s fun x => { x with recov := false, pumpCause := false, aborted := false }
  if lanModeOk s && s.thm.winPanel then placeRefresh s else setLan s fun x => { x with owed := true }

/-- RECOVERY_END; after a PUMP abort the rails are tested first (R604). -/
def execRecoveryEnd (s : State) : Host.Outcome State Fault Refusal :=
  .next (let x := s.lan
    if !x.recov || !x.marks.isEmpty || x.xfail || x.job.isSome || !coreRuns s then s
    else atTick s (some (epochCeil s x.recUntil)) fun s =>
      if x.pumpCause then setLan s fun x => { x with job := some { test := true, pumpAt := s.now } } else recovEnds s)

/-- The frames begin: the targets are taken, and the start record is written (R587). -/
def framesBegin (s : State) (j : LanJob) : State :=
  let prog := j.run.map fun p => (p.1, p.2.1)
  let s := setLan s fun x => { x with tgt := prog.foldl (fun t p => tset t p.1 p.2) x.tgt, aborted := false, job := some { j with frameEnd := some (s.now + j.frameT) } }
  let s := panelWrite s prog
  if j.total = 0 then lanFinish s j else s

/-- The rails as measured: no rule states what they read. -/
def railsRead (s : State) : State :=
  setLan (drawn (drawn s)) fun x => { x with vpos := (freeBits 16 s).toNat, vneg := (freeBits 16 (drawn s)).toNat }

/-- PUMP_READY. -/
def execPumpReady (s : State) : Host.Outcome State Fault Refusal :=
  .next (match s.lan.job with
    | none => s
    | some j =>
      if j.frameEnd.isSome || j.pumpAt + 2 * tickMs < s.now then s
      else
        let s := railsRead s
        if j.test then recovEnds (setLan s fun x => { x with job := none }) else framesBegin s j)

/-- PUMP_TIMEOUT. -/
def execPumpTimeout (s : State) : Host.Outcome State Fault Refusal :=
  .next (match s.lan.job with
    | none => s
    | some j =>
      if j.frameEnd.isSome then s
      else atTick s (some (j.pumpAt + 2 * tickMs)) fun s =>
        let s := notifyLate (setLan s fun x => { x with job := none, abort := none, fault := true }) "LAN.PUMP" none "STATE=FAULT"
        if j.test then
          let c := s.lan.cut
          let s := setLan s fun x => { x with recov := false, pumpCause := false, cut := none, owed := true }
          lanEndsNext (slotFreed s (c.bind (·.slot))) (c.bind (·.cmd)) "FAIL STATE PUMP"
        else if j.toggle then lanNext s
        else lanNext (lanFailsNext (leaveReturn s .lantern) "FAIL STATE PUMP" true))

/-- DRAW_SUPPLY_TIMEOUT (R605). -/
def execDrawSupplyTimeout (s : State) : Host.Outcome State Fault Refusal :=
  .next (match s.lan.cut with
    | some c =>
      if !s.lan.recov || c.slot.isSome || c.cmd.isNone then s
      else atTick s (some (epochCeil s (s.lan.abortAt + 10000 * tickMs))) fun s =>
        lanEnds (setLan s fun x => { x with cut := none }) c.cmd "FAIL STATE SUPPLY"
    | none => s)

/-! ### Marks and X198 as delivered (R595, R602, R604, R608, R611) -/

/-- A record is delivered to KEEPER, or X198 to WORK0. -/
def lanDeliver (s : State) (r : Rec) : State :=
  match r.pay with
  | .mark k _ stop _ => setLan s fun x => { x with markMsgs := x.markMsgs ++ [(s.epoch + 1, k, stop.isNone)] }
  | _ =>
    if r.x != 198 then s
    else match r.ev with
      | some (.begins _) =>
        let s := lanAbortAsk (setLan s fun x => { x with xfail := true }) 3
        setLan s fun x => { x with recov := true, recUntil := max (if x.recov then x.recUntil else 0) s.now, abortAt := if x.recov then x.abortAt else s.now }
      | some .ends => setLan s fun x => { x with xfail := false, recUntil := max x.recUntil s.now }
      | _ => s

/-- The forwarded report of a mark reaches WORK0. -/
def lanMark (s : State) (m : Nat × MarkKind × Bool) : State :=
  let k := m.2.1
  if m.2.2 then lanAbortAsk (setLan s fun x => { x with marks := if x.marks.contains k then x.marks else x.marks ++ [k], markSince := true }) 0
  else
    setLan s fun x =>
      let l := x.marks.filter (· != k)
      { x with marks := l, recUntil := if x.recov && l.isEmpty then max x.recUntil (s.now + 100 * tickMs) else x.recUntil }

/-- The Lantern's part of a boundary, after the decision of Lamplighter: the reports forwarded to WORK0, the gate of the
toggles, a refresh that is owed, the request of the head, and the toggles that wait. -/
def lanBoundary (s : State) : State :=
  let due := s.lan.markMsgs.filter fun m => m.1 ≤ s.epoch
  let s := due.foldl lanMark (setLan s fun x => { x with markMsgs := x.markMsgs.filter fun m => s.epoch < m.1 })
  let s := setLan s fun x => { x with gate := windowOpen s.lve }
  let s := if lanModeOk s then setLan s fun x => { x with slots := x.slots.map fun p => if p.2.armed && p.2.next.isNone then (p.1, { p.2 with next := some (s.now + p.2.period * tickMs / 2) }) else p } else s
  let s := if s.lan.owed && !s.lan.recov && !s.lan.fault && lanModeOk s && s.thm.winPanel then placeRefresh s else s
  lanToggles (lanAsk (lanPosted s))

/-! ### Modes, shutdown and restart (R587, R602, R605, R606) -/

/-- Every DRAW that is outstanding ends, but that of the update being driven goes on to the end of its frame. -/
def drawsEnd (s : State) (body : String) : State :=
  let cmds := (s.lan.upds.filter fun u => u.slot.isNone).filterMap (·.cmd)
  let cmds := match s.lan.cut with | some c => if c.slot.isNone then cmds ++ c.cmd.toList else cmds | none => cmds
  let running := s.lan.phase = .running
  let keep (l : List LanUpd) : List LanUpd := (l.filter fun u => u.kind != .draw).map fun u => if u.slot.isNone then { u with cmd := none } else u
  let s := setLan s fun x => { x with cut := match x.cut with | some c => if c.slot.isNone then none else some c | none => none, upds := if running then (x.upds.take 1).map (fun u => if u.slot.isNone then { u with cmd := none } else u) ++ keep (x.upds.drop 1) else keep x.upds }
  cmds.foldl (fun s id => finish s id body) s

/-- The DRAW of the update being driven ends. -/
def drawCut (s : State) (body : String) : State :=
  match s.lan.upds with
  | u :: l =>
    if s.lan.phase = .running && u.slot.isNone then lanEnds (setLan s fun x => { x with upds := { u with cmd := none } :: l }) u.cmd body else s
  | [] => s

/-- Entry to SAFE, COOL-DOWN, REPLAY, BIST or QUIET. -/
def lanMode (s : State) (m : Mode) : State :=
  let body := "FAIL STATE " ++ modeName m
  let s := lanAbortAsk s 2
  let s := if m = .safe || m = .cooldown || m = .replay then drawsEnd s body else drawCut s body
  let s := if s.lan.phase = .asked then setLan (leaveWithdraw s .lantern) fun x => { x with phase := .idle }
    else if s.lan.phase = .held then setLan (leaveReturn s .lantern) fun x => { x with phase := .idle } else s
  if m = .quiet || m = .bist || m = .replay then
    setLan s fun x => { x with slots := x.slots.map fun p => (p.1, { p.2 with next := none, waits := false }) }
  else s

/-- A warm restart of the workers: the updates of WORK0 are gone, and what is being driven is aborted. -/
def lanWarm (s : State) : State :=
  let s := lanAbortAsk s 2
  let head := if s.lan.phase = .running then (s.lan.upds.take 1).map fun u => { u with cmd := none, slot := none } else []
  setLan s fun x => { x with upds := head, phase := if head.isEmpty then .idle else x.phase, cut := none, slots := x.slots.filter fun p => p.2.armed, markMsgs := [] }

/-- A commit: no update waits, and what is driven goes on to the end of the step in progress (R57, R602). -/
def lanCommit (s : State) : State :=
  setLan s fun x => { x with upds := [], phase := .idle, job := x.job.filter fun j => j.frameEnd.isSome && !j.test, abort := none, recov := false, pumpCause := false, cut := none }

/-- Start-up: the newer panel record (R587), and no blink slots. -/
def lanRestart (s : State) : State :=
  let x := s.lan
  let lvl := x.recProg.foldl (fun t p => tset t p.1 4) x.recLvl
  let tgt := x.recProg.foldl (fun t p => tset t p.1 p.2) x.recTgt
  { s with lan := { lvl := lvl, tgt := tgt, recLvl := x.recLvl, recTgt := x.recTgt, recProg := x.recProg, owed := electrodes.any fun e => tget 4 lvl e = 4 && tget 4 tgt e ≤ 3 } }

/-- A factory default: every electrode becomes U (R586). -/
def lanFactory (s : State) : State :=
  setLan s fun x => { x with lvl := [], tgt := [], recLvl := [], recTgt := [], recProg := [] }

/-- ACK LAN (R595): whether LAN.PUMP is latched, and its end. -/
def lanAck (s : State) : State := notify (setLan s fun x => { x with fault := false }) "LAN.PUMP" none "STATE=OK"

/-! ### DRAW and BLINK (R207, R208, R592, R593, R597, R600, R601, R613) -/

/-- The electrodes that a DRAW names, with their levels: FILL passes over blinking segments. -/
def drawEls (s : State) (fill : Option Nat) (pairs : List (Fin 129 × Nat)) : List (Nat × Nat) :=
  let base : Tbl Nat := match fill with
    | some v => (electrodes.filter fun e => !blinking s e).map fun e => (e, v)
    | none => []
  pairs.foldl (fun t p => tset t p.1.val p.2) base

/-- Whether a DRAW would change something: a U electrode always counts (R586, R593). -/
def drawChanges (s : State) (els : List (Nat × Nat)) : Bool := els.any fun p => lvlOf s p.1 = 4 || wantOf s p.1 != p.2

/-- The DRAWs that wait behind the head. -/
def drawsWaiting (s : State) : Nat := ((s.lan.upds.drop 1).filter fun u => u.kind = .draw).length

def drawBody (full : Bool) (fill : Option Nat) (pairs : List (Fin 129 × Nat)) : String :=
  bodyOf (["DRAW", if full then "FULL" else "", match fill with | some v => "FILL=" ++ natStr v | none => ""] ++ pairs.map fun p => objName (lanSegObj p.1.val) ++ "=" ++ natStr p.2)

/-- The checks of the command below. -/
def drawSpec (q : Hdr) (full : Bool) (fill : Option Nat) (pairs : List (Fin 129 × Nat)) (s : State) : CmdSpec :=
  let els := drawEls s fill pairs
  let bad := (pairs.any fun p => 3 < p.2) || (match fill with | some v => decide (3 < v) | none => false)
  { verb := "DRAW", body := drawBody full fill pairs, need := verbNeed "DRAW", heavy := true, p67 := if bad then some "RANGE LO=0 HI=3 STEP=1" else none, p9 := worldFail s q.ses .lan, p10 := firstOf [(!lanModeOk s && s.ana.mode != .quiet, "STATE " ++ modeName s.ana.mode), (s.lan.fault, "STATE PUMP"), (!s.thm.winPanel, "TEMP"), (pairs.any fun p => blinking s p.1.val, "STATE BLINKING"), (!full && !drawChanges s els, "STATE"), (!s.lan.upds.isEmpty && 8 ≤ drawsWaiting s, "STATE QUEUE")] }

/-- DRAW. -/
def execDraw (q : Hdr) (full : Bool) (fill : Option Nat) (pairs : List (Fin 129 × Nat)) (s : State) : Host.Outcome State Fault Refusal :=
  let els := drawEls s fill pairs
  .next (lineIn (.draw q full fill pairs) q s fun s => submit s q (drawSpec q full fill pairs s)
    fun s id => (lanAsk (setLan s fun x => { x with upds := x.upds ++ [{ kind := .draw, full := full, els := els, cmd := some id }] }), .draw 0))

/-- A free blink slot. -/
def freeSlot (s : State) : Option Nat := (List.range 8).find? fun k => !(s.lan.slots.any fun p => p.1 = k)

/-- BLINK: a new slot with its start update, or new settings of the segment's slot. -/
def blinkStart (s : State) (id seg period a b : Nat) : State × Work :=
  let start (s : State) (k : Nat) : State × Work :=
    (lanAsk (setLan s fun x => { x with upds := x.upds ++ [{ kind := .blink, els := [(seg, a)], cmd := some id, slot := some k }] }), .blink k)
  match slotOf s seg with
  | some (k, c) =>
    if c.armed then (setSlot s k { c with change := some (period, a, b) }, doneNow "DONE" s)
    else start (setSlot s k { c with period := period, a := a, b := b }) k
  | none => match freeSlot s with
    | some k => start (setSlot s k { seg := seg, period := period, a := a, b := b }) k
    | none => (s, doneNow "DONE" s)

def blinkBody (seg period a b : Nat) : String :=
  bodyOf ["BLINK", objName (lanSegObj seg), "PERIOD=" ++ natStr period ++ "ms", "LEVELS=" ++ natStr a ++ "," ++ natStr b]

/-- The checks of the command below. -/
def blinkSpec (q : Hdr) (seg : Fin 129) (period : Nat) (a b : Nat) (s : State) : CmdSpec :=
  let bad := firstOf [(period < 200 || 10000 < period || period % 100 != 0, "RANGE LO=200ms HI=10s STEP=100ms"), (3 < a || 3 < b, "RANGE LO=0 HI=3 STEP=1")]
  { verb := "BLINK", body := blinkBody seg period a b, need := verbNeed "BLINK", heavy := true, p67 := bad, p9 := worldFail s q.ses .lan, p10 := firstOf [(!lanModeOk s && s.ana.mode != .quiet, "STATE " ++ modeName s.ana.mode), (s.lan.fault, "STATE PUMP"), (!s.thm.winPanel && !blinking s seg, "TEMP"), ((slotOf s seg).isNone && (freeSlot s).isNone, "NOSPACE")] }

/-- BLINK ... PERIOD LEVELS. -/
def execBlink (q : Hdr) (seg : Fin 129) (period : Nat) (a b : Nat) (s : State) : Host.Outcome State Fault Refusal :=
  .next (lineIn (.blink q seg period a b) q s fun s => submit s q (blinkSpec q seg period a b s)
    fun s id => blinkStart s id seg period a b)

/-- A start that waits for its leave is cancelled (R613). -/
def blinkDrop (s : State) (seg : Nat) : State :=
  match s.lan.upds with
  | [] => s
  | u :: l =>
    let mine (u : LanUpd) : Bool := u.slot.isSome && u.els.any (·.1 = seg)
    let headGoes := mine u && (s.lan.phase = .asked || s.lan.phase = .idle)
    let gone := (if headGoes then [u] else []) ++ l.filter mine
    let s := if headGoes && s.lan.phase = .asked then withdrawPost s .lantern else s
    let s := setLan s fun x => { x with upds := (if headGoes then [] else [u]) ++ l.filter (fun v => !mine v), phase := if headGoes then .idle else x.phase }
    gone.foldl (fun s v => lanEnds s v.cmd "FAIL CANCELLED") s

/-- The checks of the command below. -/
def blinkOffSpec (q : Hdr) (seg : Fin 129) (s : State) : CmdSpec :=
  { verb := "BLINK", body := bodyOf ["BLINK", objName (lanSegObj seg), "OFF"], need := verbNeed "BLINK", p9 := worldFail s q.ses .lan, p10 := firstOf [(modeIs s [.bist, .replay], "STATE " ++ modeName s.ana.mode), ((slotOf s seg).isNone, "STATE")] }

/-- BLINK OFF: the slot is freed; a toggle in progress goes on. -/
def execBlinkOff (q : Hdr) (seg : Fin 129) (s : State) : Host.Outcome State Fault Refusal :=
  .next (lineIn (.blinkOff q seg) q s fun s => submit s q (blinkOffSpec q seg s)
    fun s _ => (slotFreed (blinkDrop s seg) ((slotOf s seg).map (·.1)), doneNow "DONE" s))

/-- A DRAW or a BLINK is cancelled before its leave is granted (R178, R612); none where it is past its limit. -/
def lanCancel (s : State) (id : Nat) : Option State :=
  match s.lan.upds with
  | [] => none
  | u :: l =>
    if u.cmd = some id then
      if u.kind = .refresh || (s.lan.phase != .asked && s.lan.phase != .idle) || holderGranted s .lantern then none
      else
        let s := if s.lan.phase = .asked then withdrawPost s .lantern else s
        some (lanEnds (slotFreed (lanPop s) u.slot) (some id) "FAIL CANCELLED")
    else match l.find? fun v => v.cmd = some id with
      | some v =>
        if v.kind = .refresh then none
        else some (lanEnds (slotFreed (setLan s fun x => { x with upds := x.upds.filter fun w => w.cmd != some id }) v.slot) (some id) "FAIL CANCELLED")
      | none => none

/-- The counters of LAN_CNT cleared. -/
def lanClr (s : State) : State :=
  setLan s fun x => { x with past := [x.nUpd + x.past.getD 0 0, x.nAbort + x.past.getD 1 0, x.nDrop + x.past.getD 2 0], nUpd := 0, nAbort := 0, nDrop := 0 }

/-- LAN_CLR. -/
def execLanClr (v : Word) (s : State) : Host.Outcome State Fault Refusal :=
  .next (if v.getLsbD 0 then lanClr s else s)

/-! ### Attributes and registers (R616, R617) -/

def lvlStr (n : Nat) : String := if n ≤ 3 then natStr n else "U"

def unknownCount (s : State) : Nat := (electrodes.filter fun e => lvlOf s e = 4).length

def lanState (s : State) : String :=
  if s.lan.recov then "RECOVERY" else if s.lan.phase = .running then "UPDATING" else if s.lan.upds.isEmpty then "IDLE" else "QUEUED"

/-- The read-only attributes of LAN. -/
def lanAttr (s : State) (a : String) : String :=
  if a = "STATE" then lanState s
  else if a = "BAND" then natStr s.lan.band
  else if a = "UNKNOWN" then natStr (unknownCount s)
  else if a = "QUEUED" then natStr (s.lan.upds.length - (if s.lan.phase = .running then 1 else 0))
  else joinStr "," ([s.lan.nUpd + s.lan.past.getD 0 0, s.lan.nAbort + s.lan.past.getD 1 0, s.lan.nDrop + s.lan.past.getD 2 0].map natStr)

/-- A waveform as GET reads it. -/
def waveStr (s : State) (o n b : Nat) : String := let c := waveCodes s o n b; codesStr [c.1, c.2]

/-- The waveform that a name spells. -/
def waveOf (name : String) : Option (Nat × Nat × Nat) :=
  match name.toList with
  | ['W', 'V', o, '.', n, '.', b] => some (if o = 'U' then 4 else o.toNat - 48, n.toNat - 48, b.toNat - 48)
  | _ => none

/-- The attributes of an electrode. -/
def segAttr (s : State) (e : Nat) (a : String) : String :=
  if a = "LEVEL" then lvlStr (lvlOf s e)
  else if a = "TARGET" then lvlStr (wantOf s e)
  else match slotOf s e with
    | some (_, b) => if b.armed then milliStr b.period 1 ++ "s," ++ natStr b.a ++ "," ++ natStr b.b else "off"
    | none => "off"

/-- Eight levels as one register. -/
def lvlWord (f : Nat → Nat) (k : Nat) : Word :=
  fieldWord ((List.range 8).map fun j => (4 * j, 3, if 8 * k + j < 129 then f (8 * k + j) else 0))

/-- A voltage in 10 mV. -/
def vcom (s : State) (a : String) : Nat := (BitVec.ofInt 16 (cfgInt s lanObj a 10000000)).toNat

/-- The LAN registers. -/
def lanReg (s : State) (off : Nat) : Option Word :=
  let x := s.lan
  let bnd (k : Nat) : Nat := ((lanBands s).getD k 0).toNat
  if off = 0x00 then
    some (fieldWord [bit 0 (pumpOk s), bit 1 (pumpOk s), bit 2 x.recov, bit 3 x.gate, bit 4 x.fault, (8, 3, x.band), (16, 8, unknownCount s), (24, 4, (x.slots.filter fun p => p.2.armed).length)])
  else if off = 0x04 then some (fieldWord [(0, 6, cfgMilli s lanObj "FRAME"), (8, 2, cfgNat s lanObj "SETTLE"), (12, 2, cfgNat s lanObj "FULLPASS")])
  else if off = 0x08 then some (fieldWord [(0, 16, vcom s "VCOM0"), (16, 16, vcom s "VCOM1")])
  else if off = 0x0C then some (fieldWord [(24, 8, bnd 0), (16, 8, bnd 1), (8, 8, bnd 2), (0, 8, bnd 3)])
  else if off = 0x10 then some (fieldWord [(24, 8, bnd 4), (16, 8, bnd 5), (8, 8, bnd 6), (0, 8, bnd 7)])
  else if off = 0x14 then some (fieldWord [(0, 8, bnd 8)])
  else if off = 0x18 then some (fieldWord [(0, 16, x.vpos), (16, 16, x.vneg)])
  else if off = 0x1C then some (fieldWord [(0, 16, x.nUpd), (16, 8, x.nAbort), (24, 8, x.nDrop)])
  else if off = 0x20 then some 0
  else if 0x100 ≤ off && off ≤ 0x140 then some (lvlWord (lvlOf s) ((off - 0x100) / 4))
  else if 0x180 ≤ off && off ≤ 0x1C0 then some (lvlWord (wantOf s) ((off - 0x180) / 4))
  else if 0x200 ≤ off && off < 0x220 then
    match x.slots.find? (·.1 = (off - 0x200) / 4) with
    | some (_, b) => some (fieldWord [(0, 8, b.seg), bit 8 b.armed, (10, 2, b.a), (12, 2, b.b), (16, 7, b.period / 100)])
    | none => some 0
  else if 0x400 ≤ off && off < 0x900 then
    let i := (off - 0x400) / 8
    let c := waveCodes s (i / 32) (i / 8 % 4) (i % 8)
    some (BitVec.ofNat 32 (if off % 8 = 0 then c.1 else c.2))
  else none

end Sys2Proof.Machine
end

