-- ==== Sys2Proof/Machine/Journal.lean ====
section
/-!
DEFINITION. The input journal and replay (*The input journal and replay*): records and crossing payloads, steady runs,
digests, anchors, the ring and the held buffer, freezes and kept slots, export, load, and replay.
-/
namespace Sys2Proof

/-- What the control islands hold after a foreign slot's configuration image and state image are taken (R635): the spec
states no layout for either. -/
opaque Config.replayed : List Word → Option Machine.Image

end Sys2Proof

namespace Sys2Proof.Machine
open Sys2Proof

def jrnObj : Obj := ⟨.jrn, 0⟩

def setJrn (s : State) (f : Jrn → Jrn) : State := { s with jrn := f s.jrn }

/-! ### Records as words (R620, R622, R623) -/

/-- The configuration image: at most 60 KiB, padded with zeros. -/
def cfgImage (no : Nat) : List Byte :=
  let n := min 61440 (Config.cfgSize no)
  (List.range n).map (Config.cfgByte no) ++ List.replicate (61440 - n) 0

/-- The bytes of an anchor's state image, and its chunks of 15 words. -/
def imageBytes (no : Nat) : Nat := min 24576 (Config.imageSize no)
def imageChunks (no : Nat) : Nat := (imageBytes no + 59) / 60

/-- The payload words of a record. -/
def recWords : JRec → List Nat
  | .item _ _ w => w
  | .anchor _ no c =>
    let d := (sha256 (cfgImage c)).toNat
    [no, imageBytes no] ++ (List.range 8).map fun k => d / 2 ^ (32 * (7 - k)) % 4294967296
  | .state no chunk =>
    (List.range 15).map fun j => if 15 * chunk + j < (imageBytes no + 3) / 4 then (Config.imageWord no (15 * chunk + j)).toNat else 0

/-- The number of payload words. -/
def recLen : JRec → Nat
  | .item _ _ w => w.length | .anchor _ _ _ => 10 | .state _ _ => 15

def recSize (r : JRec) : Nat := 4 * (recLen r + 1)

/-- The header word. -/
def recHeader (r : JRec) : Nat :=
  let kb := match r with
    | .item k b _ => (k, b)
    | .anchor c _ _ => (0x0B, c)
    | .state _ n => (0x0C, n)
  kb.1 % 64 * 67108864 + recLen r % 32 * 2097152 + kb.2 % 2097152

/-- The bytes of a record, most significant first. -/
def recBytes (r : JRec) : List Byte := (recHeader r :: recWords r).flatMap fun w => bytesBE 4 w

def sizeOf' (l : List JRec) : Nat := l.foldl (fun a r => a + recSize r) 0

/-- The records of an anchor (R623). -/
def anchorRecs (a : JAnchor) : List JRec :=
  .anchor a.cause a.no a.cfgNo :: (List.range (imageChunks a.no)).map fun k => .state a.no k

/-! ### Crossing payloads (Table JRN-3) -/

def w16 (v : Int) : Nat := (BitVec.ofInt 16 v).toNat
def w32 (v : Int) : Nat := (BitVec.ofInt 32 v).toNat
def hi32 (n : Nat) : Nat := n / 4294967296 % 4294967296
def lo32 (n : Nat) : Nat := n % 4294967296

/-- Whether a record carries a substitute. -/
def recSubst (r : Rec) : Bool := r.range || r.stale || r.silent

def b2n (b : Bool) : Nat := if b then 1 else 0

/-- Word 0, with bits 27:16. -/
def word0 (r : Rec) (mid : Nat) : Nat :=
  2147483648 * b2n r.range + 1073741824 * b2n r.stale + 536870912 * b2n r.silent + 268435456 * b2n (recSubst r) + 65536 * (mid % 4096) + w16 r.val

/-- A depth as eight bits: % for SAG and SWELL. -/
def depthByte (k : MarkKind) (d : Nat) : Nat :=
  min 255 (match k with | .sag => d / 10 | .swell => d / 10 | _ => d)

/-- The SOF stamp in two words: sub-tick in bits 3:0 and bits 59:32 of the tick above it in the second. -/
def sofWords (sof sub : Nat) : List Nat := [lo32 sof, sub % 16 + 16 * (sof / 4294967296 % 268435456)]

/-- Bytes as words, the first byte most significant, the last word padded with zeros. -/
def bytesWords : Nat → List Byte → List Nat
  | 0, _ => []
  | _, [] => []
  | n + 1, l => ((l ++ List.replicate 3 0#8).take 4).foldl (fun (a : Nat) (b : Byte) => 256 * a + b.toNat) 0 :: bytesWords n (l.drop 4)

/-- The payload of a crossing's record. -/
def xingWords (s : State) (r : Rec) : List Nat :=
  match r.pay with
  | .churn n f lo hi => [word0 r f.toNat, 65536 * w16 lo + w16 hi, n % 16777216]
  | .count k m o mk fz => [word0 r 0, k % 8 + 16 * (m % 4) + 256 * (o % 256) + 65536 * b2n mk + 131072 * b2n fz]
  | .mains rms f _ => [word0 r 0, rms % 65536 + 65536 * (f % 65536), 0, 0, 0, 0, 0]
  | .mark k a b d =>
    [word0 r 0, s.pwr.rms % 65536 + 65536 * (s.pwr.freq % 65536), markIdx k + 8 * b2n b.isNone + 256 * depthByte k d, hi32 a, lo32 a, hi32 (b.getD 0), lo32 (b.getD 0)]
  | .can f _ _ => [word0 r 0, f.ident.toNat] ++ sofWords f.sof f.sub.val ++ bytesWords 16 f.data
  | .port e i v => [word0 r 0, w32 e, 65536 * w16 i + v % 65536]
  | .post a b => if r.x = 193 then [word0 r 0, 0] ++ sofWords a b else [word0 r 0]
  | .sample th w =>
    let ns := (BitVec.ofInt 64 (th * 5 / 2)).toNat
    [word0 r 0, 0, hi32 ns, lo32 ns, w]
  | _ =>
    if r.x < 160 then [word0 r 0, 0, 0]
    else if r.x < 176 then [word0 r 0, 0]
    else if r.x < 180 then
      let p := tget {} s.drv.ports (r.x - 176)
      [word0 r 0, w32 p.enc, 65536 * w16 p.ma + p.busv % 65536]
    else if r.x = 193 then [word0 r 0, 0, 0, 0]
    else if r.x = 196 then [word0 r 0, if r.val = 1 then lo32 s.tim.label else 0, 0, 0, 0]
    else [word0 r 0]

/-- Bits 20:0 of a XING or STEADY header. -/
def xingBits (r : Rec) : Nat := 256 * (r.stamp % tickMs) + r.x

/-! ### Steady runs (R621) -/

/-- A delivery as the writer takes it: the crossing's run, and what is written, if anything. -/
def steadyStep (st : Option Steady) (tick : Nat) (words : List Nat) : Steady × Nat :=
  match st with
  | none => ({ words := words, tick := tick }, 2)
  | some x =>
    let d := tick - x.tick
    if x.words != words then ({ words := words, tick := tick }, 2)
    else if x.active then
      if d = x.period then ({ x with tick := tick }, 0) else ({ words := words, tick := tick }, 2)
    else if x.n = 1 then ({ x with tick := tick, period := d, n := 2 }, 2)
    else if d = x.period then ({ x with tick := tick, n := x.n + 1, active := true }, 3)
    else ({ x with tick := tick, period := d, n := 2 }, 2)

/-- A delivered record is handed to the journal writer. -/
def jrnXing (s : State) (r : Rec) : State :=
  if !jrnOn s then s
  else
    let w := xingWords s r
    let p := steadyStep ((s.jrn.steady.find? (·.1 = r.x)).map (·.2)) r.stamp w
    let s := setJrn s fun x => { x with steady := tset x.steady r.x p.1 }
    if p.2 = 2 then jrnPut s 2 (xingBits r) w
    else if p.2 = 3 then jrnPut s 3 (xingBits r) [p.1.period] else s

/-! ### Anchors (R623, R624) -/

/-- What the control islands hold. -/
def takeImage (s : State) : Image :=
  { cfg := s.cfg, xings := s.ana.xings, vil := s.vil, lve := s.lve, drv := s.drv, thm := s.thm, clm := s.clm, steady := s.jrn.steady }

/-- The rank of a cause: START, WARM, CONFIG, INTERVAL. -/
def causeRank (c : Nat) : Nat := [0, 1, 3, 2].getD c 3

/-- An anchor of this epoch: 0 START, 1 WARM, 2 INTERVAL, 3 CONFIG; two causes give one anchor. -/
def jrnAnchor (s : State) (cause : Nat) : State :=
  if !jrnOn s then s
  else match s.jrn.anchors with
    | a :: l =>
      if a.epoch = s.epoch && a.off.isNone then
        let c := if causeRank cause < causeRank a.cause then cause else a.cause
        setJrn s fun x => { x with anchors := { a with cause := c, cfgNo := s.jrn.cfgNo, image := takeImage s } :: l }
      else
        let n : JAnchor := { no := s.jrn.anchorNo, epoch := s.epoch, cause := cause, cfgNo := s.jrn.cfgNo, image := takeImage s }
        setJrn s fun x => { x with anchors := n :: x.anchors, anchorNo := x.anchorNo + 1, curAnchor := some n.no, lastAnchor := some s.epoch }
    | [] =>
      let n : JAnchor := { no := s.jrn.anchorNo, epoch := s.epoch, cause := cause, cfgNo := s.jrn.cfgNo, image := takeImage s }
      setJrn s fun x => { x with anchors := [n], anchorNo := x.anchorNo + 1, curAnchor := some n.no, lastAnchor := some s.epoch }

/-- The boundary's anchor holds the state after the boundary's processing (R623). -/
def anchorSeal (s : State) : State :=
  match s.jrn.anchors with
  | a :: l => if s.jrn.curAnchor = some a.no then setJrn s fun x => { x with anchors := { a with image := takeImage s } :: l } else s
  | [] => s

/-- This is an epoch whose number is a multiple of ANCHORINT in ms, in a mode in which the control islands run, and it has
no anchor by another cause. -/
def anchorDue (s : State) : Bool :=
  jrnOn s && s.epoch % (max 1 (cfgMilli s jrnObj "ANCHORINT")) = 0 && modeIs s [.run, .safe, .cooldown, .bench, .bist] && s.jrn.curAnchor.isNone

/-- ANCHOR_INTERVAL, at its boundary. -/
def execAnchorInterval (s : State) : Host.Outcome State Fault Refusal :=
  .next (if s.now = epochTick s s.epoch && anchorDue s then jrnAnchor s 2 else s)

/-- A persisting change of the configuration has taken effect. -/
def jrnConfig (s : State) : State := jrnAnchor (setJrn s fun x => { x with cfgNo := x.cfgNo + 1 }) 3

/-! ### The ring and the held buffer (R618, R625, R626) -/

/-- The record bytes of a page, and the pages of the ring. -/
def pageRoom : Nat := 4080
def ringPages : Nat := 3072

/-- A record in the ring: the oldest page is overwritten where the ring is full. -/
def ringPut (s : State) (r : JRec) : State :=
  let x := s.jrn
  let n := recSize r
  let w := x.wpos + n
  let oldest := ((w - 1) / pageRoom + 1 - ringPages) * pageRoom
  let ring : List JEnt := ⟨x.wpos, r⟩ :: x.ring
  let ring := if oldest = 0 then ring else ring.takeWhile fun e => oldest < e.off + recSize e.r
  let anchors := match r with
    | .item 1 _ (h :: l :: _) => x.anchors.map fun a => if a.epoch = h * 4294967296 + l && a.off.isNone then { a with off := some x.wpos } else a
    | _ => x.anchors
  let anchors := if oldest = 0 then anchors else anchors.filter fun a => match a.off with | some o => oldest ≤ o | none => true
  setJrn s fun x => { x with ring := ring, wpos := w, anchors := anchors, rateNow := x.rateNow + n }

/-- Records that wait in SRAM: beyond 128 KiB the oldest are discarded. -/
def heldTrim : Nat → Jrn → Jrn
  | 0, x => x
  | n + 1, x =>
    if x.heldBytes ≤ 131072 then x
    else match x.held.getLast? with
      | some r => heldTrim n { x with held := x.held.dropLast, heldBytes := x.heldBytes - recSize r, heldLost := x.heldLost + 1, heldLostBytes := x.heldLostBytes + recSize r, lost := satInc 0xFFFFFFFF x.lost }
      | none => x

/-- Whether the writer must hold (R626). -/
def jrnHolds (s : State) : Bool := !s.thm.winJournal || s.jrn.x199

/-- Writing resumes: a GAP record where any were discarded, then the held records. -/
def jrnResume (s : State) : State :=
  if !s.jrn.holding then s
  else
    let s := notify (setJrn s fun x => { x with holding := false }) "JRN.HELD" none "STATE=OFF"
    let n := s.jrn.heldLost
    let s := if n = 0 then s
      else notify (ringPut (setJrn s fun x => { x with gaps := satInc 65535 x.gaps }) (.item 0x10 0 [lo32 n, lo32 s.jrn.heldLostBytes])) "JRN.GAP" none ("LOST=" ++ natStr n)
    let l := s.jrn.held.reverse
    l.foldl ringPut (setJrn s fun x => { x with held := [], heldBytes := 0, heldLost := 0, heldLostBytes := 0 })

/-- The records of an epoch are written, or held. -/
def jrnWrite (s : State) (l : List JRec) : State :=
  if s.tst.heldJournal then s
  else if jrnHolds s then
    if l.isEmpty then s
    else
      let first := !s.jrn.holding
      let s := setJrn s fun x => heldTrim x.held.length { x with holding := true, held := l.reverse ++ x.held, heldBytes := x.heldBytes + sizeOf' l }
      if first then notify s "JRN.HELD" none "STATE=ON" else s
  else l.foldl ringPut (jrnResume s)

/-- The records of an epoch in order: EPOCH, the anchor, and what was handed over. -/
def epochRecs (s : State) (e : Nat) (anchor : Option Nat) (l : List JRec) : List JRec :=
  let a := match anchor.bind fun n => s.jrn.anchors.find? (·.no = n) with | some a => anchorRecs a | none => []
  if a.isEmpty && l.isEmpty then [] else .item 1 0 [hi32 e, lo32 e] :: a ++ l.reverse

/-- WORK0 has queued bytes for a session in the epoch that ends. -/
def work0Out (s : State) : Bool := portSess.any fun k => (getSes s k).out.any fun l => s.epoch ≤ l.epoch + 1

/-- The digests of the epoch that ends (R622).  Whether KEEPER and WORK1 had an output, and whether WORK0 had one beside
its lines, does not follow from the commands: free values. -/
def digests (s : State) (e : Nat) : State :=
  if !jrnOn s || s.ana.mode = .quiet then s
  else
    let f := freeBits 3 s
    let s := drawn s
    [1, 2, 3].foldl (fun s i =>
      if f.getLsbD (i - 1) || (i = 2 && work0Out s) then
        let d := (Config.outDigest i e).toNat
        jrnPut s 0x0A i [hi32 d, lo32 d]
      else s) s

/-- One second of the rate of R649 has passed. -/
def rateStep (s : State) : State :=
  if s.epoch % 1000 = 0 then setJrn s fun x => { x with rate := (x.rateNow :: x.rate).take 10, rateNow := 0 } else s

/-- The boundary that begins an epoch, for the journal: the records delivered belong to the epoch that ends, whose
records are closed; those of the epoch before it reach the ring (R618). -/
def jrnBoundary (s : State) (l : List Rec) : State :=
  let done := s.jrn.closed.reverse
  let s := jrnWrite (setJrn s fun x => { x with closed := [] }) done
  let s := digests (l.foldl jrnXing s) (s.epoch - 1)
  let recs := epochRecs s (s.epoch - 1) s.jrn.curAnchor s.jrn.cur
  rateStep (setJrn s fun x => { x with closed := recs.reverse, cur := [], curAnchor := none })

/-- X199 is delivered: its failure episode holds the writer (R626). -/
def jrnDeliver (s : State) (r : Rec) : State :=
  if r.x != 199 then s
  else match r.ev with
    | some (.begins _) => setJrn s fun x => { x with x199 := true }
    | some .ends => setJrn s fun x => { x with x199 := false }
    | _ => s

/-- The status word of X199. -/
def jrnStatus (s : State) : XWord :=
  let held := s.tst.heldJournal
  BitVec.ofNat 16 (b2n (!held) + 2 * b2n s.thm.winJournal + 4 * b2n held + 8 * b2n (s.jrn.frz.any (·.phase = 3)) + 256 * (min 255 (s.jrn.heldBytes * 256 / 131072)))

/-- The JOURNAL island posts its status. -/
def jrnPost (s : State) : State :=
  arrive (setJrn s fun x => { x with postAt := s.now, told := some (jrnStatus s) }) 199 (jrnStatus s) none .none

/-- It posts on every change. -/
def jrnTells (s : State) : State :=
  if coreRuns s && s.ana.mode != .quiet && s.jrn.told != some (jrnStatus s) then jrnPost s else s

/-- JOURNAL_STATUS_POST: otherwise 100 ms after its last post. -/
def execJournalStatusPost (s : State) : Host.Outcome State Fault Refusal :=
  .next (if coreRuns s && s.ana.mode != .quiet then atTick s (some (s.jrn.postAt + 100 * tickMs)) jrnPost else s)

/-! ### Kept slots (R628 to R631, R641 to R646) -/

def slotAt (s : State) (n : Nat) : Slot := tget .empty s.jrn.slots n
def setSlotAt (s : State) (n : Nat) (x : Slot) : State := setJrn s fun j => { j with slots := tset j.slots n x }

def slotEmpty (s : State) (n : Nat) : Bool := match slotAt s n with | .empty => true | _ => false
def slotValid (s : State) (n : Nat) : Option SlotImg := match slotAt s n with | .kept i => some i | _ => none

/-- The body of the EXPORT that reads a slot. -/
def exportBody : ExportWhat → String
  | .ring => "EXPORT JOURNAL RING" | .slot n => "EXPORT JOURNAL SLOT=" ++ natStr n.val | .audit => "EXPORT AUDIT"

/-- A slot is being read by an EXPORT, or replayed. -/
def slotExported (s : State) (n : Nat) : Bool :=
  s.vil.outs.any fun o => o.body = "EXPORT JOURNAL SLOT=" ++ natStr n
def slotReplayed (s : State) (n : Nat) : Bool :=
  (match s.jrn.rpl with | some r => r.slot = n | none => false) || (match s.jrn.rplReq with | some r => r = n | none => false)
def slotCopied (s : State) (n : Nat) : Bool := s.jrn.frz.any fun f => f.phase = 3 && f.slot = some n

def lowestEmpty (s : State) : Option Nat := (List.range 4).find? fun n => slotEmpty s n && !slotCopied s n

/-- The automatic slot with the oldest trigger epoch (R631, R646). -/
def oldestAuto (s : State) : Option Nat :=
  let l := (List.range 4).filterMap fun n => match slotValid s n with
    | some i => if i.auto && !slotExported s n && !slotReplayed s n then some (n, i.trigEpoch) else none
    | none => none
  (l.foldl (fun (b : Option (Nat × Nat)) p => match b with | some q => if p.2 < q.2 then some p else some q | none => some p) none).map (·.1)

/-- The slot of an automatic freeze. -/
def autoSlot (s : State) : Option Nat :=
  match lowestEmpty s with
  | some n => some n
  | none => if cfgIs s jrnObj "AUTOFULL" "OLDEST" then oldestAuto s else none

/-- The record area of a slot. -/
def slotArea : Nat := 458752

/-- The stream position after the last record of an epoch: where the next epoch's EPOCH record begins. -/
def spanEnd (s : State) (last : Nat) : Nat :=
  let later := s.jrn.ring.filter fun e => match e.r with | .item 1 _ (h :: l :: _) => last < h * 4294967296 + l | _ => false
  match later.getLast? with
  | some e => e.off
  | none => s.jrn.wpos

/-- The records between two positions, oldest first. -/
def spanRecs (s : State) (a b : Nat) : List JRec :=
  ((s.jrn.ring.filter fun e => a ≤ e.off && e.off < b).map (·.r)).reverse

/-- The records that fit an area. -/
def fitRecs : Nat → List JRec → List JRec
  | _, [] => []
  | room, r :: l => if recSize r ≤ room then r :: fitRecs (room - recSize r) l else []

/-- The place of the newest record before `e` in the stream that is one of some kinds, and the place behind it. -/
def lastOfKind (s : State) (e : Nat) (kinds : List Nat) : Option (Nat × Nat) :=
  (s.jrn.ring.find? fun x => x.off < e && (match x.r with | .item k _ _ => kinds.contains k | _ => false)).map fun x => (x.off, x.off + recSize x.r)

/-- The places of the anchors of a span that ends at `e` in the stream, newest first, as a cause admits them. -/
def anchorOffs (s : State) (e : Nat) (p : Nat → Bool) : List Nat :=
  (s.jrn.anchors.filter fun a => p a.cause).filterMap fun a => a.off.filter (· < e)

/-- The oldest point that a span may begin at, of a span that ends at `e` in the stream (R629): none where no anchor of the
span follows its last BOOT, GAP or POWER record. -/
def spanFloor (s : State) (e : Nat) : Option Nat :=
  let after (from_ : Nat) (p : Nat → Bool) : Option Nat := ((anchorOffs s e p).filter (from_ ≤ ·)).getLast?
  let newest := (anchorOffs s e fun c => c = 1 || c = 3).foldl max 0
  let boot := match lastOfKind s e [0x0E] with | some p => after p.1 (· = 0) | none => some 0
  let brk := match lastOfKind s e [0x0F, 0x10] with | some p => after p.2 fun _ => true | none => some 0
  boot.bind fun b => brk.map fun k => max newest (max b k)

/-- The anchors that may begin a span ending with epoch `last`, oldest first. -/
def spanAnchors (s : State) (last : Nat) : List JAnchor :=
  match spanFloor s (spanEnd s last) with
  | some f => (s.jrn.anchors.filter fun a => a.epoch ≤ last && (match a.off with | some o => f ≤ o | none => false)).reverse
  | none => []

/-- The kept span (R629): its start anchor, its records and whether it is cut. -/
def spanOf (s : State) (last : Nat) : Option (JAnchor × List JRec × Bool) :=
  let e := spanEnd s last
  let l := spanAnchors s last
  match l.find? fun a => e - a.off.getD 0 ≤ slotArea with
  | some a => some (a, spanRecs s (a.off.getD 0) e, false)
  | none => match l.getLast? with
    | some a => some (a, fitRecs slotArea (spanRecs s (a.off.getD 0) e), true)
    | none => none

/-- The last epoch that a list of records holds. -/
def lastEpoch (l : List JRec) (d : Nat) : Nat :=
  l.foldl (fun m r => match r with | .item 1 _ (h :: w :: _) => h * 4294967296 + w | _ => m) d

/-- The world maps as SEC_WORLD.MAP and SEC_SRAM.MAP hold them. -/
def sramMap (n : Nat) : Nat := 2 ^ n - 1

/-- The content of a slot for a freeze. -/
def slotImage (s : State) (f : Frz) : Option SlotImg :=
  (spanOf s (f.boundary - 1)).map fun p =>
    { trig := f.trig, trunc := p.2.2, auto := f.auto, first := p.1.epoch, last := lastEpoch p.2.1 p.1.epoch, trigEpoch := f.trigEpoch, boot := s.jrn.boot, note := f.note, worlds := s.sec.worlds.toNat, regions := sramMap s.sec.regions, cfgNo := p.1.cfgNo, bytes := sizeOf' p.2.1, recs := p.2.1, image := p.1.image }

/-! ### The freeze (R628) -/

/-- The freeze at the head changed. -/
def setFrz (s : State) (f : Frz) : State := setJrn s fun x => { x with frz := match x.frz with | _ :: l => f :: l | [] => [] }
def frzPop (s : State) : State := setJrn s fun x => { x with frz := x.frz.drop 1 }

/-- The head ends without a slot. -/
def frzFails (s : State) (f : Frz) (body : String) : State :=
  match f.cmd with
  | some id => finish (frzPop s) id body
  | none => frzPop s

/-- The head is to ask for leave: its freeze boundary has come, and one that lost its leave or its copy waits until the
writer does not hold (R643). -/
def frzDue (s : State) (f : Frz) : Bool := f.phase = 0 && f.boundary ≤ s.epoch && jrnOn s && !(f.again && jrnHolds s)

/-- The head asks for leave; the request reaches Lamplighter at the boundary of epoch `e`. -/
def frzAsk (s : State) (e : Nat) : State :=
  match s.jrn.frz with
  | f :: _ =>
    if frzDue s f then
      match leaveReq s .freeze .routine 100 f.cmd with
      | some r => askLeave (setFrz s { f with phase := 1 }) e r
      | none => s
    else s
  | [] => s

/-- FREEZE_BOUNDARY: what the boundary itself has not asked for, such as a FREEZE accepted at it, is asked for now. -/
def execFreezeBoundary (s : State) : Host.Outcome State Fault Refusal :=
  .next (if coreRuns s then frzAsk s (s.epoch + 1) else s)

/-- Lamplighter's answer for the freeze. -/
def frzAnswer (s : State) (m : LMsg) : State :=
  match s.jrn.frz with
  | f :: _ =>
    if f.phase != 1 then (if m.a = .granted then leaveReturn s .freeze else s)
    else match m.a with
      | .granted => setFrz s { f with phase := 2 }
      | .refused why => frzFails s f ("FAIL LEAVE " ++ why)
      | .timeout => if f.auto then setFrz s { f with phase := 0, again := true } else frzFails s f "FAIL LEAVE-TIMEOUT"
      | .calmBreak => s
  | [] => if m.a = .granted then leaveReturn s .freeze else s

/-- An automatic freeze that finds no slot is dropped. -/
def frzSkip (s : State) (f : Frz) : State :=
  notify (frzPop (leaveReturn s .freeze)) "JRN.FREEZE-SKIPPED" none ("TRIGGER=" ++ trigName f.trig)

/-- The copy begins: the slot reads EMPTY until its header is written.  With no anchor that R629 admits there is no span: a
command ends FAIL STATE, and an automatic freeze is dropped (DESIGN CHOICE, log 97). -/
def copyStarts (s : State) (f : Frz) (n : Nat) : State :=
  match slotImage s f with
  | some i => setFrz (setSlotAt s n .empty) { f with phase := 3, slot := some n, img := some i, copyAt := s.now }
  | none => if f.auto then frzSkip s f else frzFails (leaveReturn s .freeze) f "FAIL STATE"

/-- The freeze takes its slot, and its copy starts. -/
def copyBegins (s : State) (f : Frz) : State :=
  if f.auto then (match autoSlot s with | some n => copyStarts s f n | none => frzSkip s f)
  else match f.slot.or (lowestEmpty s) with
    | some n => copyStarts s f n
    | none => frzFails (leaveReturn s .freeze) f "FAIL NOSPACE"

/-- FREEZE_COPY_START: after the grant, and once the span's last epoch is in the ring. -/
def execFreezeCopyStart (s : State) : Host.Outcome State Fault Refusal :=
  .next (match s.jrn.frz with
    | f :: _ => if f.phase != 2 || s.epoch ≤ f.boundary || jrnHolds s || s.jrn.holding || !coreRuns s then s else jrnTells (copyBegins s f)
    | [] => s)

/-- JRN.FROZEN, which WORK0 queues at the next boundary, or after its restart (R644). -/
def frozenNote (s : State) (n : Nat) (i : SlotImg) : State :=
  notifyLate s "JRN.FROZEN" none ("SLOT=" ++ natStr n ++ " TRIGGER=" ++ trigName i.trig ++ " FIRST=" ++ natStr i.first ++ " LAST=" ++ natStr i.last)

/-- The header is written: the slot is VALID, the grant is returned, and the command ends at the next boundary. -/
def copyEnds (s : State) : State :=
  match s.jrn.frz with
  | f :: _ => match f.slot, f.img with
    | some n, some i =>
      if f.phase != 3 then s
      else
        let s := frzPop (frozenNote (setSlotAt (leaveReturn s .freeze) n (.kept i)) n i)
        match f.cmd with | some id => setWork s id (.reply (s.epoch + 1) [] ("DONE SLOT=" ++ natStr n)) | none => s
    | _, _ => s
  | [] => s

/-- FREEZE_COPY_COMPLETE. -/
def execFreezeCopyComplete (s : State) : Host.Outcome State Fault Refusal :=
  .next (if coreRuns s then jrnTells (copyEnds s) else s)

/-- The JOURNAL window closes during a copy (R643): an automatic freeze is pending again, and takes the place of one that has
become pending meanwhile, since one alone may be pending (R639). -/
def jrnCloses (s : State) : State :=
  match s.jrn.frz with
  | f :: l =>
    if f.phase != 3 then s
    else if f.auto then
      setJrn (leaveReturn s .freeze) fun x => { x with frz := { f with phase := 0, slot := none, img := none, again := true } :: l.filter fun g => !g.auto }
    else frzFails (leaveReturn s .freeze) f "FAIL TEMP"
  | [] => s

/-- A grant that has run out before the copy could start is asked for again. -/
def frzLapse (s : State) : State :=
  match s.jrn.frz with
  | f :: _ => if f.phase = 2 && !holderGranted s .freeze then setFrz s { f with phase := 0, again := true } else s
  | [] => s

/-- A copy that no command has ended is complete after its limit of 64 ms (R639). -/
def copyLate (s : State) : State :=
  match s.jrn.frz with
  | f :: _ => if f.phase = 3 && f.copyAt + 64 * tickMs ≤ s.now then copyEnds s else s
  | [] => s

/-- The freezes at a boundary, before Lamplighter's decisions. -/
def frzBoundary (s : State) : State :=
  let s := if s.thm.winJournal then s else jrnCloses s
  jrnTells (frzAsk (frzLapse (copyLate s)) s.epoch)

/-- The checks of the command below. -/
def freezeSpec (q : Hdr) (slot : Option (Fin 4)) (note : Option String) (s : State) : CmdSpec :=
  let full := match slot with | some n => slotExported s n.val || slotReplayed s n.val || slotCopied s n.val | none => false
  { verb := "FREEZE", body := bodyOf ["FREEZE", (match slot with | some n => "SLOT=" ++ natStr n.val | none => ""), (match note with | some t => "NOTE=" ++ quoteStr t | none => "")], need := verbNeed "FREEZE", audit := some 16, heavy := true, p67 := (match note with | some t => if 64 < t.length then some "RANGE" else none | none => none), p9 := worldFail s q.ses .jrn, p10 := firstOf [(s.tst.heldJournal, "STATE"), (modeIs s [.replay], "STATE " ++ modeName s.ana.mode), (full, "STATE"), (jrnHolds s, "TEMP"), (slot.isNone && (lowestEmpty s).isNone, "NOSPACE")] }

/-- FREEZE. -/
def execFreeze (q : Hdr) (slot : Option (Fin 4)) (note : Option String) (s : State) : Host.Outcome State Fault Refusal :=
  .next (lineIn (.freeze q slot note) q s fun s => submit s q (freezeSpec q slot note s)
    fun s id =>
      let f : Frz := { trig := 1, auto := false, boundary := s.epoch, trigEpoch := s.epoch, slot := slot.map (·.val), note := note.getD "", cmd := some id }
      (setJrn s fun x => { x with frz := frzInsert f x.frz }, .freeze))

/-- A FREEZE is cancelled before its leave is granted. -/
def frzCancel (s : State) (id : Nat) : Option State :=
  match s.jrn.frz.find? (·.cmd = some id) with
  | some f =>
    if f.phase = 0 || (f.phase = 1 && !holderGranted s .freeze) then
      let s := if f.phase = 1 then leaveWithdraw s .freeze else s
      some (finish (setJrn s fun x => { x with frz := x.frz.filter (·.cmd != some id) }) id "FAIL CANCELLED")
    else none
  | none => none

/-- The checks of the command below. -/
def slotFreeSpec (q : Hdr) (n : Fin 4) (s : State) : CmdSpec :=
  { verb := "SET", body := "SET JRN SLOTFREE=" ++ natStr n.val, need := 2, audit := some 6, auditLate := true, p9 := worldFail s q.ses .jrn, p10 := if slotExported s n.val || slotReplayed s n.val || slotCopied s n.val then some "STATE" else none }

/-- SET JRN SLOTFREE. -/
def execSlotFree (q : Hdr) (n : Fin 4) (s : State) : Host.Outcome State Fault Refusal :=
  .next (lineIn (.slotFree q n) q s fun s => submit s q (slotFreeSpec q n s)
    fun s _ => (s, .effect (s.epoch + 1) (.slotFree n.val) "DONE"))

/-! ### Slots and the ring as bytes (Table JRN-5, R632) -/

/-- NOTE and other text, padded with zeros. -/
def textBytes (n : Nat) (t : String) : List Byte :=
  let l := (t.toList.take n).map fun c => BitVec.ofNat 8 c.toNat
  l ++ List.replicate (n - l.length) 0

/-- The header of a slot. -/
def slotHeader (trigWord first last bytes cfgBytes trigEpoch : Nat) (boot : List Nat) (note : String) (worlds regions : Nat) (digest : BitVec 256) : List Byte :=
  textBytes 4 "ZFJK" ++ bytesBE 4 1 ++ ((List.range 4).flatMap fun k => bytesBE 4 (boot.getD k 0)) ++ bytesBE 4 trigWord ++ bytesBE 8 first ++ bytesBE 8 last ++ bytesBE 4 bytes ++ bytesBE 4 cfgBytes ++ bytesBE 8 trigEpoch ++ textBytes 64 note ++ bytesBE 4 worlds ++ bytesBE 4 regions ++ List.replicate 24 0 ++ bytesBE 32 digest.toNat ++ List.replicate 3908 0

/-- The bytes of a kept slot, to the end of its records. -/
def slotBytes (i : SlotImg) : List Byte :=
  if i.raw.isEmpty then
    let body := cfgImage i.cfgNo ++ i.recs.flatMap recBytes
    slotHeader (i.trig + 256 * b2n i.trunc + 512 * b2n i.auto) i.first i.last i.bytes (min 61440 (Config.cfgSize i.cfgNo)) i.trigEpoch i.boot i.note i.worlds i.regions (sha256 body) ++ body
  else (i.raw.flatMap fun w => bytesBE 4 w.toNat).take (65536 + i.bytes)

/-- The stream from the oldest record retained, with the position at which it begins. -/
def ringStream (s : State) : Nat × List Byte :=
  let l := s.jrn.ring.reverse
  (match l with | e :: _ => e.off | [] => s.jrn.wpos, l.flatMap fun e => recBytes e.r)

/-- One ring page: its header, then its record bytes. -/
def ringPage (s : State) (from_ : Nat) (bytes : List Byte) (p : Nat) : List Byte :=
  let a := p * pageRoom
  let firsts := s.jrn.ring.filter fun e => a ≤ e.off && e.off < a + pageRoom
  let epochAt (off : Nat) : Nat := match s.jrn.ring.find? fun e => e.off ≤ off && (match e.r with | .item 1 _ _ => true | _ => false) with
    | some e => lastEpoch [e.r] 0
    | none => 0
  let head := match firsts.getLast? with
    | some e => bytesBE 8 (epochAt e.off) ++ bytesBE 4 (16 + (e.off - a))
    | none => bytesBE 8 0 ++ bytesBE 4 0xFFFFFFFF
  let pre := List.replicate (from_ - a) Config.ringFill
  let body := pre ++ (bytes.drop (a - from_)).take (pageRoom - (from_ - a))
  bytesBE 4 p ++ head ++ body ++ List.replicate (pageRoom - body.length) Config.ringFill

/-- The bytes of EXPORT JOURNAL RING: the pages written, oldest first, then those that nothing has been written to yet. -/
def ringBytes (s : State) : List Byte :=
  let st := ringStream s
  let cur := s.jrn.wpos / pageRoom
  let lo := max (st.1 / pageRoom) (cur + 1 - ringPages)
  let pages := ((List.range (cur + 1 - lo)).map fun k => lo + k).flatMap (ringPage s st.1 st.2) ++ List.replicate (4096 * (ringPages - (cur + 1 - lo))) Config.ringFill
  let first := match s.jrn.anchors.getLast? with | some a => a.epoch | none => 0
  let body := cfgImage s.jrn.cfgNo ++ pages
  slotHeader 0 first (lastEpoch (s.jrn.ring.reverse.map (·.r)) 0) 12582912 (min 61440 (Config.cfgSize s.jrn.cfgNo)) 0 s.jrn.boot "" s.sec.worlds.toNat (sramMap s.sec.regions) (sha256 body) ++ body

/-! ### EXPORT (R210, R258 to R260, R632) -/

/-- A word as eight hexadecimal digits. -/
def hex8 (n : Nat) : String := String.ofList (hexDigits 8 n [])

/-- The MORE bodies of an export: 48 bytes a line, the last padded with zeros. -/
def exportLines : Nat → Nat → List Byte → List String
  | 0, _, _ => []
  | _, _, [] => []
  | n + 1, k, l =>
    (natStr k ++ " " ++ joinStr " " ((bytesWords 12 ((l ++ List.replicate 47 0).take 48)).map hex8)) :: exportLines n (k + 1) (l.drop 48)

/-- The records and the seal of EXPORT AUDIT (R259). -/
def auditSeal (s : State) : List Byte :=
  let c := s.sec
  let newest := match c.audit.getLast? with | some r => r.seq | none => 0
  let head := bytesBE 2 0xFFFF ++ bytesBE 2 0 ++ bytesBE 4 newest ++ bytesBE 8 (mono s) ++ bytesBE 4 c.audit.length ++ bytesBE 4 c.overwritten ++ bytesBE 4 c.missed ++ bytesBE 4 0 ++ bytesBE 32 c.head.toNat
  head ++ bytesBE 32 (hmac256 (keyOf s .maker) head).toNat ++ List.replicate 32 0

def auditExport (s : State) : List Byte := s.sec.audit.flatMap auditBytes ++ auditSeal s

/-- The checks of the command below. -/
def exportDataSpec (q : Hdr) (what : ExportWhat) (s : State) : CmdSpec :=
  let isAudit := what = .audit
  let bad := match what with | .slot n => (slotValid s n.val).isNone | _ => false
  { verb := "EXPORT", body := exportBody what, need := verbNeed "EXPORT", audit := if isAudit then some 18 else none, changes := false, p9 := if isAudit && !sReach s q.ses then some "WORLD" else none, p10 := firstOf [((getSes s q.ses).mode = .typed && q.ses != .mac, "STATE"), (s.tst.heldJournal && !isAudit, "STATE"), (bad, "STATE")] }

/-- EXPORT. -/
def execExportData (q : Hdr) (what : ExportWhat) (s : State) : Host.Outcome State Fault Refusal :=
  let isAudit := what = .audit
  .next (lineIn (.exportData q what) q s fun s => submit s q (exportDataSpec q what s)
    fun s _ =>
      let bytes := match what with
        | .ring => ringBytes s
        | .slot n => (match slotValid s n.val with | some i => slotBytes i | none => [])
        | .audit => auditExport s
      let lines := exportLines bytes.length 0 bytes
      let last := match s.sec.audit.getLast? with | some r => some r.seq | none => none
      (s, .export_ lines ("DONE LINES=" ++ natStr lines.length ++ " BYTES=" ++ natStr bytes.length) (if isAudit then last else none)))

/-- An export sends its next line; the last one is its final line. -/
def exportStep (s : State) (o : Out) : State :=
  match o.work with
  | .export_ (l :: rest) fin a => setWork (more s o.id l) o.id (.export_ rest fin a)
  | .export_ [] fin a =>
    let s := match a with
      | some n => { s with sec := { s.sec with exported := tset s.sec.exported (sesIdx o.ses) n } }
      | none => s
    finish s o.id fin
  | _ => s

/-! ### LOAD (R211) -/

/-- Words as records. -/
def parseRecs : Nat → List Nat → List JRec
  | 0, _ => []
  | _, [] => []
  | n + 1, h :: l =>
    let len := h / 2097152 % 32
    .item (h / 67108864) (h % 2097152) (l.take len) :: parseRecs n (l.drop len)

def wordAt (l : List Word) (k : Nat) : Nat := (l.getD k 0).toNat
def word64 (l : List Word) (k : Nat) : Nat := wordAt l k * 4294967296 + wordAt l (k + 1)

/-- The header and the records of a loaded image; none where it is not one (`FAIL FAULT IMAGE`). -/
def parseSlot (l : List Word) : Option SlotImg :=
  let bytes := l.flatMap fun w => bytesBE 4 w.toNat
  let n := wordAt l 11
  if wordAt l 0 != 0x5A464A4B || wordAt l 1 != 1 || slotArea < n || bytes.length < 65536 + n || 65536 + n + 48 ≤ bytes.length || n % 4 != 0 then none
  else
    let body := (bytes.drop 4096).take (61440 + n)
    let digest := ((bytes.drop 0x9C).take 32).foldl (fun a b => 256 * a + b.toNat) 0
    if (sha256 body).toNat != digest then none
    else
      let t := wordAt l 6
      let note := String.ofList ((((bytes.drop 0x3C).take 64).takeWhile (· != 0)).map fun b => Char.ofNat b.toNat)
      let words := ((l.drop 16384).take (n / 4)).map (·.toNat)
      some { trig := t % 256, trunc := t / 256 % 2 = 1, auto := t / 512 % 2 = 1, first := word64 l 7, last := word64 l 9, trigEpoch := word64 l 13, boot := (List.range 4).map fun k => wordAt l (2 + k), note := note, worlds := wordAt l 31, regions := wordAt l 32, bytes := n, recs := parseRecs words.length words, raw := l }

def loadBody (slot sq : Nat) (data : List Word) : String :=
  bodyOf ["LOAD", "SLOT=" ++ natStr slot, "SEQ=" ++ natStr sq, "DATA=" ++ codesStr (data.map (·.toNat))]

/-- The next SEQ that a slot takes. -/
def loadNext (s : State) (n : Nat) : Option (Nat × List Word) :=
  match slotAt s n with | .loading k l => some (k, l) | _ => none

/-- The conditions of LOAD at step 10. -/
def loadState (s : State) (n : Nat) : Option String :=
  firstOf [(s.tst.heldJournal, "STATE"), (s.ana.mode != .bench, "STATE " ++ modeName s.ana.mode), (slotExported s n || slotReplayed s n || slotCopied s n, "STATE"), (jrnHolds s, "TEMP")]

/-- The checks of the command below. -/
def loadSpec (q : Hdr) (slot : Fin 4) (sq : Nat) (data : List Word) (s : State) : CmdSpec :=
  let n := slot.val
  let order := sq = 0 || (match loadNext s n with | some (k, _) => sq = k | none => false)
  { verb := "LOAD", body := loadBody n sq data, need := verbNeed "LOAD", audit := some 16, p67 := if data.isEmpty || 12 < data.length then some "RANGE" else none, p9 := worldFail s q.ses .jrn, p10 := (loadState s n).or (if order then none else some "STATE") }

/-- LOAD, one line. -/
def execLoad (q : Hdr) (slot : Fin 4) (sq : Nat) (data : List Word) (s : State) : Host.Outcome State Fault Refusal :=
  let n := slot.val
  .next (lineIn (.load q slot sq data) q s fun s => submit s q (loadSpec q slot sq data s)
    fun s _ =>
      let old := if sq = 0 then [] else match loadNext s n with | some (_, l) => l | none => []
      (setSlotAt s n (.loading (sq + 1) (old ++ data)), doneNow "DONE" s))

/-- The checks of the command below. -/
def loadEndSpec (q : Hdr) (slot : Fin 4) (s : State) : CmdSpec :=
  let n := slot.val
  { verb := "LOAD", body := "LOAD SLOT=" ++ natStr n ++ " END", need := verbNeed "LOAD", audit := some 16, p9 := worldFail s q.ses .jrn, p10 := (loadState s n).or (if (loadNext s n).isSome then none else some "STATE") }

/-- LOAD END: the image is verified. -/
def execLoadEnd (q : Hdr) (slot : Fin 4) (s : State) : Host.Outcome State Fault Refusal :=
  let n := slot.val
  .next (lineIn (.loadEnd q slot) q s fun s => submit s q (loadEndSpec q slot s)
    fun s _ =>
      match (loadNext s n).bind fun p => parseSlot p.2 with
      | some i => (setSlotAt s n (.kept i), doneNow "DONE" s)
      | none => (setSlotAt s n .empty, doneNow "FAIL FAULT IMAGE" s))

/-! ### Replay (R634 to R638) -/

/-- The checks of the command below. -/
def replayStartSpec (q : Hdr) (slot : Fin 4) (s : State) : CmdSpec :=
  let n := slot.val
  let i := slotValid s n
  let same := match i with | some i => i.boot.take 2 = [Config.romWord, s.tst.patch] | none => true
  { verb := "REPLAY", body := "REPLAY START SLOT=" ++ natStr n, need := verbNeed "REPLAY", audit := some 16, p9 := worldFail s q.ses .jrn, p10 := firstOf [(s.tst.heldJournal, "STATE"), (s.ana.mode != .bench, "STATE " ++ modeName s.ana.mode), (i.isNone || s.jrn.rplReq.isSome, "STATE"), (!same, "VERSION")] }

/-- REPLAY START. -/
def execReplayStart (q : Hdr) (slot : Fin 4) (s : State) : Host.Outcome State Fault Refusal :=
  let n := slot.val
  .next (lineIn (.replayStart q slot) q s fun s => submit s q (replayStartSpec q slot s)
    fun s _ => (addCause (setJrn s fun x => { x with rplReq := some n }) 13 .replay, .replay))

/-- The command of a replay that runs or has been asked for. -/
def replayCmd (s : State) : Option Nat := (s.vil.outs.find? fun o => o.work = .replay).map (·.id)

/-- The replay ends: its command's final line, the notice, and the way back to BENCH. -/
def replayEnds (s : State) (body : String) (res island : Nat) : State :=
  let s := match replayCmd s with | some id => finish s id body | none => s
  match s.jrn.rpl with
  | some r =>
    let s := setJrn s fun x => { x with rplSlot := r.slot, rplEpoch := r.epoch, rplRes := res, rplIsland := island, rplReq := none }
    let s := if res = 0 then s else notify s "JRN.REPLAY-END" none ("RESULT=" ++ (if res = 1 then "MATCH" else "DIVERGED") ++ " EPOCH=" ++ natStr r.epoch)
    addCause s 14 .bench
  | none => { s with jrn := { s.jrn with rplReq := none }, ana := { s.ana with causes := s.ana.causes.filter fun c => c.target != .replay } }

/-- The checks of the command below. -/
def replayStopSpec (q : Hdr) (s : State) : CmdSpec :=
  { verb := "REPLAY", body := "REPLAY STOP", need := verbNeed "REPLAY", audit := some 16, changes := false, p9 := worldFail s q.ses .jrn, p10 := firstOf [(s.tst.heldJournal, "STATE"), ((replayCmd s).isNone, "STATE")] }

/-- REPLAY STOP. -/
def execReplayStop (q : Hdr) (s : State) : Host.Outcome State Fault Refusal :=
  .next (lineIn (.replayStop q) q s fun s => submit s q (replayStopSpec q s)
    fun s _ => (replayEnds s "FAIL CANCELLED" 0 0, doneNow "DONE" s))

/-- The control islands take an image; sessions and source islands keep their own (R635, R636). -/
def imageTake (s : State) (i : Image) : State :=
  { s with cfg := i.cfg, ana := { s.ana with xings := i.xings }, lve := i.lve, drv := { i.drv with feeds := s.drv.feeds, ports := s.drv.ports, dead := s.drv.dead, lastHb := s.drv.lastHb, configured := s.drv.configured, lastWord := s.drv.lastWord, lost := s.drv.lost, backSince := s.drv.backSince, losses := s.drv.losses }, thm := i.thm, clm := i.clm }

/-- Entry to REPLAY (R635). -/
def replayEnter (s : State) : State :=
  match s.jrn.rplReq.bind fun n => (slotValid s n).map fun i => (n, i) with
  | some (n, i) =>
    let foreign := !i.raw.isEmpty
    let img := if foreign then (Config.replayed i.raw).getD {} else i.image
    let r : Rpl := { slot := n, recs := i.recs, epoch := i.first, last := i.last, cmd := replayCmd s, bench := takeImage s, foreign := foreign, steady := img.steady }
    imageTake (setJrn s fun x => { x with rpl := some r, rplReq := none, rplRes := 0, rplIsland := 0 }) img
  | none => s

/-- The way out of REPLAY (R638): the bench's own configuration and state. -/
def replayLeave (s : State) : State :=
  match s.jrn.rpl with
  | some r => { imageTake (setJrn s fun x => { x with rpl := none }) r.bench with cfg := s.stored }
  | none => s

/-- The epoch that an EPOCH record names. -/
def epochOf : JRec → Option Nat
  | .item 1 _ (h :: l :: _) => some (h * 4294967296 + l)
  | _ => none

/-- The records of the epoch at the front of a list, and the rest. -/
def takeEpoch (e : Nat) (l : List JRec) : List JRec × List JRec :=
  match l with
  | r :: t => if epochOf r = some e then (t.takeWhile (fun x => (epochOf x).isNone), t.dropWhile fun x => (epochOf x).isNone) else ([], l)
  | [] => ([], [])

/-- A signed 16-bit field. -/
def sx16 (n : Nat) : Int := (BitVec.ofNat 16 n).toInt

/-- A record's payload read back (Table JRN-3). -/
def payOf (x : Nat) (w : List Nat) : Pay :=
  let w0 := w.getD 0 0
  let w1 := w.getD 1 0
  let w2 := w.getD 2 0
  if x < 160 then .churn (w2 % 16777216) (BitVec.ofNat 11 (w0 / 65536)) (sx16 (w1 / 65536)) (sx16 w1)
  else if x < 176 then .count (w1 % 8) (w1 / 16 % 4) (w1 / 256 % 256) (w1 / 65536 % 2 = 1) (w1 / 131072 % 2 = 1)
  else if 176 ≤ x && x < 180 then .port (BitVec.ofNat 32 w1).toInt (sx16 (w2 / 65536)) (w2 % 65536)
  else if x = 188 then
    if w.drop 2 = [0, 0, 0, 0, 0] then .mains (w1 % 65536) (w1 / 65536) (500 ≤ w1 % 65536)
    else
      let k := [MarkKind.sag, .swell, .trans, .freq].getD (w2 % 4) .sag
      .mark k (w.getD 3 0 * 4294967296 + w.getD 4 0) (if w2 / 8 % 2 = 1 then none else some (w.getD 5 0 * 4294967296 + w.getD 6 0)) (w2 / 256 % 256)
  else if x = 196 && w.length = 5 && w0 % 65536 = 2 then .sample ((BitVec.ofNat 64 (w2 * 4294967296 + w.getD 3 0)).toInt * 2 / 5) (w.getD 4 0)
  else .none

/-- A XING record as a delivery of the replay: its stamp in the present epoch of the bench. -/
def recOfWords (s : State) (x tick : Nat) (w : List Nat) : Rec :=
  let w0 := w.getD 0 0
  let c := xcell s x
  let range := w0 / 2147483648 % 2 = 1
  let stale := w0 / 1073741824 % 2 = 1
  let silent := w0 / 536870912 % 2 = 1
  let fails := range || stale || silent
  let kind : XKind := if silent then .silent else if stale then .stale else .range
  let ev : Option XEvent := if fails && c.episode.isNone then some (.begins kind) else if !fails && c.episode.isSome then some .ends else none
  { x := x, stamp := tick, val := if xSigned s x then sx16 w0 else (w0 % 65536 : Nat), range := range, stale := stale, silent := silent, ptick := some tick, ev := ev, pay := payOf x w }

/-- The records of one journal epoch as deliveries, with the steady runs that go on (R621). -/
def replayRecs (s : State) (base : Nat) (r : Rpl) (l : List JRec) : List Rec × Tbl Steady :=
  let p := l.foldl (fun (acc : List Rec × Tbl Steady) j =>
    match j with
    | .item 2 b w =>
      let t := base + b / 256
      (acc.1 ++ [recOfWords s (b % 256) t w], tset acc.2 (b % 256) { words := w, tick := t })
    | .item 3 b (per :: _) =>
      let t := base + b / 256
      (match acc.2.find? (·.1 = b % 256) with
        | some (_, st) => (acc.1 ++ [recOfWords s (b % 256) t st.words], tset acc.2 (b % 256) { st with tick := t, period := per, active := true })
        | none => acc)
    | _ => acc) ([], r.steady)
  let seen := p.1.map (·.x)
  p.2.foldl (fun (acc : List Rec × Tbl Steady) q =>
    let st := q.2
    if st.active && !seen.contains q.1 && st.tick + st.period < base + tickMs then
      (acc.1 ++ [recOfWords s q.1 (st.tick + st.period) st.words], tset acc.2 q.1 { st with tick := st.tick + st.period })
    else acc) p

/-- One boundary of a replay: the records of the next journal epoch, the digests, and the end.  The recomputed digests of
a span of this device equal the recorded ones (R633); those of a foreign image are not known: a free value says whether
this epoch diverges, where and why. -/
def replayEpoch (s : State) (deliver : State → List Rec → State) : State :=
  match s.jrn.rpl with
  | none => s
  | some r =>
    let p := takeEpoch r.epoch r.recs
    let d := replayRecs s (tickMs * r.epoch) r p.1
    let f := freeBits 4 s
    let s := if r.foreign then drawn s else s
    let s := { s with clm := { s.clm with verdicts := p.1.filterMap fun j => match j with | .item 4 b _ => some (b % 128, b / 128 % 2 = 0) | _ => none } }
    let r' : Rpl := { r with recs := p.2, epoch := r.epoch + 1, passed := r.passed + 1, steady := d.2 }
    let s := deliver s d.1
    if r.foreign && f.getLsbD 0 then
      let isl := f.toNat / 2 % 3
      replayEnds s ("DONE RESULT=DIVERGED EPOCH=" ++ natStr r.epoch ++ " ISLAND=" ++ natStr (isl + 1) ++ " CAUSE=" ++ (if f.getLsbD 3 then "LEAVE" else "OUTPUT")) 2 (isl + 1)
    else if p.1.any fun j => match j with | .item 0x0D b _ => b / 16 = 9 | _ => false then
      replayEnds s ("DONE RESULT=MATCH EPOCHS=" ++ natStr r'.passed ++ " END=TAKEOVER") 1 0
    else if r.last ≤ r.epoch then replayEnds s ("DONE RESULT=MATCH EPOCHS=" ++ natStr r'.passed) 1 0
    else setJrn s fun x => { x with rpl := some r' }

/-! ### Shutdown and start (R58, R84, R625, R626, R642) -/

/-- At a commit: the last-gasp image of the records not yet written, oldest first in what the other parts leave of 4 KiB;
a copy in progress stops. -/
def jrnCommit (s : State) : State :=
  let room := 4096 - 12 - 1024 - 256
  let l := s.jrn.closed.reverse
  let kept := fitRecs room l
  let g := if s.thm.winJournal && !s.tst.heldJournal then some (kept, l.length - kept.length, s.epoch) else none
  setJrn s fun x => { x with gasp := g, frz := [], rpl := none, rplReq := none }

/-- A reset of the core die: what was in SRAM is gone, and the next start tells of the held records lost in a GAP (R626). -/
def jrnReset (s : State) : State :=
  setJrn s fun x => { x with gapDue := x.gapDue + x.heldLost + x.held.length, gapBytes := x.gapBytes + x.heldLostBytes + x.heldBytes, cur := [], closed := [], curAnchor := none, held := [], heldBytes := 0, heldLost := 0, heldLostBytes := 0, holding := false, gaps := 0, lost := 0, past := [], postAt := 0, told := none, rate := [], rateNow := 0, steady := [], anchors := [], lastAnchor := none, storeSeq := 0, frz := [], rpl := none, rplReq := none, rplRes := 0, rplIsland := 0, rplEpoch := 0, x199 := false, slots := x.slots.filter fun p => match p.2 with | .kept _ => true | _ => false }

/-- The BOOT record's payload. -/
def bootWords (s : State) : List Nat :=
  [Config.romWord, s.tst.patch, s.ana.crev.toNat + 256 * (lrevNow s).toNat + 65536 * s.ana.jrev.toNat, s.sec.boot]

/-- The journal is opened at start-up: the records of the last gasp, POWER, GAP and BOOT. -/
def jrnOpen (s : State) : State :=
  if s.tst.heldJournal then setJrn s fun x => { x with boot := bootWords s, gasp := none, gapDue := 0, gapBytes := 0 }
  else
    let s := match s.jrn.gasp with
      | some (l, lost, e) => ringPut (l.foldl ringPut s) (.item 0x0F 0 [lo32 lost, lo32 e])
      | none => s
    let n := s.jrn.gapDue
    let s := if n = 0 then s
      else notify (ringPut (setJrn s fun x => { x with gaps := satInc 65535 x.gaps, lost := min 0xFFFFFFFF (x.lost + n) }) (.item 0x10 0 [lo32 n, lo32 s.jrn.gapBytes])) "JRN.GAP" none ("LOST=" ++ natStr n)
    let kind := match s.pwr.rstKind with | .por => 1 | .pin => 2 | .wdog => 3 | .soft => 4 | .lastgasp => 5 | .brown => 6
    let s := setJrn s fun x => { x with gasp := none, gapDue := 0, gapBytes := 0, boot := bootWords s }
    jrnPut s 0x0E kind s.jrn.boot

/-- Gaps and lost records since reset (R649). -/
def jrnGaps (x : Jrn) : Nat := x.gaps + x.past.getD 0 0
def jrnLost (x : Jrn) : Nat := x.lost + x.past.getD 1 0

/-- JRN_CLR. -/
def execJrnClr (v : Word) (s : State) : Host.Outcome State Fault Refusal :=
  .next (if v.getLsbD 0 then setJrn s fun x => { x with past := [jrnGaps x, jrnLost x], gaps := 0, lost := 0 } else s)

/-! ### Attributes and registers (R649, R650) -/

/-- Bytes per second over the last 10 s. -/
def jrnRate (s : State) : Nat := (s.jrn.rate.foldl (· + ·) 0) / 10

/-- The seconds that the ring holds at the rate of the last 10 s; none while nothing was written. -/
def jrnDepth (s : State) : Option Nat := if jrnRate s = 0 then none else some (4096 * ringPages / jrnRate s)

def slotStr (s : State) (n : Nat) : String :=
  match slotValid s n with
  | some i => joinStr "," [trigName i.trig, natStr i.first, natStr i.last, natStr i.bytes, if i.trunc then "TRUNC" else "-", quoteStr i.note]
  | none => "EMPTY"

def jrnState (s : State) : String :=
  if s.tst.heldJournal then "DISABLED" else if s.ana.mode = .replay then "REPLAY" else if s.jrn.holding then "HELD" else "ON"

def replayStr (s : State) : String :=
  let res (n : Nat) : String := if n = 1 then "MATCH" else if n = 2 then "DIVERGED" else "NONE"
  match s.jrn.rpl with
  | some r => joinStr "," [natStr r.slot, natStr r.epoch, res s.jrn.rplRes]
  | none => if s.jrn.rplRes = 0 then "-" else joinStr "," [natStr s.jrn.rplSlot, natStr s.jrn.rplEpoch, res s.jrn.rplRes]

/-- The read-only attributes of JRN. -/
def jrnAttr (s : State) (a : String) : String :=
  if a = "STATE" then jrnState s
  else if a = "RATE" then natStr (jrnRate s)
  else if a = "DEPTH" then (match jrnDepth s with | some n => natStr n ++ "s" | none => "-")
  else if a = "SLOT0" then slotStr s 0
  else if a = "SLOT1" then slotStr s 1
  else if a = "SLOT2" then slotStr s 2
  else if a = "SLOT3" then slotStr s 3
  else if a = "GAPS" then natStr (jrnGaps s.jrn)
  else if a = "LOST" then natStr (jrnLost s.jrn)
  else if a = "REPLAY" then replayStr s
  else "-"

/-- The write offset in the ring. -/
def ringOffset (s : State) : Nat := s.jrn.wpos / pageRoom % ringPages * 4096 + 16 + s.jrn.wpos % pageRoom

/-- The JRN registers. -/
def jrnReg (s : State) (off : Nat) : Option Word :=
  let x := s.jrn
  let bits (p : SlotImg → Bool) : Nat := (List.range 4).foldl (fun a n => match slotValid s n with | some i => if p i then a + 2 ^ n else a | none => a) 0
  let field (n : Nat) (f : SlotImg → Nat) : Nat := match slotValid s n with | some i => f i | none => 0
  if off = 0x00 then
    some (fieldWord [bit 0 (jrnOn s), bit 1 x.holding, bit 2 s.tst.heldJournal, bit 3 (x.frz.any (·.phase = 3)), bit 4 x.rpl.isSome, (8, 4, bits fun _ => true), (12, 4, bits (·.auto))])
  else if off = 0x04 then some (BitVec.ofNat 32 (ringOffset s))
  else if off = 0x08 then some (BitVec.ofNat 32 (x.wpos / pageRoom))
  else if off = 0x0C then some (fieldWord [(0, 24, min 0xFFFFFF (jrnRate s))])
  else if off = 0x10 then some (fieldWord [(0, 18, x.heldBytes)])
  else if off = 0x14 then some (fieldWord [(0, 16, x.gaps)])
  else if off = 0x18 then some (BitVec.ofNat 32 x.lost)
  else if off = 0x1C then some (BitVec.ofNat 32 (x.lastAnchor.getD 0))
  else if 0x20 ≤ off && off < 0x60 then
    let n := (off - 0x20) / 16
    match (off - 0x20) % 16 with
    | 0 => some (BitVec.ofNat 32 (field n (·.first)))
    | 4 => some (BitVec.ofNat 32 (field n (·.last)))
    | 8 => some (fieldWord [(0, 24, field n (·.bytes)), (24, 4, field n (·.trig)), bit 28 (match slotValid s n with | some i => i.trunc | none => false)])
    | _ => none
  else if off = 0x60 then some (BitVec.ofNat 32 (match x.rpl with | some r => r.epoch | none => x.rplEpoch))
  else if off = 0x64 then some (fieldWord [(0, 2, x.rplRes), (4, 2, x.rplIsland)])
  else if off = 0x7C then some 0
  else none

end Sys2Proof.Machine
end

