-- ==== Sys2Proof/Machine/SelfTest.lean ====
section
/-!
DEFINITION. Self-test and versions (*Self-test, versions and the fault catalogue*): the version check (R666 to R669), what
the quick self-test latches (R653), the full self-test with its conditions, stages and results (R655 to R660), repair
(R661 to R664), and the attributes and registers of BST and MODULE.
-/
namespace Sys2Proof.Machine
open Sys2Proof

def bstObj : Obj := ⟨.bst, 0⟩
def setTst (s : State) (f : Tst → Tst) : State := { s with tst := f s.tst }

/-! ### Versions (R666 to R669) -/

/-- The row of Table BST-6 for a patch, 0 where none lists it. -/
def comboRow (patch : Nat) (listed : Bool) : Nat :=
  if patch = 0 then 1 else if !listed then 0 else if patch = 6 then 2 else if patch = 7 then 3 else 0

/-- The line die's revision cannot be read (the link is down). -/
def lrevDown (s : State) : Bool := lrevNow s = 0xFF

/-- A notice of an item that was not held before. -/
def heldNotice (s : State) (was is : Bool) (name : String) : State := if is && !was then notify s name else s

/-- The findings of Table BST-7; a hold stays until a start whose check finds a tested combination (R669).  A line die
that cannot be read rules out no row. -/
def versionCheck (s : State) : State :=
  let t := s.tst
  let lBad := !lrevDown s && s.ana.lrev != 0x01
  let jBad := s.ana.jrev != 0x01
  let row := if lBad || jBad then 0 else comboRow t.patchFitted t.patchListed
  let patch := t.heldPatch || (t.patchFitted != 0 && row = 0)
  let line := t.heldLine || lBad
  let journal := t.heldJournal || jBad
  let s := setTst s fun x => { x with heldPatch := patch, heldLine := line, heldJournal := journal, row := row, patch := if patch then 0 else x.patchFitted }
  let s := heldNotice s t.heldPatch patch "VERSION.PATCH-HELD"
  let s := heldNotice s t.heldLine line "VERSION.LINE-UNTESTED"
  heldNotice s t.heldJournal journal "VERSION.JOURNAL-UNTESTED"

/-- The items held, as HELD names them. -/
def heldNames (s : State) : List String :=
  (if s.tst.heldPatch then ["PATCH"] else []) ++ (if s.tst.heldLine then ["LINE"] else []) ++ (if s.tst.heldJournal then ["JOURNAL"] else [])

/-! ### Latched faults (R653, R660, R665) -/

/-- The faults of a set by bit of TST_FAULT. -/
def faultBits (f : BitVec 10) : List Nat := (List.range 10).filter fun n => f.getLsbD n

/-- Bits of LF0 to LF7 and DP0 to DP3, with the pair partner of each feed. -/
def outBits (s : State) (feeds : BitVec 8) (ports : BitVec 4) : BitVec 12 :=
  let f := (List.range 8).foldl (fun acc n => if feeds.getLsbD n || (paired s n && feeds.getLsbD (partner n)) then acc ||| (1#12 <<< n) else acc) 0#12
  f ||| (ports.setWidth 12 <<< 8)

/-- The outputs that a fault holds off (Table BST-5).  A failing thermal engine without an output is TMOD's. -/
def faultHolds (s : State) (n : Nat) (feeds : BitVec 8) (ports : BitVec 4) : BitVec 12 :=
  if n = 9 then 0x0FF#12
  else if n = 4 || n = 5 then outBits s feeds ports
  else if n = 6 then (if feeds = 0 && ports = 0 then 0xFFF#12 else outBits s feeds ports)
  else if n = 7 || n = 8 then 0 else 0xFFF#12

def addHolds (s : State) (faults : BitVec 10) (feeds : BitVec 8) (ports : BitVec 4) (t : Tbl (BitVec 12)) : Tbl (BitVec 12) :=
  (faultBits faults).foldl (fun t n => tmod 0 t n (· ||| faultHolds s n feeds ports)) t

/-- The faults latched, and the outputs that they hold off. -/
def setFaults (s : State) (faults : BitVec 10) (holds : Tbl (BitVec 12)) : State :=
  let s := setTst s fun x => { x with faults := faults, holds := holds.filter fun p => p.2 != 0 }
  let s := (List.range 8).foldl (fun s f => if (bstHeld s).getLsbD f then feedStop s f else s) s
  (List.range 4).foldl (fun s p => if (bstHeld s).getLsbD (8 + p) then portStop s p else s) s

/-- The outcome of the items `bits`: the faults `found` of them are latched with what they hold off, and the others of them
clear (R665). -/
def latchFaults (s : State) (bits found : BitVec 10) (holds : Tbl (BitVec 12)) : State :=
  setFaults s ((s.tst.faults &&& ~~~bits) ||| found) ((s.tst.holds.filter fun p => !bits.getLsbD p.1) ++ holds)

/-- BST.FAULT for each fault found, which WORK0 queues at the next boundary (Table BST-15). -/
def faultNotes (s : State) (found : BitVec 10) : State :=
  (faultBits found).foldl (fun s n => notifyLate s "BST.FAULT" none ("FAULT=" ++ bstNames.getD n "-")) s

/-- The quick self-test's own items (Table BST-1). -/
def quickItems : BitVec 10 := 0x25F#10

/-- The quick self-test is complete: repairs in force, faults latched (R652, R653, R662). -/
def quickResult (s : State) (faults : BitVec 10) (feeds : BitVec 8) (ports : BitVec 4) : State :=
  let f := faults &&& quickItems
  let s := setTst s fun x => { x with soft := x.softStored, qfail := f != 0, quickT := (s.now - (s.rel + 8 * tickMs)) / 80 }
  faultNotes (latchFaults s quickItems f (addHolds s f feeds ports [])) f

/-! ### Conditions (R656) -/

/-- A crossing's value lies in a window. -/
def xWithin (s : State) (x : Nat) (lo hi : Int) : Bool :=
  match xCurrent s x with | some r => decide (lo ≤ r.val ∧ r.val ≤ hi) | none => false

/-- The first condition of Table BST-3, apart from the mark, that fails. -/
def bistCondRest (s : State) : Option String :=
  firstOf [(!xWithin s 153 4750 5250, "V5"), (!xWithin s 154 3135 3465, "V3"), (Config.v1mV s.now < 950 || 1050 < Config.v1mV s.now, "V1"), (!s.pwr.xtal || !Config.trimOk s.now, "CLOCK"), (!xWithin s 145 (-4000) 9000, "TEMP")]

/-- The first condition of Table BST-3 that fails. -/
def bistCond (s : State) : Option String :=
  firstOf [(!keeperMains s, "MAINS"), (marked s, "MARK"), ((bistCondRest s).isSome, (bistCondRest s).getD "-")]

/-- The conditions while the test runs: a mark acts by R658. -/
def bistCondRun (s : State) : Option String := if keeperMains s then bistCondRest s else some "MAINS"

/-! ### BIST and REPAIR (R655, R664, R680) -/

def bistActive (s : State) : Bool := s.tst.asked || s.tst.run.isSome

/-- The commands that wait on the test end; the arming ends with it. -/
def bistEnds (s : State) (body : String) : State :=
  let s := setTst s fun x => { x with asked := false, armed := false }
  (s.vil.outs.filter fun o => o.work = .bist).foldl (fun s o => finish s o.id body) s

/-- The checks of the command below. -/
def bistSpec (q : Hdr) (dur : Option Nat) (s : State) : CmdSpec :=
  let d := dur.getD 30000
  let bad := d < 1000 || 30000 < d || d % 1000 != 0
  { verb := "BIST", body := bodyOf ["BIST", (match dur with | some n => "DURATION=" ++ natStr n ++ "ms" | none => "")], need := verbNeed "BIST", audit := some 16, p67 := if bad then some "RANGE LO=1000ms HI=30000ms STEP=1000ms" else none, p9 := worldFail s q.ses .bst, p10 := firstOf [(!modeIs s [.run, .safe, .bench] && !bistActive s, "STATE " ++ modeName s.ana.mode), (calActive s, "STATE CAL"), (!bistActive s && (bistCond s).isSome, "COND " ++ (bistCond s).getD "-")] }

/-- BIST. -/
def execBist (q : Hdr) (dur : Option Nat) (s : State) : Host.Outcome State Fault Refusal :=
  let d := dur.getD 30000
  .next (lineIn (.bist q dur) q s fun s => submit s q (bistSpec q dur s)
    fun s id =>
      if bistActive s then (s, .bist)
      else match leaveReq s .bist .service d (some id) with
        | some r => (askLeave (setTst s fun x => { x with asked := true }) s.epoch r, .bist)
        | none => (s, .bist))

/-- The checks of the command below. -/
def repairFuseSpec (q : Hdr) (s : State) : CmdSpec :=
  { verb := "REPAIR", body := "REPAIR FUSE CONFIRM=yes", need := verbNeed "REPAIR", audit := some 16, auditLate := true, p9 := if sReach s q.ses then none else some "WORLD", p10 := if !s.tst.mendable || bistActive s then some "STATE" else none }

/-- REPAIR FUSE. -/
def execRepairFuse (q : Hdr) (s : State) : Host.Outcome State Fault Refusal :=
  .next (lineIn (.repairFuse q) q s fun s => submit s q (repairFuseSpec q s)
    fun s _ => (s, .effect (s.epoch + 1) .repair "DONE ARMED=yes"))

/-- The arming of fuse repair takes effect. -/
def repairArm (s : State) : State := setTst s fun x => { x with armed := true }

/-- The answer of Lamplighter for the self-test: a grant leads into BIST where every condition holds. -/
def bistAnswer (s : State) (a : LAnswer) : State :=
  if a = .calmBreak then bistHit s 2
  else if !s.tst.asked then (if a = .granted then leaveReturn s .bist else s)
  else match a with
    | .granted =>
      let fail := if s.tst.x200 then some "FAIL FAULT XING"
        else if !modeIs s [.run, .safe, .bench] then some ("FAIL STATE " ++ modeName s.ana.mode)
        else (bistCond s).map ("FAIL COND " ++ ·)
      (match fail with
        | some body => bistEnds (leaveReturn s .bist) body
        | none => addCause s 15 .bist)
    | .refused w => bistEnds s ("FAIL LEAVE " ++ w)
    | .timeout => bistEnds s "FAIL LEAVE-TIMEOUT"
    | .calmBreak => s

/-- A queued or granted test that does not begin: another mode was entered instead. -/
def bistDropped (s : State) : State :=
  if s.tst.asked && holderGranted s .bist && !modeIs s [.run, .safe, .bench, .bist] then
    bistEnds (leaveReturn s .bist) ("FAIL STATE " ++ modeName s.ana.mode)
  else s

/-- Entry to BIST from a mode: the stages begin, and the IC scan is suspended (R657). -/
def bistEnter (s : State) (prev : Mode) : State :=
  let s := setTst s fun x => { x with asked := false, run := some { prev := prev, startAt := s.now, stageAt := s.now, faults0 := x.faults, holds0 := x.holds } }
  { s with cnv := { s.cnv with win := none } }

/-! ### Stages (Table BST-4) -/

/-- The bits of TST_FAULT that a stage decides. -/
def stageBits (n : Nat) : BitVec 10 :=
  if n = 1 then 0x001#10 else if n = 2 then 0x002#10 else if n = 3 then 0x00C#10 else if n = 4 then 0x010#10
  else if n = 5 then 0x260#10 else if n = 6 then 0x080#10 else if n = 7 then 0x100#10 else 0

/-- The least length of a stage in ms: that of a stage with a bound alone is what it must hold. -/
def stageMs (n : Nat) : Nat := [0, 8, 128, 10, 12, 20, 50, 0, 0].getD n 0

/-- The status word of X200; the index of the item within its stage is not known from the commands. -/
def bistStatus (s : State) (fail : Bool) : XWord :=
  match s.tst.run with
  | some r => BitVec.ofNat 16 (r.stage + 16 + 32 * b2n fail + 64 * b2n r.rerun + 256 * (freeBits 8 s).toNat)
  | none => 0

def bistPost (s : State) (fail : Bool) : State :=
  drawn (arrive (setTst s fun x => { x with postAt := s.now }) 200 (bistStatus s fail) none .none)

/-- TEST_STATUS_POST: 100 ms after the last post. -/
def execTestStatusPost (s : State) : Host.Outcome State Fault Refusal :=
  .next (if coreRuns s && s.ana.mode != .quiet then atTick s (some (s.tst.postAt + 100 * tickMs)) (bistPost · false) else s)

/-- Spares of a region in use. -/
def inRegion (l : List (Nat × Nat)) (r : Nat) : Nat := (l.filter fun p => p.1 = r).length

/-- A row can be mended by fuse (R663). -/
def fuseMendable (fuses : List (Nat × Nat)) (p : Nat × Nat) : Bool := inRegion fuses p.1 < 2 && fuses.length < 32

def rowItem (p : Nat × Nat) : String := "SR" ++ padStr 2 p.1 ++ " ROW=" ++ natStr p.2

def rowStr (p : Nat × Nat) : String := "REGION=SR" ++ padStr 2 p.1 ++ " ROW=" ++ natStr p.2

/-- A failing row: a soft spare takes its place where its region has one; else it stays (R662, R663). -/
def rowFails (s : State) (p : Nat × Nat) : State :=
  match s.tst.run with
  | none => s
  | some r =>
    if inRegion s.tst.soft p.1 < 4 then
      let soft := s.tst.soft ++ [p]
      let s := setTst s fun x => { x with soft := soft, softStored := if storeReadOnly s then x.softStored else soft, run := some { r with soft := r.soft + 1 } }
      notifyLate s "BST.REPAIRED" none (rowStr p ++ " BY=SOFT")
    else setTst s fun x => { x with run := some { r with found := r.found ||| 0x002#10, rows := if r.rows.contains p then r.rows else r.rows ++ [p] } }

/-- One fuse entry for each mendable row, its valid bit last; `k` rows are burnt at most (R664). -/
def burnRows : List (Nat × Nat) → Nat → List (Nat × Nat) → List (Nat × Nat) × List (Nat × Nat)
  | [], _, fuses => (fuses, [])
  | p :: l, k, fuses =>
    if k != 0 && fuseMendable fuses p then burnRows l (k - 1) (fuses ++ [p])
    else let r := burnRows l k fuses; (r.1, p :: r.2)

/-- The FUSE stage: what remains decides BST.SRAM. -/
def fuseStage (s : State) : State :=
  match s.tst.run with
  | none => s
  | some r =>
    let b := burnRows r.rows 32 s.tst.fuses
    let done := r.rows.filter fun p => !b.2.contains p
    let found := if b.2.isEmpty then r.found &&& 0x3FD#10 else r.found
    let s := setTst s fun x => { x with fuses := b.1, run := some { r with rows := b.2, burnt := done.length, found := found } }
    done.foldl (fun s p => notifyLate s "BST.REPAIRED" none (rowStr p ++ " BY=FUSE")) s

/-- The stage after one; none after the last.  FUSE is driven only when armed and when a row can be mended. -/
def stageAfter (s : State) (r : BistRun) : Option Nat :=
  if r.stage < 7 then some (r.stage + 1)
  else if r.stage = 7 && s.tst.armed && r.rows.any (fuseMendable s.tst.fuses) then some 8
  else none

/-- What a stage has found; the FUSE stage decides what is left of BST.SRAM. -/
def stageFound (s : State) (n : Nat) : BitVec 10 :=
  match s.tst.run with
  | some r => r.found &&& stageBits (if n = 8 then 2 else n)
  | none => 0

/-- The faults that a stage found are latched, and told of unless a stage before has found them (R660, R665). -/
def stageLatches (s : State) (n : Nat) (feeds : BitVec 8) (ports : BitVec 4) : State :=
  let f := stageFound s n
  let s := latchFaults s (stageBits (if n = 8 then 2 else n)) f (addHolds s f feeds ports [])
  if n = 8 then s else faultNotes s f

/-- A stage completes with what it found, and the next begins. -/
def stageEnds (faults : BitVec 10) (feeds : BitVec 8) (ports : BitVec 4) (rows : List (Nat × Nat)) (s : State) : State :=
  match s.tst.run with
  | none => s
  | some r =>
    let f := if r.stage = 2 then 0 else faults &&& stageBits r.stage
    let s := setTst s fun x => { x with run := some { r with found := r.found ||| f } }
    let s := if r.stage = 2 then rows.foldl rowFails s else if r.stage = 8 then fuseStage s else s
    let s := stageLatches s r.stage feeds ports
    let s := bistPost s (stageFound s r.stage != 0)
    match s.tst.run with
    | none => s
    | some r =>
      match stageAfter s r with
      | some n => setTst s fun x => { x with run := some { r with stage := n, stageAt := s.now, rerun := false, hit := 0 } }
      | none => setTst s fun x => { x with run := some { r with done := some "DONE" } }

/-- BIST_STAGE_END. -/
def execBistStageEnd (faults : BitVec 10) (feeds : BitVec 8) (ports : BitVec 4) (rows : List (Fin 32 × Fin 256)) (s : State) : Host.Outcome State Fault Refusal :=
  .next (match s.tst.run with
    | some r =>
      if r.waits || r.done.isSome || !coreRuns s || s.ana.mode != .bist then s
      else atTick s (some (r.stageAt + stageMs r.stage * tickMs)) (stageEnds faults feeds ports (rows.map fun p => (p.1.val, p.2.val)))
    | none => s)

/-! ### The end (R657 to R660, R664) -/

/-- Slots that the self-test found failing read EMPTY; which they are is a free value. -/
def slotsFail (s : State) : State :=
  let bits := freeBits 4 s
  (List.range 4).foldl (fun s n => if bits.getLsbD n then (match slotAt s n with | .kept _ => setSlotAt s n .empty | _ => s) else s) (drawn s)

/-- BST.CONV and BST.JOURNAL act at once (Table BST-5). -/
def faultActs (s : State) (found : BitVec 10) : State :=
  let s := if found.getLsbD 7 then notify { s with cnv := { s.cnv with cal := 0 } } "CNV.CAL-DRIFT" none else s
  if found.getLsbD 8 then slotsFail s else s

def resultName (n : Nat) : String := ["NONE", "PASS", "REPAIRED", "FLAGGED"].getD n "-"

/-- A test that has completed. -/
def bistCompletes (s : State) (r : BistRun) : State :=
  let n := (faultBits r.found).length
  let res := if n != 0 then 3 else if r.soft + r.burnt != 0 then 2 else 1
  let s := faultActs s r.found
  let last := if s.tim.quality = 0 then none else some (utcSeconds s)
  let s := setTst s fun x => { x with res := res, flags := n, lastRun := last, fullMs := (s.now - r.startAt) / tickMs, runs := satInc 0xFFFF x.runs, openRows := r.rows, mendable := r.rows.any (fuseMendable x.fuses), run := none }
  let s := notify s "BST.END" none ("RESULT=" ++ resultName res)
  bistEnds s ("DONE RESULT=" ++ resultName res ++ " FLAGS=" ++ natStr n)

/-- A test that ends early latches nothing from its stages (R659). -/
def bistGivesUp (s : State) (r : BistRun) : State :=
  setFaults (setTst s fun x => { x with run := none, armed := false, aborts := satInc 0xFFFF x.aborts }) r.faults0 r.holds0

/-- The test is over at this boundary: the grant is returned, and the device goes back to the mode that it left, or to
START by a SOFT reset after a repair by fuse. -/
def bistOver (s : State) (r : BistRun) (body : String) : State :=
  let s := leaveReturn s .bist
  if body = "DONE" then
    let s := bistCompletes s r
    if r.burnt = 0 then addCause s 16 r.prev
    else setTst { s with vil := { s.vil with softReset := some (s.epoch, s.now + 100 * tickMs) } } fun x => { x with restart := true }
  else
    addCause (bistEnds (bistGivesUp s r) body) 16 r.prev

def bistGrantGone (s : State) : Bool := !(s.lve.grants.any fun g => g.h = .bist && s.now < grantEnd g && !g.returned)

/-- The self-test's part of an epoch boundary: its end, what ends it early, and a rerun that may begin. -/
def bistBoundary (s : State) : State :=
  match s.tst.run with
  | none => bistDropped s
  | some r =>
    let early (why : String) : State := setTst s fun x => { x with run := some { r with done := some why } }
    match r.done with
    | some body => bistOver s r body
    | none =>
      if s.tst.x200 then early "FAIL FAULT XING"
      else match bistCondRun s with
        | some c => early ("FAIL COND " ++ c)
        | none =>
          if bistGrantGone s then early "FAIL COND GRANT"
          else if r.waits && (if r.hit = 1 then !marked s else !windowOpen s.lve) then
            setTst s fun x => { x with run := some { r with waits := false, rerun := true, stageAt := s.now } }
          else s

/-- X200 is delivered. -/
def bistDeliver (s : State) (r : Rec) : State :=
  if r.x != 200 then s
  else match r.ev with
    | some (.begins _) => setTst s fun x => { x with x200 := true }
    | some .ends => setTst s fun x => { x with x200 := false }
    | _ => s

/-- A keeper takeover ends the test (R681). -/
def bistTaken (s : State) : State :=
  match s.tst.run with
  | some r => leaveReturn (bistGivesUp s r) .bist
  | none => setTst s fun x => { x with asked := false }

/-- The commit to shutdown stops the test; how many entries a FUSE stage in progress has completed is a free value
(R682). -/
def bistCommit (s : State) : State :=
  match s.tst.run with
  | some r =>
    if r.stage = 8 && r.done.isNone then
      let k := (freeBits 8 s).toNat % (r.rows.length + 1)
      setTst (drawn s) fun x => { x with fuses := (burnRows r.rows k x.fuses).1 }
    else s
  | none => s

/-- A reset of the core die: what is kept is the repairs, the fuses, the patch, and the faults of the items that the quick
self-test does not cover, which stand until a full test passes them (R665). -/
def tstReset (t : Tst) : Tst :=
  let p := match t.run with | some r => (r.faults0, r.holds0) | none => (t.faults, t.holds)
  { faults := p.1 &&& ~~~quickItems, holds := p.2.filter fun q => !quickItems.getLsbD q.1, fuses := t.fuses, softStored := t.softStored, patchFitted := t.patchFitted, patchListed := t.patchListed }

/-- CANCEL of a BIST until its leave is granted (R178, R225). -/
def bistCancel (s : State) (id : Nat) : Option State :=
  if !s.tst.asked || holderGranted s .bist then none
  else
    let s := finish s id "FAIL CANCELLED"
    some (if s.vil.outs.any fun o => o.work = .bist then s else leaveWithdraw (setTst s fun x => { x with asked := false, armed := false }) .bist)

/-! ### SHOW BST, attributes and registers (R675, R685, R686, R706) -/

/-- The severity of a notice (Table BST-9). -/
def warnNames : List String := ["SYS.NOTICES-LOST", "PWR.CELL-ABSENT", "PWR.CELL-LOW", "PWR.CELL-EXHAUSTED", "LEAVE.REFUSED",
  "LEAVE.TIMEOUT", "LEAVE.OVERDRAWN", "XING.RANGE", "XING.STALE", "XING.SILENT", "SES.MACRO-MISSED", "SEC.KEY-UNSET",
  "SEC.AUTH-FAIL", "SEC.AUDIT-NEAR", "SEC.AUDIT-WRAP", "SEC.AUDIT-HELD", "VERSION.PATCH-HELD", "CNV.CAL-DRIFT",
  "CNV.BROKEN", "CNV.OD-TRIP", "CNV.GROUP-TRIP", "CHN.FULL", "CNT.CAP-LOST", "DRV.PROT", "DRV.OBSTACLE", "DRV.SAG-STOP",
  "DRV.POS-UNKNOWN", "DRV.ENDSTOP", "DRV.ENCODER", "THM.LEVEL", "THM.SENSOR", "THM.NO-CREDIT", "THM.STATE-DEFAULT",
  "CLM.LATE", "CLM.STALE", "CLM.NOTIME", "BUS.STATE", "BUS.QUEUE-OVF", "BUS.SEAL-FAIL", "TIME.STEP", "LAN.ABORT",
  "JRN.HELD", "JRN.GAP", "JRN.FREEZE-SKIPPED", "JRN.LASTGASP-LOST"]

def severityName (name : String) : String :=
  if alarmNames.contains name then "ALARM" else if warnNames.contains name then "WARN" else "INFO"

def alarmLine (a : AlarmRec) : String :=
  joinStr " " ([a.name] ++ (match a.obj with | some o => ["OBJECT=" ++ objName o] | none => []) ++ (if a.args = "" then [] else [a.args]) ++ ["TICK=" ++ natStr a.tick, "UTC=" ++ utcStr a.utc])

/-- The lines of an aspect. -/
def bstAspect (s : State) (a : String) : List String :=
  let t := s.tst
  if a = "FAULTS" then
    (faultBits t.faults).map fun n =>
      let h := tget 0 t.holds n
      let outs := ((List.range 12).filter fun m => h.getLsbD m).map fun m => if m < 8 then "LF" ++ natStr m else "DP" ++ natStr (m - 8)
      joinStr " " ([bstNames.getD n "-"] ++ (if outs.isEmpty then [] else ["HELD=" ++ joinStr "," outs]))
  else if a = "LOG" then t.log.map alarmLine
  else if a = "REPAIRS" then
    t.soft.map (fun p => rowItem p ++ " BY=SOFT") ++ t.fuses.map (fun p => rowItem p ++ " BY=FUSE") ++ t.openRows.map (fun p => rowItem p ++ " BY=NONE")
  else if a = "COMBOS" then ["1 PATCH=NONE LINE=L1 JOURNAL=J1", "2 PATCH=P0006 LINE=L1 JOURNAL=J1", "3 PATCH=P0007 LINE=L1 JOURNAL=J1"]
  else ((noticeNames.drop 1) ++ ["VERSION.PATCH-HELD"]).dedup.map fun n => n ++ " SEVERITY=" ++ severityName n

/-- The read-only attributes of BST. -/
def bstAttr (s : State) (a : String) : String :=
  let t := s.tst
  if a = "RESULT" then resultName t.res
  else if a = "FLAGS" then natStr t.flags
  else if a = "LASTRUN" then (match t.lastRun with | some u => utcStr u | none => "-")
  else if a = "FAULTS" then (if t.faults = 0 then "NONE" else joinStr "," ((faultBits t.faults).map fun n => bstNames.getD n "-"))
  else if a = "SOFTREP" then natStr t.soft.length
  else if a = "FUSES" then natStr t.fuses.length
  else if a = "ARMED" then (if t.armed then "yes" else "no")
  else if a = "HELD" then (if (heldNames s).isEmpty then "NONE" else joinStr "," (heldNames s))
  else if t.row = 0 then "NONE" else natStr t.row

/-- A current in mA as A with two decimals; the last delivered module temperature decides. -/
def moduleAttr (s : State) (a : String) : String :=
  let t := ((xCurrent s 145).map (·.val)).getD 0
  if a = "GRADE" then (if Config.gradeX then "X" else "S")
  else if a = "SERIAL" then quoteStr Config.serial
  else if a = "PINT" then milliStr (moduleLoss s / 1000) 2 ++ "W"
  else if a = "IDER" then milliStr (derateTotal t) 2 ++ "A"
  else milliStr (derateFeed t) 2 ++ "A"

/-- TST (Table BST-14). -/
def tstReg (s : State) (off : Nat) : Option Word :=
  let t := s.tst
  let stage := match t.run with | some r => r.stage | none => 0
  if off = 0x00 then some (fieldWord [(0, 4, stage), bit 4 t.run.isSome, bit 5 t.armed, (6, 2, t.res), (8, 8, t.flags), bit 16 t.qfail])
  else if off = 0x04 then some (fieldWord [(0, 10, t.faults.toNat)])
  else if off = 0x08 then some (fieldWord [(0, 12, (bstHeld s).toNat)])
  else if off = 0x0C then some (fieldWord [(0, 8, t.soft.length), (8, 8, t.fuses.length), (16, 8, t.openRows.length), bit 24 (t.soft != t.softStored)])
  else if off = 0x10 then some (fieldWord [bit 0 t.heldPatch, bit 1 t.heldLine, bit 2 t.heldJournal, (8, 8, t.row), (16, 16, t.patch)])
  else if off = 0x14 then some (fieldWord [(0, 16, t.fullMs), (16, 16, t.quickT)])
  else if off = 0x18 then some (fieldWord [(0, 16, t.runs), (16, 16, t.aborts)])
  else if off = 0x1C then some 0
  else none

/-- TST_CLR. -/
def tstClr (s : State) : State := setTst s fun x => { x with runs := 0, aborts := 0 }

def execTstClr (v : Word) (s : State) : Host.Outcome State Fault Refusal := .next (if v.getLsbD 0 then tstClr s else s)

end Sys2Proof.Machine
end

