-- ==== Sys2Proof/Machine/Cancel.lean ====
section
/-!
DEFINITION. Cancellation (R178, R186, R225): what CANCEL, Ctrl-C and the close of a BUS session do to an outstanding
command; and the bytes of the UARTs, which a Ctrl-C may be among (R122, R133, R157).
-/
namespace Sys2Proof.Machine
open Sys2Proof

/-- CANCEL of a calibration until its leave is granted: other commands that wait on it, and the device's own need, keep it
queued. -/
def calCancel (s : State) (id : Nat) : Option State :=
  if s.cnv.cal != 1 || s.cnv.phases != 0 || holderGranted s .cal then none
  else
    let s := finish s id "FAIL CANCELLED"
    some (if s.cnv.calAuto || s.vil.outs.any fun o => o.work = .cal then s
      else leaveWithdraw { s with cnv := { s.cnv with cal := 0 } } .cal)

/-- CANCEL of a MACRO RUN: the run it started ends, or the run it asked for does not begin. -/
def macroCancel (s : State) (m id : Nat) : State :=
  let x := macroSt s m
  if x.cmd = some id then macroEnd s m "FAIL CANCELLED"
  else if x.cmdPend = some id then finish (setMacro s m { x with pend := false, cmdPend := none }) id "FAIL CANCELLED"
  else finish s id "FAIL CANCELLED"

/-- A command other than SEND is cancelled; none where it cannot be. -/
def cancelPlain (s : State) (o : Out) : Option State :=
  match o.work with
  | .wait _ => some (finish s o.id "FAIL CANCELLED")
  | .drives _ _ => if o.verb = "MOVE" then some (finish (driveCancel s o.id) o.id "FAIL CANCELLED") else none
  | .learn _ => some (finish (driveCancel s o.id) o.id "FAIL CANCELLED")
  | .export_ _ _ _ => some (finish s o.id "FAIL CANCELLED")
  | .replay => some (replayEnds s "FAIL CANCELLED" 0 0)
  | .macroRun m => some (macroCancel s m o.id)
  | .cal => calCancel s o.id
  | .bist => bistCancel s o.id
  | .draw _ => lanCancel s o.id
  | .blink _ => lanCancel s o.id
  | .freeze => frzCancel s o.id
  | _ => none

/-- The checks of the command below. -/
def cancelSpec (tag : Nat) : CmdSpec :=
  { verb := "CANCEL", body := "CANCEL " ++ natStr tag, need := verbNeed "CANCEL", changes := false }

/-- A WAIT whose boundary has come has ended (R159). -/
def waitOver (s : State) (o : Out) : Bool := match o.work with | .wait t => decide (t ≤ s.now) | _ => false

/-- CANCEL: an operation that completes in this epoch keeps its own final line (R159). -/
def execCancel (q : Hdr) (tag : Nat) (s : State) : Host.Outcome State Fault Refusal :=
  .next (lineIn (.cancel q tag) q s fun s => submit s q (cancelSpec tag)
    fun s id =>
      match (outsOf s q.ses).find? fun o => o.tag = some tag && o.id != id with
      | none => (s, doneNow "FAIL STATE" s)
      | some o =>
        if waitOver s o then (finish s o.id "DONE", doneNow "FAIL STATE" s)
        else if o.work = .send then sendCancel s o.id id
        else match cancelPlain s o with
          | some s' => (s', doneNow "DONE" s')
          | none => (s, doneNow "FAIL STATE NOCANCEL" s))

/-- A command cancelled by no command: it ends where it can be cancelled, and runs on where it cannot. -/
def cancelQuiet (s : State) (o : Out) : State :=
  if o.work = .send then
    (sendCancel { s with vil := { s.vil with nextId := s.vil.nextId + 1 } } o.id s.vil.nextId).1
  else (cancelPlain s o).getD s

/-! ### Ctrl-C (R133) -/

/-- The partial line is emptied: the codes after the last terminator, and the line being received where no terminator
waits.  A line that is being discarded goes on so. -/
def partialEmpty (s : State) (k : Sess) (pre post : List (BitVec 9 × Nat)) : State :=
  let s := modSes s k fun x => { x with waiting := keepLines pre ++ post }
  if pre.any fun c => isTerm c.1 then s
  else match (getSes s k).rxState with
    | .ok => emptyLine s k
    | .bad _ => emptyLine s k
    | _ => s

/-- The outstanding untagged command is cancelled. -/
def untaggedCancel (s : State) (k : Sess) : State :=
  match (outsOf s k).find? fun o => o.tag = none with
  | some o => cancelQuiet s o
  | none => s

/-- A Ctrl-C acts ahead of the codes that wait. -/
def ctrlCNow (s : State) (k : Sess) : State := untaggedCancel (partialEmpty s k (getSes s k).waiting []) k

/-- A Ctrl-C that lies among the waiting codes of a session whose untagged command is outstanding acts. -/
def ctrlCWaits (s : State) (k : Sess) : State :=
  let w := (getSes s k).waiting
  if untaggedOut s k && (getSes s k).mode = .typed && w.any fun c => c.1 = 3 then
    untaggedCancel (partialEmpty s k (w.takeWhile fun c => c.1 != 3) ((w.dropWhile fun c => c.1 != 3).drop 1)) k
  else s

/-- A code that has passed its crossing, or came by the tunnel, reaches its session: it joins the receive buffer, but a
Ctrl-C in typed mode acts at once while an untagged command is outstanding (R132). -/
def rxIn (s : State) (k : Sess) (code : BitVec 9) (t : Nat) : State :=
  if untaggedOut s k && (getSes s k).mode = .typed && code = 3 then ctrlCNow s k else rxAdd s k code t

/-! ### The UARTs (R119, R157, R158, R711) -/

/-- LINK1 hears nothing but a break while its rate is not known (R119, R120). -/
def unheard (s : State) (k : Sess) : Bool := k = .link1 && autoRate s && s.vil.rate1 = 0

/-- A byte, or the code of a framing error or a break, that a UART has received: it passes its crossing with the tick of
its stop bit; in QUIET it wakes the device and the LINK island holds it. -/
def uartIn (s : State) (p : Fin 2) (code : BitVec 9) : State :=
  let k := portOf p
  if !served s k then s
  else
    let s := wakeBy s k
    let seen := !unheard s k || code = 0x101
    let s := if seen && (code = 0x100 || code = 0x101) then countFerr s k else s
    if !seen then s
    else if s.ana.mode = .quiet then rtsFollows (holdByte s k code)
    else arrive s (194 + p.val) (code.setWidth 16) (some (mono s)) .none

/-- UART_BYTE. -/
def execUartByte (p : Fin 2) (code : BitVec 9) (s : State) : Host.Outcome State Fault Refusal := .next (uartIn s p code)

/-- A record of X194 or X195 reaches WORK0: a break under AUTO begins the detection of the rate again (R158). -/
def byteTake (s : State) (r : Rec) : State :=
  let k : Sess := if r.x = 194 then .link0 else .link1
  let code := BitVec.ofInt 9 r.val
  if r.x != 194 && r.x != 195 then s
  else
    let s := xSeen s r
    if r.x = 195 && code = 0x101 && autoRate s then rearm s else rxIn s k code (s.rel + r.stamp)

/-- What the LINK island holds passes its crossing after the return from QUIET, with the tick of the return (R157, R711);
the mark of lost bytes is LINK's own. -/
def holdPasses (s : State) (p : Fin 2) : State :=
  let k := portOf p
  let l := linkHold s k
  l.foldl (fun s c =>
    if c = lostCode then postRec s { x := 194 + p.val, stamp := mono s, val := lostCode.toNat, ptick := some (mono s) }
    else arrive s (194 + p.val) (c.setWidth 16) (some (mono s)) .none) (setHold s k [])

/-- CTRL_C: in QUIET it is held like any other byte. -/
def execCtrlC (k : Sess) (s : State) : Host.Outcome State Fault Refusal :=
  .next (if !(isLink k && served s k && (getSes s k).mode = .typed) then s
    else if s.ana.mode = .quiet then rtsFollows (holdByte (wakeBy s k) k 3)
    else rtsFollows (ctrlCNow s k))

end Sys2Proof.Machine
end

