-- ==== Sys2Proof/Machine/Bus.lean ====
section
/-!
DEFINITION. The Aravo profile (*The building bus*): heartbeats and node conflicts (R518, R519), points (R520, R521), the
command tunnel (R522 to R526), sealed orders (R527 to R529), what WORK0 does with delivered frames (R533), and the
effect of configuration changes and of a warm restart (R539, R541).
-/
namespace Sys2Proof.Machine
open Sys2Proof

/-- The latched faults of Table BST-10, each with its object; a trip that clears by itself is none (R376). -/
def latchedFaults (s : State) : List (Obj × String) :=
  (((List.range 32).filter fun d => (tripOuts s d).any fun o => trippedOut s o && (latchDue s o).isNone).map fun d => (drvObj d, "DRV.TRIPPED"))
    ++ (if s.thm.cdLatch then [(⟨.tmod, 0⟩, "THM.COOLDOWN")] else [])
    ++ (if s.bus.latch then [(busObj, "BUS.BUSOFF")] else []) ++ (if s.bus.conflict then [(busObj, "BUS.NODE-CONFLICT")] else [])
    ++ (if s.lan.fault then [(⟨.lan, 0⟩, "LAN.PUMP")] else [])
    ++ ((faultBits s.tst.faults).map fun n => (bstObj, bstNames.getD n "-"))
    ++ ((heldNames s).map fun n => (bstObj, "VERSION." ++ n))

/-! ### Identifiers and frames (R517) -/

/-- An Aravo identifier of this node. -/
def aravoIdent (s : State) (prio kind dest sub : Nat) : BitVec 29 :=
  BitVec.ofNat 29 (prio * 67108864 + kind * 1048576 + dest * 16384 + nodeAddr s * 256 + sub)

def byte (n : Nat) : Byte := BitVec.ofNat 8 n

/-- A classical profile frame. -/
def profFrame (s : State) (prio kind dest sub : Nat) (data : List Byte) : State :=
  profSend s { ident := aravoIdent s prio kind dest sub, data := data } .profile

/-- WORK0 takes frames of the profile. -/
def busTakes (s : State) : Bool :=
  coreRuns s && !s.pwr.committed && s.ana.workersReset.isNone && s.bus.joined && !s.bus.asleep && nodeAddr s != 0
    && !modeIs s [.off, .quiet, .replay]

/-! ### The tunnel (R522 to R526) -/

/-- The session of a code, and its number. -/
def tunSess (c : Nat) : Sess := sesOf (c + 2)

def tunOf (s : State) (c : Nat) : Option Tun := (s.bus.tuns.find? (·.1 = c)).map (·.2)
def setTun (s : State) (c : Nat) (t : Tun) : State := setBus s fun x => { x with tuns := tset x.tuns c t }

/-- A TUN-CTL frame to a node, with a session code. -/
def tunCtl (s : State) (node c : Nat) (data : List Nat) : State :=
  profFrame s 3 0x08 node (64 * c) ((data ++ List.replicate (4 - data.length) 0).map byte)

/-- The largest fragment payload. -/
def fragMax (s : State) : Nat := if cfgOn s busObj "FD" then 63 else 7

/-- Why a session closes goes into its notice. -/
def sesNotice (s : State) (c : Nat) (args : String) : State := notify s "BUS.SESSION" (some (sesObj (tunSess c))) args

/-- A BUS session without a past, but for its counts since reset (R168). -/
def sesEmpty (x : Session) : Session :=
  { mode := .framed, lostNotices := x.lostNotices, lostTyped := x.lostTyped, lostCrc := x.lostCrc, lostOverrun := x.lostOverrun }

/-- A session closes (R163, R247, R526): its commands are cancelled where they can be, the others run on unheard. -/
def tunShut (s : State) (c : Nat) (reason : String) (told : Bool) : State :=
  match tunOf s c with
  | none => s
  | some t =>
    let k := tunSess c
    let s := if told then tunCtl s t.node c [6] else s
    let s := (outsOf s k).foldl cancelQuiet s
    let s := { s with vil := { s.vil with outs := s.vil.outs.map fun o => if o.ses = k then { o with orphan := true } else o } }
    let s := roleEnd s k (if told then "CLOSED" else "RESTART")
    let s := modSes s k fun x => { sesEmpty x with isOpen := false }
    let s := setBus { s with sec := { s.sec with chal := tdel s.sec.chal (sesIdx k) } } fun x => { x with tuns := tdel x.tuns c }
    sesNotice s c ("STATE=CLOSED REASON=" ++ reason)

def tunClose (s : State) (c : Nat) (reason : String) : State := tunShut s c reason true

/-- Every open session closes. -/
def tunCloseAll (s : State) (reason : String) : State := (List.range 4).foldl (fun s c => tunClose s c reason) s

/-- TUNNEL_OPEN. -/
def execTunnelOpen (src : Fin 64) (s : State) : Host.Outcome State Fault Refusal :=
  .next (if !busTakes s then s
    else if cfgOn s busObj "LISTEN" then busUnused s
    else if !cfgOn s busObj "TUNNEL" then tunCtl s src 0 [3, 2]
    else if s.bus.conflict then s
    else
      let s := match s.bus.tuns.find? (·.2.node = src.val) with | some (c, _) => tunClose s c "REOPEN" | none => s
      match (List.range 4).find? fun c => (tunOf s c).isNone with
      | none => tunCtl s src 0 [3, 1]
      | some c =>
        let s := setTun s c { node := src, heardAt := s.now }
        let s := modSes s (tunSess c) fun x => { sesEmpty x with active := s.now }
        let s := sesNotice s c ("STATE=OPEN NODE=" ++ natStr src)
        tunCtl s src c [2, c + 1, 4, fragMax s])

/-- The session of a code, open to a sender. -/
def tunFor (s : State) (c src : Nat) : Option Tun :=
  match tunOf s c with | some t => if t.node = src then some t else none | none => none

/-- A fragment's frame (R523): the smallest length that holds it, filled with zeros. -/
def fragFrame (s : State) (c node : Nat) (f : Frag) : TxFrame :=
  let n := f.bytes.length + 1
  let fd := cfgOn s busObj "FD"
  let len := if !fd then 8 else ((List.range 9) ++ [12, 16, 20, 24, 32, 48, 64]).find? (n ≤ ·) |>.getD 64
  { ident := aravoIdent s 3 0x0A node (64 * c + f.sq), data := byte f.bytes.length :: f.bytes ++ List.replicate (len - n) 0#8, fdf := fd, brs := fd && cfgOn s busObj "BRS" }

/-- A fragment is handed to the transmitter. -/
def fragSend (s : State) (c : Nat) (t : Tun) (f : Frag) : State := profSend s (fragFrame s c t.node f) (.frag c f.sq)

/-- Bytes taken from the lines that wait: at most `n`, with the notices that end in them, and what is left. -/
def segTake : Nat → List TxSeg → List Byte × List Nat × List TxSeg
  | _, [] => ([], [], [])
  | n, g :: l =>
    if n = 0 then ([], [], g :: l)
    else if g.bytes.length ≤ n then
      let r := segTake (n - g.bytes.length) l
      (g.bytes ++ r.1, g.notice.toList ++ r.2.1, r.2.2)
    else (g.bytes.take n, [], { g with bytes := g.bytes.drop n, begun := true } :: l)

/-- Fragments leave while the window has room. -/
def fragPump : Nat → State → Nat → State
  | 0, s, _ => s
  | n + 1, s, c =>
    match tunOf s c with
    | none => s
    | some t =>
      if 4 ≤ t.unacked.length || t.tx.isEmpty || !busSends s then s
      else
        let b := segTake (fragMax s) t.tx
        let f : Frag := { sq := t.outSeq, bytes := b.1, ends := b.2.1 }
        let t := { t with unacked := t.unacked ++ [f], outSeq := (t.outSeq + 1) % 64, tx := b.2.2, sentAt := s.now, resends := if t.unacked.isEmpty then 0 else t.resends }
        fragPump n (fragSend (setTun s c t) c t f) c

/-- The lines of a session are handed to its tunnel in their order (R151). -/
def tunLines (s : State) (c : Nat) : State :=
  match tunOf s c with
  | none => s
  | some t =>
    let k := tunSess c
    modSes (setTun s c { t with tx := t.tx ++ wireLines s k }) k fun x =>
      { x with out := [], nq := x.nq.map fun n => { n with handed := true } }

/-- A fragment of a session's peer: the next one that fits is taken, its bytes as received at a tick; any other is
discarded (R524). -/
def fragTakes (s : State) (ses : Nat) (t : Tun) (sq : Nat) (bytes : List Byte) (at_ : Nat) : State :=
  let k := tunSess ses
  if sq = t.inSeq && bytes.length ≤ rxFree s k then
    let s := setTun s ses { t with inSeq := (t.inSeq + 1) % 64, ackDue := true, heardAt := s.now }
    bytes.foldl (fun s b => rxIn s k (b.setWidth 9) at_) s
  else setTun s ses { t with ackDue := true, heardAt := s.now }

/-- The fragments that an acknowledgement of `next` leaves; none where it lies outside the window. -/
def ackLeaves (next : Nat) : List Frag → Option (List Frag)
  | [] => none
  | f :: l => if (f.sq + 1) % 64 = next then some l else ackLeaves next l

/-- TUNNEL_ACK: the window moves, and further fragments leave. -/
def execTunnelAck (ses : Fin 4) (src : Fin 64) (next : Fin 64) (s : State) : Host.Outcome State Fault Refusal :=
  .next (if !busTakes s then s
    else match tunFor s ses src with
      | none => tunCtl s src ses [6]
      | some t =>
        match ackLeaves next t.unacked with
        | none => setTun s ses { t with heardAt := s.now }
        | some l => fragPump 4 (setTun s ses { t with heardAt := s.now, unacked := l, resends := 0, sentAt := s.now }) ses)

/-- TUNNEL_RESEND: no acknowledgement has moved the window for 100 ms; after the fifth resend the session closes
(R525, R540). -/
def execTunnelResend (ses : Fin 4) (s : State) : Host.Outcome State Fault Refusal :=
  .next (match tunOf s ses with
    | none => s
    | some t =>
      if t.unacked.isEmpty || !busTakes s || s.bus.busOff then s
      else atTick s (some (t.sentAt + 100 * tickMs)) fun s =>
        if 5 ≤ t.resends then tunClose s ses "NOACK"
        else
          let s := setTun s ses { t with resends := t.resends + 1, sentAt := s.now }
          t.unacked.foldl (fun s f => fragSend s ses t f) s)

/-- TUNNEL_CLOSE: CLOSE from a peer. -/
def execTunnelClose (ses : Fin 4) (src : Fin 64) (s : State) : Host.Outcome State Fault Refusal :=
  .next (if !busTakes s then s
    else match tunFor s ses src with
      | none => tunCtl s src ses [6]
      | some _ => tunClose s ses "PEER")

/-- TUNNEL_IDLE: nothing has come from the peer for TUNIDLE (R526, R540). -/
def execTunnelIdle (ses : Fin 4) (s : State) : Host.Outcome State Fault Refusal :=
  .next (match tunOf s ses with
    | none => s
    | some t =>
      if !busTakes s || s.bus.busOff then s
      else atTick s (some (t.heardAt + cfgTicks s busObj "TUNIDLE")) fun s => tunClose s ses "IDLE")

/-! ### Heartbeats (R518, R519) -/

/-- The data of a HEARTBEAT. -/
def heartbeatData (s : State) : List Byte :=
  [1, 3, modeCode s.ana.mode, s.tim.quality, 4 - s.bus.tuns.length, b2n (cfgOn s busObj "SEAL") + 2 * b2n (!(latchedFaults s).isEmpty), 0x02, 0x60].map byte

/-- BUS_HEARTBEAT_SEND. -/
def execBusHeartbeatSend (s : State) : Host.Outcome State Fault Refusal :=
  .next (match cfgNano s busObj "HBINT" with
    | none => s
    | some v =>
      if nodeAddr s = 0 || !busSends s || s.bus.conflict || !coreRuns s || s.ana.workersReset.isSome then s
      else atTick s s.bus.hbDue fun s =>
        let due := s.bus.hbDue.getD s.now + (v / 125).toNat
        profFrame (setBus s fun x => { x with hbDue := some (if due ≤ s.now then s.now + (v / 125).toNat else due) }) 6 0x04 0 0 (heartbeatData s))

/-- The profile's frames that wait or have not begun are dropped, but for TB0 (R519). -/
def profStops (s : State) : State :=
  drawn (setBus s fun x => { x with waits := [], tbs := x.tbs.filter fun p => p.1 = 0 || 6 ≤ p.1 || txBegun s p })

/-- HEARTBEAT_RECEIVED: one with the device's own address is a conflict. -/
def execHeartbeatReceived (src : Fin 64) (s : State) : Host.Outcome State Fault Refusal :=
  .next (if !busTakes s || src.val != nodeAddr s then s
    else
      let s := notify s "BUS.NODE-CONFLICT" none ("NODE=" ++ natStr src)
      let s := tunCloseAll (profStops s) "CONFLICT"
      setBus s fun x => { x with conflict := true, conflictAt := s.now, conflictNode := nodeAddr s })

/-! ### Points (R520, R521) -/

def pointSt (s : State) (p : Nat) : PointSt := tget {} s.bus.points p

/-- A point's value and flags; none without a source, or while its source has no value yet. -/
def pointValue (s : State) (p : Nat) : Option (Int × Nat) :=
  match cfgObj s (pointObj p) "SOURCE" with
  | some ⟨.xing, x⟩ =>
    (xCurrent s x).map fun r => (r.val, b2n (recFails r) + 2 * b2n (match r.pay with | .churn _ f _ _ => f &&& flEmpty != 0 | _ => false))
  | some ⟨.drive, d⟩ => some ((posNow s d).1, 4 * b2n ((drOf s d).q = 1) + 8 * b2n ((drOf s d).q = 2))
  | some ⟨.zone, z⟩ => (zoneTemp s z).map fun t => (centF t, 16 * ((zoneSt s z).eff.getD 0))
  | _ => none

/-- A POINT frame. -/
def pointFrame (s : State) (p dest : Nat) (v : Int × Nat) (sq : Nat) : State :=
  let o := pointObj p
  let w := (v.1 % 65536).toNat
  profSend s { ident := aravoIdent s (cfgNat s o "PRIO") 0x01 dest (cfgNat s o "INDEX"), data := [w / 256, w % 256, v.2, sq].map byte } (if dest = 0 then .point p else .profile)

/-- A point is due: by its value or its flags after MININT, or at MAXINT. -/
def pointDue (s : State) (p : Nat) (v : Int × Nat) : Bool :=
  let o := pointObj p
  let x := pointSt s p
  match x.val with
  | none => true
  | some u =>
    (x.at_ + cfgTicks s o "MININT" ≤ s.now && (cfgNat s o "DELTA" ≤ (v.1 - u.1).natAbs || v.2 != u.2))
      || (match cfgNano s o "MAXINT" with | some t => decide (x.at_ + (t / 125).toNat ≤ s.now) | none => false)

/-- POINT_PUBLISH: at a boundary. -/
def execPointPublish (p : Fin 32) (s : State) : Host.Outcome State Fault Refusal :=
  .next (match pointValue s p with
    | none => s
    | some v =>
      if !busTakes s || !busSends s || s.bus.conflict || s.now != epochTick s s.epoch || !pointDue s p v then s
      else
        let x := pointSt s p
        pointFrame (setBus s fun b => { b with points := tset b.points p { val := some v, at_ := s.now, sq := (x.sq + 1) % 256 } }) p 0 v x.sq)

/-- POINTREQ: a known index is answered at the next boundary. -/
def execPointreq (src : Fin 64) (index : Byte) (s : State) : Host.Outcome State Fault Refusal :=
  .next (if !busTakes s then s
    else match (List.range 32).find? fun p => cfgNat s (pointObj p) "INDEX" = index.toNat && (cfgObj s (pointObj p) "SOURCE").isSome with
      | some p => setBus s fun x => { x with answers := x.answers ++ [(s.epoch + 1, p, src.val)] }
      | none => busUnused s)

/-- The read-only state of a point has no attributes: a change of INDEX that another point has is refused (R521). -/
def indexInUse (s : State) (p v : Nat) : Bool := (List.range 32).any fun n => n != p && cfgNat s (pointObj n) "INDEX" = v

/-! ### Sealed orders (R527 to R529) -/

/-- The key, where it is set. -/
def sealKey (s : State) : Option (List Byte) :=
  match cfgVal s busObj "SEALKEY" with
  | [.code a, .code b, .code c, .code d] => some ([a, b, c, d].flatMap (bytesBE 4))
  | _ => none

/-- The message code of a frame is right (R527). -/
def sealMacOk (s : State) (ident : BitVec 29) (data : List Byte) : Bool :=
  match sealKey s with
  | some k => ((aesCmac k (bytesBE 4 ident.toNat ++ data.take 8)).take 8) = (data.drop 8).take 8
  | none => false

/-- A wrong message code: counted, and noticed at most once per node in 60 s. -/
def sealFails (s : State) (src : Nat) : State :=
  let s := setBus s fun x => { x with macFails := satInc 0xFFFF x.macFails }
  let again := match s.bus.sealFail.find? (·.1 = src) with | some (_, t) => decide (t + 60000 * tickMs ≤ s.now) | none => true
  if again then notify (setBus s fun x => { x with sealFail := tset x.sealFail src s.now }) "BUS.SEAL-FAIL" none ("NODE=" ++ natStr src) else s

/-- Where a sealed order leads; none where a field has no such value. -/
def sealDest (code pos : Nat) : Option MoveTo :=
  if code = 4 then (if pos ≤ 100 then some (.to pos) else none)
  else if pos != 0 then none
  else if code = 1 then some .up else if code = 2 then some .down else if code = 3 then some .safe else none

/-- The values of a sealed order are those of an order that MOVE, or STOP, may give. -/
def sealValues (s : State) (d code pos tilt : Nat) : Bool :=
  if code = 0 then pos = 0 && tilt = 0xFF
  else match sealDest code pos with
    | some m => (moveRange s m (if tilt = 0xFF then none else some tilt) d).isNone
    | none => false

def sealAck (s : State) (src drive result counter : Nat) : State :=
  profFrame s 1 0x11 src 0 ([byte drive, byte result] ++ bytesBE 4 counter ++ [0, 0])

/-- A sealed order is placed. -/
def sealPlace (s : State) (src d code pos tilt counter : Nat) : State :=
  let s := setBus s fun x => { x with seals := tset x.seals src counter, sealNo := x.sealNo + 1, orders := x.orders ++ [⟨x.sealNo, src, d, counter⟩] }
  let s := storeInternal s (.sealCount src counter)
  let o : Order := { src := 9, rank := 1, epoch := s.epoch + 1, sealed_ := some (s.bus.sealNo - 1) }
  let o := match sealDest code pos with
    | some m => { o with target := moveTarget s d m, tilt := if tilt = 0xFF then none else some tilt }
    | none => { o with stop := true }
  sealAck (placeOrder s d o) src d 0 counter

/-- SEALED_ORDER. -/
def execSealedOrder (ident : BitVec 29) (fdf : Bool) (data : List Byte) (s : State) : Host.Outcome State Fault Refusal :=
  .next (
    let src := ident.toNat / 256 % 64
    let n (k : Nat) : Nat := (data.getD k 0).toNat
    let counter := natBE ((data.drop 4).take 4)
    if !busTakes s then s
    else if !cfgOn s busObj "SEAL" || cfgOn s busObj "LISTEN" || ident.toNat / 1048576 % 64 != 0x10 || ident.toNat / 16384 % 64 != nodeAddr s then busUnused s
    else if data.length != 16 || !fdf then busUnused s
    else
      let ok := sealMacOk s ident data
      let s := jrnPut s 7 (2 + 256 * src + 65536 * b2n ok)
      if !ok then sealFails s src
      else if counter ≤ tget 0 s.bus.seals src then sealAck s src (n 0) 1 counter
      else if !((cfgObjs s busObj "SEALDRIVES").contains (drvObj (n 0))) then sealAck s src (n 0) 2 counter
      else if !sealValues s (n 0) (n 1) (n 2) (n 3) then sealAck s src (n 0) 3 counter
      else sealPlace s src (n 0) (n 1) (n 2) (n 3) counter)

/-- The write of a counter completes. -/
def sealStoredAt (s : State) (src n : Nat) : State := setBus s fun x => { x with sealStored := tset x.sealStored src n }

/-- A sealed order leaves force: SEAL-END (R529). -/
def sealEnd (s : State) (e : Nat × String) : State :=
  match s.bus.orders.find? (·.n = e.1) with
  | none => s
  | some o =>
    let code := failNum e.2
    let s := setBus s fun x => { x with orders := x.orders.filter (·.n != e.1) }
    profFrame s 1 0x12 o.src 0 ([byte o.drive, byte code] ++ bytesBE 2 (posNow s o.drive).1 ++ bytesBE 4 o.counter)

/-! ### Deliveries and the boundary (R524, R529, R533) -/

/-- A frame that an owned filter passed has the layout of a kind that its filter serves (Table BUS-6). -/
def profLayout (s : State) (bf : Nat) (f : CanFrame) : Bool :=
  let kind := f.ident.toNat / 1048576 % 64
  let b0 := (f.data.headD 0).toNat
  if bf = 0 then
    if kind = 0x08 then f.data.length = 4 && !f.fdf && (b0 = 1 || b0 = 4 || b0 = 5)
    else kind = 0x09 && b0 != 0 && b0 ≤ 63 && b0 < f.data.length && (f.data.drop (b0 + 1)).all (· = 0)
  else if bf = 1 then kind = 0x10
  else if bf = 2 then true
  else if bf = 3 then kind = 0x02 && f.data.length = 1 && !f.fdf
  else kind = 0x04 && f.data.length = 8 && !f.fdf && nodeAddr s != 0

/-- A delivered record of X191 or X192: the frame's treatment has a row of its own; a stale one is discarded, and one that
no kind of the profile describes is unused. -/
def busDeliver (s : State) (r : Rec) : State :=
  if r.x = 193 then txDeliver s r
  else if r.x != 191 && r.x != 192 then s
  else if r.val = 0xFFFF then setBus s fun x => { x with stale := satInc 0xFFFFFFFF x.stale }
  else match r.pay with
    | .can f bf _ => if filterOwned s bf && !profLayout s bf f then busUnused s else s
    | _ => s

/-- The acknowledgements that are due. -/
def tunAcks (s : State) (c : Nat) : State :=
  match tunOf s c with
  | some t => if t.ackDue then tunCtl (setTun s c { t with ackDue := false }) t.node c [4, t.inSeq] else s
  | none => s

/-- The bus at an epoch boundary, after the deliveries. -/
def busBoundary (s : State) : State :=
  let s := setBus s fun x => { x with passA := 0, passB := 0 }
  let s := match s.bus.emptyAt with
    | some e => if e ≤ s.epoch then setBus s fun x => { x with emptyAt := none, tbs := x.tbs.filter fun p => p.1 < 6 || x.owners.any (·.1 = p.1) } else s
    | none => s
  if s.ana.workersReset.isSome then s
  else
    let ends := s.drv.sealEnds
    let s := ends.foldl sealEnd { s with drv := { s.drv with sealEnds := [] } }
    let due := s.bus.answers.filter fun a => a.1 ≤ s.epoch
    let s := due.foldl (fun s a => match pointValue s a.2.1 with
      | some v => pointFrame s a.2.1 a.2.2 v (((pointSt s a.2.1).sq + 255) % 256)
      | none => s) (setBus s fun x => { x with answers := x.answers.filter fun a => s.epoch < a.1 })
    let s := (List.range 4).foldl tunAcks s
    waitLoad 5 (sendLoad 2 s)

/-- The lines of this boundary go to the tunnels (R140, R525). -/
def tunBoundary (s : State) : State :=
  if s.ana.workersReset.isSome || !coreRuns s then s
  else (List.range 4).foldl (fun s c => fragPump 4 (tunLines s c) c) s

/-! ### Changes, warm restart and reset (R526, R539, R541) -/

/-- The settings whose change makes the controller leave and rejoin. -/
def busRejoin : List String := ["NBR", "NSP", "NSJW", "FD", "BRS", "DBR", "DSP", "DSJW", "LISTEN", "ENABLE"]

/-- A configuration in place of `old`. -/
def busAfter (old : State) (s : State) : State :=
  let changed (a : String) : Bool := cfgVal old busObj a != cfgVal s busObj a
  let s := if changed "NODE" || changed "TUNNEL" then { tunCloseAll { s with cfg := old.cfg } "CONFIG" with cfg := s.cfg } else s
  let s := if busRejoin.any changed then busLeaves s else s
  if (changed "NODE" || changed "HBINT") && s.bus.joined then setBus s fun x => { x with hbDue := some (epochTick s (s.epoch + 1)) } else s

/-- A warm restart of the workers. -/
def busWarm (s : State) : State :=
  let s := (List.range 4).foldl (fun s c => tunShut s c "RESTART" false) s
  drawn <| setBus s fun x => { x with tbs := x.tbs.filter fun p => p.1 < 6 || txBegun s p, owners := [], sends := [], waits := [], cancels := [], points := [], answers := [], orders := [], emptyAt := none }

/-- A reset of the core die: the counters of sealed orders as stored. -/
def busReset (b : Bus) : Bus := { seals := b.sealStored, sealStored := b.sealStored }

end Sys2Proof.Machine
end

