-- ==== Sys2Proof/Machine/Regs.lean ====
section
/-!
DEFINITION. REG space (Table ANA-12): the SYS, XING, PILOT, PWR, LINK and SEC blocks, the registers that read and that
can be written, and the verbs REG READ and REG WRITE (R42 to R44, R86, R169, R194, R195, R269).
-/
namespace Sys2Proof.Machine
open Sys2Proof

/-! ### SYS and XING (R43, R44) -/

/-- SYS (Tables ANA-13 to ANA-16). -/
def sysReg (s : State) (off : Nat) : Option Word :=
  let a := s.ana
  if off = 0 then some (fieldWord [(0, 8, a.crev.toNat), (8, 8, (lrevNow s).toNat), (16, 8, a.jrev.toNat)])
  else if off = 4 then some (fieldWord [(0, 4, modeCode a.mode), (4, 4, (a.prev.map modeCode).getD 0), (8, 8, a.cause)])
  else if off = 8 then some (BitVec.ofNat 32 (mono s))
  else if off = 0xC then some a.monoH
  else if off = 0x10 then some (BitVec.ofNat 32 s.epoch)
  else if off = 0x14 then some (fieldWord [(0, 2, a.miss0), (2, 2, a.miss1), (8, 4, (lastDay s a.takeovers).length), (16, 16, a.tkTotal)])
  else none

/-- MONO_LATCH: a read of SYS_MONOL latches bits 63:32. -/
def monoLatch (s : State) : State := { s with ana := { s.ana with monoH := BitVec.ofNat 32 (mono s / 4294967296) } }

def execMonoLatch (s : State) : Host.Outcome State Fault Refusal := .next (monoLatch s)

/-- One word of XING_SUBST. -/
def substWord (s : State) (w : Nat) : Word :=
  fieldWord ((List.range 32).map fun n => bit n (32 * w + n < 240 && xFailing s (32 * w + n)))

/-- XING (Tables ANA-17 to ANA-19). -/
def xingReg (s : State) (off : Nat) : Option Word :=
  if off = 0 then some (fieldWord [bit 0 s.ana.notesOn])
  else if off = 4 then some (fieldWord [(0, 16, s.ana.stalls), (16, 12, s.ana.peak)])
  else if 0x10 ≤ off && off ≤ 0x2C then some (substWord s ((off - 0x10) / 4))
  else if 0x100 ≤ off && off < 0x1000 then
    let x := (off - 0x100) / 16
    let r := (off - 0x100) % 16 / 4
    if !xUsed x then some 0
    else
      let c := xcell s x
      let w := descWord (xWritten s x) r
      some (if r = 0 then w ||| fieldWord [(0, 3, xDest x), bit 20 (xSigned s x), bit 21 (xHasTick x), bit 31 true]
        else if r = 3 then w ||| fieldWord [bit 16 c.range, bit 17 c.stale, bit 18 c.silent, bit 19 (c.range || c.stale || c.silent), (24, 8, c.fails)]
        else w)
  else none

/-! ### PILOT and PWR (R86) -/

/-- PILOT (Tables PWR-11 and PWR-12). -/
def pilotReg (s : State) (off : Nat) : Option Word :=
  let p := s.pwr
  if off = 0 then some (fieldWord [(0, 2, if p.bkCount = 0 then 0 else pilotCode p.pilotLast), bit 4 p.timeLost, bit 5 p.rtcValid, (8, 8, p.exh), (16, 16, p.bkCount)])
  else if off = 4 then some (BitVec.ofNat 32 (if p.pilotLast = .dead then 0 else p.bkDur))
  else if off = 8 then some (fieldWord [(0, 16, p.vbat), bit 16 p.trickle, bit 17 p.fast, bit 18 p.absent, bit 19 p.low, bit 20 p.tempBlk])
  else if off = 0xC then
    if hasBackup s then some (fieldWord [(0, 2, if cfgIs s pwrObj "BACKUP" "CELL" then 1 else 2), (4, 8, (chgMv s - 2000) / 10), (12, 8, fastTenth s)])
    else some 0
  else none

/-- PWR (Tables PWR-13 to PWR-15). -/
def pwrReg (s : State) (off : Nat) : Option Word :=
  let p := s.pwr
  if off = 0 then some (p.rstcause.zeroExtend 32)
  else if off = 4 then some (fieldWord [bit 0 p.mains, bit 1 p.mainGood, bit 2 p.hold, bit 3 p.committed, bit 4 p.auxOn, bit 5 p.auxTrip, bit 6 (p.nomKind = .provisional || p.nomKind = .learned), bit 7 (p.nomKind = .learned), bit 8 p.sag.isSome, bit 9 p.swell.isSome, bit 10 p.trans.isSome, bit 11 p.freqM.isSome])
  else if off = 8 then some (fieldWord [(0, 16, p.rms), (16, 16, p.freq)])
  else if off = 0xC then some (fieldWord [(0, 16, nomTenth s), bit 16 (p.nomKind = .learned), bit 17 (p.nomKind = .fixed)])
  else if off = 0x10 then some (fieldWord ((List.range 4).map fun k => (8 * k, 8, tget 0 p.marks k)))
  else if off = 0x14 then some (fieldWord [(0, 16, p.auxMa), bit 16 p.auxOn, bit 17 (auxGrant s)])
  else if off = 0x18 then some (fieldWord [(0, 16, (cfgInt s pwrObj "QUIETIDLE" 60000000000).toNat), bit 16 (cfgOn s pwrObj "AUXQUIET"), (17, 3, p.quietSrc), (20, 12, p.wakes)])
  else none

/-! ### LINK and SEC (R169, R269) -/

/-- LINK (Tables VIL-10 to VIL-12). -/
def linkReg (s : State) (off : Nat) : Option Word :=
  let v := s.vil
  if off = 0 then some (fieldWord [(0, 16, v.rate0 / 100), bit 16 (cfgIs s (sesObj .link0) "FLOW" "RTSCTS"), bit 17 (cfgIs s (sesObj .link0) "ATTNPOL" "LOW")])
  else if off = 4 then some (fieldWord [(0, 11, rxFree s .link0), bit 16 v.cts, bit 17 v.rts, (24, 8, v.ferr0)])
  else if off = 8 then some (fieldWord [(0, 16, v.rate1 / 100), bit 16 (autoRate s)])
  else if off = 0xC then some (fieldWord [(0, 11, rxFree s .link1), bit 16 (autoRate s && v.armed), (24, 8, v.ferr1)])
  else if off = 0x10 then some (fieldWord (bit 0 (attn s) :: portSess.map fun k => bit (1 + sesIdx k) (!(getSes s k).nq.isEmpty)))
  else if off = 0x14 then some (fieldWord [(0, 10, v.outs.length), (16, 10, v.peakSlots)])
  else if off = 0x18 then some (fieldWord [(0, 8, v.errCrc), (8, 8, v.errOverrun), (16, 8, v.errLong), (24, 8, v.errPartial)])
  else if off = 0x1C then some 0
  else none

/-- The verbs of a deny list, by row of Table VRB-1: 32 rows from `from_`. -/
def denyWord (s : State) (a : String) (from_ : Nat) : Word :=
  let l := cfgWords s secObj a
  fieldWord ((List.range (min 32 (34 - from_))).map fun n => bit n (l.contains ((verbTable.getD (from_ + n) ("", 0, 0)).1)))

/-- Consecutive failures of a role in a group, in three bits. -/
def failCount (s : State) (bus : Bool) (r : Nat) : Nat := min 7 (tget {} s.sec.fails ((if bus then 4 else 0) + r)).count

def failBlocked (s : State) (bus : Bool) (r : Nat) : Bool :=
  match (tget {} s.sec.fails ((if bus then 4 else 0) + r)).until_ with | some t => s.now < t | none => false

/-- SEC (Tables SEC-8 to SEC-11). -/
def secReg (s : State) (off : Nat) : Option Word :=
  let c := s.sec
  if off = 0 then some (fieldWord [bit 0 c.locked, bit 1 (keyStoredFor s .operator), bit 2 (keyStoredFor s .installer), bit 3 (keyStoredFor s .maker), bit 4 (worldPending s), bit 5 (auditStop s), bit 6 (auditStop s && 8175 ≤ c.audit.length), bit 7 (!c.held.isEmpty), bit 8 s.tst.heldJournal])
  else if off = 4 then some (c.worlds.zeroExtend 32)
  else if off = 8 then some (BitVec.ofNat 32 (2 ^ c.regions - 1))
  else if off = 0xC then some (fieldWord [bit 0 (cfgIs s secObj "BUSWORLD" "BOTH"), (1, 2, busCeil s)])
  else if off = 0x10 then some (denyWord s "DENYINST" 0)
  else if off = 0x14 then some (denyWord s "DENYINST" 32)
  else if off = 0x18 then some (denyWord s "DENYOP" 0)
  else if off = 0x1C then some (denyWord s "DENYOP" 32)
  else if 0x40 ≤ off && off ≤ 0x5C then some (BitVec.ofNat 32 (c.head.toNat / 2 ^ (32 * (7 - (off - 0x40) / 4))))
  else if off = 0x60 then some (BitVec.ofNat 32 (c.auditSeq - 1))
  else if off = 0x64 then some (fieldWord [(0, 13, c.audit.length)])
  else if off = 0x68 then some (BitVec.ofNat 32 c.overwritten)
  else if off = 0x6C then some (fieldWord [(0, 24, c.missed), (24, 7, c.held.length)])
  else if off = 0x70 then some (fieldWord [(0, 3, failCount s false c.lastFail), (3, 3, failCount s true c.lastFail), (6, 2, c.lastFail), bit 8 (failBlocked s false c.lastFail), bit 9 (failBlocked s true c.lastFail)])
  else if off = 0x74 then some (fieldWord [(0, 16, c.viol), (16, 2, c.violBy)])
  else none

/-! ### REG space -/

/-- The blocks of Table ANA-12 in its order: base, size, and the place in the list of R229 of an assignable block; none
for a fixed secure block. -/
def regBlocks : List (Nat × Nat × Option Nat) := [
  (0x40000000, 0x1000, some 0), (0x40001000, 0x1000, some 1), (0x40002000, 0x1000, some 2), (0x40003000, 0x1000, some 3),
  (0x40004000, 0x1000, some 4), (0x40005000, 0x1000, none), (0x40006000, 0x1000, some 5), (0x40007000, 0x1000, some 6),
  (0x40008000, 0x1000, some 7), (0x40009000, 0x1000, some 8), (0x4000A000, 0x1000, some 9), (0x4000B000, 0x1000, some 10),
  (0x4000C000, 0x4000, some 11), (0x40010000, 0x1000, some 12), (0x40011000, 0x1000, some 13), (0x40012000, 0x1000, none),
  (0x40013000, 0x1000, some 14), (0x40014000, 0x1000, some 15), (0x40015000, 0x1000, some 16), (0x40016000, 0x1000, some 17),
  (0x40017000, 0x1000, some 18)]

/-- The block of an address: its row of Table ANA-12 from 0, the offset in it, and its assignment. -/
def regBlock (addr : Nat) : Option (Nat × Nat × Option Nat) :=
  match regBlocks.findIdx? fun b => b.1 ≤ addr && addr < b.1 + b.2.1 with
  | some n => let b := regBlocks.getD n (0, 0, none); some (n, addr - b.1, b.2.2)
  | none => none

/-- The value of a register; none where no register is defined. -/
def regValue (s : State) (n off : Nat) : Option Word :=
  match n with
  | 0 => sysReg s off | 1 => pilotReg s off | 2 => pwrReg s off | 3 => leaveReg s off | 4 => xingReg s off
  | 5 => secReg s off | 6 => linkReg s off | 7 => busReg s off | 8 => cntReg s off | 9 => fcReg s off
  | 10 => icReg s off | 11 => chanReg s off | 12 => churnReg s off | 13 => motReg s off | 14 => lineReg s off
  | 15 => thmReg s off | 16 => lanReg s off | 17 => jrnReg s off | 18 => tstReg s off | 19 => timeReg s off
  | 20 => probeReg s off | _ => none

def regAt (s : State) (addr : Nat) : Option Word :=
  match regBlock addr with
  | some (n, off, _) => if addr % 4 = 0 then regValue s n off else none
  | none => none

/-- The register lies in the secure world: its block is fixed S or assigned S, or it is a Snuffer part (R42, R415). -/
def regS (s : State) (addr : Nat) : Bool :=
  match regBlock addr with
  | some (n, off, a) => (match a with | some k => blockS s k | none => true) || ((n = 13 || n = 14) && 0x800 ≤ off && off ≤ 0x840)
  | none => false

/-- What a write can do to a register that the firmware does not own: the writable bits and the read-only bits; none
for a register that it owns. -/
def regWritable (s : State) (addr : Nat) : Option (Word × Word) :=
  match regBlock addr with
  | none => none
  | some (n, off, _) =>
    if n = 2 && off = 0 then some (0x7F, 0)
    else if n = 4 && off = 0 then some (3, 0)
    else if n = 4 && 0x100 ≤ off then
      let r := (off - 0x100) % 16 / 4
      if xConfigurable ((off - 0x100) / 16) then some (descMask r, if r = 0 then 0x80300007 else if r = 3 then 0xFF0F0000 else 0)
      else none
    else if n = 8 && off < 0x400 && off % 64 = 0x18 then (if (ctOwner s (off / 64)).isSome then none else some (0xFFFF, 0))
    else if n = 13 && 0x800 ≤ off && off < 0x840 then some (0xFF, 0x80FF0000)
    else if n = 14 && 0x800 ≤ off && off < 0x820 then some (0x7F, 0x80FF0000)
    else if n = 15 && off < 0x180 && off % 32 = 0 then some (0xFFFFFF, 0x7F000000)
    else if n = 15 && off = 0x200 then some (0xFFFFFF, 0)
    else if [(3, 0x2C), (6, 0x1C), (7, 0x5C), (8, 0x404), (9, 0x3C), (10, 0x18), (11, 0x460), (12, 0x300C), (13, 0x400), (14, 0x400), (15, 0x244), (16, 0x20), (17, 0x7C), (18, 0x1C), (19, 0x3C), (20, 8)].contains (n, off) then some (1, 0)
    else none

/-- The field is fixed by the configuration lock: TRIPA, TRIPMV and the thresholds (R249, R415, R451). -/
def regLocked (addr : Nat) : Bool :=
  match regBlock addr with
  | some (n, off, _) => ((n = 13 || n = 14) && 0x800 ≤ off) || (n = 15 && off ≤ 0x200)
  | none => false

/-- The model of a threshold register. -/
def thrModel (off : Nat) : Nat := if off = 0x200 then 12 else off / 32

/-- The values that a write would give lie in their ranges (R3). -/
def regInRange (s : State) (addr : Nat) (v mask : Word) : Bool :=
  match regBlock addr with
  | none => false
  | some (n, off, _) =>
    if n = 4 && 0x100 ≤ off then
      let x := (off - 0x100) / 16
      descOk (xSigned s x) x (descWrite s x ((off - 0x100) % 16 / 4) v mask)
    else if n = 13 && 0x800 ≤ off && mask &&& 0xFF != 0 then
      let w := ((regAt s addr).getD 0 &&& ~~~mask ||| v &&& mask).toNat % 256
      20 ≤ w && w ≤ 250
    else if n = 14 && 0x800 ≤ off && mask &&& 0x7F != 0 then
      let w := ((regAt s addr).getD 0 &&& ~~~mask ||| v &&& mask).toNat % 128
      10 ≤ w && w ≤ 80
    else if n = 15 && off ≤ 0x200 then thrOk (thrModel off) (thrWritten s (thrModel off) v mask)
    else true

/-- The state after an outcome that is a next state. -/
def nextState (o : Host.Outcome State Fault Refusal) (s : State) : State :=
  match o with | .next t => t | _ => s

/-- A register write takes effect (R195): the row of the register that is written. -/
def regApply (s : State) (addr : Nat) (v mask : Word) : State :=
  match regBlock addr with
  | none => s
  | some (n, off, _) =>
    let w := v &&& mask
    if n = 2 then nextState (execRstcauseClear w s) s
    else if n = 4 then
      if off = 0 then writeXingCtrl s v mask
      else writeDesc s ((off - 0x100) / 16) (descWrite s ((off - 0x100) / 16) ((off - 0x100) % 16 / 4) v mask)
    else if n = 8 && off < 0x400 then
      ctWrite (ctLine s) (off / 64) (.cmp (((regAt s addr).getD 0 &&& ~~~mask ||| w).truncate 16))
    else if n = 13 && 0x800 ≤ off then
      if mask &&& 0xFF = 0 then s else limitWrite s (.port (Fin.ofNat 4 ((off - 0x800) / 16))) (((regAt s addr).getD 0 &&& ~~~mask ||| w).toNat % 256)
    else if n = 14 && 0x800 ≤ off then
      if mask &&& 0x7F = 0 then s else limitWrite s (.feed (Fin.ofNat 8 ((off - 0x800) / 4))) (((regAt s addr).getD 0 &&& ~~~mask ||| w).toNat % 128)
    else if n = 15 && off ≤ 0x200 then
      nextState (execThmThresholdWrite (Fin.ofNat 13 (thrModel off)) v mask s) s
    else
      nextState (match n with
        | 3 => execLeaveClr w s | 6 => execLinkClr w s | 7 => execBusClr w s | 8 => execCntClr w s | 9 => execFcClr w s
        | 10 => execIcClr w s | 11 => execChanClr w s | 12 => execChurnClr w s | 13 => execMotClr w s
        | 14 => execLineClr w s | 15 => execThmClr w s | 16 => execLanClr w s | 17 => execJrnClr w s
        | 18 => execTstClr w s | 19 => execTimeClr w s | 20 => execProbeClr w s | _ => .next s) s

/-- What a read of a register latches (R43, R338, R366, R583). -/
def regLatch (s : State) (addr : Nat) : State :=
  match regBlock addr with
  | some (0, 8, _) => monoLatch s
  | some (8, off, _) => if off < 0x400 && off % 64 = 0x20 then capLatch s (off / 64) else s
  | some (12, off, _) => if off < 0x2800 && off % 64 = 4 then nextState (execPeekLatch (Fin.ofNat 160 (off / 64)) s) s else s
  | some (19, off, _) => if off = 4 then timeLatch s else s
  | _ => s

/-- CHAN_GRPg.ODMA is what the group's outputs draw: a measurement that no command brings, so a free value while one of them
is on, and 0 while none is. -/
def odRead (s : State) (off v : Nat) : State × Nat :=
  let g := (off - 0x400) / 4
  if off < 0x400 || 0x430 ≤ off then (s, v)
  else if (List.range 8).any fun i => chanMode s (8 * g + i) = "ODOUT" && (chanSt s (8 * g + i)).out = 1 then
    (drawn s, v / 0x10000 * 0x10000 + v % 16 + 16 * (freeBits 12 s).toNat)
  else (s, v / 0x10000 * 0x10000 + v % 16)

/-- One register read: its latch, its value, and the record of R619. -/
def regRead (s : State) (addr : Nat) : State × Nat :=
  let s := regLatch s addr
  let v := ((regAt s addr).getD 0).toNat
  let (s, v) := match regBlock addr with
    | some (11, off, _) => odRead s off v
    | _ => (s, v)
  match regBlock addr with
  | some (n, off, _) => (jrnPut s 6 (n + 1 + 256 * (off / 4)) [v], v)
  | none => (s, v)

def regReads : List Nat → State → List Nat → State × List Nat
  | [], s, acc => (s, acc.reverse)
  | a :: l, s, acc => let p := regRead s a; regReads l p.1 (p.2 :: acc)

/-- The addresses of `count` registers. -/
def regAddrs (addr count : Nat) : List Nat := (List.range count).map fun k => addr + 4 * k

/-- A register of a block or part that is fixed S: no role but MAKER with S reach comes to it, and every other session is told
WORLD, not ROLE (R194, R269, R451). -/
def fixedS (addr : Nat) : Bool :=
  match regBlock addr with
  | some (n, off, a) => a.isNone || ((n = 13 || n = 14) && 0x800 ≤ off && off ≤ 0x840)
  | none => false

/-- Steps 6 and 7 for an address and its registers. -/
def regCheck (s : State) (addrs : List Nat) (count : Bool) : Option String :=
  if addrs.any fun a => a % 4 = 0 && (regAt s a).isNone then some "OBJECT"
  else if count then some "RANGE LO=1 HI=16 STEP=1"
  else if addrs.any fun a => a % 4 != 0 then some "RANGE STEP=4"
  else none

/-- A register of the secure world is reached only by a MAKER session with S reach (R194, R269, R451). -/
def regWorld (s : State) (q : Hdr) (addrs : List Nat) : Bool :=
  (addrs.any (regS s)) && !(roleFor s q = some .maker && sReach s q.ses)

/-- The checks of the command below. -/
def regReadSpec (q : Hdr) (addr : Word) (count : Nat) (s : State) : CmdSpec :=
  let addrs := regAddrs addr.toNat (max 1 (min 16 count))
  { verb := "REG", need := if addrs.all fixedS then 1 else 2, changes := false, body := "REG READ " ++ codeStr addr.toNat ++ " COUNT=" ++ natStr count, p67 := regCheck s addrs (count = 0 || 16 < count), p9 := firstOf [(regWorld s q addrs, "WORLD")] }

/-- REG READ. -/
def execRegRead (q : Hdr) (addr : Word) (count : Nat) (s : State) : Host.Outcome State Fault Refusal :=
  let addrs := regAddrs addr.toNat (max 1 (min 16 count))
  .next (lineIn (.regRead q addr count) q s fun s => submit s q (regReadSpec q addr count s)
    fun s _ =>
      let p := regReads addrs s []
      (p.1, doneNow ("DONE " ++ codesStr p.2) p.1))

/-- The checks of the command below. -/
def regWriteSpec (q : Hdr) (addr value : Word) (mask : Option Word) (s : State) : CmdSpec :=
  let a := addr.toNat
  let w := regWritable s a
  let m := match mask with | some m => m | none => (w.map (·.1)).getD 0
  let eff := m &&& (w.map (·.1)).getD 0
  { verb := "REG", need := if fixedS addr.toNat then 1 else 3, audit := some 11, auditLate := true, body := "REG WRITE " ++ codeStr a ++ " " ++ codeStr value.toNat ++ (match mask with | some m => " MASK=" ++ codeStr m.toNat | none => ""), p67 := regCheck s [a] false <|> (if w.isSome && !regInRange s a value eff then some "RANGE" else none), p9 := firstOf [(regWorld s q [a], "WORLD"), (w.isNone, "OWNED"), ((w.map (·.2)).getD 0 &&& m != 0, "RO"), (regLocked a && lockStands s, "LOCKED")] }

/-- REG WRITE: the write takes effect at the next boundary (R195). -/
def execRegWrite (q : Hdr) (addr value : Word) (mask : Option Word) (s : State) : Host.Outcome State Fault Refusal :=
  let a := addr.toNat
  let w := regWritable s a
  let m := match mask with | some m => m | none => (w.map (·.1)).getD 0
  let eff := m &&& (w.map (·.1)).getD 0
  .next (lineIn (.regWrite q addr value mask) q s fun s => submit s q (regWriteSpec q addr value mask s)
    fun s _ => (s, .effect (s.epoch + 1) (.reg addr value eff) "DONE"))

end Sys2Proof.Machine
end

