-- ==== Sys2Proof/Machine/Reads.lean ====
section
/-!
DEFINITION. What the device reports of itself: attributes as GET sends them (R187, R174, R712), listings (R189), VERSION,
STATUS and HELP (R183 to R185).
-/
namespace Sys2Proof.Machine
open Sys2Proof

/-! ### Attributes of the crossings, power, sessions, macros and the secure core -/

def filterStr (d : XDesc) : String :=
  let n := natStr d.fpar.toNat
  if d.filt = 0 then "NONE" else if d.filt = 1 then "MED3" else if d.filt = 2 then "AVG" ++ n else if d.filt = 3 then "DEB" ++ n
  else "SLEW" ++ n

def offMs (n : Nat) : String := if n = 0 then "off" else natStr n ++ "ms"

/-- The control islands of a crossing. -/
def destStr (x : Nat) : String :=
  joinStr "," (((List.range 3).filter fun n => (xDest x).testBit n).map fun n => ["KEEPER", "WORK0", "WORK1"].getD n "-")

def xStateStr (s : State) (x : Nat) : String :=
  match (xcell s x).episode with
  | none => "OK" | some .range => "RANGE" | some .stale => "STALE" | some .silent => "SILENT"

/-- The attributes of a crossing (R41); those of a crossing that is not in use read `-`. -/
def xingAttr (s : State) (x : Nat) (a : String) : String :=
  let d := xDesc s x
  let v (w : XWord) : String := srcStr s x (wordVal (xSigned s x) w)
  if !xUsed x then "-"
  else if a = "FILTER" then filterStr d
  else if a = "LO" then v d.lo
  else if a = "HI" then v d.hi
  else if a = "SILENCE" then offMs d.silence.toNat
  else if a = "AGE" then offMs d.age.toNat
  else if a = "SUBST" then ["HOLD", "FIXED", "LOW", "HIGH"].getD d.subk.toNat "-"
  else if a = "SUBVAL" then v d.subv
  else if a = "NOTICE" then onOff d.note
  else if a = "DEST" then destStr x
  else if a = "STATE" then xStateStr s x
  else natStr (xcell s x).fails

def nomName : NomKind → String
  | .none => "-" | .provisional => "PROVISIONAL" | .learned => "LEARNED" | .fixed => "FIXED"

def yesNo (b : Bool) : String := if b then "yes" else "no"

/-- The attributes of PWR that are not plain values (Table PWR-10). -/
def pwrAttr (s : State) (a : String) : String :=
  let p := s.pwr
  if a = "CHGV" then (if hasBackup s then milliStr (chgMv s) 2 ++ "V" else "-")
  else if a = "FASTI" then (if hasBackup s then milliStr (100 * fastTenth s) 1 ++ "mA" else "-")
  else if a = "PILOT" then (if p.bkCount = 0 then pilotName .normal else pilotName p.pilotLast)
  else if a = "TIMELOST" then yesNo p.timeLost
  else if a = "VBAT" then milliStr p.vbat 2 ++ "V"
  else if a = "MAINS" then milliStr (100 * p.rms) 1 ++ "V," ++ milliStr (10 * p.freq) 2 ++ "Hz"
  else if a = "NOMV" then (if nomSet s then milliStr (100 * nomTenth s) 1 ++ "V," ++ nomName p.nomKind else "-")
  else if a = "MARKS" then joinStr "," ((List.range 4).map fun n => natStr (tget 0 p.marks n))
  else resetName p.rstKind

/-- The attributes of a session; one that the session does not have reads `-` (Table VIL-9). -/
def sesAttr (s : State) (k : Sess) (a : String) : Option String :=
  let x := getSes s k
  if a = "MODE" then some (modeWord x.mode)
  else if a = "LEVEL" then some (natStr x.level)
  else if a = "ROLE" then some (if k = .mac then "-" else roleName (roleNum x.role))
  else if a = "TAGS" then some (natStr (outsOf s k).length)
  else if a = "QUEUE" then some (if k = .mac then "-" else natStr x.nq.length)
  else if a = "LOST" then some (joinStr "," ([x.lostNotices, x.lostTyped, x.lostCrc, x.lostOverrun].map natStr))
  else if a = "NOTIFY" then (if k = .mac then some "-" else none)
  else if a = "ECHO" || a = "RATE" then (if k = .link0 || k = .link1 then none else some "-")
  else if k = .link0 then none else some "-"

def macroState (x : MacroSt) : String := if x.running then "RUNNING" else if x.pend then "PENDING" else "IDLE"

/-- The read-only attributes of a macro (Table VRB-5). -/
def macroAttr (s : State) (m : Nat) (a : String) : String :=
  let x := macroSt s m
  if a = "LINES" then natStr (macroText s m).length
  else if a = "RUNROLE" then (match macroRole s m with | some r => roleWord r | none => "-")
  else if a = "STATE" then macroState x
  else if a = "RUNS" then natStr x.runs else natStr x.missed

/-- A stored setting that is not in force yet carries PENDING (R230, R712). -/
def pendingStr (t : String) (p : Bool) : String := if p then t ++ ",PENDING" else t

def authFails (s : State) (bus : Bool) (r : Role) : Nat := (tget {} s.sec.fails (failIdx bus r)).count

/-- The attributes of SEC that are not plain values (Table SEC-7). -/
def secAttr (s : State) (a : String) : Option String :=
  let c := s.sec
  let keys := [Role.operator, .installer, .maker].filter fun r => keyStoredFor s r
  if a = "WORLDS" then some (pendingStr (joinStr "," (cfgWords s secObj "WORLDS")) (worldMap s != c.worlds))
  else if a = "SECREGIONS" then some (pendingStr (natStr (cfgNat s secObj "SECREGIONS")) (cfgNat s secObj "SECREGIONS" != c.regions))
  else if a = "AUDITACK" then some "-"
  else if a = "LOCKED" then some (yesNo c.locked)
  else if a = "KEYS" then some (if keys.isEmpty then "NONE" else joinStr "," (keys.map roleWord))
  else if a = "AUDIT" then some (joinStr "," ([c.audit.length, 8191 - c.audit.length, c.overwritten, c.missed, c.held.length].map natStr))
  else if a = "AUDITHEAD" then some (codesStr ((List.range 8).map fun n => c.head.toNat / 2 ^ (32 * (7 - n)) % 4294967296))
  else if a = "AUTHFAIL" then some (joinStr "," ([false, true].flatMap fun b => [Role.operator, .installer, .maker].map fun r => natStr (authFails s b r)))
  else none

/-- A text begins with another. -/
def hasPrefix (p t : String) : Bool := t.toList.take p.length = p.toList

/-! ### Attributes that do not apply (R307, R413, R496) -/

/-- Whether an attribute of a loop belongs to a kind (Table CLM-1, R463 to R470). -/
def loopApplies (k a : String) : Bool :=
  let starts (p : String) : Bool := a = p || hasPrefix (p ++ ".") a
  if ["KIND", "STATE", "ZONE", "LATE", "EMPTY"].contains a then true
  else if k = "OFF" then false
  else if ["PERIOD", "DEADLINE", "OUT", "OUTLO", "OUTHI", "MINSTEP", "STALEACT", "SAFEOUT", "EMPTYMAX", "OUTV"].contains a then true
  else if starts "PV" || a = "SP" then ["PI", "TWOPOS", "SEQ"].contains k
  else if a = "ACTION" then ["PI", "TWOPOS"].contains k
  else if ["KP", "TI"].contains a then ["PI", "SEQ"].contains k
  else if ["KPC", "TIC"].contains a then k = "SEQ"
  else if ["DIFF", "MINON", "MINOFF"].contains a then k = "TWOPOS"
  else if a = "OUT2" then ["SEQ", "CURTAIN"].contains k
  else if starts "OUTDOOR" then ["SHADE", "VENT", "CURTAIN"].contains k
  else if starts "AQ" || ["AQLO", "AQHI", "FCPOS", "FCBAND", "FCDELTA", "MAXOPEN", "COLDLIM", "COLDMAX"].contains a then k = "VENT"
  else if ["DOOR", "FANV", "FANLO", "FANHI", "OUTCOLD", "OUTMILD", "RUNON", "HEATSP", "HEATDIFF"].contains a then k = "CURTAIN"
  else if a = "FFHEAT" then ["PI", "SEQ"].contains k
  else k = "SHADE"

/-- Whether an attribute applies to its object, given the value that its KIND or MODE has. -/
def attrApplies (o : Obj) (kind : String) (a : String) : Bool :=
  match o.kind with
  | .chan => chanApplies o.n kind a
  | .drive => driveApplies kind a
  | .loop => loopApplies kind a
  | _ => true

/-- The attribute that decides which attributes apply. -/
def kindAttr (k : ObjKind) : String := if k = .chan then "MODE" else "KIND"

/-- A value in source units, up to six decimals. -/
def unitStr (u : String) (nano : Int) : String := picoStr (nano * 1000000000000 / unitSize u) ++ u

/-- A value in the units of a source, as it is read back: ON and OFF of a protection, and the inputs of a loop. -/
def srcVal (s : State) (o : Obj) (a : String) : String :=
  match cfgVal s o a with
  | .num v :: _ =>
    if o.kind = .prot then unitStr (match cfgObj s o "SOURCE" with | some x => srcUnit s x.n | none => "") v
    else if hasPrefix "SOLAR" a then unitStr "lx" v
    else if hasPrefix "WIND" a then unitStr "m/s" v
    else if hasPrefix "OUTDOOR" a then unitStr "C" v
    else if hasPrefix "AQ" a then picoStr (v * 1000) ++ "ppm"
    else if a = "SP" then unitStr "C" v
    else unitStr "" v
  | .word w :: _ => w
  | _ => "-"

/-- The read-only attributes by kind. -/
def readOnly (s : State) (o : Obj) (a : String) : String :=
  match o.kind with
  | .leave => leaveAttr s a
  | .macroObj => macroAttr s o.n a
  | .chan => chanAttr s o.n a
  | .ic | .fc | .lc | .conv => convAttr s o.kind a
  | .cell => cellAttr s o.n a
  | .counter => ctAttr s o.n a
  | .drive => driveAttr s o.n a
  | .prot => protAttr s o.n
  | .tf => therAttr s o.n a
  | .tp => therAttr s (8 + o.n) a
  | .tmod => therAttr s 12 a
  | .thm => thmAttr s a
  | .loop => loopAttr s o.n a
  | .zone => zoneAttr s o.n a
  | .sched => schedAttr s o.n a
  | .bus => busAttr s a
  | .filter => filterAttr s o.n
  | .time => timeAttr s a
  | .lan => lanAttr s a
  | .seg => segAttr s o.n a
  | .jrn => jrnAttr s a
  | .bst => bstAttr s a
  | .moduleObj => moduleAttr s a
  | _ => "-"

/-- The attributes that are not read from the configuration as they stand. -/
def attrSpecial (s : State) (o : Obj) (a : String) : Option String :=
  if !attrApplies o (cfgWord s o (kindAttr o.kind)) a then some "-"
  else match o.kind with
    | .xing => some (xingAttr s o.n a)
    | .pwr => if ["CHGV", "FASTI"].contains a then some (pwrAttr s a) else none
    | .session => sesAttr s (sesOf o.n) a
    | .sec => secAttr s a
    | .chan => if a = "OUTV" || a = "OUT" then some (chanAttr s o.n a) else none
    | .counter => if a = "CMP" || a = "CLEAR" then some (ctAttr s o.n a) else none
    | .drive => if a = "POSMODEL" then some (posModel s o.n) else if a = "TRIPA" || a = "TRIPMV" then tripAttr s o.n else if a = "STARTA" then some (milliStr (startMa s o.n) 1 ++ "A") else none
    | .loop => if a = "PERIOD" then some (natStr (loopPeriod s o.n) ++ "ms") else none
    | .bus => if a = "SEALKEY" then some (if (cfgFind s.cfg (o, a)).isSome then "SET" else "UNSET") else none
    | .lan => (waveOf a).map fun w => waveStr s w.1 w.2.1 w.2.2
    | .jrn => if a = "SLOTFREE" then some "-" else none
    | _ => none

/-- An attribute as GET sends it. -/
def attrRead (s : State) (o : Obj) (a : String) : String :=
  match attrDef o.kind a with
  | none => "-"
  | some d =>
    match attrSpecial s o a with
    | some t => t
    | none =>
      if d.ty = .ro then (if o.kind = .pwr then pwrAttr s a else readOnly s o a)
      else if d.ty = .src then srcVal s o a
      else valStr d.ty (cfgVal s o a)

/-! ### GET and SHOW (R173, R187, R189) -/

def objPairs (s : State) (o : Obj) (attrs : List String) : List String := attrs.map fun a => a ++ "=" ++ attrRead s o a

def attrNames (k : ObjKind) : List String := (attrsOf k).map (·.name)

/-- An object's line in a listing: its name and its pairs, on further lines where one is too short. -/
def objLines (s : State) (room : Nat) (attrs : List String) (o : Obj) : List String :=
  let r := layPairs (room - (objName o).length - 1) (objPairs s o attrs) ""
  (r.1 ++ [r.2]).map fun t => objName o ++ " " ++ t

def rangeObjs (o : ObjRange) : List Obj := (List.range (o.hi + 1 - o.lo)).map fun n => ⟨o.kind, o.lo + n⟩

def countLine (n : Nat) : String := "DONE COUNT=" ++ natStr n

/-- The macros that hold lines. -/
def heldMacros (s : State) : List Obj := ((List.range 64).filter fun m => !(macroText s m).isEmpty).map macroObj

/-- The aspects of SHOW. -/
def aspectsOf : ObjKind → List String
  | .leave => ["QUEUE"] | .thm => ["FAULTS"] | .bst => ["FAULTS", "LOG", "REPAIRS", "COMBOS", "CATALOGUE"] | _ => []

/-- The lines of a listing, and how many items they show. -/
def showLines (s : State) (room : Nat) (o : Obj) (aspect : Option String) : List String × Nat :=
  match aspect with
  | some a =>
    let l := match o.kind with
      | .leave => s.lve.queue.map (reqLine s)
      | .thm => showFaults s
      | _ => bstAspect s a
    (l, l.length)
  | none =>
    if o.kind = .onObj then (s.vil.binds.map bindStr, s.vil.binds.length)
    else if o.kind = .macrosObj || o = sesObj .mac then
      ((heldMacros s).flatMap (objLines s room (attrNames .macroObj)), (heldMacros s).length)
    else (objLines s room (attrNames o.kind) o, 1)

/-- How a query of SHOW is written among the queries: its aspect after `!`. -/
def showMark (aspect : Option String) : List String := ["!" ++ aspect.getD ""]

/-- The lines of a query, taken now. -/
def queryLines (s : State) (room : Nat) (o : ObjRange) (attrs : List String) : List String × String :=
  let obj : Obj := ⟨o.kind, o.lo⟩
  match attrs with
  | a :: _ =>
    match a.toList with
    | '!' :: asp =>
      let r := showLines s room obj (if asp.isEmpty then none else some (String.ofList asp))
      (r.1, countLine r.2)
    | _ =>
      if o.isRange then ((rangeObjs o).flatMap (objLines s room attrs), countLine (rangeObjs o).length)
      else pairsResult room (objPairs s obj attrs)
  | [] =>
    let l := attrNames o.kind
    if o.isRange then ((rangeObjs o).flatMap (objLines s room l), countLine (rangeObjs o).length)
    else pairsResult room (objPairs s obj l)

/-- The objects whose state WORK0 owns. -/
def inWork0 (k : ObjKind) : Bool :=
  [.session, .macroObj, .bus, .filter, .point, .lan, .seg, .onObj, .macrosObj].contains k

/-- A query is served: at once where WORK0 holds the state, and otherwise by its island one boundary later, the reply
being back another boundary later (R20). -/
def queryWork (s : State) (q : Hdr) (o : ObjRange) (attrs : List String) : Work :=
  if inWork0 o.kind then
    let r := queryLines s (lineRoom s q) o attrs
    .reply s.epoch r.1 r.2
  else .query (s.epoch + 1) o attrs

/-- Network time that a served GET reads is journaled as the read of TIME_SEC that it is (R619). -/
def timeReads (s : State) (o : ObjRange) (attrs : List String) : State :=
  if o.kind = .time && (attrs.isEmpty || attrs.contains "UTC" || attrs.contains "CIVIL") then jrnPut s 6 (20 + 256) [((regAt s 0x40016004).getD 0).toNat] else s

/-- A query reaches the island that serves it. -/
def queryServe (s : State) (id : Nat) (o : ObjRange) (attrs : List String) : State :=
  let room := match s.vil.outs.find? (·.id = id) with | some p => lineRoom s ⟨p.ses, p.tag, p.framed⟩ | none => 235
  let r := queryLines s room o attrs
  setWork (timeReads s o attrs) id (.reply (s.epoch + 1) r.1 r.2)

/-- Objects that values alone name. -/
def valueOnly (k : ObjKind) : Bool := [.li, .feed, .port].contains k

/-- An object that the device has. -/
def objExists (o : Obj) : Bool := (objOf (objName o)) = some o || o.kind = .onObj || o.kind = .macrosObj

/-- The objects of an operand (step 6): known, of one kind, in ascending order. -/
def rangeCheck (o : ObjRange) (bad : ObjKind → Bool) : Option String :=
  if bad o.kind || !objExists ⟨o.kind, o.lo⟩ || !objExists ⟨o.kind, o.hi⟩ || o.hi < o.lo then some "OBJECT" else none

def rangeStr (o : ObjRange) : String :=
  if o.isRange then objName ⟨o.kind, o.lo⟩ ++ ".." ++ objName ⟨o.kind, o.hi⟩ else objName ⟨o.kind, o.lo⟩

/-- Objects that have no attributes of their own. -/
def noAttrs (k : ObjKind) : Bool := valueOnly k || k = .onObj || k = .macrosObj

/-- The checks of the command below. -/
def getAttrSpec (o : ObjRange) (attrs : List String) : CmdSpec :=
  let l := attrs.map upStr
  { verb := "GET", body := bodyOf (["GET", rangeStr o] ++ l), changes := false, p67 := rangeCheck o noAttrs <|> firstOf [(l.any fun a => (attrDef o.kind a).isNone, "ATTR")] }

/-- GET. -/
def execGetAttr (q : Hdr) (o : ObjRange) (attrs : List String) (s : State) : Host.Outcome State Fault Refusal :=
  let l := attrs.map upStr
  .next (lineIn (.getAttr q o attrs) q s fun s => submit s q (getAttrSpec o attrs)
    fun s _ => (s, queryWork s q o l))

/-- The checks of the command below. -/
def showObjSpec (o : Obj) (aspect : Option String) : CmdSpec :=
  let a := aspect.map upStr
  let r : ObjRange := ⟨o.kind, o.n, o.n, false⟩
  { verb := "SHOW", body := bodyOf ["SHOW", objName o, a.getD ""], changes := false, p67 := rangeCheck r valueOnly <|> firstOf [(match a with | some w => !(aspectsOf o.kind).contains w | none => false, "ATTR")] }

/-- SHOW. -/
def execShowObj (q : Hdr) (o : Obj) (aspect : Option String) (s : State) : Host.Outcome State Fault Refusal :=
  let a := aspect.map upStr
  let r : ObjRange := ⟨o.kind, o.n, o.n, false⟩
  .next (lineIn (.showObj q o aspect) q s fun s => submit s q (showObjSpec o aspect)
    fun s _ => (s, queryWork s q r (showMark a)))

/-! ### VERSION, STATUS and HELP -/

/-- A die's revision, UNREADABLE while it cannot be read. -/
def revStr (letter : String) (rev : Byte) : String := if rev = 0xFF then "UNREADABLE" else letter ++ natStr rev.toNat

def versionLine (s : State) : List String :=
  ["CORE=C" ++ natStr s.ana.crev.toNat, "LINE=" ++ revStr "L" (lrevNow s), "JOURNAL=" ++ revStr "J" s.ana.jrev, "ROM=2.6.0",
    "PATCH=" ++ (if s.tst.patchFitted = 0 then "NONE" else "P" ++ padStr 4 s.tst.patchFitted), "LEVEL=3", "ARAVO=1",
    "GRADE=" ++ (if Config.gradeX then "X" else "S"), "HELD=" ++ (if (heldNames s).isEmpty then "NONE" else joinStr "," (heldNames s))]

/-- The checks of the command below. -/
def versionSpec : CmdSpec :=
  { verb := "VERSION", body := "VERSION", need := 0, changes := false }

/-- VERSION. -/
def execVersion (q : Hdr) (s : State) : Host.Outcome State Fault Refusal :=
  .next (lineIn (.version q) q s fun s => submit s q versionSpec fun s _ =>
    let r := pairsResult (lineRoom s q) (versionLine s)
    (s, .reply s.epoch r.1 r.2))

def attnStr (s : State) : String :=
  let l := portSess.filter fun k => !(getSes s k).nq.isEmpty
  if l.isEmpty then "NONE" else joinStr "," (l.map sesName)

/-- What STATUS reports to a session (R184). -/
def statusLine (s : State) (q : Hdr) : List String :=
  let role := roleFor s q
  ["MODE=" ++ modeName s.ana.mode, "ROLE=" ++ roleName (roleNum role), "LEVEL=" ++ natStr (getSes s q.ses).level, "ATTN=" ++ attnStr s]
    ++ (if role = none then [] else ["TAGS=" ++ natStr (outsOf s q.ses).length, "SLOTS=" ++ natStr s.vil.outs.length,
      "FAULTS=" ++ natStr (latchedFaults s).length, "TIME=" ++ qualName s.tim.quality])

/-- The checks of the command below. -/
def statusSpec : CmdSpec :=
  { verb := "STATUS", body := "STATUS", need := 0, changes := false }

/-- STATUS. -/
def execStatus (q : Hdr) (s : State) : Host.Outcome State Fault Refusal :=
  .next (lineIn (.status q) q s fun s => submit s q statusSpec fun s _ =>
    let r := pairsResult (lineRoom s q) (statusLine s q)
    (s, .reply s.epoch r.1 r.2))

/-- The syntax lines of the verbs. -/
def verbSyntax : List (String × String) := [
  ("HELLO", "[TYPED | FRAMED] [LEVEL=n]"), ("AUTH", "role [RESPONSE=list]"), ("LOGOUT", ""), ("KEY", "role VALUE=list"),
  ("VERSION", ""), ("STATUS", ""), ("HELP", "[word]"), ("CANCEL", "tag"), ("GET", "object [attribute ...]"),
  ("SET", "object pair [pair ...]"), ("SHOW", "object [aspect]"), ("DEFAULT", "object | ALL CONFIRM=yes"),
  ("LOCK", "CONFIG CONFIRM=yes"), ("MODE", "RUN | SAFE | QUIET | BENCH | RESTART"),
  ("REG", "READ address [COUNT=n] | WRITE address value [MASK=m]"),
  ("MOVE", "drive UP | DOWN | OPEN | CLOSE | SAFE | TO position [TILT=angle]"), ("STOP", "drive | ALL"),
  ("RELEASE", "drive | ALL"), ("LEARN", "drive"), ("ACK", "object [fault]"), ("CAL", "CONVERTERS"),
  ("BIST", "[DURATION=time]"), ("REPAIR", "FUSE CONFIRM=yes"), ("TIME", "SET date time UTC [UNC=time]"),
  ("SEND", "ID=code LEN=n [DATA=list] [FD=on|off] [BRS=on|off] [ONESHOT=on|off]"),
  ("DRAW", "[FULL | PARTIAL] [FILL=level] [segment=level ...]"),
  ("BLINK", "segment PERIOD=time LEVELS=a,b | segment OFF"), ("FREEZE", "[SLOT=n] [NOTE=string]"),
  ("EXPORT", "JOURNAL RING | JOURNAL SLOT=n | AUDIT"), ("LOAD", "SLOT=n SEQ=k DATA=list | SLOT=n END"),
  ("REPLAY", "START SLOT=n | STOP"), ("MACRO", "macro ADD string | CLEAR | LIST | RUN"),
  ("ON", "event DO macro | event OFF | LIST"), ("WAIT", "duration")]

/-- The verbs that a session sees: known at its level and open to its role. -/
def seenVerbs (s : State) (q : Hdr) : List String :=
  let r := roleNum (roleFor s q)
  (verbTable.filter fun v => v.2.1 ≤ (getSes s q.ses).level && (if r = 0 then publicVerb v.1 else v.2.2 ≤ r && denyNeed s v.1 ≤ r)).map (·.1)

def helpLine (v : String) : String := bodyOf [v, ((verbSyntax.find? (·.1 = v)).map (·.2)).getD ""]

/-- The verbs that HELP knows by name: those of the session's level, and without a role only the public ones (R185). -/
def knownVerbs (s : State) (q : Hdr) : List String :=
  let r := roleNum (roleFor s q)
  (verbTable.filter fun v => v.2.1 ≤ (getSes s q.ses).level && (r != 0 || publicVerb v.1)).map (·.1)

/-- The lines of HELP; none where the word is unknown. -/
def helpLines (s : State) (q : Hdr) (word : Option String) : Option (List String) :=
  match word with
  | none => some ((seenVerbs s q).map helpLine)
  | some w =>
    let u := upStr w
    if (knownVerbs s q).contains u then some [helpLine u]
    else match objOf w with
      | some o => if roleFor s q = none || noAttrs o.kind then none else some (attrNames o.kind)
      | none => none

/-- The checks of the command below. -/
def helpSpec (q : Hdr) (word : Option String) (s : State) : CmdSpec :=
  let l := helpLines s q word
  let known := match word with | some w => (objOf w).isSome | none => true
  { verb := "HELP", body := bodyOf ["HELP", word.getD ""], need := 0, changes := false, p67 := if l.isSome then none else some (if known then "OBJECT" else "VERB") }

/-- HELP. -/
def execHelp (q : Hdr) (word : Option String) (s : State) : Host.Outcome State Fault Refusal :=
  let l := helpLines s q word
  .next (lineIn (.help q word) q s fun s => submit s q (helpSpec q word s)
    fun s _ => (s, .reply s.epoch (l.getD []) (countLine (l.getD []).length)))

end Sys2Proof.Machine
end

