-- ==== Sys2Proof/Machine/Effects.lean ====
section
/-!
DEFINITION. Changes taking effect (R175, R176, R190, R201, R220): attributes with everything that follows a change of the
configuration, DEFAULT, acknowledgements, keys and the lock, macros and bindings, and the completion of store writes.
-/
namespace Sys2Proof.Machine
open Sys2Proof

/-- The pairs of a line: object, attribute and value. -/
abbrev Pairs := List ((Obj × String) × Val)

def attrPersists (o : Obj) (a : String) : Bool := match attrDef o.kind a with | some d => d.persists | none => true

/-! ### Crossings (R41, R710) -/

/-- The filter that a word spells. -/
def filtOf (w : String) : Option (Nat × Nat) :=
  let r := spanChars isLetter w.toList
  let n := natOf r.2
  let nm := String.ofList r.1
  if w = "NONE" then some (0, 0)
  else if w = "MED3" then some (1, 0)
  else match n with
    | some k => if nm = "AVG" && fparOk 2 k then some (2, k) else if nm = "DEB" && fparOk 3 k then some (3, k)
      else if nm = "SLEW" && k ≤ 255 && fparOk 4 k then some (4, k) else none
    | none => none

/-- Milliseconds of a value, 0 for off. -/
def offNat : Val → Nat
  | .num v :: _ => (v / 1000000).toNat
  | _ => 0

/-- A descriptor with one attribute replaced; a value in source units becomes the nearest word (R41). -/
def descAttr (s : State) (x : Nat) (d : XDesc) (a : String) (v : Val) : XDesc :=
  let w : XWord := match v with | .num n :: _ => BitVec.ofInt 16 (srcWord s x n) | _ => 0
  match a, v with
  | "FILTER", [.word f] => match filtOf f with | some (c, p) => { d with filt := BitVec.ofNat 4 c, fpar := BitVec.ofNat 8 p } | none => d
  | "LO", _ => { d with lo := w }
  | "HI", _ => { d with hi := w }
  | "SILENCE", _ => { d with silence := BitVec.ofNat 16 (offNat v) }
  | "AGE", _ => { d with age := BitVec.ofNat 16 (offNat v) }
  | "SUBST", [.word k] => { d with subk := BitVec.ofNat 3 ((["HOLD", "FIXED", "LOW", "HIGH"].findIdx? (· = k)).getD 0) }
  | "SUBVAL", _ => { d with subv := w }
  | "NOTICE", [.word k] => { d with note := k = "on" }
  | _, _ => d

/-- The descriptor of a crossing as a line leaves it, from `d`. -/
def descLine (s : State) (x : Nat) (l : Pairs) (d : XDesc) : XDesc :=
  (l.filter fun p => p.1.1 = xobj x).foldl (fun d p => descAttr s x d p.1.2 p.2) d

/-- The descriptor in the store. -/
def xStored (s : State) (x : Nat) : XDesc := tget (xFactory (xSigned s x) x) s.ana.xstored x

/-- A crossing's attribute set and stored. -/
def xSet (s : State) (x : Nat) (a : String) (v : Val) : State :=
  let st := descAttr s x (xStored s x) a v
  let d := descAttr s x (xWritten s x) a v
  let s := setXcell s x { xcell s x with next := some d }
  { s with ana := { s.ana with xstored := tset s.ana.xstored x st } }

/-- Crossings whose format has changed (R710). -/
def xingsAfter (old s : State) : State :=
  (List.range 158).foldl (fun s x =>
    if xSigned old x = xSigned s x then s
    else
      let s := xAdapt s x (xSigned old x)
      { s with ana := { s.ana with xstored := s.ana.xstored.map fun p => if p.1 = x then (x, descAdapt (xSigned old x) (xSigned s x) p.2) else p } }) s

/-! ### Attributes that act and are not held (R272, R344, R345) -/

def liveAttr (o : Obj) (a : String) : Bool :=
  (o.kind = .chan && (a = "OUTV" || a = "OUT")) || (o.kind = .counter && (a = "CLEAR" || a = "CMP"))
    || (o.kind = .sec && a = "AUDITACK") || (o.kind = .jrn && a = "SLOTFREE")

/-- Audit records up to a number are freed (R258). -/
def auditFreed (s : State) (n : Nat) : State :=
  { s with sec := { s.sec with audit := s.sec.audit.filter fun r => n < r.seq, overwritten := 0, wraps := 0 } }

def liveSet (s : State) (o : Obj) (v : Val) : State :=
  match o.kind, v with
  | .chan, [.num n] => setV10 s o.n (n / 1000000).toNat
  | .chan, [.word w] => setOd s o.n (w = "on")
  | .counter, [.num n] => ctWrite s o.n (.cmp (BitVec.ofInt 16 (n / 1000000000)))
  | .counter, _ => ctWrite s o.n .clear
  | .sec, [.num n] => auditFreed s (n / 1000000000).toNat
  | .jrn, [.num n] => setSlotAt s (n / 1000000000).toNat .empty
  | _, _ => s

/-! ### The configuration -/

/-- The attributes whose default depends on another one: a value set is listed whatever it is (R85, Table DRV-9). -/
def backupKey (k : Obj × String) : Bool := k.1.kind = .pwr && (k.2 = "CHGV" || k.2 = "FASTI")
def kindDefault (k : Obj × String) : Bool := backupKey k || (k.1.kind = .drive && k.2 = "STARTA")

def cfgPut (c : Cfg) (k : Obj × String) (v : Val) : Cfg :=
  if kindDefault k then (k, v) :: c.filter fun p => p.1 != k else cfgSet c k v

/-- One pair takes effect. -/
def pairSet (s : State) (p : (Obj × String) × Val) : State :=
  let o := p.1.1
  if liveAttr o p.1.2 then liveSet s o p.2
  else if o.kind = .xing then xSet s o.n p.1.2 p.2
  else
    let s := { s with cfg := cfgPut s.cfg p.1 p.2 }
    if attrPersists o p.1.2 then { s with stored := cfgPut s.stored p.1 p.2 } else s

/-- A value that a line gives. -/
def lineVal (l : Pairs) (o : Obj) (a : String) : Option Val := (l.find? fun p => p.1 = (o, a)).map (·.2)

/-- A change of BACKUP gives CHGV and FASTI the defaults of the new kind (R85). -/
def backupChange (s : State) (l : Pairs) : State :=
  match lineVal l pwrObj "BACKUP" with
  | some v =>
    if v = cfgVal s pwrObj "BACKUP" then s
    else
      let f (c : Cfg) : Cfg := c.filter fun p => !backupKey p.1
      { s with cfg := f s.cfg, stored := f s.stored }
  | none => s

/-- A rate that waits for its final line (R117): 0 for AUTO. -/
def ratePending (v : Val) : Nat := match v with | .num n :: _ => (n / 1000000000).toNat | _ => 0

/-- What follows a change of the configuration for the ports (R117, R118). -/
def portsAfter (old s : State) : State :=
  let ch (k : Sess) (a : String) : Bool := cfgVal old (sesObj k) a != cfgVal s (sesObj k) a
  let s := if ch .link0 "RATE" then { s with vil := { s.vil with ratePend0 := some (ratePending (cfgVal s (sesObj .link0) "RATE")) } } else s
  let s := if ch .link1 "RATE" then { s with vil := { s.vil with ratePend1 := some (ratePending (cfgVal s (sesObj .link1) "RATE")) } } else s
  if ch .link0 "FLOW" then rtsFollows s else s

/-- The auxiliary output is asked for as long as a request for it stands. -/
def auxWanted (s : State) : State :=
  { s with pwr := { s.pwr with auxWant := s.lve.queue.any (·.h = .aux) || s.lve.posted.any (·.2.h = .aux) } }

/-- The auxiliary output set off: it is off, and neither asked for nor retried (R47). -/
def auxSetOff (s : State) : State :=
  let s := leaveReturn (withdrawOf s .aux Option.isNone) .aux
  auxWanted { s with pwr := { s.pwr with auxOn := false, auxRetry := none } }

/-- What follows a change of the configuration for the power chapter (R52, R64, R85). -/
def powerAfter (old s : State) : State :=
  let ch (a : String) : Bool := cfgVal old pwrObj a != cfgVal s pwrObj a
  let s := if ch "NOMINAL" then nominalSet s else s
  let s := if ch "BACKUP" then stopCharging s else s
  if ch "AUX" && !cfgOn s pwrObj "AUX" then auxSetOff s else s

/-- Everything that follows a change of the configuration from that of `old`. -/
def cfgAfter (old s : State) : State :=
  if old.cfg = s.cfg then s
  else
    let s := xingsAfter old (chansAfter old s)
    let s := drivesAfter old (ctsAfter old (cellsAfter old s))
    let s := busAfter old (climAfter old (timeAfter old (thermAfter old s)))
    powerAfter old (portsAfter old s)

/-- The pairs of a SET take effect, all of them at one boundary (R188); a change that persists gives the configuration a
new number and an anchor. -/
def pairsSet (s : State) (l : Pairs) : State :=
  let t := l.foldl pairSet (backupChange (ctLine s) l)
  let t := cfgAfter s t
  let t := l.foldl (fun t p => if p.1.1.kind = .zone && p.1.2 = "OVERRIDE" then overrideSet t p.1.1.n else t) t
  if l.any fun p => attrPersists p.1.1 p.1.2 then jrnConfig t else t

/-! ### SET with a heavy pair (R188, R220) -/

/-- The tag or the session by which the loser of two SETs names the winner. -/
def winnerStr (loser : Out) (ses : Sess) (tag : Option Nat) : String :=
  if loser.ses = ses then (match tag with | some t => natStr t | none => "-") else sesName ses

/-- An earlier SET of AUX that still waits for its grant withdraws its request and ends (R97, R220). -/
def auxSupersede (s : State) (id : Nat) (ses : Sess) (tag : Option Nat) : State :=
  let l := s.vil.outs.filter fun o => o.id < id && (match o.work with | .aux _ => true | _ => false)
  if l.isEmpty then s
  else
    let s := auxWanted (withdrawOf s .aux fun c => l.any fun o => some o.id = c)
    l.foldl (fun s o => finish s o.id ("FAIL SUPERSEDED WINNER=" ++ winnerStr o ses tag)) s

/-- A line that sets AUX. -/
def setsAux (l : Pairs) : Bool := (lineVal l pwrObj "AUX").isSome

/-- The pairs of a command take effect. -/
def outPairs (s : State) (id : Nat) (l : Pairs) : State :=
  let s := pairsSet s l
  match setsAux l, findOut s id with
  | true, some o => auxSupersede s id o.ses o.tag
  | _, _ => s

/-- A group tripped since the epoch `e`: a switch-on of one of its channels fails (R303). -/
def tripBlocks (s : State) (l : Pairs) (e : Nat) : Bool :=
  l.any fun p => p.1.1.kind = .chan && p.1.2 = "OUT" && p.2 = [.word "on"]
    && (match (grpSt s (p.1.1.n / 8)).tripEpoch with | some t => e ≤ t | none => false)

/-- The answer of Lamplighter for SET AUX=on (R188): with the grant the output is on and the line is written. -/
def auxOutAnswer (s : State) (o : Out) (rest : Pairs) (a : LAnswer) : State :=
  match a with
  | .granted =>
    let s := queueStore s o.id (.attrs rest)
    setWork s o.id (.store (.attrs rest) "DONE")
  | .refused why => finish s o.id ("FAIL LEAVE " ++ why)
  | .timeout => finish s o.id "FAIL LEAVE-TIMEOUT"
  | .calmBreak => s

/-- The answer for the auxiliary output, and for the SET that asked. -/
def auxAnswered (s : State) (m : LMsg) : State :=
  let s := auxAnswer s m.a
  match m.cmd.bind (findOut s) with
  | some o => match o.work with | .aux rest => auxOutAnswer s o rest m.a | _ => s
  | none => s

/-! ### DEFAULT (R190, R218, R249) -/

/-- The attributes of an object that DEFAULT restores. -/
def restorable (k : ObjKind) : List AttrDef := (attrsOf k).filter fun a => a.persists && a.role.isSome

/-- An object's attributes at their defaults. -/
def objDefault (s : State) (o : Obj) : State :=
  let f (c : Cfg) : Cfg := c.filter fun p => !(p.1.1 = o && attrPersists o p.1.2)
  let s := { s with cfg := f s.cfg, stored := f s.stored }
  if o.kind = .xing then
    let s := if xConfigurable o.n then setXcell s o.n { xcell s o.n with next := some (xFactory (xSigned s o.n) o.n) } else s
    { s with ana := { s.ana with xstored := tdel s.ana.xstored o.n } }
  else if o.kind = .macroObj then
    let s := setMacro s o.n { macroSt s o.n with lines := none, runRole := none }
    if o.n = 63 && s.vil.binds.length < 64 && !(s.vil.binds.any fun b => sameBind "START" none b && b.m = 63) then bindChange s "START" none (some 63) else s
  else s

def objsDefault (s : State) (os : List Obj) : State := jrnConfig (cfgAfter s (os.foldl objDefault s))

/-- A setting that the lock fixes. -/
def lockedKey (k : Obj × String) : Bool := match attrDef k.1.kind k.2 with | some d => d.lock | none => false

/-- The factory configuration; after the lock, all but the fixed settings and the keys (R190, R249). -/
def factorySet (s : State) : State :=
  let f (c : Cfg) : Cfg := if s.sec.locked then c.filter fun p => lockedKey p.1 else []
  let s := { s with cfg := f s.cfg, stored := f s.stored, ana := { s.ana with xstored := [] }, vil := { s.vil with macros := s.vil.macros.map fun p => (p.1, { p.2 with lines := none, runRole := none }), binds := [⟨"START", none, 63⟩] } }
  let s := if s.sec.locked then s else { s with sec := { s.sec with keys := [] } }
  jrnConfig (lanFactory s)

/-! ### ACK (R201, R673) -/

/-- The latched faults that an ACK names. -/
def ackFaults (s : State) (o : Obj) (fault : Option String) : List (Obj × String) :=
  (latchedFaults s).filter fun p => p.1 = o && (match fault with | some f => p.2 = upStr f | none => true)

/-- Whether ACK may clear a latched fault now (Table BST-10). -/
def faultAckable (s : State) (f : String) : Bool :=
  if f = "BUS.NODE-CONFLICT" then conflictAckable s
  else ["DRV.TRIPPED", "THM.COOLDOWN", "BUS.BUSOFF", "LAN.PUMP"].contains f

def ackOne (s : State) (p : Obj × String) : State :=
  if p.2 = "DRV.TRIPPED" then ((tripOuts s p.1.n).filter (trippedOut s)).foldl latchClears s
  else if p.2 = "THM.COOLDOWN" then { s with thm := { s.thm with cdLatch := false } }
  else if p.2 = "BUS.BUSOFF" then latchAck s
  else if p.2 = "BUS.NODE-CONFLICT" then conflictAck s
  else if p.2 = "LAN.PUMP" then lanAck s else s

def ackApply (s : State) (o : Obj) (fault : Option String) : State := (ackFaults s o fault).foldl ackOne s

/-- The checks of the command below. -/
def ackSpec (q : Hdr) (o : Obj) (fault : Option String) (s : State) : CmdSpec :=
  let l := ackFaults s o fault
  { verb := "ACK", body := bodyOf ["ACK", objName o, (fault.map upStr).getD ""], need := 2, p67 := rangeCheck ⟨o.kind, o.n, o.n, false⟩ valueOnly, p9 := worldFail s q.ses o.kind, p10 := if l.isEmpty || !(l.all fun p => faultAckable s p.2) then some "STATE" else none }

/-- ACK: at once where WORK0 holds the fault, and otherwise at the next boundary. -/
def execAck (q : Hdr) (o : Obj) (fault : Option String) (s : State) : Host.Outcome State Fault Refusal :=
  .next (lineIn (.ack q o fault) q s fun s => submit s q (ackSpec q o fault s)
    fun s _ =>
      if inWork0 o.kind then
        let s := ackApply s o fault
        (s, doneNow "DONE" s)
      else (s, .effect (s.epoch + 1) (.ack o fault) "DONE"))

/-! ### The audit journal freed (R258) -/

/-- An EXPORT AUDIT of the session has covered the record `n`. -/
def auditCovered (s : State) (k : Sess) (n : Nat) : Bool :=
  match s.sec.exported.find? fun p => p.1 = sesIdx k with | some p => decide (n ≤ p.2) | none => false

/-- The checks of the command below. -/
def auditAckSpec (q : Hdr) (n : Nat) (s : State) : CmdSpec :=
  { verb := "SET", body := "SET SEC AUDITACK=" ++ natStr n, need := 2, audit := some 19, auditLate := true, auditFree := true, p67 := if n ≤ 4294967295 then none else some "RANGE LO=0 HI=4294967295 STEP=1", p9 := worldFail s q.ses .sec, p10 := firstOf [(!auditCovered s q.ses n, "STATE")] }

/-- SET SEC AUDITACK (R258). -/
def auditAckOrder (q : Hdr) (n : Nat) (s : State) : State :=
  submit s q (auditAckSpec q n s)
    fun s _ => (s, .effect (s.epoch + 1) (.auditAck n) "DONE")

/-- SET SEC AUDITACK. -/
def execAuditAck (q : Hdr) (n : Nat) (s : State) : Host.Outcome State Fault Refusal := .next (lineIn (.auditAck q n) q s (auditAckOrder q n))

/-! ### MACRO ADD (R213, R215, R218) -/

/-- A macro's lines replaced; the role of the session that edited it is recorded (R214). -/
def macroEdited (s : State) (m : Nat) (lines : List String) (role : Role) : State :=
  setMacro s m { macroSt s m with lines := some lines, runRole := some role }

/-! ### A change takes effect -/

/-- What LEARN measured stands: TUP and TDOWN, the profile and ENCSPAN (R385). -/
def learntTakes (s : State) (d : Nat) : State :=
  match (drOf s d).learnt with
  | none => s
  | some x =>
    let s := pairsSet s [((drvObj d, "TUP"), secTenths x.up), ((drvObj d, "TDOWN"), secTenths x.dn)]
    modDr s d fun r => { r with learnt := none, learned := true, bins := x.bins, encSpan := x.span }

/-- A change takes effect, for the command `id` where one waits for it. -/
def applyEff (s : State) (id : Nat) (x : Eff) : State :=
  match x with
  | .none => s
  | .attrs l => outPairs s id l
  | .defaults os => objsDefault s os
  | .factory => factorySet s
  | .reg a v m => regApply s a.toNat v m
  | .lock => notify { s with sec := { s.sec with locked := true, lockPend := false } } "SEC.LOCKED"
  | .key r codes => keyStored s ((findOut s id).map (·.ses) |>.getD .mac) r codes
  | .macroLines m lines role => macroEdited s m lines role
  | .bind ev o m => bindChange s ev o m
  | .release ds rank => holdsRelease s ds rank
  | .ack o f => ackApply s o f
  | .timeSet theta at_ unc => timeSetApply s theta at_ unc
  | .sealCount src n => sealStoredAt s src n
  | .panel lvl tgt prog => panelStored s lvl tgt prog
  | .auditAck n => auditFreed s n
  | .slotFree n => setSlotAt s n .empty
  | .repair => repairArm s
  | .xingAdapt _ => s
  | .learnt d => learntTakes s d

/-- A drive attribute that the keeper writes into the secure world (R235, R413). -/
def keeperWrites (o : Obj) (a : String) : Bool := o.kind = .drive && (a = "TRIPA" || a = "TRIPMV")

/-- A change that touches state of the secure world. -/
def touchesS (s : State) (x : Eff) : Bool :=
  match x with
  | .attrs l => l.any fun p => objS s p.1.1.kind || keeperWrites p.1.1 p.1.2
  | .defaults os => os.any fun o => objS s o.kind
  | .reg a _ _ => regS s a.toNat
  | .factory | .lock | .key _ _ | .auditAck _ | .repair => true
  | .timeSet _ _ _ => objS s .time
  | .slotFree _ => objS s .jrn
  | .ack o _ => objS s o.kind
  | _ => false

/-- The keeper's second check of a request that touches S state, against its own table (R234). -/
def keeperPasses (s : State) (o : Out) (x : Eff) : Bool := !touchesS s x || keeperAdmits s o.ses o.role o.epoch

/-- A change of another island's state takes effect; its command ends one boundary later, when the reply is back (R20,
R175); an output that the keeper writes for WORK0 ends it at once (R272).  TIME SET ends with its slew's start, or after its step (R569). -/
def effectDo (s : State) (o : Out) (x : Eff) (fin : String) : State :=
  if !keeperPasses s o x then finish s o.id ("FAIL ROLE NEED=" ++ roleName (roleNum o.role))
  else match x with
  | .timeSet theta at_ unc =>
    let s := auditOut s o 0
    let sl := slews s theta
    let s := timeSetApply s theta at_ unc
    if sl then finish s o.id (timeSetDone s) else setWork s o.id .timeStep
  | .attrs l =>
    if tripBlocks s l o.epoch then finish s o.id "FAIL STATE TRIPPED"
    else
      let t := applyEff (auditOut s o 0) o.id x
      if l.all fun p => p.1.1.kind = .chan then finish t o.id fin else setWork t o.id (.reply (s.epoch + 1) [] fin)
  | _ => setWork (applyEff (auditOut s o 0) o.id x) o.id (.reply (s.epoch + 1) [] fin)

/-! ### Store writes (R176, R193, R248) -/

/-- Every other command ends aborted, and a SOFT reset follows within 100 ms (R190, R193). -/
def restartOrder (s : State) (id : Nat) : State :=
  let s := (s.vil.outs.filter fun o => o.id != id).foldl (fun s o => finishOut s o "FAIL ABORTED") s
  { s with vil := { s.vil with softReset := some (s.epoch, s.now + 100 * tickMs) } }

/-- The write of a command has completed. -/
def storeDone (s : State) (id : Nat) (x : Eff) : State :=
  match findOut s id with
  | none => applyEff s id x
  | some o =>
    let fin := match o.work with | .store _ f => f | _ => "DONE"
    if !keeperPasses s o x then finish s id ("FAIL ROLE NEED=" ++ roleName (roleNum o.role))
    else match x with
    | .attrs l =>
      if tripBlocks s l (s.epoch - 1) then finish s id "FAIL STATE TRIPPED"
      else finish (applyEff s id x) id fin
    | .lock => finish (applyEff (auditOut s o 0) id x) id fin
    | .factory => restartOrder (finish (applyEff s id x) id fin) id
    | _ => finish (applyEff s id x) id fin

/-- The write of a command has failed: nothing changes. -/
def storeFailed (s : State) (id : Nat) (x : Eff) : State :=
  let s := if x = .lock then { s with sec := { s.sec with lockPend := false } } else s
  finish s id "FAIL FAULT STORE"

/-- The write in progress has ended (R176). -/
def writeEnds (s : State) (ok : Bool) : State :=
  let mark : List StoreWrite → List StoreWrite
    | [] => []
    | w :: l => { w with ok := some ok } :: l
  let ended := s.vil.writes.takeWhile fun w => w.ok.isSome
  { s with vil := { s.vil with writes := ended ++ mark (s.vil.writes.drop ended.length) } }

/-- The journal's record of the boundary at which a write completes (R619). -/
def storeRecord (s : State) (ok : Bool) : State :=
  let s := jrnPut s 8 (s.jrn.storeSeq % 65536 + (if ok then 0 else 65536))
  { s with jrn := { s.jrn with storeSeq := s.jrn.storeSeq + 1 } }

/-- Whether a write is in progress. -/
def writing (s : State) : Bool := s.vil.writes.any fun w => w.ok.isNone

/-- The changes of the writes that have ended take effect, in order. -/
def writesTake : Nat → State → State
  | 0, s => s
  | n + 1, s =>
    match s.vil.writes with
    | [] => s
    | w :: l => match w.ok with
      | none => s
      | some ok =>
        let s := storeRecord { s with vil := { s.vil with writes := l } } ok
        writesTake n (if ok then storeDone s w.id w.eff else storeFailed s w.id w.eff)

/-- A write has ended by its time limit; one that no command has ended succeeds then (DESIGN CHOICE, log 42). -/
def writesLate : Nat → State → State
  | 0, s => s
  | n + 1, s =>
    match s.vil.writes.find? fun w => w.ok.isNone with
    | some w => if w.due ≤ s.now then writesLate n (writeEnds s true) else s
    | none => s

/-- Store writes at a boundary: what has ended takes effect (R176). -/
def storesStep (s : State) : State :=
  let s := writesLate s.vil.writes.length s
  writesTake s.vil.writes.length s

/-- STORE_WRITE_COMPLETE: the write in progress ends; at a boundary it takes effect there, and within an epoch at the next
boundary. -/
def execStoreWriteComplete (ok : Bool) (s : State) : Host.Outcome State Fault Refusal :=
  .next (if !coreRuns s || s.pwr.committed || !writing s then s
    else
      let s := writeEnds s ok
      if s.now = epochTick s s.epoch then writesTake s.vil.writes.length s else s)

end Sys2Proof.Machine
end

