-- ==== Sys2Proof/Machine/Sets.lean ====
section
/-!
DEFINITION. SET and DEFAULT (R127 to R129, R188, R190): the values of a line read in the terms of its attributes, the
checks of Table VIL-5 on them, those on the values that would stand after the whole line included, and the two commands.
-/
namespace Sys2Proof.Machine
open Sys2Proof

/-! ### One value (R126 to R129) -/

/-- A check's outcome: a failure carries its step of Table VIL-5 and its code. -/
abbrev Chk (α : Type) := Except (Nat × String) α

def synE {α : Type} : Chk α := .error (6, "SYNTAX")
def rngE {α : Type} : Chk α := .error (7, "RANGE")

/-- The detail of a RANGE refusal. -/
def rangeDetail (u : String) (lo hi st : Int) : String :=
  let f (v : Int) : String := milliStr v (stepDecimals st.natAbs) ++ u
  "RANGE LO=" ++ f lo ++ " HI=" ++ f hi ++ " STEP=" ++ f st

/-- Whether two units have one dimension. -/
def sameDim (u w : String) : Bool :=
  match unitOf u, unitOf w with | some a, some b => a.1 = b.1 | _, _ => false

/-- A number in the limits and steps of its attribute, all in thousandths of its unit. -/
def numItem (u : String) (lo hi st : Int) (a : Atom) : Chk Item :=
  let ok (n : Int) : Chk Item :=
    if fromMilli u lo ≤ n && n ≤ fromMilli u hi && n % fromMilli u st = 0 then .ok (.num n) else .error (7, rangeDetail u lo hi st)
  match a with
  | .num neg dg dc w =>
    if !sameDim u w then .error (7, "UNIT")
    else match numNano neg dg dc w with
      | some n => ok n
      | none => .error (7, rangeDetail u lo hi st)
  | .code v => if u = "" && st % 1000 = 0 then ok (v * 1000000000) else synE
  | _ => synE

/-- A word of a list, in the case in which the device sends it. -/
def wordIn (ws : List String) (w : String) : Option String := ws.find? fun x => upStr x = upStr w

/-- LINK1's RATE has a list of rates and no range (Table VIL-6). -/
def rateItem (o : Obj) (a : String) (c : Chk Item) : Chk Item :=
  if a = "RATE" && o = ⟨.session, 1⟩ then
    match c with
    | .error (7, d) => if d = "UNIT" then c else rngE
    | c => c
  else c

def wordItem (ws : List String) (a : Atom) : Chk Item :=
  match a with
  | .word w => match wordIn ws w with | some x => .ok (.word x) | none => rngE
  | _ => synE

/-- The limits of a set of objects that is one run. -/
def runDetail (rs : List ORun) : String :=
  match rs with
  | [r] => "RANGE LO=" ++ objName ⟨r.kind, r.lo⟩ ++ " HI=" ++ objName ⟨r.kind, r.hi⟩
  | _ => "RANGE"

/-- An object that a value names (R129). -/
def objItem (rs : List ORun) (a : Atom) : Chk Item :=
  match a with
  | .word w => match objOf w with
    | none => .error (6, "OBJECT")
    | some o =>
      if !(rs.any fun r => r.kind = o.kind) then .error (6, "OBJECT")
      else if rs.any fun r => r.kind = o.kind && r.lo ≤ o.n && o.n ≤ r.hi then .ok (.obj o) else .error (7, runDetail rs)
  | _ => synE

def chkErr {α : Type} (step : Nat) (c : Chk α) : Option (Nat × String) :=
  match c with | .error e => if e.1 = step then some e else none | .ok _ => none

def chkOk {α : Type} (c : Chk α) : Option α := match c with | .ok x => some x | .error _ => none

/-- All of a list, or its first failure of the earlier step. -/
def collect {α : Type} (l : List (Chk α)) : Chk (List α) :=
  match l.findSome? (chkErr 6) <|> l.findSome? (chkErr 7) with
  | some e => .error e
  | none => .ok (l.filterMap chkOk)

/-- A collected list, where a condition holds of it. -/
def guardList (c : Chk Val) (f : Val → Bool) : Chk Val :=
  match c with | .ok v => if f v then .ok v else rngE | e => e

def secondsOf : Item → Nat | .tod t => t | _ => 0
def dayItem : Item → Nat | .date y m d => dayOf y m d | _ => 0

/-- Strictly rising. -/
def rising : List Int → Bool
  | a :: b :: l => decide (a < b) && rising (b :: l)
  | _ => true

def todItem : Atom → Chk Item
  | .tod h m s _ => .ok (.tod (3600 * h + 60 * m + s))
  | _ => synE

def dateItem : Atom → Chk Item
  | .date y m d => .ok (.date y m d)
  | _ => synE

def codeItem (hi : Nat) : Atom → Chk Item
  | .code v => if v ≤ hi then .ok (.code v) else .error (7, "RANGE LO=" ++ codeStr 0 ++ " HI=" ++ codeStr hi)
  | _ => synE

/-- A zone mode, or a position. -/
def svalItem (a : Atom) : Chk Item :=
  match a with
  | .word _ => wordItem ["COMFORT", "ECONOMY", "PROTECT", "OFF"] a
  | _ => numItem "%" 0 100000 1000 a

/-! ### Values in the units of a source (R41, R391, R453) -/

/-- A source whose value is a temperature. -/
def tempSource (s : State) (v : Val) : Bool :=
  match v with
  | .word "ZONE" :: _ => true
  | .obj o :: _ => o.n < 96 && ["NTC10K", "NTC20K", "PT1000"].contains (chanMode s o.n)
  | _ => false

/-- The unit in which a value is given; none where the source fixes none. -/
def srcUnitFor (s : State) (o : Obj) (a : String) : Option String :=
  match o.kind with
  | .xing => some (srcUnit s o.n)
  | .prot => (cfgObj s o "SOURCE").map fun x => srcUnit s x.n
  | _ =>
    if hasPrefix "SOLAR" a then some "lx" else if hasPrefix "WIND" a then some "m/s" else if hasPrefix "OUTDOOR" a then some "C"
    else if hasPrefix "AQ" a then some "ppm" else if tempSource s (cfgVal s o "PV") then some "C" else none

/-- A number in 10^-9 of its base unit, toward zero: no step applies (R129). -/
def numRound (neg : Bool) (dg dc : Nat) (u : String) : Int :=
  let v : Int := ((dg * (unitSize u).toNat / 10 ^ dc : Nat) : Int)
  if neg then -v else v

/-- Whether a value itself lies within the span of its crossing's format (R41). -/
def inSpan (s : State) (x : Nat) (v : Int) : Bool :=
  let a := v * 1000000000000
  let b := srcStep s x
  if srcNtc s x then 0 ≤ v
  else if xSigned s x then -32768 * b ≤ a && a ≤ 32767 * b else 0 ≤ a && a ≤ 65535 * b

/-- The span of a crossing's format as the detail of a refusal. -/
def spanDetail (s : State) (x : Nat) : String :=
  if srcNtc s x then "RANGE LO=0ohm"
  else if xSigned s x then "RANGE LO=" ++ srcStr s x (-32768) ++ " HI=" ++ srcStr s x 32767
  else "RANGE LO=" ++ srcStr s x 0 ++ " HI=" ++ srcStr s x 65535

def srcItem (s : State) (o : Obj) (a : String) (t : Atom) : Chk Item :=
  let fin (v : Int) : Chk Item := if o.kind = .xing && !inSpan s o.n v then .error (7, spanDetail s o.n) else .ok (.num v)
  match t with
  | .word w => if a = "SP" then (if upStr w = "ZONE" then .ok (.word "ZONE") else rngE) else synE
  | .num neg dg dc u =>
    match srcUnitFor s o a with
    | some w => if sameDim w u then fin (if w = "ppm" then 10000 * numRound neg dg dc u else numRound neg dg dc u) else .error (7, "UNIT")
    | none => if (unitOf u).isSome then fin (numRound neg dg dc u) else .error (7, "UNIT")
  | .code v => if (srcUnitFor s o a).getD "" = "" then fin (v * 1000000000) else synE
  | _ => synE

/-! ### A value of an attribute -/

def wordsOf : Val → List String := List.filterMap fun i => match i with | .word w => some w | _ => none

/-- A value read in the terms of its attribute, in the state `s` in which the line's other values stand. -/
def checkVal (s : State) (o : Obj) (a : String) (ty : ATy) (t : Tok) : Chk Val :=
  match ty, t with
  | .ro, _ => .ok []
  | .enum ws, [x] => collect [wordItem ws x]
  | .num ws u lo hi st, [x] =>
    (match x with
      | .word _ => if ws.isEmpty then synE else collect [wordItem ws x]
      | _ => collect [rateItem o a (numItem u lo hi st x)])
  | .words ws alone, l => guardList (collect (l.map (wordItem (ws ++ alone)))) fun v => v.length = 1 || (wordsOf v).all (ws.contains ·)
  | .obj rs ws, [x] =>
    (match wordItem ws x with
      | .ok i => .ok [i]
      | .error _ => collect [objItem rs x])
  | .objs rs ws mx, l =>
    (match l, l.map (wordItem ws) with
      | [_], [.ok i] => .ok [i]
      | _, _ => guardList (collect (l.map (objItem rs))) fun v => v.length ≤ mx)
  | .text mx, [.str x] => if x.length ≤ mx then .ok [.str x] else rngE
  | .codes n hi, l => guardList (collect (l.map (codeItem hi))) fun v => v.length = n
  | .filter, [.word w] => if (filtOf (upStr w)).isSome then .ok [.word (upStr w)] else rngE
  | .src, [x] => collect [srcItem s o a x]
  | .tods, l =>
    (match l.map (wordItem ["NONE"]) with
      | [.ok i] => .ok [i]
      | _ => guardList (collect (l.map todItem)) fun v => v.length ≤ 8 && rising (v.map fun i => (secondsOf i : Int)))
  | .svals, l =>
    (match l.map (wordItem ["NONE"]) with
      | [.ok i] => .ok [i]
      | _ => guardList (collect (l.map svalItem)) fun v => v.length ≤ 8)
  | .dates, l =>
    (match l.map (wordItem ["NONE"]) with
      | [.ok i] => .ok [i]
      | _ => guardList (collect (l.map dateItem)) fun v =>
        v.length ≤ 2 && (match v.map dayItem with | [p, q] => p ≤ q && q ≤ p + 365 | _ => true))
  | .nums n u lo hi st, l => guardList (collect (l.map (numItem u lo hi st))) fun v => v.length = n
  | _, _ => synE

/-! ### The pairs of a line (step 6 and 7) -/

/-- The KIND or MODE that would stand after the line. -/
def kindAfter (s : State) (o : Obj) (pairs : List (String × Tok)) : String :=
  let k := kindAttr o.kind
  match pairs.find? fun p => upStr p.1 = k with
  | some (_, [.word w]) => upStr w
  | _ => cfgWord s o k

/-- A pair's attribute, where the object has it. -/
def attrFor (s : State) (o : Obj) (pairs : List (String × Tok)) (a : String) : Option AttrDef :=
  match attrDef o.kind a with
  | none => none
  | some d =>
    if !attrApplies o (kindAfter s o pairs) a then none
    else if o.kind = .session && sesAttr s (sesOf o.n) a = some "-" then none else some d

def onePair (s : State) (pairs : List (String × Tok)) (o : Obj) (p : String × Tok) : Chk ((Obj × String) × Val) :=
  let a := upStr p.1
  match attrFor s o pairs a with
  | none => .error (6, "ATTR")
  | some d => match checkVal s o a d.ty p.2 with
    | .ok v => .ok ((o, a), v)
    | .error e => .error e

/-- Every pair on every object of a range. -/
def allPairs (s : State) (os : List Obj) (pairs : List (String × Tok)) : List (Chk ((Obj × String) × Val)) :=
  os.flatMap fun o => pairs.map (onePair s pairs o)

/-- The values that would stand after a line. -/
def afterLine (s : State) (l : Pairs) : State :=
  let c := backupChange s l
  { c with cfg := (l.filter fun p => !liveAttr p.1.1 p.1.2 && p.1.1.kind != .xing).foldl (fun c p => cfgPut c p.1 p.2) c.cfg }

/-- Whether an attribute's values are given in the units of a source. -/
def inSource (o : Obj) (a : String) : Bool := match attrDef o.kind a with | some d => d.ty = .src | none => false

/-- The pairs of a line with their values; those in source units are read in the state that the others leave. -/
def readPairs (s : State) (os : List Obj) (pairs : List (String × Tok)) : Chk Pairs :=
  let plain := ((allPairs s os pairs).filterMap chkOk).filter fun p => !inSource p.1.1 p.1.2
  let h := afterLine s plain
  collect (os.flatMap fun o => pairs.map fun p => if inSource o (upStr p.1) then onePair h pairs o p else onePair s pairs o p)

/-! ### Limits that depend on other attributes (R188) -/

/-- Whether a line sets one of some attributes of an object. -/
def setsAny (l : Pairs) (o : Obj) (as : List String) : Bool := l.any fun p => p.1.1 = o && as.contains p.1.2

def isPow2 (n : Nat) : Bool := (List.range 16).any fun k => n = 2 ^ k

/-- The outputs of a drive fit its kind (Tables DRV-1 and DRV-9). -/
def outsFit (k : String) (l : List Obj) : Bool :=
  match k, l with
  | "NONE", _ => true
  | "PAIR", [o] => o.kind = .feed && o.n % 2 = 0
  | "SINGLE", [o] => o.kind = .feed
  | "DC", [o] => o.kind = .port
  | "ANALOG", [o] => o.kind = .chan
  | "FLOAT", [a, b] => a.kind = .chan && b.kind = .chan && a != b
  | _, _ => false

/-- Three thresholds that do not rise. -/
def notRising (s : State) (o : Obj) (as : List String) : Bool := !rising (as.map fun a => (cfgNano s o a).getD 0)

/-- A zone's setpoints keep half a degree (R472). -/
def setpointsOk (s : State) (o : Obj) : Bool :=
  [("CHEAT", "CCOOL"), ("EHEAT", "ECOOL"), ("PHEAT", "PCOOL")].all fun p =>
    (cfgNano s o p.1).getD 0 + 500000000 ≤ (cfgNano s o p.2).getD 0

def objsIn (v : Val) : List Obj := v.filterMap fun i => match i with | .obj o => some o | _ => none

def listLen (v : Val) : Nat := match v with | [.word "NONE"] => 0 | l => l.length

/-- A value of a schedule of a kind. -/
def svalFits (kind : String) : Item → Bool
  | .word w => w = "NONE" || kind = "MODE"
  | .num _ => kind = "POS"
  | _ => false

/-- The programs of a schedule: lists of equal length, with the values of its kind (R477, R498). -/
def schedOk (s : State) (o : Obj) : Bool :=
  dayNames.all fun d =>
    listLen (cfgVal s o d) = listLen (cfgVal s o (d ++ "V")) && (cfgVal s o (d ++ "V")).all (svalFits (cfgWord s o "KIND"))

/-- The range of CHGV or FASTI for the kind of BACKUP, with its step, for a refusal (R129, Table PWR-8). -/
def backupDetail (s : State) (a : String) : String :=
  let cell := cfgIs s pwrObj "BACKUP" "CELL"
  if a = "CHGV" then (if cell then rangeDetail "V" 2900 3200 10 else rangeDetail "V" 2500 2800 10)
  else (if cell then rangeDetail "mA" 200 2000 100 else rangeDetail "mA" 1000 10000 100)

/-- CHGV and FASTI within the ranges of the kind that BACKUP sets (Table PWR-8). -/
def backupRange (s : State) (a : String) (v : Val) : Bool :=
  let n := match v with | .num n :: _ => n | _ => 0
  let b (lo hi : Int) : Bool := lo ≤ n && n ≤ hi
  let cell := cfgIs s pwrObj "BACKUP" "CELL"
  if !hasBackup s then true
  else if a = "CHGV" then (if cell then b 2900000000 3200000000 else b 2500000000 2800000000)
  else (if cell then b 200000 2000000 else b 1000000 10000000)

/-- The rates of R119. -/
def rateListed (v : Val) : Bool := match v with | .num n :: _ => autoRates.contains (n / 1000000000).toNat | _ => true

/-- The attributes that the bit timing rests on (R500). -/
def timingAttrs : List String := ["NBR", "NSP", "NSJW", "DBR", "DSP", "DSJW"]

/-- The limit that one pair breaks, `h` being the values that would stand. -/
def pairRange (s h : State) (q : Hdr) (l : Pairs) (p : (Obj × String) × Val) : Option String :=
  let o := p.1.1
  let a := p.1.2
  let v := p.2
  let bad (b : Bool) : Option String := if b then some "RANGE" else none
  match o.kind with
  | .xing =>
    let d := descLine s o.n l (xWritten s o.n)
    bad ((a = "LO" || a = "HI") && wordVal (xSigned s o.n) d.hi < wordVal (xSigned s o.n) d.lo)
  | .pwr => if (a = "CHGV" || a = "FASTI") && !backupRange h a v then some (backupDetail h a) else none
  | .leave =>
    if (a = "STAGGER" || a = "STAGGERU") && (cfgNano h o "STAGGER").getD 0 < (cfgNano h o "STAGGERU").getD 0 then
      some ("RANGE LO=100ms HI=" ++ natStr (cfgMilli h o "STAGGER") ++ "ms STEP=10ms")
    else none
  | .point => bad ((a = "MININT" || a = "MAXINT") && (match cfgNano h o "MAXINT" with
      | some x => x ≤ (cfgNano h o "MININT").getD 0
      | none => false))
  | .session =>
    if a = "RATE" && o.n = 0 && v = [.word "AUTO"] then some (rangeDetail "bps" 9600000 3000000000 100000)
    else bad (a = "RATE" && o.n = 1 && !rateListed v)
  | .sec => bad ((a = "DENYINST" || a = "DENYOP") && (wordsOf v).any fun w => (getSes s q.ses).level < verbLevel w)
  | .fi => bad (a = "ACQ" && v = [.word "SIMUL"] && o.n % 4 != 0)
  | .counter => bad (a = "PRE" && !isPow2 (cfgNat h o "PRE"))
  | .drive =>
    bad (((a = "KIND" || a = "OUTPUT") && !outsFit (driveKind h o.n) (driveOuts h o.n))
      || (a = "POSMODEL" && !(posModels (driveKind h o.n)).contains (cfgWord h o "POSMODEL")))
  | .prot =>
    bad ((a = "ON" || a = "OFF" || a = "SENSE") && (match cfgNano h o "ON", cfgNano h o "OFF" with
      | some x, some y => if cfgIs h o "SENSE" "ABOVE" then x ≤ y else y ≤ x
      | _, _ => false))
  | .tf | .tp =>
    bad ((["WARNC", "THROTC", "SHUTC"].contains a && notRising h o ["WARNC", "THROTC", "SHUTC"])
      || (["CW", "CB", "RWB", "RBA"].contains a && !coefsOk h o))
  | .tmod => bad (["MWARNC", "MTHROTC", "MSHUTC"].contains a && notRising h o ["MWARNC", "MTHROTC", "MSHUTC"])
  | .loop =>
    bad ((["OUTCOLD", "OUTMILD"].contains a && notRising h o ["OUTCOLD", "OUTMILD"])
      || (["SUNON", "SUNOFF"].contains a && notRising h o ["SUNOFF", "SUNON"])
      || (["PERIOD", "DEADLINE", "KIND"].contains a && loopPeriod h o.n ≤ cfgMilli h o "DEADLINE"))
  | .zone => bad (!setpointsOk h o || (a = "SCHED" && (objsIn v).any fun x => !cfgIs h x "KIND" "MODE"))
  | .sched => bad (!schedOk h o)
  | .bus => if timingAttrs.contains a then timingFail h else none
  | .time => bad (a = "TZ" && (match v with | [.str t] => (tzParse t).isNone | _ => false))
  | .lan =>
    bad ((a = "BANDS" && !rising (v.map fun i => match i with | .num n => n | _ => 0))
      || (match waveOf a, v with
        | some (x, n, _), [.code hi, .code lo] => !waveOk x n hi lo
        | _, _ => false))
  | _ => none

/-- The refusal of steps 6 and 7, the limits that depend on other attributes last. -/
def pairsFail (s : State) (q : Hdr) (c : Chk Pairs) : Option String :=
  match c with
  | .error e => some e.2
  | .ok l => l.findSome? (pairRange s (afterLine s l) q l)

/-! ### Worlds, fixed settings and the store (step 9) -/


def pairWorld (s : State) (k : Sess) (o : Obj) (a : String) : Bool :=
  (objS s o.kind || keeperWrites o a) && !sReach s k

def pairRo (o : Obj) (a : String) : Bool := match attrDef o.kind a with | some d => d.role.isNone | none => false

def setStep9 (s : State) (q : Hdr) (l : Pairs) : Option String :=
  firstOf [(l.any fun p => pairWorld s q.ses p.1.1 p.1.2, "WORLD"), (l.any fun p => pairRo p.1.1 p.1.2, "RO"),
    (lockStands s && l.any fun p => lockedKey p.1, "LOCKED"),
    (storeReadOnly s && l.any fun p => attrPersists p.1.1 p.1.2, "STORE")]

/-- The lowest role that suffices for a pair; another session's attributes need INSTALLER. -/
def pairNeed (q : Hdr) (o : Obj) (a : String) : Nat :=
  let r := match attrDef o.kind a with | some d => roleNum d.role | none => 0
  max 1 (if o.kind = .session && sesOf o.n != q.ses then max 2 r else r)

/-! ### The state of the objects (step 10) -/

/-- The mode of the channel that an object names. -/
def modeOf (s : State) (o : Obj) : String := if o.n < 96 then chanMode s o.n else ""

/-- The source of a loop's input by R453. -/
def inputOk (s : State) (a : String) (o : Obj) : Bool :=
  if o.kind != .xing then true
  else if a = "DOOR" then modeOf s o = "DRY"
  else if o.n < 96 then ["NTC10K", "NTC20K", "PT1000", "V10IN", "DRY"].contains (chanMode s o.n)
  else 160 ≤ o.n && o.n < 176

/-- A cell K000 to K127 is among some inputs. -/
def fastInput (v : Val) : Bool := (objsIn v).any fun o => (o.kind = .xing || o.kind = .chan) && o.n < 128

/-- The inputs of a loop of a kind that is not OFF. -/
def loopFast (s : State) (o : Obj) : Bool := !cfgIs s o "KIND" "OFF" && (loopNames s o.n).any fun x => x.kind = .xing && x.n < 128

/-- What a CASCADE member accepts (R342). -/
def memberAccepts (a : String) (v : Val) : Bool :=
  ["SOURCE", "PRE", "CHAN", "SRCEDGE", "SRCFILT", "RUN", "SLEEP", "HALT", "CMP", "CMPINIT"].contains a || (a = "CAPMODE" && v = [.word "OFF"])

/-- A chain too long, a chain without a bottom, or a LINK at a member (R341, R342, R349). -/
def chainsBad (s : State) : Bool :=
  isCascade s 0 || (bottoms s).any (fun n => 4 < (chainOf s n).length)
    || (List.range 16).any fun n => match cfgObj s (ctObj n) "LINK" with
      | some o => isCascade s o.n || (chainOf s (chainBottom s n)).contains o.n
      | none => false

/-- The state that refuses a pair on a counter. -/
def counterState (s h : State) (o : Obj) (a : String) (v : Val) : Option String :=
  firstOf [((ctOwner s o.n).isSome, "STATE OWNED"),
    ((a = "CHAN" || a = "CAPCHAN") && (objsIn v).any (fun c => chanMode h c.n != "PULSE"), "STATE MODE"),
    (isCascade h o.n && !memberAccepts a v, "STATE CHAIN"),
    ((a = "SOURCE" || a = "LINK") && chainsBad h, "STATE CHAIN"),
    ((a = "SLEEP" || a = "SOURCE") && cfgIs h o "SLEEP" "DOZE" && (["CLK", "TICK"].contains (ctSource h o.n)) = false, "STATE SOURCE")]

/-- The feeds, ports and channels of a drive, the second feed of a pair included. -/
def driveTakes (s : State) (d : Nat) : List Obj :=
  match driveKind s d, driveOuts s d with
  | "NONE", _ => []
  | "PAIR", [o] => [o, ⟨.feed, o.n + 1⟩]
  | _, l => l

/-- The state that refuses a pair on a drive (R292, R369, R372, R393). -/
def driveRefusal (s h : State) (o : Obj) (a : String) (v : Val) : Option String :=
  let d := o.n
  let bind := a = "KIND" || a = "OUTPUT"
  let change := driveKind s d != driveKind h d || driveOuts s d != driveOuts h d
  let r := drOf s d
  let takes := driveTakes h d
  let need := if driveKind h d = "ANALOG" then "V10OUT" else if driveKind h d = "FLOAT" then "ODOUT" else ""
  firstOf [(bind && change && (r.order.isSome || r.phase != .idle || r.running), "STATE MOVING"),
    (bind && takes.any fun x => (List.range 32).any (fun e => e != d && (driveTakes h e).contains x), "STATE INUSE"),
    (bind && takes.any fun x => x.kind = .chan && (usedLoops h).any (fun n => (loopOuts h n).contains x), "STATE INUSE"),
    (bind && takes.any fun x => x.kind = .chan && chanMode h x.n != need, "STATE MODE"),
    (s.tst.heldLine && bind && (["PAIR", "SINGLE"].contains (driveKind h d) || (driveOuts h d).any (fun x => x.kind = .feed)), "UNTESTED"),
    ((a = "LOCALUP" || a = "LOCALDN") && (objsIn v).any (fun c => chanMode h c.n != "DRY"), "STATE MODE"),
    ((a = "LOCALUP" || a = "LOCALDN") && !s.cnv.calFirst && fastInput v, "UNCAL")]

/-- Whether an acquisition's FREE load grows beyond half of FC's time (R282). -/
def loadBad (s h : State) : Bool :=
  let x := fcShare s
  let y := fcShare h
  y.2 < 2 * y.1 && x.1 * y.2 < y.1 * x.2

/-- Channels in V10OUT among a group. -/
def v10Count (s : State) (g : Nat) : Nat := ((List.range 8).filter fun n => chanMode s (8 * g + n) = "V10OUT").length

/-- The state that refuses a pair (step 10), `h` being the values that would stand. -/
def pairState (s h : State) (p : (Obj × String) × Val) : Option String :=
  let o := p.1.1
  let a := p.1.2
  let v := p.2
  let uncal := !s.cnv.calFirst
  match o.kind with
  | .xing => firstOf [(!xUsed o.n, "STATE RESERVED"), (188 ≤ o.n, "STATE OWNED")]
  | .pwr => firstOf [((a = "CHGV" || a = "FASTI") && !hasBackup h, "STATE NOBACKUP")]
  | .chan =>
    firstOf [((a = "MODE" || a = "OUTV" || a = "OUT") && (chanOwner s o.n).isSome, "STATE OWNED"),
      (a = "MODE" && v = [.word "V10OUT"] && chanMode s o.n != "V10OUT" && 4 < v10Count h (o.n / 8), "STATE GROUP"),
      (a = "SCAN" && v = [.word "on"] && uncal, "UNCAL")]
  | .fi =>
    firstOf [(fiOwned s o.n || (o.n % 4 != 0 && quadSimul s o.n), "STATE OWNED"),
      (a = "ACQ" && v != [.word "OFF"] && uncal && 8 ≤ o.n, "UNCAL"), (loadBad s h, "STATE LOAD")]
  | .cell =>
    firstOf [(a = "SNAP" && (128 ≤ o.n || (cellOwner s o.n).isSome), "STATE OWNED"), (a = "VALUE" && 128 ≤ o.n, "STATE OWNED")]
  | .counter => counterState s h o a v
  | .drive => driveRefusal s h o a v
  | .prot => firstOf [(a = "SOURCE" && fastInput v && uncal, "UNCAL")]
  | .tf | .tp =>
    firstOf [(a = "AMBIENT" && (objsIn v).any (fun x => (["NTC10K", "NTC20K", "PT1000"].contains (modeOf h x)) = false), "STATE MODE"),
      (a = "THERMO" && (objsIn v).any (fun x => chanMode h x.n != "DRY"), "STATE MODE")]
  | .thm => firstOf [(a = "PANELSRC" && (objsIn v).any (fun x => (["NTC10K", "NTC20K", "PT1000"].contains (modeOf h x)) = false), "STATE MODE")]
  | .loop =>
    firstOf [((loopInputs.contains a || a = "DOOR") && (objsIn v).any (fun x => !inputOk h a x), "STATE MODE"),
      (["OUT", "OUT2", "FANV"].contains a && (objsIn v).any (fun x => x.kind = .chan && (["V10OUT", "ODOUT"].contains (modeOf h x)) = false), "STATE MODE"),
      (["OUT", "OUT2", "FANV"].contains a && (objsIn v).any (fun x => x.kind = .chan && (List.range 32).any fun d => (driveTakes h d).contains x), "STATE INUSE"),
      ((a = "KIND" || loopInputs.contains a || a = "DOOR") && uncal && loopFast h o, "UNCAL")]
  | .zone =>
    firstOf [(a = "TEMP" && (objsIn v).any (fun x => (["NTC10K", "NTC20K", "PT1000"].contains (modeOf h x)) = false), "STATE MODE"),
      (a = "PRES" && (objsIn v).any (fun x => modeOf h x != "DRY"), "STATE MODE")]
  | .filter => firstOf [(filterOwned s o.n, "STATE OWNED")]
  | .point => firstOf [(a = "INDEX" && (List.range 32).any (fun n => n != o.n && cfgNat h (pointObj n) "INDEX" = cfgNat h o "INDEX"), "STATE INUSE")]
  | .jrn =>
    let n := match v with | .num n :: _ => (n / 1000000000).toNat | _ => 0
    firstOf [(a = "SLOTFREE" && (slotExported s n || slotReplayed s n || slotCopied s n), "STATE")]
  | _ => none

/-- An AUDITACK of a line is covered by the session's export (R258). -/
def ackCovered (s : State) (q : Hdr) (l : Pairs) : Bool :=
  match lineVal l secObj "AUDITACK" with
  | some [.num n] => auditCovered s q.ses (n / 1000000000).toNat
  | _ => true

def setStep10 (s : State) (q : Hdr) (l : Pairs) : Option String :=
  firstOf [(!ackCovered s q l, "STATE")] <|> l.findSome? (pairState s (afterLine s l))

/-! ### The line as the audit journal keeps it -/

def atomStr : Atom → String
  | .word w => w
  | .num neg dg dc u => (if neg then "-" else "") ++ (if dc = 0 then natStr dg else natStr (dg / 10 ^ dc) ++ "." ++ padStr dc (dg % 10 ^ dc)) ++ u
  | .code v => codeStr v
  | .tod h m s b => padStr 2 h ++ ":" ++ padStr 2 m ++ (if b then ":" ++ padStr 2 s else "")
  | .date y m d => dateStr y m d
  | .str t => quoteStr t

/-- A pair of a line; a key is not kept. -/
def pairStr (p : String × Tok) : String :=
  upStr p.1 ++ "=" ++ (if upStr p.1 = "SEALKEY" then "*" else joinStr "," (p.2.map atomStr))

/-! ### SET (R175, R176, R188) -/

/-- A SET that starts a heavy operation: the auxiliary output on. -/
def setHeavy (s : State) (l : Pairs) : Bool := lineVal l pwrObj "AUX" = some [.word "on"] && !s.pwr.auxOn

/-- WORK0 itself writes the values of a line at the boundary of acceptance: its own objects, and the outputs of channels where
CHAN is N (R175, R272). -/
def setHere (s : State) (l : Pairs) : Bool :=
  l.all fun p => inWork0 p.1.1.kind || (p.1.1.kind = .chan && !blockS s 10)

/-- A SET of values that do not persist and that another island than WORK0 holds: it takes effect, and its records are written,
one boundary later (R175, R253). -/
def setElsewhere (s : State) (l : Pairs) : Bool :=
  !setHeavy s l && !(l.any fun p => attrPersists p.1.1 p.1.2) && !setHere s l && !(l.all fun p => p.1.1.kind = .counter)

/-- What an accepted SET does: AUX=on asks for leave first; a line that persists waits for its store write. -/
def setWorkFor (s : State) (id : Nat) (l : Pairs) : State × Work :=
  if setHeavy s l then
    (auxRequest s .manual (some id), .aux l)
  else if l.any fun p => attrPersists p.1.1 p.1.2 then (queueStore s id (.attrs l), .store (.attrs l) "DONE")
  else if l.all fun p => p.1.1.kind = .counter then
    (pairsSet s l, .reply (s.epoch + if blockS s 7 then 2 else 1) [] "DONE")
  else if setHere s l then
    if tripBlocks s l s.epoch then (s, doneNow "FAIL STATE TRIPPED" s)
    else
    let s := pairsSet s l
    (s, doneNow "DONE" s)
  else (s, .effect (s.epoch + 1) (.attrs l) "DONE")

/-- The checks of a SET. -/
def setSpec (q : Hdr) (o : ObjRange) (pairs : List (String × Tok)) (s : State) : CmdSpec :=
  let os := rangeObjs o
  let c := readPairs s os pairs
  let l := (chkOk c).getD []
  let names := pairs.map fun p => upStr p.1
  let syn := firstOf [(pairs.isEmpty || names.eraseDups.length != names.length, "SYNTAX")]
  let need := (os.flatMap fun x => names.map (pairNeed q x)).foldl max 1
  { verb := "SET", body := bodyOf (["SET", rangeStr o] ++ pairs.map pairStr), need := need, audit := some 6, auditMore := List.replicate (os.length - 1) 6 ++ (if (lineVal l secObj "AUDITACK").isSome then [19] else []), auditLate := setElsewhere s l, p67 := syn <|> rangeCheck o noAttrs <|> pairsFail s q c, p9 := setStep9 s q l, p10 := setStep10 s q l }

/-- The number that a line acknowledges, where AUDITACK stands alone on it (R258). -/
def ackAlone (o : ObjRange) (pairs : List (String × Tok)) (l : Pairs) : Option Nat :=
  match o.kind, l with
  | .sec, [(_, [.num n])] => if pairs.map (fun p => upStr p.1) = ["AUDITACK"] then some (n / 1000000000).toNat else none
  | _, _ => none

/-- SET. -/
def execSetAttr (q : Hdr) (o : ObjRange) (pairs : List (String × Tok)) (s : State) : Host.Outcome State Fault Refusal :=
  .next (lineIn (.setAttr q o pairs) q s fun s =>
    let os := rangeObjs o
    let l := (chkOk (readPairs s os pairs)).getD []
    match ackAlone o pairs l with
    | some n => auditAckOrder q n s
    | none => submit s q (setSpec q o pairs s) fun s id => setWorkFor s id l)

/-! ### DEFAULT (R190) -/

/-- The lowest role that suffices for DEFAULT of an object. -/
def defaultNeed (s : State) (o : Obj) : Nat :=
  let has (d : AttrDef) : Bool := o.kind != .session || sesAttr s (sesOf o.n) d.name != some "-"
  (((restorable o.kind).filter has).map fun d => roleNum d.role).foldl max 1

/-- The modes in which DEFAULT is accepted. -/
def defaultMode (s : State) : Bool := modeIs s [.run, .safe, .bench]

/-- The persisting values of an object that a line's checks would refuse to change. -/
def defaultState (s : State) (o : Obj) : Option String :=
  firstOf [(!defaultMode s, "STATE " ++ modeName s.ana.mode), (o.kind = .xing && !xUsed o.n, "STATE RESERVED"), (o.kind = .xing && 188 ≤ o.n, "STATE OWNED"),
    (o.kind = .chan && (chanOwner s o.n).isSome, "STATE OWNED"), (o.kind = .counter && (ctOwner s o.n).isSome, "STATE OWNED"),
    (o.kind = .fi && (fiOwned s o.n || (o.n % 4 != 0 && quadSimul s o.n)), "STATE OWNED"), (o.kind = .filter && filterOwned s o.n, "STATE OWNED"),
    (o.kind = .drive && ((drOf s o.n).order.isSome || (drOf s o.n).phase != .idle), "STATE MOVING"),
    (o.kind = .macroObj && ((macroSt s o.n).running || (macroSt s o.n).pend), "STATE"),
    (o.kind = .point && indexInUse s o.n o.n, "STATE INUSE")]

/-- A world that DEFAULT of an object changes. -/
def defaultWorld (s : State) (k : Sess) (o : Obj) : Bool := (objS s o.kind || o.kind = .drive) && !sReach s k

/-- The checks of the command below. -/
def defaultObjSpec (q : Hdr) (o : Obj) (s : State) : CmdSpec :=
  let r : ObjRange := ⟨o.kind, o.n, o.n, false⟩
  let fixed := lockStands s && (attrsOf o.kind).any fun d => d.lock
  { verb := "DEFAULT", body := bodyOf ["DEFAULT", objName o], need := defaultNeed s o, audit := some 7, p67 := rangeCheck r noAttrs, p9 := firstOf [(defaultWorld s q.ses o, "WORLD"), (fixed, "LOCKED"), (storeReadOnly s, "STORE")], p10 := defaultState s o }

/-- DEFAULT of an object. -/
def execDefaultObj (q : Hdr) (o : Obj) (s : State) : Host.Outcome State Fault Refusal :=
  .next (lineIn (.defaultObj q o) q s fun s => submit s q (defaultObjSpec q o s)
    fun s id => (queueStore s id (.defaults [o]), .store (.defaults [o]) "DONE"))

/-- The checks of the command below. -/
def defaultAllSpec (q : Hdr) (s : State) : CmdSpec :=
  { verb := "DEFAULT", body := "DEFAULT ALL CONFIRM=yes", need := 3, audit := some 7, p9 := firstOf [(!sReach s q.ses, "WORLD"), (storeReadOnly s, "STORE")], p10 := firstOf [(!defaultMode s, "STATE " ++ modeName s.ana.mode)] }

/-- DEFAULT ALL: the factory configuration, then a SOFT reset. -/
def execDefaultAll (q : Hdr) (s : State) : Host.Outcome State Fault Refusal :=
  .next (lineIn (.defaultAll q) q s fun s => submit s q (defaultAllSpec q s)
    fun s id => (queueStore s id .factory, .store .factory "DONE"))

end Sys2Proof.Machine
end

