-- ==== Sys2Proof/Machine/Modes.lean ====
section
/-!
DEFINITION. The device modes: the rows of Table ANA-7 with their priority (R28 to R31), what entering and leaving a mode
does (Tables ANA-6 and ELC-7, R223, R401, R410, R482, R601), the MODE verb (R192, R193), QUIET (R60 to R63, R82), worker
supervision with the keeper takeover and the warm restart (R23 to R26), and violations (R233, R267).
-/
namespace Sys2Proof.Machine
open Sys2Proof

/-! ### Conditions -/

/-- A drive moves, or is about to; a SINGLE drive that stands switched on does not. -/
def driveMoves (s : State) : Bool :=
  (usedDrives s).any fun d => ((drOf s d).running && driveKind s d != "SINGLE") || (drOf s d).phase != .idle

/-- A leave grant is in force or a request is queued (R60). -/
def leaveBusy (s : State) : Bool := !s.lve.grants.isEmpty || !s.lve.queue.isEmpty || !s.lve.posted.isEmpty

/-- A protection against wind, rain or frost is enabled. -/
def protEnabled (s : State) (p : Nat) : Bool :=
  (cfgObj s (protObj p) "SOURCE").isSome && (cfgNano s (protObj p) "ON").isSome && (cfgNano s (protObj p) "OFF").isSome

/-- A drive stands at its safe position. -/
def atSafe (s : State) (d : Nat) : Bool := (drOf s d).q != 2 && (posNow s d).1 = moveTarget s d .safe

/-- A drive under wind, rain or frost protection is away from its safe position (R61). -/
def quietUnsafe (s : State) : Bool :=
  [0, 1, 2].any fun p => protEnabled s p && (protDrives s p).any fun d => !atSafe s d

/-- What refuses a MODE QUIET order (R60, R61). -/
def quietBarred (s : State) : Bool := driveMoves s || leaveBusy s || !s.vil.outs.isEmpty || quietUnsafe s

/-- QUIETIDLE in ticks; none where it is off. -/
def idleTicks (s : State) : Option Nat := (cfgNano s pwrObj "QUIETIDLE").map fun v => (v / 125).toNat

/-- Activity at a boundary starts the idle time afresh. -/
def idleStep (s : State) : State :=
  if driveMoves s || leaveBusy s || !s.vil.outs.isEmpty then { s with pwr := { s.pwr with idleSince := s.now } } else s

/-- The command that orders a mode. -/
def modeOrderOf (s : State) (m : Mode) : Option Out := s.vil.outs.find? fun o => o.work = .mode m

/-- The entry to QUIET still stands: by order, unless a later command is outstanding, leave is asked for or held (R112), or
a drive stands in its way (R61); else while the device has been idle
for QUIETIDLE (R60, R82). -/
def quietStands (s : State) : Bool :=
  match modeOrderOf s .quiet with
  | some o => !(s.vil.outs.any fun p => o.id < p.id) && !leaveBusy s && !driveMoves s && !quietUnsafe s
  | none => !quietBarred s && (match idleTicks s with | some n => s.pwr.idleSince + n ≤ s.now | none => false)

/-! ### The rows of Table ANA-7 -/

/-- The modes that a row leads from.  Row 9 admits BIST and REPLAY for a takeover only (R39). -/
def rowFrom (s : State) : Nat → List Mode
  | 3 => [.start] | 4 => [.start] | 5 => [.run] | 6 => [.quiet] | 7 => [.run, .quiet] | 8 => [.cooldown]
  | 9 => [.run, .quiet, .cooldown, .bench] ++ (if s.ana.byTakeover then [.bist, .replay] else [])
  | 10 => [.safe] | 11 => [.run, .safe] | 12 => [.bench] | 13 => [.bench] | 14 => [.replay]
  | 15 => [.run, .safe, .bench] | 16 => [.bist] | _ => []

/-- The row of a MODE order from the present mode (Table ANA-7). -/
def orderRow (s : State) : Mode → Option Nat
  | .run => match s.ana.mode with | .quiet => some 6 | .safe => some 10 | .bench => some 12 | _ => none
  | .safe => if modeIs s [.run, .quiet, .cooldown, .bench] then some 9 else none
  | .quiet => if s.ana.mode = .run then some 5 else none
  | .bench => if modeIs s [.run, .safe] then some 11 else none
  | _ => none

/-- The causes that stand by themselves: rows 6, 7 and 8. -/
def ownCauses (s : State) : List ModeCause :=
  (if s.thm.tmodK = 3 then [⟨7, .cooldown⟩] else if s.thm.cdLatch then [] else [⟨8, .run⟩])
    ++ (if s.pwr.waking.isSome then [⟨6, .run⟩] else [])

/-- A cause admitted in the present mode. -/
def causeHolds (s : State) (c : ModeCause) : Bool :=
  modeIs s (rowFrom s c.row) && (c.row != 5 || quietStands s)

/-- A transition to RUN that falls due while the module model is at SHUTDOWN leads to COOL-DOWN by row 17 (R31). -/
def causeTo (s : State) (c : ModeCause) : ModeCause :=
  if (c.row = 10 || c.row = 12 || c.row = 16) && c.target = .run && s.thm.tmodK = 3 then ⟨17, .cooldown⟩ else c

/-- The order of R30. -/
def causeKey (c : ModeCause) : Nat := if c.target = .safe then 0 else if c.target = .cooldown then 1 else c.row + 1

/-- The first of some causes, with the cause that it came from. -/
def firstCause (s : State) : List ModeCause → Option (ModeCause × ModeCause)
  | [] => none
  | c :: l =>
    match firstCause s l with
    | none => some (c, causeTo s c)
    | some p => if causeKey p.2 < causeKey (causeTo s c) then some p else some (c, causeTo s c)

/-! ### Outputs of the modes (Table ELC-7, R691) -/

/-- Every ODOUT channel off. -/
def odOff (s : State) : State :=
  (List.range 96).foldl (fun s u => if chanMode s u = "ODOUT" then setOd s u false else s) s

/-- Every ANALOG drive's channel at the voltage of a position. -/
def analogPut (s : State) (f : State → Nat → Nat) : State :=
  (usedDrives s).foldl (fun s d => if driveKind s d = "ANALOG" then setV10 s (firstOut s d) (analogMv s d (f s d)) else s) s

/-- ANALOG drives are held at their safe positions. -/
def analogSafe (s : State) : State :=
  let s := analogPut s fun s d => moveTarget s d .safe
  (usedDrives s).foldl (fun s d => if driveKind s d = "ANALOG" then modDr s d fun r => { r with pos := moveTarget s d .safe, q := 0 } else s) s

/-! ### Warm restart of the workers (R24, R25) -/

/-- A session after a warm restart: no role, nothing queued, and nothing read. -/
def sesWarm (s : State) (k : Sess) : State :=
  let s := roleEnd s k "RESTART"
  modSes s k fun x => { lineClear x with waiting := [], freed := [], nq := [], seq := 0, nlost := 0 }

/-- Lines received and not delivered are discarded (R161). -/
def bytesLost (s : State) : State :=
  { s with vil := { s.vil with kept := [] }, ana := { s.ana with bufW0 := s.ana.bufW0.filter fun r => r.x != 194 && r.x != 195 } }

/-- A macro after a warm restart. -/
def macroWarm (x : MacroSt) : MacroSt :=
  { x with running := false, pend := false, awaiting := false, line := 1, cmd := none, cmdPend := none }

/-- Both workers are held in reset for 1 ms; every outstanding command ends, every session loses its role, and what the
workers held is gone but positions, holds and the configuration. -/
def warmRestart (s : State) : State :=
  let s := s.vil.outs.foldl (fun s o => finishOut s o "FAIL ABORTED") s
  let s := bytesLost (portSess.foldl sesWarm s)
  let s := { s with vil := { s.vil with macros := s.vil.macros.map fun p => (p.1, macroWarm p.2), triggers := [], late := s.vil.late.filter fun l => !fromWork1 l.name } }
  let s := grantsOrphan (leaveDrop s isWorkerHolder)
  let s := { s with lve := { s.lve with answers := s.lve.answers.filter fun m => !isWorkerHolder m.h } }
  let s := { s with drv := { s.drv with drives := s.drv.drives.map fun p => (p.1, driveForgets p.2), prots := [], results := [], lostAct := none, sealEnds := [] } }
  let s := busWarm (lanWarm (climRestart s))
  { s with ana := { s.ana with workersReset := some (s.now + tickMs), beat0 := false, beat1 := false, seen0 := false, seen1 := false, miss0 := 0, miss1 := 0 } }

/-! ### Leaving and entering a mode -/

/-- A replay is over: the bench's own state is back, and the drives stand where they stood at the entry to BENCH. -/
def replayOver (s : State) (m : Mode) : State := drivesUnbench (replayLeave s) m

/-- What leaving the present mode does before the mode changes. -/
def modeLeaves (s : State) (m : Mode) : State :=
  match s.ana.mode with
  | .bench => if m = .replay then s else drivesUnbench s m
  | .replay => if s.jrn.rpl.isSome then warmRestart (replayOver s m) else s
  | _ => s

def wakeCode : WakeSrc → Nat
  | .link => 1 | .can => 2 | .channel => 3 | .rtc => 4 | .reset => 5

def wakeName : WakeSrc → String
  | .link => "LINK" | .can => "CAN" | .channel => "CHANNEL" | .rtc => "RTC" | .reset => "RESET"

/-- Worker supervision starts afresh: no miss, and 300 ms for the first heartbeat. -/
def superviseAnew (s : State) : State :=
  { s with ana := { s.ana with beat0 := false, beat1 := false, miss0 := 0, miss1 := 0, seen0 := false, seen1 := false, workerFrom := s.now, window := s.epoch / 10 } }

/-- A partial line counts its time from the return (R166). -/
def rxAnew (s : State) (k : Sess) : State :=
  modSes s k fun x => { x with rxStart := x.rxStart.map fun _ => s.now }

/-- The return from QUIET (R63). -/
def quietLeft (s : State) : State :=
  let s := refEnable (cellsRestart (countWake (thermWake (busWakes s))))
  let s := superviseAnew { s with pwr := { s.pwr with quietReturn := some s.now, idleSince := s.now } }
  let s := if cfgOn s pwrObj "AUX" && !s.pwr.auxOn then auxRequest s .routine none else s
  let s := match s.pwr.waking with
    | some w => notify { s with pwr := { s.pwr with waking := none, quietSrc := wakeCode w, wakes := satInc 4095 s.pwr.wakes } } "PWR.WAKE" none ("SRC=" ++ wakeName w)
    | none => s
  rtsFollows (holdPasses (holdPasses (portSess.foldl rxAnew s) 0) 1)

/-- The entry to QUIET (R62). -/
def quietEntered (s : State) : State :=
  let s := lanMode (busQuietEntry (timeQuietEntry s)) .quiet
  let s := countSleep (thermSleep (climSleep (protsSleep s)))
  let s := portsLow (outputsOff (convQuiet (cellsRestart s)))
  let s := if cfgOn s pwrObj "AUXQUIET" then s else { leaveReturn s .aux with pwr := { (leaveReturn s .aux).pwr with auxOn := false } }
  { s with pwr := { s.pwr with fast := false, waking := none } }

/-- Start-up is over (Table PWR-2): the BOOT record of the audit journal, and the anchor of R624. -/
def startEnds (s : State) : State :=
  let s := auditInternal s 1 (joinStr " " (["BOOT", resetName s.pwr.rstKind] ++ heldNames s))
  jrnAnchor { s with pwr := { s.pwr with started := true, idleSince := s.now } } 0

/-- A wake by reset is told once the block runs (R243). -/
def wakeTold (s : State) : State :=
  if s.pwr.quietSrc = 5 && s.pwr.wakes = 0 then notify { s with pwr := { s.pwr with wakes := 1 } } "PWR.WAKE" none "SRC=RESET" else s

/-- The auxiliary output is asked for where its attribute is on (R355). -/
def auxOnStart (s : State) : State := if cfgOn s pwrObj "AUX" then auxRequest s .routine none else s

/-- The macros bound to START are due at the next epoch (R216). -/
def startMacros (s : State) : State :=
  { s with vil := { s.vil with triggers := s.vil.triggers ++ (s.vil.binds.filter fun b => b.event = "START").map fun b => ⟨b.m, s.epoch + 1⟩ } }

/-- RUN from START: counters, the auxiliary output, the start macro and SEC.KEY-UNSET (R243, R291, R355,
R216). -/
def runStarts (s : State) : State :=
  let s := startMacros (auxOnStart (countStart (wakeTold s)))
  if keyStoredFor s .maker then s else notify s "SEC.KEY-UNSET"

/-- What entering a mode from `old` does after the mode has changed. -/
def modeEnters (s : State) (old m : Mode) : State :=
  let s := if old = .quiet then quietLeft s else s
  let s := if (old = .bench || old = .replay) && m != .replay && m != .bench then analogPut s fun s d => (drOf s d).pos else s
  let s := if old = .start then superviseAnew (startEnds s) else s
  match m with
  | .run =>
    let s := if old = .start then runStarts s else { s with tst := { s.tst with safeQuick := false } }
    if s.tst.heldJournal then notify s "JRN.DISABLED" none else s
  | .safe =>
    let s := climPark (analogSafe (portsLow (drivesStop s .safe))) true
    let s := lanMode (odOff s) .safe
    if old = .start then { s with tst := { s.tst with safeQuick := s.tst.qfail } } else s
  | .cooldown => coolEntry (lanMode (portsLow (drivesStop s .cooldown)) .cooldown)
  | .bist => bistEnter (lanMode (odOff (climPark (portsLow (drivesStop s .bist)) false)) .bist) old
  | .replay => replayEnter (lanMode (drivesStop s .replay) .replay)
  | .bench => drivesBench (analogPut (loopsSet s "SAFEOUT") fun s d => moveTarget s d .safe)
  | .quiet => quietEntered s
  | _ => s

/-- The transition by a row to a mode; `auto`: it counts as an automatic return (R26). -/
def modeGo (s : State) (c : ModeCause) (auto : Bool) : State :=
  let old := s.ana.mode
  let told := s.ana.byTakeover
  let s := if c.target = .replay then jrnPut s 0x0D (modeCode c.target + 16 * c.row) else s
  let s := modeLeaves s c.target
  let keep := s.ana.byTakeover && (c.target = .safe || c.target = .bist)
  let s := { s with ana := { s.ana with mode := c.target, prev := some old, cause := c.row, modeSince := s.now, byTakeover := keep, returns := if auto then s.now :: lastDay s s.ana.returns else s.ana.returns } }
  let s := if c.target = .replay then s else jrnPut s 0x0D (modeCode c.target + 16 * c.row)
  let s := modeEnters s old c.target
  if c.row = 9 && told then s else notify s "SYS.MODE" none ("MODE=" ++ modeName c.target)

/-- A command that waited for a mode ends, with its audit record (R253). -/
def modeFinish (s : State) (o : Out) (body : String) : State :=
  finish (if failNum body = 0 then auditOut s o 0 else s) o.id body

/-- One MODE order, or the REPLAY START, after the decision of a boundary. -/
def modeAnswer (s : State) (o : Out) : State :=
  match o.work with
  | .mode m =>
    if s.ana.mode = m then modeFinish s o ("DONE MODE=" ++ modeName m)
    else if m = .run && s.ana.mode = .cooldown && s.ana.cause = 17 then modeFinish s o "DONE MODE=COOL-DOWN"
    else if s.ana.causes.any fun c => c.target = m then s
    else modeFinish s o "FAIL STATE"
  | .replay =>
    if s.jrn.rplReq.isSome && !(s.ana.causes.any fun c => c.target = .replay) then
      finish { s with jrn := { s.jrn with rplReq := none } } o.id "FAIL STATE"
    else s
  | _ => s

def modeAnswers (s : State) : State := s.vil.outs.foldl modeAnswer s

/-- The decision of a boundary (R28, R30): at most one transition; a cause that loses stays while it still holds. -/
def modeDecide (s : State) : State :=
  let cands := (s.ana.causes ++ ownCauses s).filter (causeHolds s)
  let s := { s with ana := { s.ana with causes := s.ana.causes.filter (causeHolds s) } }
  match firstCause s cands with
  | none => modeAnswers s
  | some (c, t) =>
    let auto := c.row = 10 && (modeOrderOf s .run).isNone
    let s := modeGo { s with ana := { s.ana with causes := s.ana.causes.filter fun x => x != c } } t auto
    modeAnswers { s with ana := { s.ana with causes := s.ana.causes.filter (causeHolds s) } }

/-! ### The MODE verb (R192, R193) -/

/-- The lowest role for a target from the present mode (Tables VRB-2 and SEC-2). -/
def modeNeed (s : State) : Mode → Nat
  | .run => match s.ana.mode with | .safe => 2 | .bench => 3 | _ => 1
  | .safe => 2
  | .bench => 3
  | _ => 1

/-- A quick self-test fault that keeps the device in SAFE (R654). -/
def quickKeeps (s : State) : Bool := s.tst.safeQuick && (s.tst.faults &&& 0xF#10) != 0

/-- Why a MODE order is refused at step 10. -/
def modeRefused (s : State) (m : Mode) : Option String :=
  if s.ana.mode = m then none
  else if (orderRow s m).isNone then some "STATE"
  else if m = .run && s.ana.mode = .safe && quickKeeps s then some "STATE FAULT"
  else if m = .quiet && quietBarred s then some "STATE"
  else none

/-- The checks of a MODE order. -/
def modeSpec (q : Hdr) (m : Mode) (s : State) : CmdSpec :=
  { verb := "MODE", body := "MODE " ++ modeName m, need := modeNeed s m, p9 := worldFail s q.ses .moduleObj, p10 := modeRefused s m, audit := some 10, auditLate := true, auditFree := m = .safe }

/-- A MODE order: the transition falls due at the next boundary, where its final line is queued. -/
def modeOrder (q : Hdr) (m : Mode) (s : State) : State :=
  submit s q (modeSpec q m s)
    fun s id =>
      if s.ana.mode = m then
        let s := match findOut s id with | some o => auditOut s o 0 | none => s
        (s, doneNow ("DONE MODE=" ++ modeName m) s)
      else
        let s := if m = .run then { s with ana := { s.ana with stay := false } } else s
        (match orderRow s m with | some r => addCause s r m | none => s, .mode m)

def execModeRun (q : Hdr) (s : State) : Host.Outcome State Fault Refusal := .next (lineIn (.modeRun q) q s (modeOrder q .run))
def execModeSafe (q : Hdr) (s : State) : Host.Outcome State Fault Refusal := .next (lineIn (.modeSafe q) q s (modeOrder q .safe))
def execModeQuiet (q : Hdr) (s : State) : Host.Outcome State Fault Refusal := .next (lineIn (.modeQuiet q) q s (modeOrder q .quiet))
def execModeBench (q : Hdr) (s : State) : Host.Outcome State Fault Refusal := .next (lineIn (.modeBench q) q s (modeOrder q .bench))

/-- The checks of the command below. -/
def modeRestartSpec (q : Hdr) (s : State) : CmdSpec :=
  { verb := "MODE", body := "MODE RESTART", need := 2, p9 := worldFail s q.ses .moduleObj, audit := some 10 }

/-- MODE RESTART: its final line, the end of every other command, and a SOFT reset within 100 ms. -/
def execModeRestart (q : Hdr) (s : State) : Host.Outcome State Fault Refusal :=
  .next (lineIn (.modeRestart q) q s fun s => submit s q (modeRestartSpec q s)
    fun s id => (restartOrder (finish s id ("DONE MODE=" ++ modeName s.ana.mode)) id, .cancel))

/-! ### QUIET by idleness, and wakes (R60 to R63) -/

/-- QUIETIDLE_EXPIRY: the device has been idle for QUIETIDLE minutes; the entry falls due at the next boundary. -/
def execQuietidleExpiry (s : State) : Host.Outcome State Fault Refusal :=
  .next (if s.ana.mode != .run || quietBarred s then s
    else atTick s ((idleTicks s).map (s.pwr.idleSince + ·)) fun s => addCause s 5 .quiet)

/-- QUIET_WAKE: a wake event of Table PWR-5; the RESET pad wakes through its own reset. -/
def execQuietWake (src : WakeSrc) (s : State) : Host.Outcome State Fault Refusal :=
  .next (if s.ana.mode = .quiet && src != .reset then { s with pwr := { s.pwr with waking := some (s.pwr.waking.getD src) } } else s)

/-- The dry-contact channels marked as wake inputs. -/
def wakeChans (s : State) : List Nat :=
  (List.range 96).filter fun u => chanMode s u = "DRY" && cfgOn s ⟨.chan, u⟩ "WAKE"

/-- WAKE_CHANNEL_SAMPLE: a change of a wake input wakes the device.  The first sample in QUIET is compared with the levels
of the last sample of an earlier QUIET, all open at reset, since the spec takes no baseline at the entry (DESIGN CHOICE,
log 85). -/
def execWakeChannelSample (levels : BitVec 96) (s : State) : Host.Outcome State Fault Refusal :=
  .next (if s.ana.mode != .quiet then s
    else
      let s := if (wakeChans s).any fun u => levels.getLsbD u != s.pwr.wakeLevels.getLsbD u then { s with pwr := { s.pwr with waking := some (s.pwr.waking.getD .channel) } } else s
      { s with pwr := { s.pwr with wakeLevels := levels } })

/-- RTC_ALARM: the earliest switch point has come (R481). -/
def execRtcAlarm (s : State) : Host.Outcome State Fault Refusal :=
  .next (if s.ana.mode != .quiet then s
    else match nextSwitch s with
      | some t => atTick s (some (tickOf s (t * netSec))) fun s => { s with pwr := { s.pwr with waking := some (s.pwr.waking.getD .rtc) } }
      | none => s)

/-! ### Supervision (R23 to R26) -/

/-- The first heartbeats of both workers after a warm restart: SYS.WORKER-RESTART on every session (R25, Table ANA-5). -/
def restartTold (s : State) : State :=
  if s.ana.restarted && s.ana.seen0 && s.ana.seen1 then
    lateNotices (notify { s with ana := { s.ana with restarted := false } } "SYS.WORKER-RESTART")
  else s

/-- A keeper takeover (R23): counted, the drives stopped directly, the workers restarted, and SAFE at the boundary.  A
takeover in a SAFE that was entered otherwise (MODE SAFE, a failed start) leads to no automatic return, since R26 speaks
of the return from the SAFE of a takeover (DESIGN CHOICE, log 84). -/
def takeover (s : State) : State :=
  let times := s.now :: lastDay s s.ana.takeovers
  let safe := s.ana.mode = .safe
  let s := { s with ana := { s.ana with takeovers := times, tkTotal := satInc 65535 s.ana.tkTotal, stay := s.ana.stay || 4 ≤ times.length, goodWindows := 0 } }
  let s := if s.ana.mode = .replay then replayOver s .safe else s
  let s := bistTaken (drivesStop s .safe)
  let s := auditInternal (jrnTrigger s 8) 10 "TAKEOVER"
  let s := warmRestart s
  let s := notify s "SYS.SAFE"
  if safe then s else addCause { s with ana := { s.ana with byTakeover := true } } 9 .safe

/-- A worker's miss count after a window: a worker has 300 ms from its release for its first heartbeat (R24). -/
def missStep (s : State) (beat seen : Bool) (n : Nat) : Nat :=
  if beat then 0 else if seen || s.ana.workerFrom + 300 * tickMs ≤ s.now then n + 1 else n

/-- A window of 10 epochs is over. -/
def windowCloses (s : State) : State :=
  let a := s.ana
  let m0 := missStep s a.beat0 a.seen0 a.miss0
  let m1 := missStep s a.beat1 a.seen1 a.miss1
  let good := if a.beat0 && a.beat1 then a.goodWindows + 1 else 0
  let s := { s with ana := { a with window := s.epoch / 10, beat0 := false, beat1 := false, miss0 := m0, miss1 := m1, goodWindows := good } }
  if 3 ≤ m0 || 3 ≤ m1 then takeover s else s

/-- Supervision rests in OFF, START, QUIET, after a commit and while the workers are held in reset. -/
def supervised (s : State) : Bool :=
  coreRuns s && !s.pwr.committed && !modeIs s [.off, .start, .quiet] && s.ana.workersReset.isNone

/-- The window in progress is over and has not been counted. -/
def windowOver (s : State) : Bool := supervised s && decide (10 * (s.ana.window + 1) ≤ s.epoch)

/-- HEARTBEAT_WINDOW_CLOSE: at the end of a window. -/
def execHeartbeatWindowClose (s : State) : Host.Outcome State Fault Refusal :=
  .next (if windowOver s then windowCloses s else s)

/-- WORKER_HEARTBEAT: nothing from a worker held in reset.  A window that is over closes before a heartbeat of the next. -/
def beatsIn (s : State) (w : Fin 2) : State :=
  let s := if windowOver s then windowCloses s else s
  if s.ana.workersReset.isSome then s
  else restartTold (if w = 0 then { s with ana := { s.ana with beat0 := true, seen0 := true } }
    else { s with ana := { s.ana with beat1 := true, seen1 := true } })

def execWorkerHeartbeat (w : Fin 2) (s : State) : Host.Outcome State Fault Refusal :=
  .next (if supervised s then beatsIn s w else s)

/-- The window that ends at this boundary brings a takeover, which the decision of the boundary must see (R30); a window
that ended before it is counted now. -/
def windowStep (s : State) : State :=
  if windowOver s && (10 * (s.ana.window + 1) < s.epoch || 3 ≤ missStep s s.ana.beat0 s.ana.seen0 s.ana.miss0
      || 3 ≤ missStep s s.ana.beat1 s.ana.seen1 s.ana.miss1) then windowCloses s
  else s

/-- A protection whose source fails at the release is FAILSAFE at once. -/
def protWarm (s : State) (p : Nat) : State :=
  match cfgObj s (protObj p) "SOURCE" with
  | some o => if xFailing s o.n then protState s p 2 else s
  | none => s

/-- The workers are released (R24, R25). -/
def workersStart (crcOk : Bool) (s : State) : State :=
  let s := superviseAnew { s with ana := { s.ana with workersReset := none, goodWindows := 0 } }
  let s := if crcOk then s
    else
      let s := { s with cfg := s.stored }
      (usedDrives s).foldl (fun s d => modDr s d fun r => { r with q := 2, pos := 0 }) s
  let s := (List.range 4).foldl protWarm s
  jrnAnchor { s with ana := { s.ana with restarted := true } } 1

/-- WORKER_RELEASE. -/
def execWorkerRelease (crcOk : Bool) (s : State) : Host.Outcome State Fault Refusal :=
  .next (if coreRuns s then atTick s s.ana.workersReset (workersStart crcOk) else s)

/-- An automatic return is due (R26). -/
def autoReturns (s : State) : Bool :=
  s.ana.mode = .safe && s.ana.byTakeover && !s.ana.stay && 100 ≤ s.ana.goodWindows
    && (lastDay s s.ana.returns).length < 3 && !s.tst.safeQuick

/-- SAFE_AUTO_RETURN. -/
def execSafeAutoReturn (s : State) : Host.Outcome State Fault Refusal :=
  .next (if coreRuns s && autoReturns s then addCause s 10 .run else s)

/-- SEC_VIOLATION: a blocked access of a worker; a takeover where the worker runs (R233, R267). -/
def execSecViolation (w : Fin 2) (addr : Word) (s : State) : Host.Outcome State Fault Refusal :=
  .next (if !coreRuns s || s.pwr.committed || s.ana.mode = .off then s
    else
      let who := "WORK" ++ natStr w.val
      let s := auditInternal s 20 (joinStr " " ["VIOLATION", who, codeStr addr.toNat])
      let s := notify { s with sec := { s.sec with viol := satInc 65535 s.sec.viol, violBy := w.val + 1 } } "SEC.VIOLATION" none ("WORKER=" ++ who ++ " ADDR=" ++ codeStr addr.toNat)
      if s.ana.workersReset.isSome then s else takeover s)

end Sys2Proof.Machine
end

