-- ==== Sys2Proof/Machine/Lines.lean ====
section
/-!
DEFINITION. From a line to a command (*The Vilpi command language*, R121 to R137, R142; *Vilpi verb reference*, R170):
the frame, the tag, the verb, its operands and pairs, and the order of the checks; lines as they wait to be read
(R132, R177); the lines of macros (R213, R214).
-/
namespace Sys2Proof.Machine
open Sys2Proof

/-! ### Operands -/

/-- A line as the grammar of its verb takes it. -/
structure CmdLine where
  q : Hdr
  /-- Keywords are to be given in full (R130). -/
  full : Bool
  level : Nat
  pos : List Arg
  prs : List (Nat × String × Tok)
  /-- The column after the end of the line. -/
  eol : Nat

/-- A refusal at step 6 that names a column. -/
def colE {α : Type} (c : Nat) : Chk α := .error (6, "SYNTAX COL=" ++ natStr c)

def argCol : Arg → Nat
  | .val c _ => c | .range c _ _ => c | .pair c _ _ => c

/-- The first failure of the earliest step. -/
def firstErr : List (Option (Nat × String)) → Option (Nat × String)
  | [] => none
  | none :: l => firstErr l
  | some e :: l => match firstErr l with | some f => if f.1 < e.1 then some f else some e | none => some e

def err? {α : Type} : Chk α → Option (Nat × String)
  | .ok _ => none | .error e => some e

def okOr {α : Type} (d : α) : Chk α → α
  | .ok x => x | .error _ => d

/-- The command, where no check has failed. -/
def build (errs : List (Option (Nat × String))) (i : Instr) : Chk Instr :=
  match firstErr errs with | some e => .error e | none => .ok i

/-- A code of step 6 without a column takes the column of its token. -/
def atCol {α : Type} (c : Nat) : Chk α → Chk α
  | .error (n, e) => .error (n, if e = "SYNTAX" then "SYNTAX COL=" ++ natStr c else e)
  | x => x

/-- A keyword in full, or in typed form by a prefix of three characters or more that one keyword alone has (R130). -/
def kw (full : Bool) (ws : List String) (c : Nat) (w : String) (unknown : Nat × String) : Chk String :=
  let u := upStr w
  match ws.find? fun x => upStr x = u with
  | some x => .ok x
  | none =>
    if u.length < 3 then .error unknown
    else match ws.filter fun x => hasPrefix u (upStr x) with
      | [] => .error unknown
      | [x] => if full then colE c else .ok x
      | l => if full then colE c else .error (6, "AMBIG " ++ joinStr "," l)

/-- Operands, then pairs (R170). -/
def splitArgs : List Arg → Chk (List Arg × List (Nat × String × Tok))
  | [] => .ok ([], [])
  | .pair c n t :: l =>
    match splitArgs l with
    | .ok ([], ps) => .ok ([], (c, n, t) :: ps)
    | .ok (a :: _, _) => colE (argCol a)
    | .error e => .error e
  | a :: l =>
    match splitArgs l with
    | .ok (as, ps) => .ok (a :: as, ps)
    | .error e => .error e

/-- Where an operand that is not there should stand. -/
def missCol (l : CmdLine) : Nat := match l.prs with | p :: _ => p.1 | [] => l.eol

def posAt (l : CmdLine) (n : Nat) : Chk Arg :=
  match l.pos[n]? with | some a => .ok a | none => colE (missCol l)

/-- No operand beyond the first `n`. -/
def only (l : CmdLine) (n : Nat) : Option (Nat × String) :=
  match l.pos[n]? with | some a => err? (colE (α := Unit) (argCol a)) | none => none

/-- The operand is one word. -/
def posWord (l : CmdLine) (n : Nat) : Chk (Nat × String) :=
  match posAt l n with
  | .ok (.val c [.word w]) => .ok (c, w)
  | .ok a => colE (argCol a)
  | .error e => .error e

def posAtom (l : CmdLine) (n : Nat) : Chk (Nat × Atom) :=
  match posAt l n with
  | .ok (.val c [a]) => .ok (c, a)
  | .ok a => colE (argCol a)
  | .error e => .error e

/-- A keyword as an operand: one that the grammar fixes, or a value among several. -/
def posKw (l : CmdLine) (n : Nat) (ws : List String) (fixed : Bool) : Chk String :=
  match posWord l n with
  | .ok (c, w) => kw l.full ws c w (if fixed then (6, "SYNTAX COL=" ++ natStr c) else (7, "RANGE"))
  | .error e => .error e

/-- A name that stands for one object. -/
def posObj (l : CmdLine) (n : Nat) : Chk Obj :=
  match posWord l n with
  | .ok (_, w) => (match objOf w with | some o => .ok o | none => .error (6, "OBJECT"))
  | .error e => .error e

def posKind (l : CmdLine) (n : Nat) (k : ObjKind) : Chk Obj :=
  match posObj l n with
  | .ok o => if o.kind = k then .ok o else .error (6, "OBJECT")
  | .error e => .error e

/-- An object or an object range (R173). -/
def posRange (l : CmdLine) (n : Nat) : Chk ObjRange :=
  match posAt l n with
  | .ok (.val _ [.word w]) => (match objOf w with | some o => .ok ⟨o.kind, o.n, o.n, false⟩ | none => .error (6, "OBJECT"))
  | .ok (.range _ a b) =>
    (match objOf a, objOf b with
      | some x, some y => if x.kind = y.kind && x.n ≤ y.n then .ok ⟨x.kind, x.n, y.n, x.n != y.n⟩ else .error (6, "OBJECT")
      | _, _ => .error (6, "OBJECT"))
  | .ok a => colE (argCol a)
  | .error e => .error e

def noRange : ObjRange := ⟨.drive, 0, 0, false⟩

def driveRange (l : CmdLine) (n : Nat) : Chk ObjRange :=
  match posRange l n with
  | .ok o => if o.kind = .drive then .ok o else .error (6, "OBJECT")
  | .error e => .error e

/-- Drives, or ALL. -/
def drivesOrAll (l : CmdLine) : Chk (Option ObjRange) :=
  match posAt l 0 with
  | .ok (.val _ [.word w]) => if upStr w = "ALL" then .ok none else (driveRange l 0).map some
  | _ => (driveRange l 0).map some

abbrev Named := List (String × Nat × Tok)

/-- The pairs of a line under the names that its verb has; a name given twice fails at the second (R170). -/
def pairsUnder (l : CmdLine) (names : List String) : Chk Named :=
  l.prs.foldl (fun acc p =>
    match acc with
    | .error e => .error e
    | .ok ps =>
      match kw l.full names p.1 p.2.1 (6, "SYNTAX COL=" ++ natStr p.1) with
      | .error e => .error e
      | .ok n => if ps.any (·.1 = n) then colE p.1 else .ok (ps ++ [(n, p.1, p.2.2)])) (.ok [])

def pairOf (c : Chk Named) (name : String) : Option (Nat × Tok) :=
  match c with | .ok ps => (ps.find? (·.1 = name)).map (·.2) | .error _ => none

/-- A pair that the verb needs. -/
def given (l : CmdLine) (c : Chk Named) (name : String) : Option (Nat × String) :=
  match c with
  | .ok ps => if ps.any (·.1 = name) then none else err? (colE (α := Unit) l.eol)
  | .error _ => none

/-- One value, where the pair is there. -/
def opt {α : Type} (f : Nat × Tok → Chk α) : Option (Nat × Tok) → Chk (Option α)
  | none => .ok none
  | some p => match f p with | .ok x => .ok (some x) | .error e => .error e

def oneAtom (p : Nat × Tok) : Chk (Nat × Atom) :=
  match p.2 with | [a] => .ok (p.1, a) | _ => colE p.1

def itemNat : Item → Nat
  | .num v => (v / 1000000000).toNat
  | _ => 0

/-- A dimensionless integer. -/
def intTok (lo hi : Int) (p : Nat × Tok) : Chk Nat :=
  match oneAtom p with
  | .error e => .error e
  | .ok (c, a) => match atCol c (numItem "" (lo * 1000) (hi * 1000) 1000 a) with | .ok i => .ok (itemNat i) | .error e => .error e

/-- A number in whole units of a dimension. -/
def unitTok (u : String) (hi : Int) (p : Nat × Tok) : Chk Nat :=
  match oneAtom p with
  | .error e => .error e
  | .ok (c, a) => match atCol c (numItem u 0 (hi * 1000) 1000 a) with | .ok i => .ok (itemNat i) | .error e => .error e

/-- Integer codes. -/
def codesTok (p : Nat × Tok) : Chk (List Word) :=
  if p.2.all fun a => match a with | .code _ => true | _ => false then
    .ok (p.2.filterMap fun a => match a with | .code v => some (BitVec.ofNat 32 v) | _ => none)
  else colE p.1

/-- A 32-bit value: a code, or a number that is not negative. -/
def wordTok (p : Nat × Tok) : Chk Word :=
  match oneAtom p with
  | .ok (_, .code v) => .ok (BitVec.ofNat 32 v)
  | .ok (c, _) => (intTok 0 2147483647 (c, p.2)).map (BitVec.ofNat 32)
  | .error e => .error e

def codeTok (p : Nat × Tok) : Chk Word :=
  match p.2 with | [.code v] => .ok (BitVec.ofNat 32 v) | _ => colE p.1

/-- A time in milliseconds: whole steps within its limits. -/
def msTok (lo hi step : Nat) (detail : String) (p : Nat × Tok) : Chk Nat :=
  match oneAtom p with
  | .error e => .error e
  | .ok (_, .num neg dg dc w) =>
    if !sameDim "ms" w then .error (7, "UNIT")
    else match numNano neg dg dc w with
      | some n =>
        let ms := (n / 1000000).toNat
        if 0 ≤ n && n % 1000000 = 0 && lo ≤ ms && ms ≤ hi && ms % step = 0 then .ok ms else .error (7, detail)
      | none => .error (7, detail)
  | .ok (c, _) => colE c

/-- A word among values, or on and off. -/
def wordTokOf (l : CmdLine) (ws : List String) (p : Nat × Tok) : Chk String :=
  match p.2 with
  | [.word w] => kw l.full ws p.1 w (7, "RANGE")
  | _ => colE p.1

def strTok (p : Nat × Tok) : Chk String :=
  match p.2 with | [.str t] => .ok t | _ => colE p.1

def slotTok (p : Nat × Tok) : Chk (Fin 4) := (intTok 0 3 p).map fun n => if h : n < 4 then ⟨n, h⟩ else 0

/-- CONFIRM=yes. -/
def confirmed (l : CmdLine) (c : Chk Named) : List (Option (Nat × String)) :=
  [err? c, given l c "CONFIRM", err? (opt (wordTokOf l ["yes"]) (pairOf c "CONFIRM"))]

/-! ### The verbs -/

def roleWords : List String := ["OPERATOR", "INSTALLER", "MAKER"]

def roleOfWord (w : String) : Role := if w = "MAKER" then .maker else if w = "INSTALLER" then .installer else .operator

def pHello (l : CmdLine) : Chk Instr :=
  let ps := pairsUnder l ["LEVEL"]
  let m : Chk String := if l.pos.isEmpty then .ok "" else posKw l 0 ["TYPED", "FRAMED"] false
  let n := opt (intTok 0 2147483647) (pairOf ps "LEVEL")
  let w := okOr "" m
  build [err? m, only l 1, err? ps, err? n] (.hello l.q (if w = "TYPED" then some .typed else if w = "FRAMED" then some .framed else none) (okOr none n))

def pAuth (l : CmdLine) : Chk Instr :=
  let ps := pairsUnder l ["RESPONSE"]
  let r := posKw l 0 roleWords false
  let c := opt codesTok (pairOf ps "RESPONSE")
  let role := roleOfWord (okOr "" r)
  build [err? r, only l 1, err? ps, err? c] (match okOr none c with | some x => .authResponse l.q role x | none => .authChallenge l.q role)

def pKey (l : CmdLine) : Chk Instr :=
  let ps := pairsUnder l ["VALUE"]
  let r := posKw l 0 roleWords false
  let c := opt codesTok (pairOf ps "VALUE")
  build [err? r, only l 1, err? ps, given l ps "VALUE", err? c] (.key l.q (roleOfWord (okOr "" r)) ((okOr none c).getD []))

/-- A verb without operands. -/
def pNone (l : CmdLine) (i : Instr) : Chk Instr := build [only l 0, err? (pairsUnder l [])] i

/-- HELP: a verb may be shortened in typed form. -/
def pHelp (s : State) (l : CmdLine) : Chk Instr :=
  if l.pos.isEmpty then build [err? (pairsUnder l [])] (.help l.q none)
  else
    let w := posWord l 0
    let t := (okOr (0, "") w).2
    let v : Chk String := if (objOf t).isSome then .ok t else kw l.full (knownVerbs s l.q) (okOr (0, "") w).1 t (6, "VERB")
    build [err? w, only l 1, err? (pairsUnder l []), err? v] (.help l.q (some (okOr t v)))

def pCancel (l : CmdLine) : Chk Instr :=
  let n : Chk Nat := match posAtom l 0 with | .ok (c, a) => intTok 1 65535 (c, [a]) | .error e => .error e
  build [err? n, only l 1, err? (pairsUnder l [])] (.cancel l.q (okOr 0 n))

/-- The attributes of a kind as keywords; a waveform's name is one of the panel's. -/
def attrName (l : CmdLine) (k : ObjKind) (c : Nat) (w : String) : Chk String :=
  if (attrDef k (upStr w)).isSome then .ok (upStr w)
  else kw l.full ((attrsOf k).map (·.name)) c w (6, "ATTR")

def pGet (l : CmdLine) : Chk Instr :=
  let o := posRange l 0
  let k := (okOr noRange o).kind
  let as : List (Chk String) := (l.pos.drop 1).map fun a => match a with | .val c [.word w] => attrName l k c w | a => colE (argCol a)
  build ([err? o] ++ (if (chkOk o).isSome then as.map err? else []) ++ [err? (pairsUnder l [])]) (.getAttr l.q (okOr noRange o) (as.filterMap chkOk))

/-- A shortened enumerated word of a value in full. -/
def wordFull (l : CmdLine) (n : String) (ty : ATy) (c : Nat) (a : Atom) : Chk Atom :=
  let ws : List String := match ty with
    | .enum ws => ws
    | .num ws _ _ _ _ => ws
    | .obj _ ws => ws
    | .words ws alone => ws ++ alone
    | .objs _ ws _ => ws
    | .svals => zoneModes ++ ["NONE"]
    | .tods => ["NONE"]
    | .dates => ["NONE"]
    | .filter => ["NONE", "MED3"]
    | .src => if n = "SP" then ["ZONE"] else []
    | _ => []
  match a with
  | .word w => if ws.isEmpty || (objOf w).isSome then .ok a else (match kw l.full ws c w (9, "") with | .ok x => .ok (.word x) | .error (9, _) => .ok a | .error e => .error e)
  | _ => .ok a

/-- The pairs of a SET with their names in full. -/
def setPairs (l : CmdLine) (k : ObjKind) : List (Nat × Chk (String × Tok)) :=
  l.prs.map fun p =>
    (p.1, match attrName l k p.1 p.2.1 with
      | .error e => .error e
      | .ok n =>
        let ty := match attrDef k n with | some d => d.ty | none => .ro
        let as := p.2.2.map (wordFull l n ty p.1)
        (match as.findSome? err? with
          | some e => .error e
          | none => .ok (n, as.filterMap chkOk)))

/-- The second of two pairs of one name. -/
def dupPair : List (Nat × Chk (String × Tok)) → List String → Option (Nat × String)
  | [], _ => none
  | (c, .ok (n, _)) :: l, seen => if seen.contains n then err? (colE (α := Unit) c) else dupPair l (n :: seen)
  | _ :: l, seen => dupPair l seen

/-- What a SET fails by before its limits, with the columns of its pairs. -/
def setErrs (s : State) (os : List Obj) (ps : List (Nat × Chk (String × Tok))) : List (Option (Nat × String)) :=
  let good := ps.filterMap fun p => (chkOk p.2).map fun x => (p.1, x)
  os.flatMap fun o => good.map fun p => err? (atCol p.1 (onePair s (good.map (·.2)) o p.2))

def pSet (s : State) (l : CmdLine) : Chk Instr :=
  let o := posRange l 0
  match o with
  | .error e => build [some e, only l 1] .epochBoundary
  | .ok r =>
    let ps := setPairs l r.kind
    let names := (ps.filterMap fun p => chkOk p.2)
    let none_ : Option (Nat × String) := if l.prs.isEmpty then err? (colE (α := Unit) l.eol) else none
    let errs := [only l 1, none_] ++ ps.map (fun p => err? p.2) ++ [dupPair ps []]
    match firstErr (errs ++ (setErrs s (rangeObjs r) ps).filter fun e => match e with | some e => hasPrefix "SYNTAX" e.2 || e.1 = 6 | none => false) with
    | some e => .error e
    | none => match r.kind, names with
      | .sec, [("AUDITACK", [a])] => (intTok 0 4294967295 (missCol l, [a])).map fun n => .auditAck l.q n
      | .jrn, [("SLOTFREE", [a])] => (slotTok (missCol l, [a])).map fun n => .slotFree l.q n
      | _, _ => .ok (.setAttr l.q r names)

/-- An object that SHOW takes beside those of GET. -/
def showObj (l : CmdLine) : Chk Obj :=
  match posWord l 0 with
  | .ok (_, w) =>
    if upStr w = "ON" then .ok ⟨.onObj, 0⟩ else if upStr w = "MACRO" then .ok ⟨.macrosObj, 0⟩
    else (match objOf w with | some o => .ok o | none => .error (6, "OBJECT"))
  | .error e => .error e

def pShow (l : CmdLine) : Chk Instr :=
  let o := showObj l
  let k := (okOr ⟨.pwr, 0⟩ o).kind
  let a : Chk (Option String) := if l.pos.length < 2 then .ok none
    else match posWord l 1 with | .ok (c, w) => (kw l.full (aspectsOf k) c w (6, "ATTR")).map some | .error e => .error e
  build [err? o, if (chkOk o).isSome then err? a else none, only l 2, err? (pairsUnder l [])] (.showObj l.q (okOr ⟨.pwr, 0⟩ o) (okOr none a))

def pDefault (l : CmdLine) : Chk Instr :=
  let all : Bool := match posWord l 0 with | .ok (_, w) => decide (upStr w = "ALL") | .error _ => false
  if all then
    let ps := pairsUnder l ["CONFIRM"]
    build ([only l 1] ++ confirmed l ps) (.defaultAll l.q)
  else
    let o := posObj l 0
    build [err? o, only l 1, err? (pairsUnder l [])] (.defaultObj l.q (okOr ⟨.pwr, 0⟩ o))

def pLock (l : CmdLine) : Chk Instr :=
  build ([err? (posKw l 0 ["CONFIG"] true), only l 1] ++ confirmed l (pairsUnder l ["CONFIRM"])) (.lockConfig l.q)

def pMode (l : CmdLine) : Chk Instr :=
  let m := posKw l 0 ["RUN", "SAFE", "QUIET", "BENCH", "RESTART"] false
  let w := okOr "" m
  build [err? m, only l 1, err? (pairsUnder l [])]
    (if w = "RUN" then .modeRun l.q else if w = "SAFE" then .modeSafe l.q else if w = "QUIET" then .modeQuiet l.q
      else if w = "BENCH" then .modeBench l.q else .modeRestart l.q)

def posTok (l : CmdLine) (n : Nat) : Chk (Nat × Tok) :=
  match posAt l n with
  | .ok (.val c t) => .ok (c, t)
  | .ok a => colE (argCol a)
  | .error e => .error e

def thenTok {α : Type} (f : Nat × Tok → Chk α) (c : Chk (Nat × Tok)) : Chk α :=
  match c with | .ok p => f p | .error e => .error e

def pReg (l : CmdLine) : Chk Instr :=
  let w := posKw l 0 ["READ", "WRITE"] true
  let a := thenTok codeTok (posTok l 1)
  if okOr "" w = "WRITE" then
    let v := thenTok wordTok (posTok l 2)
    let ps := pairsUnder l ["MASK"]
    let m := opt wordTok (pairOf ps "MASK")
    build [err? a, err? v, only l 3, err? ps, err? m] (.regWrite l.q (okOr 0 a) (okOr 0 v) (okOr none m))
  else
    let ps := pairsUnder l ["COUNT"]
    let n := opt (intTok 1 16) (pairOf ps "COUNT")
    build [err? w, err? a, only l 2, err? ps, err? n] (.regRead l.q (okOr 0 a) ((okOr none n).getD 1))

/-- A drive without a tilt axis has no TILT, whatever its value. -/
def tiltErr (s : State) (o : ObjRange) (t : Chk (Option Nat)) : Option (Nat × String) :=
  match t with
  | .error (7, e) => if (rangeDrives o).any fun d => moveRange s .up (some 0) d = some "ATTR" then some (6, "ATTR") else some (7, e)
  | .error e => some e
  | .ok (some _) => if (rangeDrives o).any fun d => moveRange s .up (some 0) d = some "ATTR" then some (6, "ATTR") else none
  | .ok none => none

def pMove (s : State) (l : CmdLine) : Chk Instr :=
  let o := driveRange l 0
  let w := posKw l 1 ["UP", "DOWN", "OPEN", "CLOSE", "SAFE", "TO"] false
  let k := okOr "" w
  let ps := pairsUnder l ["TILT"]
  let t := opt (unitTok "deg" 90) (pairOf ps "TILT")
  let p : Chk Nat := if k = "TO" then thenTok (unitTok "%" 100) (posTok l 2) else .ok 0
  let dest : MoveTo := if k = "TO" then .to (okOr 0 p) else if k = "SAFE" then .safe else if k = "UP" || k = "OPEN" then .up else .down
  build [err? o, err? w, err? p, if (chkOk w).isSome then only l (if k = "TO" then 3 else 2) else none, err? ps, tiltErr s (okOr noRange o) t] (.move l.q (okOr noRange o) dest (okOr none t))

def pStop (l : CmdLine) : Chk Instr :=
  let o := drivesOrAll l
  build [err? o, only l 1, err? (pairsUnder l [])] (.stop l.q (okOr none o))

def pRelease (l : CmdLine) : Chk Instr :=
  let o := drivesOrAll l
  build [err? o, only l 1, err? (pairsUnder l [])] (.release l.q (okOr none o))

def fin32 (n : Nat) : Fin 32 := if h : n < 32 then ⟨n, h⟩ else 0
def fin64 (n : Nat) : Fin 64 := if h : n < 64 then ⟨n, h⟩ else 0
def fin129 (n : Nat) : Fin 129 := if h : n < 129 then ⟨n, h⟩ else 0

def pLearn (l : CmdLine) : Chk Instr :=
  let o := posKind l 0 .drive
  build [err? o, only l 1, err? (pairsUnder l [])] (.learn l.q (fin32 (okOr ⟨.drive, 0⟩ o).n))

def pAck (l : CmdLine) : Chk Instr :=
  let o := posObj l 0
  let f : Chk (Option String) := if l.pos.length < 2 then .ok none else (posWord l 1).map fun p => some (upStr p.2)
  build [err? o, err? f, only l 2, err? (pairsUnder l [])] (.ack l.q (okOr ⟨.pwr, 0⟩ o) (okOr none f))

def pCal (l : CmdLine) : Chk Instr :=
  build [err? (posKw l 0 ["CONVERTERS"] true), only l 1, err? (pairsUnder l [])] (.calConverters l.q)

def pBist (l : CmdLine) : Chk Instr :=
  let ps := pairsUnder l ["DURATION"]
  let d := opt (msTok 1000 30000 1000 "RANGE LO=1000ms HI=30000ms STEP=1000ms") (pairOf ps "DURATION")
  build [only l 0, err? ps, err? d] (.bist l.q (okOr none d))

def pRepair (l : CmdLine) : Chk Instr :=
  build ([err? (posKw l 0 ["FUSE"] true), only l 1] ++ confirmed l (pairsUnder l ["CONFIRM"])) (.repairFuse l.q)

def pTime (l : CmdLine) : Chk Instr :=
  let d : Chk (Nat × Nat × Nat) := match posAtom l 1 with | .ok (_, .date y m d) => .ok (y, m, d) | .ok (c, _) => colE c | .error e => .error e
  let t : Chk (Nat × Nat × Nat) := match posAtom l 2 with | .ok (_, .tod h m x true) => .ok (h, m, x) | .ok (c, _) => colE c | .error e => .error e
  let ps := pairsUnder l ["UNC"]
  let u := opt (msTok 1 60000 1 "RANGE LO=1ms HI=60s STEP=1ms") (pairOf ps "UNC")
  let a := okOr (2000, 1, 1) d
  let b := okOr (0, 0, 0) t
  build [err? (posKw l 0 ["SET"] true), err? d, err? t, err? (posKw l 3 ["UTC"] true), only l 4, err? ps, err? u]
    (.timeSet l.q a.1 a.2.1 a.2.2 b.1 b.2.1 b.2.2 (okOr none u))

def onTok (l : CmdLine) (p : Nat × Tok) : Chk Bool := (wordTokOf l ["on", "off"] p).map (· = "on")

def pSend (l : CmdLine) : Chk Instr :=
  let ps := pairsUnder l ["ID", "LEN", "DATA", "FD", "BRS", "ONESHOT"]
  let i : Chk (Option Word) := opt (fun p => match codeTok p with | .ok w => if w.toNat < 0x20000000 then .ok w else .error (7, "RANGE LO=0x0000_0000 HI=0x1FFF_FFFF STEP=1") | .error e => .error e) (pairOf ps "ID")
  let n := opt (intTok 0 64) (pairOf ps "LEN")
  let d := opt codesTok (pairOf ps "DATA")
  let f := opt (onTok l) (pairOf ps "FD")
  let b := opt (onTok l) (pairOf ps "BRS")
  let o := opt (onTok l) (pairOf ps "ONESHOT")
  build [only l 0, err? ps, given l ps "ID", given l ps "LEN", err? i, err? n, err? d, err? f, err? b, err? o]
    (.send l.q (((okOr none i).getD 0).truncate 29) ((okOr none n).getD 0) ((okOr none d).getD []) ((okOr none f).getD false) ((okOr none b).getD false) ((okOr none o).getD false))

/-- The pairs of a DRAW: FILL, or a segment with its level. -/
def drawPair (l : CmdLine) (p : Nat × String × Tok) : Chk (Option Nat × Nat) :=
  let lvl := intTok 0 3 (p.1, p.2.2)
  match objOf p.2.1 with
  | some o => if o.kind = .seg then lvl.map fun v => (some o.n, v) else .error (6, "OBJECT")
  | none =>
    match kw l.full ["FILL"] p.1 p.2.1 (6, "OBJECT") with
    | .ok _ => lvl.map fun v => (none, v)
    | .error e => .error e

def dupDraw : List (Nat × Chk (Option Nat × Nat)) → List (Option Nat) → Option (Nat × String)
  | [], _ => none
  | (c, .ok (n, _)) :: l, seen => if seen.contains n then err? (colE (α := Unit) c) else dupDraw l (n :: seen)
  | _ :: l, seen => dupDraw l seen

def pDraw (l : CmdLine) : Chk Instr :=
  let w : Chk String := if l.pos.isEmpty then .ok "PARTIAL" else posKw l 0 ["FULL", "PARTIAL"] true
  let ps := l.prs.map fun p => (p.1, drawPair l p)
  let vals := ps.filterMap fun p => chkOk p.2
  let fill := (vals.find? fun v => v.1.isNone).map (·.2)
  build ([err? w, only l 1] ++ ps.map (fun p => err? p.2) ++ [dupDraw ps []])
    (.draw l.q (okOr "" w = "FULL") fill (vals.filterMap fun v => v.1.map fun n => (fin129 n, v.2)))

def levelsTok (p : Nat × Tok) : Chk (Nat × Nat) :=
  match p.2 with
  | [a, b] => match intTok 0 3 (p.1, [a]), intTok 0 3 (p.1, [b]) with
    | .ok x, .ok y => .ok (x, y)
    | .error e, _ => .error e
    | _, .error e => .error e
  | _ => colE p.1

def pBlink (l : CmdLine) : Chk Instr :=
  let o := posKind l 0 .seg
  let seg := fin129 (okOr ⟨.seg, 0⟩ o).n
  if 2 ≤ l.pos.length then
    build [err? o, err? (posKw l 1 ["OFF"] true), only l 2, err? (pairsUnder l [])] (.blinkOff l.q seg)
  else
    let ps := pairsUnder l ["PERIOD", "LEVELS"]
    let t := opt (msTok 200 10000 100 "RANGE LO=200ms HI=10s STEP=100ms") (pairOf ps "PERIOD")
    let v := opt levelsTok (pairOf ps "LEVELS")
    let x := (okOr none v).getD (0, 0)
    build [err? o, err? ps, given l ps "PERIOD", given l ps "LEVELS", err? t, err? v] (.blink l.q seg ((okOr none t).getD 0) x.1 x.2)

def pFreeze (l : CmdLine) : Chk Instr :=
  let ps := pairsUnder l ["SLOT", "NOTE"]
  let n := opt slotTok (pairOf ps "SLOT")
  let t := opt strTok (pairOf ps "NOTE")
  build [only l 0, err? ps, err? n, err? t] (.freeze l.q (okOr none n) (okOr none t))

def pExport (l : CmdLine) : Chk Instr :=
  let w := posKw l 0 ["JOURNAL", "AUDIT"] true
  if okOr "" w = "AUDIT" then build [only l 1, err? (pairsUnder l [])] (.exportData l.q .audit)
  else if 2 ≤ l.pos.length then
    build [err? w, err? (posKw l 1 ["RING"] true), only l 2, err? (pairsUnder l [])] (.exportData l.q .ring)
  else
    let ps := pairsUnder l ["SLOT"]
    let n := opt slotTok (pairOf ps "SLOT")
    build [err? w, err? ps, given l ps "SLOT", err? n] (.exportData l.q (.slot ((okOr none n).getD 0)))

/-- LOAD: END follows its pair. -/
def pLoad (l : CmdLine) (ended : Bool) : Chk Instr :=
  if ended then
    let ps := pairsUnder l ["SLOT"]
    let n := opt slotTok (pairOf ps "SLOT")
    build [only l 0, err? ps, given l ps "SLOT", err? n] (.loadEnd l.q ((okOr none n).getD 0))
  else
    let ps := pairsUnder l ["SLOT", "SEQ", "DATA"]
    let n := opt slotTok (pairOf ps "SLOT")
    let k := opt (intTok 0 2147483647) (pairOf ps "SEQ")
    let d := opt codesTok (pairOf ps "DATA")
    build [only l 0, err? ps, given l ps "SLOT", given l ps "SEQ", given l ps "DATA", err? n, err? k, err? d] (.load l.q ((okOr none n).getD 0) ((okOr none k).getD 0) ((okOr none d).getD []))

def pReplay (l : CmdLine) : Chk Instr :=
  let w := posKw l 0 ["START", "STOP"] true
  if okOr "" w = "STOP" then build [only l 1, err? (pairsUnder l [])] (.replayStop l.q)
  else
    let ps := pairsUnder l ["SLOT"]
    let n := opt slotTok (pairOf ps "SLOT")
    build [err? w, only l 1, err? ps, given l ps "SLOT", err? n] (.replayStart l.q ((okOr none n).getD 0))

def pMacro (l : CmdLine) : Chk Instr :=
  let o := posKind l 0 .macroObj
  let m := fin64 (okOr ⟨.macroObj, 0⟩ o).n
  let w := posKw l 1 ["ADD", "CLEAR", "LIST", "RUN"] true
  let k := okOr "" w
  if k = "ADD" then
    let t := thenTok strTok (posTok l 2)
    build [err? o, err? t, only l 3, err? (pairsUnder l [])] (.macroAdd l.q m (okOr "" t))
  else
    build [err? o, err? w, only l 2, err? (pairsUnder l [])]
      (if k = "CLEAR" then .macroClear l.q m else if k = "LIST" then .macroList l.q m else .macroRun l.q m)

def pOn (l : CmdLine) : Chk Instr :=
  let e := posWord l 0
  let w := upStr (okOr (0, "") e).2
  if l.pos.length = 1 && (chkOk (kw l.full ["LIST"] 1 w (7, ""))).isSome then build [err? (pairsUnder l [])] (.onList l.q)
  else
    let ev := kw l.full noticeNames (okOr (0, "") e).1 w (7, "RANGE")
    let verb2 (n : Nat) : Option String := match posWord l n with | .ok (c, x) => chkOk (kw l.full ["DO", "OFF"] c x (7, "")) | .error _ => none
    let named := (verb2 1).isNone && 2 ≤ l.pos.length
    let ob : Chk (Option String) :=
      if !named then .ok none
      else if okOr w ev = "START" then colE ((l.pos[1]?.map argCol).getD l.eol)
      else (posObj l 1).map fun o => some (objName o)
    let at_ := if named then 2 else 1
    let k := posKw l at_ ["DO", "OFF"] true
    if okOr "" k = "OFF" then
      build [err? e, err? ev, err? ob, only l (at_ + 1), err? (pairsUnder l [])] (.onOff l.q (okOr w ev) (okOr none ob))
    else
      let m := posKind l (at_ + 1) .macroObj
      build [err? e, err? ev, err? ob, err? k, err? m, only l (at_ + 2), err? (pairsUnder l [])] (.onBind l.q (okOr w ev) (okOr none ob) (fin64 (okOr ⟨.macroObj, 0⟩ m).n))

def pWait (l : CmdLine) : Chk Instr :=
  let t := thenTok (msTok 1 3600000 1 "RANGE LO=1ms HI=3600s STEP=1ms") (posTok l 0)
  build [err? t, only l 1, err? (pairsUnder l [])] (.wait l.q (okOr 0 t))

/-- A verb's line by its grammar (R170). -/
def parseVerb (s : State) (v : String) (l : CmdLine) (ended : Bool) : Chk Instr :=
  if v = "HELLO" then pHello l
  else if v = "AUTH" then pAuth l
  else if v = "LOGOUT" then pNone l (.logout l.q)
  else if v = "KEY" then pKey l
  else if v = "VERSION" then pNone l (.version l.q)
  else if v = "STATUS" then pNone l (.status l.q)
  else if v = "HELP" then pHelp s l
  else if v = "CANCEL" then pCancel l
  else if v = "GET" then pGet l
  else if v = "SET" then pSet s l
  else if v = "SHOW" then pShow l
  else if v = "DEFAULT" then pDefault l
  else if v = "LOCK" then pLock l
  else if v = "MODE" then pMode l
  else if v = "REG" then pReg l
  else if v = "MOVE" then pMove s l
  else if v = "STOP" then pStop l
  else if v = "RELEASE" then pRelease l
  else if v = "LEARN" then pLearn l
  else if v = "ACK" then pAck l
  else if v = "CAL" then pCal l
  else if v = "BIST" then pBist l
  else if v = "REPAIR" then pRepair l
  else if v = "TIME" then pTime l
  else if v = "SEND" then pSend l
  else if v = "DRAW" then pDraw l
  else if v = "BLINK" then pBlink l
  else if v = "FREEZE" then pFreeze l
  else if v = "EXPORT" then pExport l
  else if v = "LOAD" then pLoad l ended
  else if v = "REPLAY" then pReplay l
  else if v = "MACRO" then pMacro l
  else if v = "ON" then pOn l
  else if v = "WAIT" then pWait l
  else .error (6, "VERB")

/-! ### Execution of a verb -/

/-- A verb read from a line takes its meaning; MACRO ADD, which reads a line of its own, stands apart. -/
def verbRun (i : Instr) (s : State) : State :=
  match i with
  | .hello q m n => nextState (execHello q m n s) s
  | .authChallenge q r => nextState (execAuthChallenge q r s) s
  | .authResponse q r c => nextState (execAuthResponse q r c s) s
  | .logout q => nextState (execLogout q s) s
  | .key q r c => nextState (execKey q r c s) s
  | .version q => nextState (execVersion q s) s
  | .status q => nextState (execStatus q s) s
  | .help q w => nextState (execHelp q w s) s
  | .cancel q t => nextState (execCancel q t s) s
  | .getAttr q o a => nextState (execGetAttr q o a s) s
  | .setAttr q o p => nextState (execSetAttr q o p s) s
  | .showObj q o a => nextState (execShowObj q o a s) s
  | .defaultObj q o => nextState (execDefaultObj q o s) s
  | .defaultAll q => nextState (execDefaultAll q s) s
  | .lockConfig q => nextState (execLockConfig q s) s
  | .modeRun q => nextState (execModeRun q s) s
  | .modeSafe q => nextState (execModeSafe q s) s
  | .modeQuiet q => nextState (execModeQuiet q s) s
  | .modeBench q => nextState (execModeBench q s) s
  | .modeRestart q => nextState (execModeRestart q s) s
  | .regRead q a n => nextState (execRegRead q a n s) s
  | .regWrite q a v m => nextState (execRegWrite q a v m s) s
  | .move q o d t => nextState (execMove q o d t s) s
  | .stop q o => nextState (execStop q o s) s
  | .release q o => nextState (execRelease q o s) s
  | .learn q d => nextState (execLearn q d s) s
  | .ack q o f => nextState (execAck q o f s) s
  | .calConverters q => nextState (execCalConverters q s) s
  | .bist q d => nextState (execBist q d s) s
  | .repairFuse q => nextState (execRepairFuse q s) s
  | .timeSet q y mo d h mi sec u => nextState (execTimeSet q y mo d h mi sec u s) s
  | .send q i n d f b o => nextState (execSend q i n d f b o s) s
  | .draw q f l p => nextState (execDraw q f l p s) s
  | .blink q g p a b => nextState (execBlink q g p a b s) s
  | .blinkOff q g => nextState (execBlinkOff q g s) s
  | .freeze q n t => nextState (execFreeze q n t s) s
  | .exportData q w => nextState (execExportData q w s) s
  | .load q n k d => nextState (execLoad q n k d s) s
  | .loadEnd q n => nextState (execLoadEnd q n s) s
  | .replayStart q n => nextState (execReplayStart q n s) s
  | .replayStop q => nextState (execReplayStop q s) s
  | .macroClear q m => nextState (execMacroClear q m s) s
  | .macroList q m => nextState (execMacroList q m s) s
  | .macroRun q m => nextState (execMacroRun q m s) s
  | .onBind q e o m => nextState (execOnBind q e o m s) s
  | .onOff q e o => nextState (execOnOff q e o s) s
  | .onList q => nextState (execOnList q s) s
  | .wait q n => nextState (execWait q n s) s
  | .auditAck q n => nextState (execAuditAck q n s) s
  | .slotFree q n => nextState (execSlotFree q n s) s
  | _ => s

/-! ### Lines (R124, R131, R135 to R138, R142) -/

/-- The body of a frame and its CRC field: the text up to the first `*` outside a string, and what follows. -/
def splitFrame : List Char → Bool → List Char → Option (List Char × List Char)
  | [], _, _ => none
  | '\\' :: c :: l, true, acc => splitFrame l true (c :: '\\' :: acc)
  | '*' :: l, false, acc => some (acc.reverse, l)
  | c :: l, b, acc => splitFrame l (if c = '"' then !b else b) (c :: acc)

/-- The value of four hexadecimal digits. -/
def crcField : List Char → Option Nat
  | [a, b, c, d] => match hexVal a, hexVal b, hexVal c, hexVal d with
    | some w, some x, some y, some z => some (4096 * w + 256 * x + 16 * y + z)
    | _, _, _, _ => none
  | _ => none

/-- The body of a framed line whose CRC is right. -/
def frameBody (l : List Char) : Option (List Char) :=
  match l.dropWhile isBlank with
  | '$' :: r =>
    match splitFrame r false [] with
    | some (b, f) => if crcField ((f.reverse.dropWhile isBlank).reverse) = some (crc16 b).toNat then some b else none
    | none => none
  | _ => none

/-- A refusal of a line at step 2 or 4, in the order of Table VIL-5. -/
def lineRefused (s : State) (q : Hdr) (step : Nat) (detail : String) : State :=
  if 3 < step && (tagBusy s q.ses q.tag || (q.tag = none && (getSes s q.ses).mode = .framed)) then refuse s q "-" "TAG" ""
  else refuse s q "-" detail ""

/-- A refusal of a checked line at steps 5 to 7. -/
def operandRefused (s : State) (q : Hdr) (v detail : String) : State :=
  submit s q { verb := v, body := v, need := 0, changes := false, p67 := some detail } fun s _ => (s, .cancel)

/-- The verbs known at a level. -/
def verbsAt (level : Nat) : List String := (verbTable.filter fun v => v.2.1 ≤ level).map (·.1)

/-- A verb in full or shortened (R130). -/
def verbOf (full : Bool) (level c : Nat) (w : String) : Chk String := kw full (verbsAt level) c w (4, "VERB")

/-- The operands of a line as tokens; the column of the first that is malformed. -/
def readArgs (l : List Raw) : Chk (List Arg) :=
  l.foldl (fun acc r => match acc with
    | .error e => .error e
    | .ok as => match argOf r with | some a => .ok (as ++ [a]) | none => colE r.col) (.ok [])

/-- END as the last operand of a LOAD. -/
def loadEnded (full : Bool) (l : List Arg) : List Arg × Bool :=
  match l.reverse with
  | .val _ [.word w] :: r => if (chkOk (kw full ["END"] 1 w (7, ""))).isSome then (r.reverse, true) else (l, false)
  | _ => (l, false)

/-- What a checked line asks for, from its tokens after the tag: the verb and its command, or the refusal and its step. -/
def readVerb (s : State) (q : Hdr) (full : Bool) (level : Nat) (raws : List Raw) (eol : Nat) : Except (Nat × String × String) (String × Instr) :=
  match readArgs raws with
  | .error e => .error (2, "-", e.2)
  | .ok [] => .error (2, "-", "SYNTAX COL=" ++ natStr eol)
  | .ok (.val c [.word w] :: as) =>
    (match verbOf full level c w with
      | .error e => .error (4, "-", e.2)
      | .ok v =>
        let a := if v = "LOAD" then loadEnded full as else (as, false)
        match splitArgs a.1 with
        | .error e => .error (6, v, e.2)
        | .ok p => match parseVerb s v { q := q, full := full, level := level, pos := p.1, prs := p.2, eol := eol } a.2 with
          | .error e => .error (6, v, e.2)
          | .ok i => .ok (v, i))
  | .ok (a :: _) => .error (2, "-", "SYNTAX COL=" ++ natStr (argCol a))

/-- The tokens of a text that begins at a column. -/
def lineTokens (l : List Char) (col : Nat) : List Raw × Option Nat := rawTokens (l.length + 1) l col none false []

/-- The column after a text without the spaces that end it. -/
def endCol (l : List Char) (col : Nat) : Nat := col + (l.reverse.dropWhile (· = ' ')).length

/-! ### MACRO ADD (R213) -/

/-- The verbs that a macro's line may not use. -/
def macroBars (i : Instr) : Bool :=
  match i with
  | .hello .. => true | .authChallenge .. => true | .authResponse .. => true | .logout .. => true | .key .. => true
  | .lockConfig .. => true | .defaultObj .. => true | .defaultAll .. => true | .regRead .. => true | .regWrite .. => true
  | .repairFuse .. => true | .macroAdd .. => true | .macroClear .. => true | .macroList .. => true | .macroRun .. => true
  | .onBind .. => true | .onOff .. => true | .onList .. => true | .load .. => true | .loadEnd .. => true
  | .replayStart .. => true | .replayStop .. => true | .exportData .. => true | .modeRestart .. => true
  | _ => false

/-- The verbs barred whatever their operands. -/
def macroBarred : List String := ["HELLO", "AUTH", "LOGOUT", "KEY", "LOCK", "DEFAULT", "REG", "REPAIR", "MACRO", "ON",
  "LOAD", "REPLAY", "EXPORT"]

/-- The first character of a macro's line that its grammar lacks. -/
def macroMark (l : List Char) : Option Nat :=
  (List.range l.length).find? fun n =>
    let c := l.getD n ' '
    !(32 ≤ c.toNat && c.toNat ≤ 126) || ((c = '$' || c = '*') && !insideString (l.take n) false)

/-- A scratch session that tries a macro's line: the steps before acceptance that rest on roles, tags and slots pass. -/
def scratch (s : State) (level : Nat) : State :=
  let s := { s with vil := { s.vil with outs := [], link0 := { mode := .framed, level := level, role := some .maker } }, pwr := { s.pwr with xtal := true, committed := false } }
  s

/-- The refusal that a command's own checks of steps 6 and 7 give. -/
def probed (s : State) (level : Nat) (i : Instr) : Option String :=
  match (verbRun i (scratch s level)).vil.link0.out with
  | l :: _ =>
    if hasPrefix "FAIL " l.body then
      let d := String.ofList (l.body.toList.drop 5)
      if ["SYNTAX", "AMBIG", "VERB", "OBJECT", "ATTR", "UNIT", "RANGE"].contains (failCode d) then some d else none
    else none
  | [] => none

/-- The checks of MACRO ADD on its line: steps 2, 4, 6 and 7, and the verbs that are barred (step 10). -/
def macroCheck (s : State) (level : Nat) (text : String) : Option String × Bool :=
  let l := text.toList
  let t := lineTokens l 1
  let q : Hdr := ⟨.link0, some 1, true⟩
  match macroMark l, t.2, lineTag t.1 with
  | some n, _, _ => (some ("SYNTAX COL=" ++ natStr (n + 1)), false)
  | none, some c, _ => (some ("SYNTAX COL=" ++ natStr c), false)
  | none, none, .absent =>
    (match readVerb s q true level t.1 (endCol l 1) with
      | .error (_, v, e) => if macroBarred.contains v then (none, true) else (some e, false)
      | .ok (_, i) => if macroBars i then (none, true) else (probed s level i, false))
  | none, none, _ => (some "SYNTAX COL=1", false)

/-- The lines of a macro as the writes in progress will leave them. -/
def macroSoon (s : State) (m : Nat) : List String :=
  s.vil.writes.foldl (fun l w => match w.eff with | .macroLines n x _ => if n = m then x else l | _ => l) (macroText s m)

/-- The checks of the command below. -/
def macroAddSpec (q : Hdr) (m : Fin 64) (line : String) (s : State) : CmdSpec :=
  let c := macroCheck s (getSes s q.ses).level line
  let soon := macroSoon s m.val
  { verb := "MACRO", body := "MACRO " ++ objName (macroObj m) ++ " ADD " ++ quoteStr line, need := 2, audit := some 17, p67 := if 64 < line.length then some "RANGE" else c.1, p9 := if storeReadOnly s then some "STORE" else none, p10 := firstOf [(c.2, "STATE"), ((macroSt s m).running, "STATE RUNNING"), ((macroSt s m).pend, "STATE PENDING"), (32 ≤ soon.length, "NOSPACE")] }

/-- MACRO ADD. -/
def execMacroAdd (q : Hdr) (m : Fin 64) (line : String) (s : State) : Host.Outcome State Fault Refusal :=
  let soon := macroSoon s m.val
  .next (lineIn (.macroAdd q m line) q s fun s => submit s q (macroAddSpec q m line s)
    fun s id =>
      let e := Eff.macroLines m (soon ++ [line]) ((roleFor s q).getD .installer)
      (queueStore s id e, .store e "DONE"))

/-- A verb read from a line. -/
def verbDo (i : Instr) (s : State) : State :=
  match i with
  | .macroAdd q m t => nextState (execMacroAdd q m t s) s
  | i => verbRun i s

/-! ### A line is read -/

/-- The command of a line without its tag, as received (Table SEC-4). -/
def bodySaid (body : List Char) (t : LineTag) : String :=
  let l := body.dropWhile (· = ' ')
  String.ofList (match t with | .absent => l | _ => (l.dropWhile (· != ' ')).dropWhile (· = ' '))

/-- The tokens of a line that passed step 1, checked and carried out; `bad` is the column of a byte outside the
alphabet. -/
def textRead (s : State) (k : Sess) (framed : Bool) (body : List Char) (col : Nat) (bad : Option Nat) : State :=
  let t := lineTokens body col
  let tg := lineTag t.1
  let q : Hdr := ⟨k, match tg with | .tag n => some n | _ => none, framed⟩
  let rest := match tg with | .absent => t.1 | _ => t.1.drop 1
  let full := framed || (getSes s k).mode = .framed
  let syntaxAt (e : String) : State := match tg with | .bad => refuseLine s k framed e | _ => lineRefused s q 2 e
  match bad <|> t.2 with
    | some c => syntaxAt ("SYNTAX COL=" ++ natStr c)
    | none =>
      if t.1.isEmpty && !framed then s
      else match readVerb s q full (getSes s k).level rest (endCol body col) with
        | .error (2, _, e) => syntaxAt e
        | r =>
          if tg = .bad then refuseLine s k framed "TAG"
          else
            let s := modSes s k fun x => { x with said := some (bodySaid body tg) }
            let s := match r with
              | .error (4, _, e) => lineRefused s q 4 e
              | .error (_, v, e) => operandRefused s q v e
              | .ok (_, i) => verbDo i s
            modSes s k fun x => { x with said := none }

/-- A tab counts as a space in the text of a line (R122). -/
def tabsSpaced (l : List Char) : List Char := l.map fun c => if c.toNat = 9 then ' ' else c

/-- A frame that fails (R136): refused, and counted. -/
def crcRefused (s : State) (k : Sess) : State :=
  let s := modSes (refuseLine s k true "CRC") k fun x => { x with lostCrc := x.lostCrc + 1 }
  { s with vil := { s.vil with errCrc := satInc 255 s.vil.errCrc } }

/-- A complete line goes through its checks (Table VIL-5).  A framing error fails it before all of them (R158); a framed
line shows its frame and CRC first (R136), over its bytes as received (R135). -/
def lineChecked (s : State) (k : Sess) (l : RxLine) : State :=
  let cs := l.text
  let framed := isFramedLine cs
  if typedDropped s k cs then countTyped s k
  else match l.err with
    | some c => (match lineTag [⟨1, firstToken cs⟩] with
        | .tag n => lineRefused s ⟨k, some n, framed⟩ 2 ("SYNTAX COL=" ++ natStr c)
        | .absent => lineRefused s ⟨k, none, framed⟩ 2 ("SYNTAX COL=" ++ natStr c)
        | .bad => refuseLine s k framed ("SYNTAX COL=" ++ natStr c))
    | none =>
      if framed then
        match frameBody cs with
        | some b => textRead s k true (tabsSpaced b) ((cs.takeWhile isBlank).length + 2) l.bad
        | none => crcRefused s k
      else textRead s k false (tabsSpaced cs) 1 l.bad

/-- A complete line is read, with the epoch of its terminator at hand (R167). -/
def lineRead (s : State) (k : Sess) (l : RxLine) : State :=
  if !served s k then s
  else
    let s := lineChecked (modSes s k fun x => { x with term := some l.epoch }) k l
    modSes s k fun x => { x with term := none }

/-- The codes that arrived before this epoch are read, until an untagged command is outstanding (R132). -/
def readCodes : Nat → State → Sess → State
  | 0, s, _ => s
  | n + 1, s, k =>
    let s := ctrlCWaits s k
    if untaggedOut s k then s
    else match (getSes s k).waiting with
      | [] => s
      | (c, t) :: l =>
        if epochTick s s.epoch ≤ t then s
        else
          let p := readCode (modSes s k fun x => { x with waiting := l }) k c t
          readCodes n (match p.2 with | some x => lineRead p.1 k x | none => p.1) k

def readAll (s : State) (k : Sess) : State := readCodes ((getSes s k).waiting.length + 1) s k

/-- The commands kept for a session are checked, until an untagged one is outstanding. -/
def keptDo : Nat → State → Sess → State
  | 0, s, _ => s
  | n + 1, s, k =>
    if untaggedOut s k || !served s k then s
    else match s.vil.kept.find? fun p => p.1 = k with
      | none => s
      | some p => keptDo n (verbDo p.2 { s with vil := { s.vil with kept := s.vil.kept.erase p } }) k

/-- What a session has received by this boundary is read and checked. -/
def sessionReads (s : State) (k : Sess) : State := keptDo s.vil.kept.length (readAll s k) k

/-- The code of a character. -/
def codeFor (c : Char) : BitVec 9 := BitVec.ofNat 9 c.toNat

/-- COMMAND_LINE: the lines whose terminators arrived before this epoch are read and checked.  With a text, a line arrives
whole, byte by byte, and is checked at the next boundary in the order of R177. -/
def execCommandLine (k : Sess) (text : Option String) (s : State) : Host.Outcome State Fault Refusal :=
  .next (if k = .mac || !served s k then s
    else match text with
      | none => if s.ana.mode = .quiet then s else rtsFollows (sessionReads s k)
      | some t =>
        let codes := t.toList.map codeFor ++ [13]
        if isLink k then codes.foldl (fun s c => uartIn s (if k = .link0 then 0 else 1) c) s
        else if s.ana.mode = .quiet then wakeBy s k
        else codes.foldl (fun s c => rxIn s k c s.now) s)

/-- MACRO_LINE: the next line of a running macro starts in the MACRO session (R214). -/
def execMacroLine (m : Fin 64) (s : State) : Host.Outcome State Fault Refusal :=
  .next (let x := macroSt s m
    if !x.running || x.awaiting || !coreRuns s || s.ana.workersReset.isSome || s.pwr.committed then s
    else match (macroText s m)[x.line - 1]? with
      | none => macroEnd s m "DONE"
      | some t =>
        let s := setMacro s m { x with awaiting := true }
        let q : Hdr := ⟨.mac, some (1000 * (m.val + 1) + x.line), true⟩
        let tk := lineTokens t.toList 1
        match readVerb s q true (getSes s .mac).level tk.1 (endCol t.toList 1) with
        | .error (2, _, e) => lineRefused s q 2 e
        | .error (4, _, e) => lineRefused s q 4 e
        | .error (_, v, e) => operandRefused s q v e
        | .ok (_, i) => verbDo i s)

end Sys2Proof.Machine
end

