-- ==== Sys2Proof/Machine/Startup.lean ====
section
/-!
DEFINITION. Shutdown, resets and start-up (*Mains, rails, the backup cell and the Pilot domain*): the commit and the
last-gasp flush (R56 to R59, R79, R80, R84), the resets of the core die and what they keep (R53, R54, R690), the keeper
watchdog (R27), the restart (R193), and the steps of Table PWR-2.
-/
namespace Sys2Proof.Machine
open Sys2Proof

/-! ### What a reset of the core die loses (R54, Table ELC-7) -/

/-- Anatomy after a reset: the descriptors stored and the die revisions. -/
def anaFresh (a : Ana) : Ana :=
  { mode := a.mode, prev := a.prev, xstored := a.xstored, crev := a.crev, lrev := a.lrev, jrev := a.jrev }

/-- Vilpi after a reset: macros and bindings, which are stored, and the level of the CTS pad. -/
def vilFresh (v : Vil) : Vil :=
  { macros := v.macros.map (fun p => (p.1, { lines := p.2.lines, runRole := p.2.runRole })), binds := v.binds, cts := v.cts }

/-- The secure core after a reset: what is stored; held audit records are lost and count as missed, and
their numbers are not used again (R251, R257). -/
def secFresh (c : Sec) : Sec :=
  let k : Sec := { keys := c.keys, locked := c.locked, audit := c.audit, auditSeq := c.auditSeq, head := c.head, overwritten := c.overwritten, wraps := c.wraps, missed := min 0xFFFFFF (c.missed + c.held.length), boot := c.boot }
  match c.held, c.audit.getLast? with
  | [], _ => k
  | _, some r => { k with head := sha256 (auditBytes r) }
  | r :: _, none => { k with head := r.prev }

/-- The power chapter after a reset: the mains side, the power stage and the Pilot domain go on. -/
def pwrFresh (p : Pwr) : Pwr :=
  { core := p.core, rstKind := p.rstKind, rstcause := p.rstcause, mainGood := p.mainGood, mgSince := p.mgSince, mains := p.mains, lastCross := p.lastCross, halfStart := p.halfStart, hold := p.hold, committed := p.committed, flushDone := p.flushDone, holdAt := p.holdAt, pilot := p.pilot, pilotLast := p.pilotLast, vbatBelow := p.vbatBelow, cutoffAt := p.cutoffAt, timeLost := p.timeLost, rtcValid := p.rtcValid, exh := p.exh, bkSince := p.bkSince, bkCount := p.bkCount, bkDur := p.bkDur, exhNotice := p.exhNotice, lostNotice := p.lostNotice, gasp := p.gasp, lgReturn := p.lgReturn, lineRan := p.lineRan, pinWaits := p.pinWaits, pinUntil := p.pinUntil, auxMa := p.auxMa }

/-- The feeds open and the gates are off; positions, holds, profiles and the dead times of the line die stay. -/
def drvFresh (d : Drv) : Drv :=
  { feeds := d.feeds.map (fun p => (p.1, { closed := p.2.closed, openCmd := p.2.openCmd })), dead := d.dead, ports := d.ports.map (fun p => (p.1, { deadUntil := p.2.deadUntil, ea := p.2.ea, eb := p.2.eb })), drives := d.drives.map (fun p => (p.1, driveForgets { p.2 with running := false, stopAt := none })), lastHb := d.lastHb }

/-- The thermal functions of the core die after a reset: the windows are closed until X145 is delivered. -/
def thmFresh (t : Thm) : Thm :=
  { t with winCharge := false, winJournal := false, winPanel := false, recHeld := none, fltsHeld := [] }

/-- What the core die held is lost. -/
def coreLoses (s : State) : State :=
  { s with cfg := [], ana := anaFresh s.ana, vil := vilFresh s.vil, sec := secFresh s.sec, pwr := pwrFresh s.pwr, lve := {}, cnv := {}, chn := {}, cnt := {}, drv := drvFresh s.drv, thm := thmFresh s.thm, clm := {}, bus := busReset s.bus, tst := tstReset s.tst }

/-- The core die goes down: feeds and ports stop, and what it held is lost. -/
def coreDown (s : State) : State :=
  coreLoses (jrnReset (lanRestart (timeCommit (portsLow ((List.range 8).foldl feedStop s)))))

/-- A reset of the core die begins (R53); its cause ends after `extra` ticks more. -/
def resetBegins (s : State) (k : ResetKind) (extra : Nat) : State :=
  let s := holdReset s k
  let s := coreDown s
  { s with pwr := { s.pwr with core := .reset (s.now + extra + 2 * tickMs) } }

/-- A further cause while the core die is held in reset. -/
def resetAgain (s : State) (k : ResetKind) (due : Nat) : State :=
  { s with pwr := { s.pwr with core := .reset due, rstKind := k, rstcause := s.pwr.rstcause ||| (1#7 <<< resetBit k) } }

/-! ### Commit and flush (R56 to R59, R84) -/

/-- The manual holds as the time that they have left: it counts only while the device is not OFF (R398). -/
def holdsFreeze (s : State) : State :=
  { s with drv := { s.drv with drives := s.drv.drives.map fun p => (p.1, { p.2 with hold := p.2.hold.map fun h => (h.1, h.2 - s.now) }) } }

def holdsThaw (s : State) : State :=
  { s with drv := { s.drv with drives := s.drv.drives.map fun p => (p.1, { p.2 with hold := p.2.hold.map fun h => (h.1, h.2 + s.now) }) } }

def holdsLost (s : State) : State :=
  { s with drv := { s.drv with drives := s.drv.drives.map fun p => (p.1, { p.2 with hold := none }) } }

/-- The core die is without power or held in reset, and the device is in OFF. -/
def goesOff (s : State) : State :=
  let s := if s.jrn.gasp.isSome then s else holdsLost s
  let s := coreDown (holdsFreeze s)
  { s with pwr := { s.pwr with core := .off }, ana := { s.ana with mode := .off } }

/-- The flush is made once the journal anchor of this start has been written (R84), and never while the journal die is
held (R670). -/
def flushMade (s : State) : Bool := s.jrn.lastAnchor.isSome && !s.tst.heldJournal

/-- The images of positions and of the thermal models, where the journal may be written (R58); what stood before is kept
beside them for a flush that the rails do not carry. -/
def gaspImages (s : State) : State :=
  if flushMade s && s.thm.winJournal then
    let s := drivesGasp s
    { s with thm := { s.thm with rec_ := some (therImage s), recHeld := s.thm.rec_ } }
  else s

/-- The commit (R57, R59). -/
def commit (s : State) : State :=
  let flush := flushMade s
  let s := gaspImages (bistCommit s)
  let s := portsLow s
  let s := { s with pwr := { s.pwr with auxOn := false, auxRetry := none, auxWant := false, hold := true, committed := true, holdAt := s.now, gasp := if flush then some s.epoch else none, lgReturn := s.pwr.lgReturn || s.pwr.mains } }
  let s := busCommit (timeCommit (jrnCommit (lanCommit s)))
  let s := notify (s.vil.outs.foldl (fun s o => finishOut s o "FAIL ABORTED") s) "PWR.DOWN"
  if flush then s else goesOff { s with jrn := { s.jrn with gasp := none } }

/-- HOLD is asserted: in reset, the core die goes off at once. -/
def holdAsserted (s : State) : State :=
  match s.pwr.core with
  | .running => if s.pwr.committed then s else commit s
  | .reset _ => goesOff { s with jrn := { s.jrn with gasp := none }, pwr := { s.pwr with hold := true } }
  | .off => s

/-- HOLD_ASSERT. -/
def execHoldAssert (s : State) : Host.Outcome State Fault Refusal := .next (holdAsserted s)

/-- MAIN_LOST: the Pilot domain's part, and a commit where none has been made (R56). -/
def execMainLost (s : State) : Host.Outcome State Fault Refusal :=
  .next (if s.pwr.mainGood then holdAsserted (pilotLost s) else { s with pwr := { s.pwr with mgSince := none } })

/-- The flush is over: OFF, and the reset that waits for it (R79, R80). -/
def flushEnds (s : State) : State :=
  let pin := s.pwr.pinWaits
  let back := s.pwr.lgReturn
  let s := goesOff s
  let s := { s with pwr := { s.pwr with flushDone := true, pinWaits := false } }
  if !s.pwr.mainGood then s
  else if pin || s.now < s.pwr.pinUntil then holdReset s .pin
  else if back then holdReset s .lastgasp
  else s

/-- FLUSH_COMPLETE, within 3 ms of HOLD. -/
def execFlushComplete (s : State) : Host.Outcome State Fault Refusal :=
  .next (if coreRuns s && s.pwr.committed then flushEnds s else s)

/-- The rails did not carry the flush (R56): the older records stand again, and the image is lost. -/
def flushLost (s : State) : State :=
  let s := if s.jrn.gasp.isSome then
      { s with drv := { s.drv with drives := s.drv.drives.map fun p => (p.1, { p.2 with rec_ := p.2.recHeld, recHeld := none }) }, thm := { s.thm with rec_ := s.thm.recHeld, recHeld := none } }
    else s
  goesOff { s with jrn := { s.jrn with gasp := none }, pwr := { s.pwr with pinWaits := false } }

/-! ### Causes of resets -/

/-- RESET_PIN: RESET is low for `low` ticks in all, and the assertion is recognised now.  Below 1 µs it is ignored; from
1 µs to 10 µs a free value decides (R690).  While mains is absent it is a commit (R80). -/
def pinReset (s : State) (low : Nat) : State :=
  let extra := low - 80
  let s := { s with pwr := { s.pwr with pinUntil := max s.pwr.pinUntil (s.now + extra) } }
  if s.pwr.committed then s
  else match s.pwr.core with
    | .off => s
    | .reset due => resetAgain s .pin (max due (s.now + extra + 2 * tickMs))
    | .running =>
      if s.pwr.mains then resetBegins s .pin extra
      else if flushMade s then commit { s with pwr := { s.pwr with pinWaits := true } }
      else
        let s := commit s
        if s.pwr.mainGood then holdReset s .pin else s

def execResetPin (low : Nat) (s : State) : Host.Outcome State Fault Refusal :=
  .next (if low < 8 then s
    else if low < 80 then (if freeBits 1 s = 1 then pinReset (drawn s) 80 else drawn s)
    else pinReset s low)

/-- BROWN_OUT: V1 is below 0.90 V for `low` ticks in all, and 5 µs of them have passed.  While main is not good, or
during a flush, the rails are gone. -/
def brownReset (s : State) (low : Nat) : State :=
  let gone (s : State) : State := goesOff { s with jrn := { s.jrn with gasp := none } }
  match s.pwr.core with
  | .off => s
  | .reset due => if s.pwr.mainGood then resetAgain s .brown (max due (s.now + (low - 40) + 2 * tickMs)) else gone s
  | .running =>
    if s.pwr.committed then (if s.pwr.mainGood then holdReset (flushLost s) .brown else flushLost s)
    else if s.pwr.mainGood then resetBegins s .brown (low - 40) else gone s

def execBrownOut (low : Nat) (s : State) : Host.Outcome State Fault Refusal :=
  .next (if low < 40 then s else brownReset s low)

/-- KEEPER_WATCHDOG_EXPIRY: 100 ms without service, whatever boundaries have passed; nothing in OFF, in QUIET and during
the flush (R27, R80). -/
def execKeeperWatchdogExpiry (s : State) : Host.Outcome State Fault Refusal :=
  .next (if !coreRuns s || s.pwr.committed || s.ana.mode = .quiet then s
    else resetBegins { s with now := max s.now (s.ana.watchdog + 100 * tickMs) } .wdog 0)

/-- The lines of an epoch can have left a port by now: their bytes, from the boundary at which they begin to leave. -/
def portSent (s : State) (k : Sess) (rate e : Nat) : Bool :=
  let n := (((getSes s k).out.filter fun l => l.epoch = e).map fun l => (wireBytes l.lead (lineText l)).length).foldl (· + ·) 0
  n = 0 || 10 * n * 1000 * tickMs ≤ rate * (s.now - epochTick s (e + 1))

/-- The lines of an epoch have left the tunnel of a BUS session. -/
def tunSent (s : State) (e : Nat) : Bool :=
  e < s.epoch && s.bus.tuns.all fun p => p.2.tx.all fun g => g.notice.isSome

/-- The lines of a restart can have been sent (R193). -/
def restartSent (s : State) (e : Nat) : Bool := portSent s .link0 s.vil.rate0 e && portSent s .link1 s.vil.rate1 e && tunSent s e

/-- RESTART_RESET: the lines of the restart have been sent, or 100 ms have passed (R193). -/
def execRestartReset (s : State) : Host.Outcome State Fault Refusal :=
  .next (match s.vil.softReset with
    | none => s
    | some (e, due) =>
      if !coreRuns s || s.pwr.committed then s
      else if restartSent s e then resetBegins s .soft 0
      else atTick s (some due) fun s => if coreRuns s && s.vil.softReset.isSome && !s.pwr.committed then resetBegins s .soft 0 else s)

/-! ### Start-up (Table PWR-2) -/

/-- The release of the core die reset: monotonic time 0, epoch 0 and the next boot count. -/
def coreReleased (s : State) : State := { s with rel := s.now, epoch := 0, sec := { s.sec with boot := s.sec.boot + 1 } }

/-- The core die reset is released: START. -/
def coreStarts (s : State) : State :=
  let old := s.ana.mode
  let s := coreReleased s
  let src := if s.pwr.rstKind = .pin && old = .quiet then 5 else 0
  let s := { s with pwr := { s.pwr with core := .running, hold := false, committed := false, flushDone := false, lgReturn := false, pinWaits := false, marks := [], quietSrc := src } }
  let s := { s with ana := { s.ana with mode := .start, prev := none, cause := 0, modeSince := s.now, watchdog := s.now, workerFrom := s.now } }
  timeRestart (if old = .off then holdsThaw s else s)

/-- CORE_RESET_RELEASE. -/
def execCoreResetRelease (s : State) : Host.Outcome State Fault Refusal :=
  .next (match s.pwr.core with
    | .reset due => if s.pwr.mainGood then atTick s (some due) coreStarts else s
    | _ => s)

/-- The line die is configured with all feeds open (R379), and the combination is checked (R668). -/
def lineConfigured (s : State) : State :=
  if linkOk s then versionCheck ((List.range 8).foldl feedStop { s with drv := { s.drv with configured := true } }) else s

/-- The barrier link is up: the revisions are read, and the half-cycles of R52 count from here. -/
def linkUp (lrev jrev : Byte) (s : State) : State :=
  let s := { s with pwr := { s.pwr with linkUp := true, prov := [] }, ana := { s.ana with lrev := lrev, jrev := jrev }, drv := { s.drv with lastWord := s.now, lastHb := s.now } }
  if s.cnv.ref != .off then lineConfigured s else if s.pwr.versions then versionCheck s else s

/-- BARRIER_LINK_UP: 6 ms after the release at the earliest. -/
def execBarrierLinkUp (lrev jrev : Byte) (s : State) : Host.Outcome State Fault Refusal :=
  .next (if coreRuns s && !s.pwr.linkUp then atTick s (some (s.rel + 6 * tickMs)) (linkUp lrev jrev) else s)

/-- BARRIER_LINK_BACK. -/
def execBarrierLinkBack (s : State) : Host.Outcome State Fault Refusal :=
  .next (if coreRuns s && s.drv.lost then atTick s (s.drv.backSince.map (· + 100 * tickMs)) fun s => versionCheck (linkBack s) else s)

/-- VERSION_CHECK: 8 ms after the release. -/
def execVersionCheck (s : State) : Host.Outcome State Fault Refusal :=
  .next (if coreRuns s && s.ana.mode = .start && !s.pwr.versions then
      atTick s (some (s.rel + 8 * tickMs)) fun s => versionCheck { s with pwr := { s.pwr with versions := true } }
    else s)

/-- QUICK_SELF_TEST_COMPLETE, 33 ms after the release: faults are latched, and the configuration read takes 10 ms;
`copyOk`: at least one of its copies is readable. -/
def execQuickSelfTestComplete (faults : BitVec 10) (feeds : BitVec 8) (ports : BitVec 4) (copyOk : Bool) (s : State) : Host.Outcome State Fault Refusal :=
  .next (if coreRuns s && s.ana.mode = .start && s.pwr.versions && !s.pwr.selfTested then
      atTick s (some (s.rel + 33 * tickMs)) fun s =>
        quickResult { s with pwr := { s.pwr with selfTested := true, cfgOk := copyOk, loadAt := some (s.now + 10 * tickMs) } } faults feeds ports
    else s)

/-- The stored descriptors come into force. -/
def descsLoad (s : State) : State :=
  s.ana.xstored.foldl (fun s p => setXcell s p.1 { xcell s p.1 with desc := some p.2, since := s.now }) s

/-- The rates of the links (R117): AUTO leaves LINK1's detection as it stands. -/
def ratesLoad (s : State) : State :=
  let r0 := ratePending (cfgVal s (sesObj .link0) "RATE")
  let r1 := ratePending (cfgVal s (sesObj .link1) "RATE")
  let s := if r0 = 0 then s else { s with vil := { s.vil with rate0 := r0 } }
  if r1 = 0 then s else { s with vil := { s.vil with rate1 := r1, armed := false } }

/-- The Snuffer limits of every drive. -/
def tripsLoad (s : State) : State :=
  (usedDrives s).foldl (fun s d => (tripOuts s d).foldl (fun s o => limitWrite s o (match o with | .feed _ => cfgMilli s (drvObj d) "TRIPA" / 100 | .port _ => cfgMilli s (drvObj d) "TRIPMV")) s) s

/-- The notices of the Pilot domain and of the last gasp (Table PWR-6, R56, R58). -/
def startNotices (s : State) : State :=
  let lost := s.pwr.gasp.isSome && s.jrn.gasp.isNone
  let s := if lost then notify s "JRN.LASTGASP-LOST" none else s
  let s := if s.pwr.exhNotice then notify s "PWR.CELL-EXHAUSTED" none else s
  let s := if s.pwr.lostNotice then notify s "PWR.TIME-LOST" else s
  { s with pwr := { s.pwr with gasp := none, exhNotice := false, lostNotice := false } }

/-- The configuration has been read, the journal anchor is written, the line die is configured and the reference buffer
is enabled. -/
def configLoad (s : State) : State :=
  let s := { s with pwr := { s.pwr with cfgLoaded := true } }
  let s := if s.pwr.cfgOk then descsLoad { s with cfg := s.stored } else s
  let s := { s with sec := { s.sec with worlds := worldMap s, regions := cfgNat s secObj "SECREGIONS" } }
  let s := nominalSet (tripsLoad (ratesLoad s))
  let s := thermRestart (drivesRestart s) s.pwr.lineRan
  let s := busStart (timeConfigured (climRestart (lanRestart s)))
  let s := startNotices s
  let s := jrnAnchor (jrnOpen s) 0
  refEnable (lineConfigured s)

/-- Table PWR-2 at a boundary. -/
def startBoundary (s : State) : State :=
  if s.ana.mode != .start || s.pwr.cfgLoaded then s
  else match s.pwr.loadAt with
    | some t => if t ≤ s.now then configLoad s else s
    | none => s

/-- The mode that start-up ends in (R50, R653, R670). -/
def startTarget (s : State) : State :=
  if s.ana.mode != .start then s
  else if s.tst.qfail || !s.pwr.cfgOk then addCause s 4 .safe
  else addCause s 3 .run

/-- REF_SETTLED: 5 ms after the buffer was enabled (R285); at start-up, RUN or SAFE at the boundary of that tick or
at the next. -/
def execRefSettled (s : State) : Host.Outcome State Fault Refusal :=
  .next (if sensing s && s.cnv.ref = .settling then atTick s (some (s.cnv.refAt + 5 * tickMs)) fun s =>
      let s := startTarget (refOk s)
      if s.ana.mode = .start && s.now = epochTick s s.epoch then modeDecide (leaveBoundary s) else s
    else s)

end Sys2Proof.Machine
end

