-- ==== Sys2Proof/Machine/Epoch.lean ====
section
/-!
DEFINITION. The epoch boundary (R18 to R22): the records of the epoch before are delivered in canonical order, then what
the control islands posted, then every chapter's part of a boundary, and last the decision on the mode (R28).
-/
namespace Sys2Proof.Machine
open Sys2Proof

/-! ### Deliveries (R19) -/

/-- KEEPER learns mains and the sag from X188 (R75, R89): the last four half-cycles, presence, and an open SAG mark. -/
def mainsTake (s : State) (r : Rec) : State :=
  if r.x != 188 then s
  else if r.silent && r.ev = some (.begins .silent) then notify (stopCharging { s with lve := { s.lve with mainsK := false } }) "PWR.MAINS-ABSENT"
  else if recFails r then stopCharging s
  else match r.pay with
    | .mains rms freq present => { s with lve := { s.lve with mainsK := present, vmin := if rms = 0 && freq = 0 then s.lve.vmin else (rms :: s.lve.vmin).take 4 } }
    | .mark .sag _ stop _ => { s with lve := { s.lve with sagK := stop.isNone } }
    | _ => s

/-- A record of KEEPER's buffer. -/
def keeperTakes (s : State) (r : Rec) : State :=
  let s := linkDeliver (mainsTake (xSeen s r) r) r
  bistDeliver (jrnDeliver (lanDeliver (timeDeliver (thermDeliver s r) r) r) r) r

/-- A record of WORK0's buffer; the bytes of the UARTs go to the live sessions, in a replay too (R636). -/
def work0Takes (s : State) (r : Rec) : State :=
  if (xDest r.x).testBit 0 || r.x = 194 || r.x = 195 then s
  else
    let s := busDeliver (xSeen s r) r
    if r.x = 198 then lanDeliver s r else s

/-- A record of WORK1's buffer. -/
def work1Takes (s : State) (r : Rec) : State :=
  let s := if (xDest r.x).testBit 0 then s else thermDeliver (xSeen s r) r
  climDeliver (driveDeliver s r) r

/-- The notice of a record that carries an episode's decision waits for WORK0 while it takes nothing (R17, R40). -/
def xTold (s : State) (r : Rec) : State :=
  if !work0Waits s then xNotice s r
  else if !s.ana.notesOn || !(xDesc s r.x).note then s
  else match r.ev with
    | some (.begins k) => notifyAt s s.epoch (xkindName k) (some (xobj r.x))
    | some (.turns k) => notifyAt s s.epoch (xkindName k) (some (xobj r.x))
    | some .ends => notifyAt s s.epoch "XING.OK" (some (xobj r.x))
    | none => s

/-- A record of the epoch that has just ended. -/
def recFresh (s : State) (r : Rec) : Bool := decide (s.epoch ≤ r.stamp / tickMs + 1)

/-- The records whose episodes KEEPER tells WORK0 of: those of this epoch that do not go to WORK0 themselves (R17). -/
def keeperTells (s : State) (k w1 : List Rec) : List Rec :=
  canonical ((k.filter fun r => !(xDest r.x).testBit 1) ++ w1.filter fun r => xDest r.x = 4 && recFresh s r)

/-- Records in canonical order reach the islands; the notices of WORK0's own records come first, then what KEEPER tells
of the others (R20). -/
def deliver (s : State) (k w0 w1 tells : List Rec) : State :=
  let s := w1.foldl work1Takes (w0.foldl work0Takes (k.foldl keeperTakes s))
  tells.foldl xTold (w0.foldl xTold s)

/-- Records of a replay, at every destination. -/
def deliverAll (s : State) (l : List Rec) : State :=
  let l := canonical l
  let dst (n : Nat) : List Rec := l.filter fun r => (xDest r.x).testBit n
  deliver s (dst 0) (dst 1) (dst 2) (keeperTells s (dst 0) (dst 2))

/-- The records of the epoch that ends, each once, for the journal writer. -/
def recsOfEpoch (s : State) : List Rec :=
  let a := s.ana
  canonical (a.bufK ++ (a.bufW0.filter fun r => !(xDest r.x).testBit 0 && recFresh s r) ++ a.bufW1.filter fun r => xDest r.x = 4 && recFresh s r)

/-- The buffers are emptied: the deliveries, and the list that the journal writer is handed.  While the workers are held
in reset their buffers keep what they hold, and it reaches them at the first boundary after their release (R40). -/
def deliveries (s : State) : State :=
  let a := s.ana
  let waits := a.workersReset.isSome
  let k := canonical a.bufK
  let w0 := if waits then [] else canonical a.bufW0
  let w1 := if waits then [] else canonical a.bufW1
  let tells := keeperTells s a.bufK a.bufW1
  let peak := max a.peak (max k.length (max w0.length w1.length))
  let recs := recsOfEpoch s
  let s := { s with ana := { a with bufK := [], bufW0 := if waits then a.bufW0 else [], bufW1 := if waits then a.bufW1 else [], peak := peak } }
  let s := jrnBoundary s recs
  let s := if s.jrn.rpl.isSome then replayEpoch s deliverAll else deliver s k w0 w1 tells
  w0.foldl byteTake s

/-! ### What was posted -/

/-- One answer of Lamplighter reaches its holder. -/
def answerTakes (s : State) (m : LMsg) : State :=
  match m.h with
  | .drive d => driveAnswer s d.val m
  | .aux => auxAnswered s m
  | .lantern => lanAnswer s m
  | .cal => if m.a = .calmBreak then calBroken s else calAnswer s m.a
  | .bist => bistAnswer s m.a
  | .freeze => frzAnswer s m
  | .charge => chargeAnswer s m.a

/-- The answers due at this boundary. -/
def answersTake (s : State) : State :=
  let due := s.lve.answers.filter fun m => m.epoch ≤ s.epoch
  due.foldl answerTakes { s with lve := { s.lve with answers := s.lve.answers.filter fun m => s.epoch < m.epoch } }

/-- An accepted command goes on at a boundary (R20, R175). -/
def workStep (s : State) (id : Nat) : State :=
  match findOut s id with
  | none => s
  | some o => match o.work with
    | .reply _ _ _ => settle s id
    | .query e r a => if e ≤ s.epoch then queryServe s id r a else s
    | .effect e x fin => if e ≤ s.epoch then effectDo s o x fin else s
    | .auth e r resp => if e ≤ s.epoch then authEnd s o r resp else s
    | .export_ _ _ _ => if s.ana.workersReset.isSome then s else exportStep s o
    | _ => s

def worksStep (s : State) : State := (s.vil.outs.map (·.id)).foldl workStep s

/-! ### The boundary -/

/-- The clock comes to the next boundary. -/
def epochAdvances (s : State) : State := { s with now := max s.now (epochTick s (s.epoch + 1)), epoch := s.epoch + 1 }

/-- The epoch begins: the watchdog is served, tags freed in the epoch before may be used again (R141), and descriptors and
limits written come into force. -/
def epochBegins (s : State) : State :=
  let s := epochAdvances s
  let s := allSess.foldl (fun s k => modSes s k fun x => { x with freed := x.freed.filter fun f => s.epoch ≤ f.2 + 1 || !x.waiting.isEmpty }) s
  limitsTake { s with ana := { s.ana with stalled := false, watchdog := s.now } }

/-- The workers' part of a boundary: none while they are held in reset. -/
def workersStep (s : State) : State :=
  if s.ana.workersReset.isSome then s
  else climBoundary (driveBoundary (driveResults s))

/-- WORK0's lines and macros at a boundary, in the order of the sessions (R177). -/
def linesStep (s : State) : State :=
  if s.ana.workersReset.isSome then s
  else startPending (rtsFollows (portSess.foldl sessionReads s))

/-- Every chapter's part, in the order of the islands. -/
def islandsStep (s : State) : State :=
  let s := timeBoundary (thermBoundary (countBoundary (convBoundary (lateNotices s))))
  let s := frzBoundary (descsTake (worksStep (storesStep (answersTake s))))
  let s := busBoundary (workersStep s)
  let s := bistBoundary (lanBoundary (leaveBoundary s))
  startBoundary (auditFlush (linesStep s))

/-- The boundary in the modes that run: KEEPER is stopped in QUIET, where a wake alone acts (R63, R711). -/
def epochRuns (s : State) : State :=
  if s.ana.mode = .quiet then countParks (modeDecide (jrnBoundary (descsTake (busSleepDue s)) []))
  else anchorSeal (tunBoundary (countParks (modeDecide (idleStep (islandsStep (windowStep (descsTake (deliveries s))))))))

/-- The boundary that ends the epoch in progress: after a commit, epochs are only counted. -/
def epochStep (s : State) : State :=
  if !coreRuns s then s
  else
    let s := epochBegins s
    if s.pwr.committed then s else epochRuns s

/-- EPOCH_BOUNDARY. -/
def execEpochBoundary (s : State) : Host.Outcome State Fault Refusal := .next (epochStep s)

/-- TUNNEL_FRAGMENT: at the boundary of its delivery, lines that it completes are read and answered at that boundary, as the
lines of every session are (R140, R524). -/
def execTunnelFragment (ses : Fin 4) (src : Fin 64) (sq : Fin 64) (bytes : List Byte) (s : State) : Host.Outcome State Fault Refusal :=
  .next (if !busTakes s then s
    else if bytes.isEmpty || 63 < bytes.length then busUnused s
    else match tunFor s ses src with
      | none => tunCtl s src ses [6]
      | some t =>
        if s.now = epochTick s s.epoch then tunBoundary (linesStep (fragTakes s ses t sq bytes (s.now - 1)))
        else fragTakes s ses t sq bytes s.now)

/-- Nothing is commanded: one tick passes, and where it begins an epoch, the boundary comes (DESIGN CHOICE, log 1). -/
def idleTick (s : State) : State :=
  if coreRuns s && epochTick s (s.epoch + 1) ≤ s.now + 1 then epochStep s else { s with now := s.now + 1 }

end Sys2Proof.Machine
end

