-- ==== Sys2Proof/Machine/Dispatch.lean ====
section
/-!
DEFINITION. The dispatch of a command to its meaning.
-/
namespace Sys2Proof.Machine
open Sys2Proof

def exec (i : Instr) (s : State) : Host.Outcome State Fault Refusal :=
  match i with
  | .epochBoundary => Sys2Proof.Machine.execEpochBoundary s
  | .guardedArrival x v ptick => Sys2Proof.Machine.execGuardedArrival x v ptick s
  | .silenceExpiry x => Sys2Proof.Machine.execSilenceExpiry x s
  | .heldHandshake => Sys2Proof.Machine.execHeldHandshake s
  | .workerHeartbeat w => Sys2Proof.Machine.execWorkerHeartbeat w s
  | .heartbeatWindowClose => Sys2Proof.Machine.execHeartbeatWindowClose s
  | .workerRelease crcOk => Sys2Proof.Machine.execWorkerRelease crcOk s
  | .safeAutoReturn => Sys2Proof.Machine.execSafeAutoReturn s
  | .keeperWatchdogExpiry => Sys2Proof.Machine.execKeeperWatchdogExpiry s
  | .mainGood => Sys2Proof.Machine.execMainGood s
  | .mainLost => Sys2Proof.Machine.execMainLost s
  | .mainsAbsent => Sys2Proof.Machine.execMainsAbsent s
  | .zeroCrossing raw => Sys2Proof.Machine.execZeroCrossing raw s
  | .halfCycleReport rms freq => Sys2Proof.Machine.execHalfCycleReport rms freq s
  | .absentHealthReport => Sys2Proof.Machine.execAbsentHealthReport s
  | .transientDetect slew => Sys2Proof.Machine.execTransientDetect slew s
  | .coreResetRelease => Sys2Proof.Machine.execCoreResetRelease s
  | .barrierLinkUp lrev jrev => Sys2Proof.Machine.execBarrierLinkUp lrev jrev s
  | .versionCheck => Sys2Proof.Machine.execVersionCheck s
  | .quickSelfTestComplete faults feeds ports copyOk => Sys2Proof.Machine.execQuickSelfTestComplete faults feeds ports copyOk s
  | .refSettled => Sys2Proof.Machine.execRefSettled s
  | .resetPin low => Sys2Proof.Machine.execResetPin low s
  | .brownOut low => Sys2Proof.Machine.execBrownOut low s
  | .holdAssert => Sys2Proof.Machine.execHoldAssert s
  | .flushComplete => Sys2Proof.Machine.execFlushComplete s
  | .quietidleExpiry => Sys2Proof.Machine.execQuietidleExpiry s
  | .quietWake src => Sys2Proof.Machine.execQuietWake src s
  | .wakeChannelSample levels => Sys2Proof.Machine.execWakeChannelSample levels s
  | .rtcAlarm => Sys2Proof.Machine.execRtcAlarm s
  | .auxTrip ma long => Sys2Proof.Machine.execAuxTrip ma long s
  | .auxRetry => Sys2Proof.Machine.execAuxRetry s
  | .vbatEvaluation mv => Sys2Proof.Machine.execVbatEvaluation mv s
  | .fastChargeEnd mv => Sys2Proof.Machine.execFastChargeEnd mv s
  | .pilotCutoffPending => Sys2Proof.Machine.execPilotCutoffPending s
  | .pilotDead => Sys2Proof.Machine.execPilotDead s
  | .vbatRecover => Sys2Proof.Machine.execVbatRecover s
  | .pilotStatePost => Sys2Proof.Machine.execPilotStatePost s
  | .leaveRequest h cls dur => Sys2Proof.Machine.execLeaveRequest h cls dur s
  | .leaveTimeout h => Sys2Proof.Machine.execLeaveTimeout h s
  | .grantExpiry h => Sys2Proof.Machine.execGrantExpiry h s
  | .grantReturn h => Sys2Proof.Machine.execGrantReturn h s
  | .leaveWithdraw h => Sys2Proof.Machine.execLeaveWithdraw h s
  | .staggerElapsed => Sys2Proof.Machine.execStaggerElapsed s
  | .uartByte p code => Sys2Proof.Machine.execUartByte p code s
  | .commandLine k text => Sys2Proof.Machine.execCommandLine k text s
  | .partialTimeout k => Sys2Proof.Machine.execPartialTimeout k s
  | .ctrlC k => Sys2Proof.Machine.execCtrlC k s
  | .autobaudDetect ch rate => Sys2Proof.Machine.execAutobaudDetect ch rate s
  | .autobaudRearm low => Sys2Proof.Machine.execAutobaudRearm low s
  | .rateChangeEffect p => Sys2Proof.Machine.execRateChangeEffect p s
  | .ctsChange asserted => Sys2Proof.Machine.execCtsChange asserted s
  | .noticeSent k => Sys2Proof.Machine.execNoticeSent k s
  | .hello q mode level => Sys2Proof.Machine.execHello q mode level s
  | .authChallenge q r => Sys2Proof.Machine.execAuthChallenge q r s
  | .authResponse q r codes => Sys2Proof.Machine.execAuthResponse q r codes s
  | .logout q => Sys2Proof.Machine.execLogout q s
  | .key q r codes => Sys2Proof.Machine.execKey q r codes s
  | .version q => Sys2Proof.Machine.execVersion q s
  | .status q => Sys2Proof.Machine.execStatus q s
  | .help q word => Sys2Proof.Machine.execHelp q word s
  | .cancel q tag => Sys2Proof.Machine.execCancel q tag s
  | .getAttr q o attrs => Sys2Proof.Machine.execGetAttr q o attrs s
  | .setAttr q o pairs => Sys2Proof.Machine.execSetAttr q o pairs s
  | .showObj q o aspect => Sys2Proof.Machine.execShowObj q o aspect s
  | .defaultObj q o => Sys2Proof.Machine.execDefaultObj q o s
  | .defaultAll q => Sys2Proof.Machine.execDefaultAll q s
  | .lockConfig q => Sys2Proof.Machine.execLockConfig q s
  | .modeRun q => Sys2Proof.Machine.execModeRun q s
  | .modeSafe q => Sys2Proof.Machine.execModeSafe q s
  | .modeQuiet q => Sys2Proof.Machine.execModeQuiet q s
  | .modeBench q => Sys2Proof.Machine.execModeBench q s
  | .modeRestart q => Sys2Proof.Machine.execModeRestart q s
  | .restartReset => Sys2Proof.Machine.execRestartReset s
  | .regRead q addr count => Sys2Proof.Machine.execRegRead q addr count s
  | .regWrite q addr value mask => Sys2Proof.Machine.execRegWrite q addr value mask s
  | .move q o dest tilt => Sys2Proof.Machine.execMove q o dest tilt s
  | .stop q o => Sys2Proof.Machine.execStop q o s
  | .release q o => Sys2Proof.Machine.execRelease q o s
  | .learn q d => Sys2Proof.Machine.execLearn q d s
  | .ack q o fault => Sys2Proof.Machine.execAck q o fault s
  | .calConverters q => Sys2Proof.Machine.execCalConverters q s
  | .bist q dur => Sys2Proof.Machine.execBist q dur s
  | .repairFuse q => Sys2Proof.Machine.execRepairFuse q s
  | .timeSet q y mo d h mi sec unc => Sys2Proof.Machine.execTimeSet q y mo d h mi sec unc s
  | .send q ident len data fd brs oneshot => Sys2Proof.Machine.execSend q ident len data fd brs oneshot s
  | .draw q full fill pairs => Sys2Proof.Machine.execDraw q full fill pairs s
  | .blink q seg period a b => Sys2Proof.Machine.execBlink q seg period a b s
  | .blinkOff q seg => Sys2Proof.Machine.execBlinkOff q seg s
  | .freeze q slot note => Sys2Proof.Machine.execFreeze q slot note s
  | .exportData q what => Sys2Proof.Machine.execExportData q what s
  | .load q slot sq data => Sys2Proof.Machine.execLoad q slot sq data s
  | .loadEnd q slot => Sys2Proof.Machine.execLoadEnd q slot s
  | .replayStart q slot => Sys2Proof.Machine.execReplayStart q slot s
  | .replayStop q => Sys2Proof.Machine.execReplayStop q s
  | .macroAdd q m line => Sys2Proof.Machine.execMacroAdd q m line s
  | .macroClear q m => Sys2Proof.Machine.execMacroClear q m s
  | .macroList q m => Sys2Proof.Machine.execMacroList q m s
  | .macroRun q m => Sys2Proof.Machine.execMacroRun q m s
  | .onBind q event obj m => Sys2Proof.Machine.execOnBind q event obj m s
  | .onOff q event obj => Sys2Proof.Machine.execOnOff q event obj s
  | .onList q => Sys2Proof.Machine.execOnList q s
  | .wait q ms => Sys2Proof.Machine.execWait q ms s
  | .waitExpiry k tag => Sys2Proof.Machine.execWaitExpiry k tag s
  | .auditAck q n => Sys2Proof.Machine.execAuditAck q n s
  | .slotFree q n => Sys2Proof.Machine.execSlotFree q n s
  | .storeWriteComplete ok => Sys2Proof.Machine.execStoreWriteComplete ok s
  | .macroLine m => Sys2Proof.Machine.execMacroLine m s
  | .macroTrigger m => Sys2Proof.Machine.execMacroTrigger m s
  | .challengeExpiry k => Sys2Proof.Machine.execChallengeExpiry k s
  | .roleInactivityExpiry k => Sys2Proof.Machine.execRoleInactivityExpiry k s
  | .authBlockExpiry bus r => Sys2Proof.Machine.execAuthBlockExpiry bus r s
  | .secViolation w addr => Sys2Proof.Machine.execSecViolation w addr s
  | .icFreeWindowEnd raw => Sys2Proof.Machine.execIcFreeWindowEnd raw s
  | .icResultRelease => Sys2Proof.Machine.execIcResultRelease s
  | .icReleaseTimeout => Sys2Proof.Machine.execIcReleaseTimeout s
  | .drySample levels => Sys2Proof.Machine.execDrySample levels s
  | .odTrip c ma => Sys2Proof.Machine.execOdTrip c ma s
  | .groupTrip g ma => Sys2Proof.Machine.execGroupTrip g ma s
  | .fcTrigger fi ct => Sys2Proof.Machine.execFcTrigger fi ct s
  | .fcBurstEnd codes => Sys2Proof.Machine.execFcBurstEnd codes s
  | .lcSampleSet sq lv li => Sys2Proof.Machine.execLcSampleSet sq lv li s
  | .refFault => Sys2Proof.Machine.execRefFault s
  | .refRecover => Sys2Proof.Machine.execRefRecover s
  | .calPhaseEnd vals => Sys2Proof.Machine.execCalPhaseEnd vals s
  | .churnWord k w ext f => Sys2Proof.Machine.execChurnWord k w ext f s
  | .snapshot => Sys2Proof.Machine.execSnapshot s
  | .markReport kind start stop => Sys2Proof.Machine.execMarkReport kind start stop s
  | .peekLatch k => Sys2Proof.Machine.execPeekLatch k s
  | .pulseEdgeQualified u rise => Sys2Proof.Machine.execPulseEdgeQualified u rise s
  | .counterAdvance n => Sys2Proof.Machine.execCounterAdvance n s
  | .linkedAction n => Sys2Proof.Machine.execLinkedAction n s
  | .captureEdge n => Sys2Proof.Machine.execCaptureEdge n s
  | .captureRecordSend => Sys2Proof.Machine.execCaptureRecordSend s
  | .sampleRecord n => Sys2Proof.Machine.execSampleRecord n s
  | .filteredRecord n => Sys2Proof.Machine.execFilteredRecord n s
  | .compareWriteEffect n => Sys2Proof.Machine.execCompareWriteEffect n s
  | .counterClear n => Sys2Proof.Machine.execCounterClear n s
  | .captureTickLatch n => Sys2Proof.Machine.execCaptureTickLatch n s
  | .cntCmpWrite n v => Sys2Proof.Machine.execCntCmpWrite n v s
  | .feedCloseCommand f => Sys2Proof.Machine.execFeedCloseCommand f s
  | .feedOpen f => Sys2Proof.Machine.execFeedOpen f s
  | .feedOpenTimeout f => Sys2Proof.Machine.execFeedOpenTimeout f s
  | .deadTimeEnd o => Sys2Proof.Machine.execDeadTimeEnd o s
  | .rampEnd p => Sys2Proof.Machine.execRampEnd p s
  | .encoderEdge p ea eb => Sys2Proof.Machine.execEncoderEdge p ea eb s
  | .feedTrip f ma => Sys2Proof.Machine.execFeedTrip f ma s
  | .portTrip p mv => Sys2Proof.Machine.execPortTrip p mv s
  | .tripLatchClear o => Sys2Proof.Machine.execTripLatchClear o s
  | .barrierHeartbeat => Sys2Proof.Machine.execBarrierHeartbeat s
  | .heartbeatLoss => Sys2Proof.Machine.execHeartbeatLoss s
  | .barrierLinkLost => Sys2Proof.Machine.execBarrierLinkLost s
  | .barrierLinkBack => Sys2Proof.Machine.execBarrierLinkBack s
  | .travelEnd d => Sys2Proof.Machine.execTravelEnd d s
  | .endstopCollapse d => Sys2Proof.Machine.execEndstopCollapse d s
  | .endstopTimeout d => Sys2Proof.Machine.execEndstopTimeout d s
  | .learnRunTimeout d => Sys2Proof.Machine.execLearnRunTimeout d s
  | .obstacleEvaluation d => Sys2Proof.Machine.execObstacleEvaluation d s
  | .stall d => Sys2Proof.Machine.execStall d s
  | .sagStop => Sys2Proof.Machine.execSagStop s
  | .protectionOnDelay p => Sys2Proof.Machine.execProtectionOnDelay p s
  | .protectionOffDelay p => Sys2Proof.Machine.execProtectionOffDelay p s
  | .holdExpiry d => Sys2Proof.Machine.execHoldExpiry d s
  | .thermalStep pe => Sys2Proof.Machine.execThermalStep pe s
  | .ambientWord => Sys2Proof.Machine.execAmbientWord s
  | .ambientTimeout => Sys2Proof.Machine.execAmbientTimeout s
  | .thermoClear m => Sys2Proof.Machine.execThermoClear m s
  | .thermalStateRecord => Sys2Proof.Machine.execThermalStateRecord s
  | .loopRelease l => Sys2Proof.Machine.execLoopRelease l s
  | .loopOutput l done => Sys2Proof.Machine.execLoopOutput l done s
  | .runonEnd l => Sys2Proof.Machine.execRunonEnd l s
  | .occupancyExpiry z => Sys2Proof.Machine.execOccupancyExpiry z s
  | .overrideExpiry z => Sys2Proof.Machine.execOverrideExpiry z s
  | .switchPoint k => Sys2Proof.Machine.execSwitchPoint k s
  | .canFrameValid f => Sys2Proof.Machine.execCanFrameValid f s
  | .queueDrain b => Sys2Proof.Machine.execQueueDrain b s
  | .userFrame bf f => Sys2Proof.Machine.execUserFrame bf f s
  | .canTxComplete tb r sof sub => Sys2Proof.Machine.execCanTxComplete tb r sof sub s
  | .busErrorState tec rec => Sys2Proof.Machine.execBusErrorState tec rec s
  | .busOffDelayExpiry => Sys2Proof.Machine.execBusOffDelayExpiry s
  | .busOffRecovered => Sys2Proof.Machine.execBusOffRecovered s
  | .busSleep => Sys2Proof.Machine.execBusSleep s
  | .canWake k => Sys2Proof.Machine.execCanWake k s
  | .busHeartbeatSend => Sys2Proof.Machine.execBusHeartbeatSend s
  | .heartbeatReceived src => Sys2Proof.Machine.execHeartbeatReceived src s
  | .pointPublish p => Sys2Proof.Machine.execPointPublish p s
  | .pointreq src index => Sys2Proof.Machine.execPointreq src index s
  | .tunnelOpen src => Sys2Proof.Machine.execTunnelOpen src s
  | .tunnelFragment ses src sq bytes => Sys2Proof.Machine.execTunnelFragment ses src sq bytes s
  | .tunnelAck ses src next => Sys2Proof.Machine.execTunnelAck ses src next s
  | .tunnelResend ses => Sys2Proof.Machine.execTunnelResend ses s
  | .tunnelClose ses src => Sys2Proof.Machine.execTunnelClose ses src s
  | .tunnelIdle ses => Sys2Proof.Machine.execTunnelIdle ses s
  | .sealedOrder ident fdf data => Sys2Proof.Machine.execSealedOrder ident fdf data s
  | .timerefSend => Sys2Proof.Machine.execTimerefSend s
  | .timerefReceived src data sof sub => Sys2Proof.Machine.execTimerefReceived src data sof sub s
  | .timefupReceived src data => Sys2Proof.Machine.execTimefupReceived src data s
  | .timeSample => Sys2Proof.Machine.execTimeSample s
  | .masterClaim => Sys2Proof.Machine.execMasterClaim s
  | .timeSourceLost => Sys2Proof.Machine.execTimeSourceLost s
  | .slewComplete => Sys2Proof.Machine.execSlewComplete s
  | .timeStep => Sys2Proof.Machine.execTimeStep s
  | .pulseStart => Sys2Proof.Machine.execPulseStart s
  | .pulseEnd => Sys2Proof.Machine.execPulseEnd s
  | .holdlimExpiry => Sys2Proof.Machine.execHoldlimExpiry s
  | .rtcWrite => Sys2Proof.Machine.execRtcWrite s
  | .pumpReady => Sys2Proof.Machine.execPumpReady s
  | .pumpTimeout => Sys2Proof.Machine.execPumpTimeout s
  | .lanFrameEnd => Sys2Proof.Machine.execLanFrameEnd s
  | .pumpDip => Sys2Proof.Machine.execPumpDip s
  | .recoveryEnd => Sys2Proof.Machine.execRecoveryEnd s
  | .drawSupplyTimeout => Sys2Proof.Machine.execDrawSupplyTimeout s
  | .blinkToggle k => Sys2Proof.Machine.execBlinkToggle k s
  | .lanternStatusPost => Sys2Proof.Machine.execLanternStatusPost s
  | .anchorInterval => Sys2Proof.Machine.execAnchorInterval s
  | .freezeBoundary => Sys2Proof.Machine.execFreezeBoundary s
  | .freezeCopyStart => Sys2Proof.Machine.execFreezeCopyStart s
  | .freezeCopyComplete => Sys2Proof.Machine.execFreezeCopyComplete s
  | .journalStatusPost => Sys2Proof.Machine.execJournalStatusPost s
  | .bistStageEnd faults feeds ports rows => Sys2Proof.Machine.execBistStageEnd faults feeds ports rows s
  | .testStatusPost => Sys2Proof.Machine.execTestStatusPost s
  | .xingClrstat v => Sys2Proof.Machine.execXingClrstat v s
  | .xingNotes v => Sys2Proof.Machine.execXingNotes v s
  | .xingDescriptorWrite x r v mask => Sys2Proof.Machine.execXingDescriptorWrite x r v mask s
  | .rstcauseClear v => Sys2Proof.Machine.execRstcauseClear v s
  | .leaveClr v => Sys2Proof.Machine.execLeaveClr v s
  | .linkClr v => Sys2Proof.Machine.execLinkClr v s
  | .chanClr v => Sys2Proof.Machine.execChanClr v s
  | .icClr v => Sys2Proof.Machine.execIcClr v s
  | .fcClr v => Sys2Proof.Machine.execFcClr v s
  | .probeClr v => Sys2Proof.Machine.execProbeClr v s
  | .churnClr v => Sys2Proof.Machine.execChurnClr v s
  | .cntClr v => Sys2Proof.Machine.execCntClr v s
  | .motClr v => Sys2Proof.Machine.execMotClr v s
  | .lineClr v => Sys2Proof.Machine.execLineClr v s
  | .snufferLimitWrite o v => Sys2Proof.Machine.execSnufferLimitWrite o v s
  | .thmThresholdWrite m v mask => Sys2Proof.Machine.execThmThresholdWrite m v mask s
  | .thmClr v => Sys2Proof.Machine.execThmClr v s
  | .busClr v => Sys2Proof.Machine.execBusClr v s
  | .timeClr v => Sys2Proof.Machine.execTimeClr v s
  | .lanClr v => Sys2Proof.Machine.execLanClr v s
  | .jrnClr v => Sys2Proof.Machine.execJrnClr v s
  | .tstClr v => Sys2Proof.Machine.execTstClr v s
  | .monoLatch => Sys2Proof.Machine.execMonoLatch s
  | .timeSecLatch => Sys2Proof.Machine.execTimeSecLatch s
  | .mainGoodQualification rise => Sys2Proof.Machine.execMainGoodQualification rise s
  | .lockedIslandsLock => Sys2Proof.Machine.execLockedIslandsLock s
  | .busJoin => Sys2Proof.Machine.execBusJoin s
  | .followedMasterUnheard => Sys2Proof.Machine.execFollowedMasterUnheard s

end Sys2Proof.Machine
end

