-- ==== Sys2Proof/Safety.lean ====
section
/-!
DEFINITION. The properties of a state that the statements speak of: the clock, the interlock of a pair of feeds, the
conditions under which a session is heard.
-/
namespace Sys2Proof.Machine
open Sys2Proof

/-- The clock stands inside or past the current epoch: epoch `n` begins `n` milliseconds after the release (R11). -/
def State.clockOk (s : State) : Prop := s.rel + s.epoch * tickMs ≤ s.now

/-- A feed is closed. -/
def State.feedClosed (s : State) (f : Nat) : Prop := (feedOf s f).closed = true

/-- The numbers of the accepted commands lie below the next number (the model's own numbering). -/
def State.idsOk (s : State) : Prop := ∀ o ∈ s.vil.outs, o.id < s.vil.nextId

/-- A command line of the session is heard: the session is open, the core die runs on its crystal, no flush has begun, the
device is not in QUIET, and no untagged command keeps a session other than MACRO from reading (R63, R132, R166). -/
def State.hears (s : State) (k : Sess) : Prop :=
  served s k = true ∧ s.ana.mode ≠ .quiet ∧ (k ≠ .mac → untaggedOut s k = false)

/-- A command line of the session is heard, and passes every check of Table VIL-5 that comes before acceptance (R142). -/
def State.takes (s : State) (q : Hdr) (c : CmdSpec) : Prop := s.hears q.ses ∧ s.idsOk ∧ firstFail s q c = none

/-- A session that can send has the line in its output; MACRO sends none, and neither does LINK1 without a rate (R120). -/
def State.sends (s t : State) (q : Hdr) (cls : Nat) (body : String) : Prop :=
  q.ses ≠ .mac → mute s q.ses = false → ∃ l ∈ (getSes t q.ses).out, l.cls = cls ∧ l.tag = q.tag ∧ l.body = body

/-- From `s` to `t` the command was accepted and is outstanding, with the work that remains (R140, R141). -/
def State.holdsCmd (s t : State) (q : Hdr) (w : Work) : Prop :=
  s.sends t q 0 "OK" ∧ ∃ o ∈ t.vil.outs, o.id = s.vil.nextId ∧ o.ses = q.ses ∧ o.tag = q.tag ∧ o.work = w

/-- From `s` to `t` the command was accepted and has ended with its MORE lines and its final line; its slot is free (R140,
R141). -/
def State.endsCmd (s t : State) (q : Hdr) (ms : List String) (body : String) : Prop :=
  s.sends t q 0 "OK" ∧ (∀ m ∈ ms, s.sends t q 1 ("MORE " ++ m)) ∧ s.sends t q 1 body ∧
    (∀ o ∈ t.vil.outs, o.id ≠ s.vil.nextId) ∧ (q.tag, s.epoch) ∈ (getSes t q.ses).freed

/-- From `s` to `t` the change of the command accepted joins the store writes, behind those that wait; its limit is 20 ms (R176). -/
def State.queues (s t : State) (x : Eff) : Prop :=
  t.vil.writes = s.vil.writes ++ [{ id := s.vil.nextId, eff := x, due := epochTick s s.epoch + 20 * tickMs }]

end Sys2Proof.Machine
end

