-- ==== Sys2Proof/WellFormed.lean ====
section
/-!
DEFINITION. Which commands are well formed: operands that a line, a frame or a die of the spec can carry.  A line the
spec refuses with RANGE or STATE is well formed; what is checked here is that the operands are those of such a line,
frame or report at all.
-/
namespace Sys2Proof

/-- A tag is 1 to 65535, and a framed line carries one (R138, R139). -/
def Hdr.wf (q : Hdr) : Bool :=
  match q.tag with
  | some t => decide (1 ≤ t) && decide (t ≤ 65535)
  | none => !q.framed

/-- A range ascends; a single object is its own range (R173). -/
def ObjRange.wf (o : ObjRange) : Bool := decide (o.lo ≤ o.hi) && (o.isRange || o.lo == o.hi)

/-- The data lengths of a frame: 0 to 8, and in FD form the lengths of ISO 11898-1 above them (Table BUS-1). -/
def frameLen (fdf : Bool) (n : Nat) : Bool := decide (n ≤ 8) || (fdf && [12, 16, 20, 24, 32, 48, 64].contains n)

/-- A frame: an 11-bit identifier in standard format, a data length of its form, no remote FD frame and no data in a
remote frame, BRS and ESI in FD form alone. -/
def CanFrame.wf (f : CanFrame) : Bool :=
  (f.ext || decide (f.ident.toNat < 2048)) && frameLen f.fdf f.data.length && !(f.remote && (f.fdf || !f.data.isEmpty))
    && (f.fdf || (!f.brs && !f.esi))

/-- A well-formed command. -/
def Instr.wf (i : Instr) : Bool :=
  match i with
  | .uartByte _ c => decide (c.toNat ≤ 0x101)
  | .thermalStep pe => pe.length == 12
  | .lcSampleSet _ _ li => li.length == 8
  | .calPhaseEnd v => [4, 8, 9].contains v.length
  | .canFrameValid f => f.wf
  | .userFrame _ f => f.wf
  | .sealedOrder _ fdf d => frameLen fdf d.length
  | .timerefReceived _ d _ _ => frameLen true d.length
  | .timefupReceived _ d => frameLen true d.length
  | .tunnelFragment _ _ _ b => decide (b.length ≤ 63)
  | .hello q _ _ => q.wf
  | .authChallenge q _ => q.wf
  | .authResponse q _ _ => q.wf
  | .logout q => q.wf
  | .key q _ _ => q.wf
  | .version q => q.wf
  | .status q => q.wf
  | .help q _ => q.wf
  | .cancel q _ => q.wf
  | .getAttr q o l => q.wf && o.wf && !l.isEmpty
  | .setAttr q o l => q.wf && o.wf && !l.isEmpty
  | .showObj q _ _ => q.wf
  | .defaultObj q _ => q.wf
  | .defaultAll q => q.wf
  | .lockConfig q => q.wf
  | .modeRun q => q.wf
  | .modeSafe q => q.wf
  | .modeQuiet q => q.wf
  | .modeBench q => q.wf
  | .modeRestart q => q.wf
  | .regRead q _ n => q.wf && decide (1 ≤ n)
  | .regWrite q _ _ _ => q.wf
  | .move q o _ _ => q.wf && o.wf
  | .stop q o => q.wf && (o.map ObjRange.wf).getD true
  | .release q o => q.wf && (o.map ObjRange.wf).getD true
  | .learn q _ => q.wf
  | .ack q _ _ => q.wf
  | .calConverters q => q.wf
  | .bist q _ => q.wf
  | .repairFuse q => q.wf
  | .timeSet q _ _ _ _ _ _ _ => q.wf
  | .send q _ _ _ _ _ _ => q.wf
  | .draw q _ _ _ => q.wf
  | .blink q _ _ _ _ => q.wf
  | .blinkOff q _ => q.wf
  | .freeze q _ _ => q.wf
  | .exportData q _ => q.wf
  | .load q _ _ _ => q.wf
  | .loadEnd q _ => q.wf
  | .replayStart q _ => q.wf
  | .replayStop q => q.wf
  | .macroAdd q _ _ => q.wf
  | .macroClear q _ => q.wf
  | .macroList q _ => q.wf
  | .macroRun q _ => q.wf
  | .onBind q _ _ _ => q.wf
  | .onOff q _ _ => q.wf
  | .onList q => q.wf
  | .wait q _ => q.wf
  | .auditAck q _ => q.wf
  | .slotFree q _ => q.wf
  | _ => true

end Sys2Proof
end

