-- ==== Sys2Proof/Certificates/Slice0/Obligations.lean ====
section
/-!
DEFINITION. The statements for the provers, from the numbered rules of the spec.
-/
open Sys2Proof Sys2Proof.Machine

/-- A step with a command waiting is the meaning of the command at the front, on the state with the rest of the queue. -/
def Obligations.StepRunsTheFrontCommand : Prop :=
  ∀ (c : Instr) (s : State), step { s with pending := c :: s.pending } = exec c s

/-- With no command waiting, one tick passes, and where it begins an epoch the boundary comes (the model's choice, log 1). -/
def Obligations.EmptyQueueLetsOneTickPass : Prop :=
  ∀ s : State, s.pending = [] →
    ((coreRuns s = false ∨ s.now + 1 < epochTick s (s.epoch + 1)) → step s = .next { s with now := s.now + 1 }) ∧
    (coreRuns s = true → epochTick s (s.epoch + 1) ≤ s.now + 1 → step s = exec .epochBoundary s) ∧
    (s.now < epochTick s (s.epoch + 1) → ∃ t, step s = .next t ∧ s.now < t.now)

/-- The clock stands inside or past the current epoch in every state a step reaches from such a state. -/
def Obligations.EveryStepKeepsTheClockPastItsEpoch : Prop :=
  ∀ s t : State, s.clockOk → step s = .next t → t.clockOk

/-- The clock of the reset state stands at its epoch. -/
def Obligations.ResetClockStandsAtItsEpoch : Prop := State.reset.clockOk

/-- No command moves the clock back or changes the queue of the commands that wait. -/
def Obligations.NoCommandTurnsTheClockBack : Prop :=
  ∀ (c : Instr) (s t : State), exec c s = .next t → s.now ≤ t.now ∧ t.pending = s.pending

/-- Only the boundary and the release of the core die reset change the epoch and the zero of monotonic time: a boundary begins
the next epoch and keeps the zero, and a release begins epoch 0 (R11, R49). -/
def Obligations.OnlyBoundariesCountEpochs : Prop :=
  ∀ (c : Instr) (s t : State), exec c s = .next t →
    (c ≠ .epochBoundary → c ≠ .coreResetRelease → t.rel = s.rel ∧ t.epoch = s.epoch) ∧
    (c = .epochBoundary → coreRuns s = true → t.rel = s.rel ∧ t.epoch = s.epoch + 1 ∧ t.rel + t.epoch * tickMs ≤ t.now) ∧
    (c = .coreResetRelease → (t.rel = s.rel ∧ t.epoch = s.epoch) ∨ t.epoch = 0)

/-- The configuration lock, once set, is cleared by no step. -/
def Obligations.NoStepClearsTheConfigurationLock : Prop :=
  ∀ s t : State, step s = .next t → s.sec.locked = true → t.sec.locked = true

/-- No command but a zero crossing of the mains closes a feed. -/
def Obligations.OnlyAZeroCrossingClosesAFeed : Prop :=
  ∀ (c : Instr) (s t : State) (f : Nat), (∀ raw, c ≠ .zeroCrossing raw) → exec c s = .next t → t.feedClosed f → s.feedClosed f

/-- Writing 1 to a clear register clears the counts it names and nothing else (the model keeps beside them what a count since
reset has lost by it, log 97); writing 0 there has no effect. -/
def Obligations.ClearRegistersClearTheirCounts : Prop :=
  ∀ (v : Word) (s : State),
    (v.getLsbD 0 = true →
      (∃ t, exec (.leaveClr v) s = .next t ∧ t = { s with lve := t.lve } ∧ leaveCounts t.lve = leaveCounts s.lve ∧
        t.lve = { s.lve with past := t.lve.past, nGrant := 0, nRefused := 0, nTimeout := 0, nCalm := 0, nOver := 0 }) ∧
      exec (.linkClr v) s = .next { s with vil := { s.vil with errCrc := 0, errOverrun := 0, errLong := 0, errPartial := 0, ferr0 := 0, ferr1 := 0, peakSlots := 0 } } ∧
      exec (.icClr v) s = .next { s with cnv := { s.cnv with discMark := 0, discMode := 0 } } ∧
      exec (.fcClr v) s = .next { s with cnv := { s.cnv with fcMiss := 0 } } ∧
      exec (.probeClr v) s = .next { s with cnv := { s.cnv with probes := 0, found := 0 } } ∧
      (∃ t, exec (.chanClr v) s = .next t ∧ t = { s with cnv := { s.cnv with grps := t.cnv.grps } } ∧
        ∀ g, grpSt t g = { grpSt s g with trips := 0 }) ∧
      (∃ t, exec (.churnClr v) s = .next t ∧ t = { s with chn := { s.chn with snaps := 0, empty := 0, cells := t.chn.cells } } ∧
        ∀ c, cellOf t c = { cellOf s c with past := (cellOf t c).past, dUnset := 0, dRange := 0, dSat := 0, dOver := 0, dLost := 0, dMarked := 0 } ∧
          cellDiscards (cellOf t c) = cellDiscards (cellOf s c)) ∧
      (∃ t, exec (.cntClr v) s = .next t ∧ t = { s with cnt := { s.cnt with cts := t.cnt.cts } } ∧
        ∀ n, ctSt t n = { ctSt s n with past := (ctSt t n).past, matches_ := 0, ovfs := 0, capLost := 0, overwr := 0 } ∧
          ctEvents (ctSt t n) = ctEvents (ctSt s n)) ∧
      (∃ t, exec (.motClr v) s = .next t ∧ t = { s with drv := { s.drv with ports := t.drv.ports } } ∧
        ∀ p, portOf_ t p = { portOf_ s p with trips := 0 }) ∧
      (∃ t, exec (.lineClr v) s = .next t ∧ t = { s with drv := { s.drv with losses := 0, feeds := t.drv.feeds } } ∧
        ∀ f, feedOf t f = { feedOf s f with trips := 0 }) ∧
      (∃ t, exec (.thmClr v) s = .next t ∧ t = { s with thm := { s.thm with models := t.thm.models } } ∧
        ∀ m, therOf t m = { therOf s m with shuts := 0 }) ∧
      (∃ t, exec (.busClr v) s = .next t ∧ t = { s with bus := t.bus } ∧
        t.bus = { s.bus with past := t.bus.past, rx := 0, txn := 0, unmatched := 0, unused := 0, offs := 0, macFails := 0, dropsA := 0, dropsB := 0, peakA := 0, peakB := 0 }) ∧
      exec (.timeClr v) s = .next { s with tim := { s.tim with nSamples := 0, nRejects := 0, nSteps := 0, nLabels := 0 } } ∧
      (∃ t, exec (.lanClr v) s = .next t ∧ t = { s with lan := t.lan } ∧
        t.lan = { s.lan with past := t.lan.past, nUpd := 0, nAbort := 0, nDrop := 0 }) ∧
      (∃ t, exec (.jrnClr v) s = .next t ∧ t = { s with jrn := t.jrn } ∧
        t.jrn = { s.jrn with past := t.jrn.past, gaps := 0, lost := 0 } ∧ jrnGaps t.jrn = jrnGaps s.jrn ∧ jrnLost t.jrn = jrnLost s.jrn) ∧
      exec (.tstClr v) s = .next { s with tst := { s.tst with runs := 0, aborts := 0 } }) ∧
    (v.getLsbD 0 = false → ∀ i ∈ ([.leaveClr v, .icClr v, .fcClr v, .probeClr v, .lanClr v, .jrnClr v, .chanClr v, .cntClr v,
      .motClr v, .lineClr v, .linkClr v, .busClr v, .churnClr v, .thmClr v, .tstClr v, .timeClr v] : List Instr), exec i s = .next s)

/-- XING_NOTES takes bit 0 as the notice enable; XING_CLRSTAT clears the stall count and the peak where bit 1 is 1. -/
def Obligations.CrossingControlWrites : Prop :=
  ∀ (v : Word) (s : State),
    exec (.xingNotes v) s = .next { s with ana := { s.ana with notesOn := v.getLsbD 0 } } ∧
    (v.getLsbD 1 = true → exec (.xingClrstat v) s = .next { s with ana := { s.ana with stalls := 0, peak := 0 } }) ∧
    (v.getLsbD 1 = false → exec (.xingClrstat v) s = .next s)

/-- A bit of PWR_RSTCAUSE is cleared by writing 1 to it, and no other bit changes. -/
def Obligations.ResetCauseBitsClearByWritingOne : Prop :=
  ∀ (v : Word) (s : State), ∃ t, exec (.rstcauseClear v) s = .next t ∧ t = { s with pwr := { s.pwr with rstcause := t.pwr.rstcause } } ∧
    ∀ b, b < 7 → t.pwr.rstcause.getLsbD b = (s.pwr.rstcause.getLsbD b && !v.getLsbD b)

/-- A cell voltage inside the absolute maximum is evaluated and the device goes on; beyond it there is no behaviour. -/
def Obligations.CellVoltageBeyondTheAbsoluteMaximumStops : Prop :=
  ∀ (mv : Int) (s : State),
    ((mv < -300 ∨ 3600 < mv) → exec (.vbatEvaluation mv) s = .fault .absoluteMaximum) ∧
    (-300 ≤ mv → mv ≤ 3600 → s.pwr.pilot ≠ .normal → exec (.vbatEvaluation mv) s = .next s) ∧
    (-300 ≤ mv → mv ≤ 3600 → s.pwr.pilot = .normal → ∃ t, exec (.vbatEvaluation mv) s = .next t ∧ t.pwr.vbat = mv.toNat)

/-- L0CTS takes the level given. -/
def Obligations.CtsTakesItsLevel : Prop :=
  ∀ (b : Bool) (s : State), exec (.ctsChange b) s = .next { s with vil := { s.vil with cts := b } }

/-! ### Anatomy -/

/-- What a guard does with an arriving value (R12 to R15): a filtered value inside LO to HI that is not too old passes and
ends the episode; any other is replaced by the substitute, with its cause as the flag, and the last value passed stays.  That
an age equal to AGE passes is the model's choice (log 84). -/
def Obligations.GuardsPassOrSubstitute : Prop :=
  ∀ (s : State) (x : Fin 240) (v : XWord) (p : Option Nat),
    xUsed x = true → guardOn s = true → bufFull s x = false → waitsBehind s x = false →
    ∃ t, exec (.guardedArrival x v p) s = .next t ∧
    let d := xDesc s x
    let f := (filterArrival d (xcell s x) (wordVal (xSigned s x) v)).filtered.getD 0
    let inside := wordVal (xSigned s x) d.lo ≤ f ∧ f ≤ wordVal (xSigned s x) d.hi
    let old := ∃ q, p = some q ∧ d.age ≠ 0 ∧ d.age.toNat * tickMs < mono s - q
    (xcell t x).lastArrival = some s.now ∧ (xcell t x).filtered = some f ∧ (xcell t x).silent = false ∧
    ((inside ∧ ¬old) → (xcell t x).cur = some f ∧ (xcell t x).lastPass = some f ∧ (xcell t x).episode = none ∧
      (xcell t x).range = false ∧ (xcell t x).stale = false) ∧
    (¬inside → (xcell t x).range = true ∧ (xcell t x).episode = some .range) ∧
    (inside → old → (xcell t x).stale = true ∧ (xcell t x).range = false ∧ (xcell t x).episode = some .stale) ∧
    (¬(inside ∧ ¬old) → (xcell t x).lastPass = (xcell s x).lastPass ∧
      (d.subk = 0 → (xcell t x).cur = some ((xcell s x).lastPass.getD (wordVal (xSigned s x) d.subv))) ∧
      (d.subk = 1 → (xcell t x).cur = some (wordVal (xSigned s x) d.subv)) ∧
      (d.subk = 2 → (xcell t x).cur = some (wordVal (xSigned s x) d.lo)) ∧
      (d.subk = 3 → (xcell t x).cur = some (wordVal (xSigned s x) d.hi)))

/-- An arrival leaves every other crossing as it was, and no group of the state but the anatomy's changes; with the status
word of a port come its current and its bus voltage (free values, log 2), which its registers take. -/
def Obligations.ArrivalsTouchTheirCrossingAlone : Prop :=
  ∀ (s t : State) (x : Fin 240) (v : XWord) (p : Option Nat), exec (.guardedArrival x v p) s = .next t →
    (∀ y, y ≠ x.val → xcell t y = xcell s y) ∧
    ((x.val < 176 ∨ 180 ≤ x.val) → t = { s with ana := t.ana }) ∧
    t = { s with ana := t.ana, fresh := t.fresh, drv := { s.drv with ports := t.drv.ports } } ∧
    ∀ q, portOf_ t q = { portOf_ s q with ma := (portOf_ t q).ma, busv := (portOf_ t q).busv } ∧
      (q + 176 ≠ x.val → portOf_ t q = portOf_ s q)

/-- The rows of the crossings have their effect: an arrival that finds room is guarded and recorded, one that finds a full
buffer or waits behind one of its crossing is held, a held handshake whose buffers have room completes, a silent crossing is
substituted, a descriptor is taken for the next epoch. When a row with a due time acts is the model's choice (log 7). -/
def Obligations.CrossingRowsComplete : Prop :=
  ∀ (s : State) (x : Fin 240) (v : XWord) (p : Option Nat),
    (xUsed x = true → guardOn s = true → bufFull s x = false → waitsBehind s x = false →
      ∃ t r, exec (.guardedArrival x v p) s = .next t ∧ r.x = x.val ∧ r.stamp = mono s ∧ r.ptick = p ∧ r.silent = false ∧
        (xcell t x).cur = some r.val ∧ (xcell t x).range = r.range ∧ (xcell t x).stale = r.stale ∧
        ((xDest x).testBit 0 = true → r ∈ t.ana.bufK) ∧ ((xDest x).testBit 1 = true → r ∈ t.ana.bufW0) ∧
        ((xDest x).testBit 2 = true → r ∈ t.ana.bufW1)) ∧
    (xUsed x = true → guardOn s = true → (bufFull s x = true ∨ waitsBehind s x = true) →
      ∃ t h, exec (.guardedArrival x v p) s = .next t ∧ t.ana.held = s.ana.held ++ [h] ∧ h.x = x.val ∧ h.v = v ∧ h.ptick = p ∧
        t.ana.xings = s.ana.xings ∧ t.ana.bufK = s.ana.bufK ∧ t.ana.bufW0 = s.ana.bufW0 ∧ t.ana.bufW1 = s.ana.bufW1) ∧
    (∀ h l, s.ana.held = h :: l → guardOn s = true → bufFull s h.x = false →
      ∃ t r, exec .heldHandshake s = .next t ∧ t.ana.held = l ∧ r.x = h.x ∧ r.stamp = mono s ∧
        ((xDest h.x).testBit 0 = true → r ∈ t.ana.bufK) ∧ ((xDest h.x).testBit 1 = true → r ∈ t.ana.bufW0) ∧
        ((xDest h.x).testBit 2 = true → r ∈ t.ana.bufW1)) ∧
    ((s.ana.held = [] ∨ guardOn s = false) → exec .heldHandshake s = .next s) ∧
    (∀ d s', guardOn s = true → bufFull s x = false → silenceDue s x = some d → comesAt s d = some s' →
      ∃ t, exec (.silenceExpiry x) s = .next t ∧ (xcell t x).silent = true ∧ (xcell t x).episode = some .silent ∧
        (xcell t x).cur = some (substitute (xSigned s x) (xDesc s x) (xcell s x))) ∧
    (∀ (r : Fin 4) w m, xConfigurable x = true → descOk (xSigned s x) x (descWrite s x r w m) = true →
      ∃ t, exec (.xingDescriptorWrite x r w m) s = .next t ∧ (xcell t x).next = some (descWrite s x r w m) ∧
        ∀ y, y ≠ x.val → xcell t y = xcell s y)

/-- A boundary begins the next epoch and brings the clock to its start; after a commit, epochs are only counted, and with the
core die not running there is none.  In QUIET the records that wait are not touched. -/
def Obligations.BoundariesBeginTheNextEpoch : Prop :=
  ∀ s : State,
    (coreRuns s = true → ∃ t, exec .epochBoundary s = .next t ∧ t.epoch = s.epoch + 1 ∧ t.rel = s.rel ∧
      epochTick s (s.epoch + 1) ≤ t.now) ∧
    (coreRuns s = true → s.pwr.committed = true → ∃ t, exec .epochBoundary s = .next t ∧ t.epoch = s.epoch + 1 ∧
      t.pwr = s.pwr ∧ t.ana = { s.ana with stalled := false, watchdog := t.now } ∧ t.lve = s.lve) ∧
    (coreRuns s = true → s.pwr.committed = false → s.ana.mode ≠ .quiet → ∃ t, exec .epochBoundary s = .next t ∧
      t = anchorSeal (tunBoundary (countParks (modeDecide (idleStep (islandsStep (windowStep (descsTake
        (deliveries (epochBegins s))))))))) ∧ t.epoch = s.epoch + 1) ∧
    (coreRuns s = false → exec .epochBoundary s = .next s)

/-- The rows of the workers and of the keeper have their effect: a heartbeat is noted, a window that closes counts what was
missed and takes over at the third miss in a row, the workers are released, the automatic return is asked for, the watchdog
resets the core die, and a blocked access is counted. When a row with a due time acts is the model's choice (log 7). -/
def Obligations.WorkerRowsComplete : Prop :=
  ∀ s : State,
    (supervised s = true → s.epoch < 10 * (s.ana.window + 1) →
      (∃ t, exec (.workerHeartbeat 0) s = .next t ∧ t.ana.beat0 = true ∧ t.ana.seen0 = true ∧ t.ana.beat1 = s.ana.beat1 ∧
        t.ana.window = s.ana.window) ∧
      (∃ t, exec (.workerHeartbeat 1) s = .next t ∧ t.ana.beat1 = true ∧ t.ana.seen1 = true ∧ t.ana.beat0 = s.ana.beat0 ∧
        t.ana.window = s.ana.window)) ∧
    (∀ w, supervised s = false → exec (.workerHeartbeat w) s = .next s) ∧
    (supervised s = true → 10 * (s.ana.window + 1) ≤ s.epoch →
      (s.ana.beat0 = true → s.ana.beat1 = true → ∃ t, exec .heartbeatWindowClose s = .next t ∧ t.ana.miss0 = 0 ∧ t.ana.miss1 = 0 ∧
        t.ana.goodWindows = s.ana.goodWindows + 1 ∧ t.ana.window = s.epoch / 10 ∧ t.ana.beat0 = false ∧ t.ana.beat1 = false) ∧
      (s.ana.beat0 = false → s.ana.seen0 = true → 2 ≤ s.ana.miss0 → ∃ t u, exec .heartbeatWindowClose s = .next t ∧ t = takeover u ∧
        u = { s with ana := u.ana } ∧ u.ana.miss0 = s.ana.miss0 + 1)) ∧
    (windowOver s = false → exec .heartbeatWindowClose s = .next s) ∧
    (∀ ok s', coreRuns s = true → comesAt? s s.ana.workersReset = some s' →
      ∃ t, exec (.workerRelease ok) s = .next t ∧ t.ana.workersReset = none ∧ t.ana.restarted = true ∧ t.ana.workerFrom = s'.now ∧
        (ok = false → t.cfg = s.stored)) ∧
    (coreRuns s = true → autoReturns s = true → ∃ t, exec .safeAutoReturn s = .next t ∧ ⟨10, .run⟩ ∈ t.ana.causes) ∧
    (coreRuns s = true → s.pwr.committed = false → s.ana.mode ≠ .quiet →
      ∃ t, exec .keeperWatchdogExpiry s = .next t ∧ coreRuns t = false ∧ s.ana.watchdog + 100 * tickMs ≤ t.now) ∧
    (∀ w a, coreRuns s = true → s.pwr.committed = false → s.ana.mode ≠ .off →
      ∃ t u, exec (.secViolation w a) s = .next t ∧ u.sec.viol = satInc 65535 s.sec.viol ∧ u.sec.violBy = w.val + 1 ∧
        u.ana = s.ana ∧ t = if s.ana.workersReset.isSome then u else takeover u)

/-! ### Mains, rails, the backup cell, start-up -/

/-- The rows of the supply have their effect: main good returns the Pilot domain to NORMAL, a loss of main takes it to BACKUP
and commits, absent mains and half-cycles are reported, transients are marked.
When a row with a due time acts is the model's choice (log 7). -/
def Obligations.SupplyRowsComplete : Prop :=
  ∀ s : State,
    (∀ r, s.pwr.mainGood = false → ∃ t, exec (.mainGoodQualification r) s = .next t ∧
      t = { s with pwr := { s.pwr with mgSince := if r then some s.now else none } }) ∧
    (∀ a s', s.pwr.mainGood = false → s.pwr.mgSince = some a → comesAt s (ptoEdge s (a + 2 * tickMs)) = some s' →
      ∃ t, exec .mainGood s = .next t ∧ t.pwr.mainGood = true ∧ t.pwr.pilot = .normal ∧ t.pwr.mgSince = none) ∧
    (s.pwr.mainGood = true → s.pwr.pilot = .normal → ∃ t, exec .mainLost s = .next t ∧ t = holdAsserted (pilotLost s) ∧
      (pilotLost s).pwr.pilot = .backup ∧ (pilotLost s).pwr.mainGood = false ∧ (pilotLost s).pwr.trickle = false ∧ (pilotLost s).pwr.fast = false) ∧
    (coreRuns s = true → s.pwr.committed = false → ∃ t, exec .holdAssert s = .next t ∧ t = commit s) ∧
    (coreRuns s = true → s.pwr.committed = true → ∃ t, exec .flushComplete s = .next t ∧ t = flushEnds s) ∧
    (∀ s', s.pwr.mains = true → comesAt s ((s.pwr.lastCross.getD s.rel) + 15 * tickMs) = some s' → s'.pwr.mains = true →
      ∃ t, exec .mainsAbsent s = .next t ∧ t.pwr.mains = false ∧ t.pwr.trickle = false ∧ t.pwr.fast = false) ∧
    (∀ rms f : BitVec 16, ∃ t, exec (.halfCycleReport rms f) s = .next t ∧ t.pwr.rms = rms.toNat ∧ t.pwr.freq = f.toNat ∧ t.pwr.halfStart = s.now) ∧
    (s.pwr.mains = false → ∃ t, exec .absentHealthReport s = .next t ∧ t.pwr.rms = 0 ∧ t.pwr.freq = 0) ∧
    (s.pwr.mains = true → exec .absentHealthReport s = .next s) ∧
    (∀ v : BitVec 16, 300 < v.toNat → ∃ t, exec (.transientDetect v) s = .next t ∧ t.pwr.lastTrans = s.now ∧
      ∃ m, t.pwr.trans = some m ∧ v.toNat ≤ m.depth ∧ (s.pwr.trans = none → m.start = s.now)) ∧
    (∀ v : BitVec 16, v.toNat ≤ 300 → exec (.transientDetect v) s = .next s)

/-- The rows of the Pilot domain and of the auxiliary output have their effect.
When a row with a due time acts is the model's choice (log 7). -/
def Obligations.PilotAndAuxiliaryRowsComplete : Prop :=
  ∀ s s' : State,
    (s.pwr.pilot = .backup → comesAt s ((s.pwr.vbatBelow.getD s.now) + 100 * ptoClock) = some s' →
      ∃ t, exec .pilotCutoffPending s = .next t ∧ t.pwr.pilot = .cutoff ∧ t.pwr.cutoffAt = some s'.now) ∧
    (s.pwr.pilot = .cutoff → comesAt s ((s.pwr.cutoffAt.getD s.now) + 400 * ptoClock) = some s' →
      ∃ t, exec .pilotDead s = .next t ∧ t.pwr.pilot = .dead ∧ t.pwr.timeLost = true ∧ t.pwr.rtcValid = false) ∧
    (s.pwr.pilot = .backup → exec .vbatRecover s = .next { s with pwr := { s.pwr with vbatBelow := some (ptoEdge s s.now) } }) ∧
    (comesAt s (if s.pwr.pilot = s.pwr.pilotPostVal then s.pwr.pilotPosted + 100 * tickMs else s.now) = some s' →
      ∃ t, exec .pilotStatePost s = .next t ∧ t.pwr.pilotPosted = s'.now ∧ t.pwr.pilotPostVal = s.pwr.pilot) ∧
    (∀ (ma : BitVec 16) (b : Bool), s.pwr.auxOn = true → 1300 < ma.toNat →
      ∃ t, exec (.auxTrip ma b) s = .next t ∧ t.pwr.auxOn = false ∧ t.pwr.auxTrip = true ∧ t.pwr.auxRetry = some s.now) ∧
    (∀ ma : BitVec 16, s.pwr.auxOn = true → 800 < ma.toNat → auxGrant s = false →
      ∃ t, exec (.auxTrip ma true) s = .next t ∧ t.pwr.auxOn = false ∧ t.pwr.auxTrip = true) ∧
    (∀ (ma : BitVec 16) (b : Bool), (ma.toNat ≤ 800 ∨ (ma.toNat ≤ 1300 ∧ (b = false ∨ auxGrant s = true))) →
      exec (.auxTrip ma b) s = .next s) ∧
    (cfgOn s pwrObj "AUX" = true → s.pwr.auxOn = false → comesAt? s (auxRetryDue s) = some s' →
      ∃ t, exec .auxRetry s = .next t ∧ t.pwr.auxWant = true ∧ t.pwr.auxRetry = none ∧ t.lve.posted.length = s.lve.posted.length + 1) ∧
    (∀ mv : Int, s.pwr.fast = true → (chgMv s : Int) ≤ mv + 20 →
      ∃ t, exec (.fastChargeEnd mv) s = .next t ∧ t.pwr.fast = false ∧ t.pwr.trickle = mayCharge s ∧
        ∀ g, s.lve.grants.find? (·.h = .charge) = some g → g.orphan = false → ∃ g' ∈ t.lve.grants, g'.h = .charge ∧ g'.returned = true)

/-- The rows of resets and of start-up have their effect: a release starts monotonic time and START, the crystal opens the
links, the barrier link comes up, versions are checked, the self-test's result is latched, and the reference settles.
When a row with a due time acts is the model's choice (log 7). -/
def Obligations.StartupRowsComplete : Prop :=
  ∀ s s' : State,
    (∀ due, s.pwr.core = .reset due → s.pwr.mainGood = true → comesAt s due = some s' →
      ∃ t, exec .coreResetRelease s = .next t ∧ coreRuns t = true ∧ t.ana.mode = .start ∧ t.rel = s'.now ∧ t.epoch = 0 ∧ t.pwr.committed = false ∧
        t.sec.boot = s.sec.boot + 1) ∧
    (coreRuns s = true → ∃ t, exec .lockedIslandsLock s = .next t ∧ t.pwr.xtal = true) ∧
    (∀ l j, coreRuns s = true → s.pwr.linkUp = false → comesAt s (s.rel + 6 * tickMs) = some s' →
      ∃ t, exec (.barrierLinkUp l j) s = .next t ∧ t.pwr.linkUp = true ∧ t.ana.lrev = l ∧ t.ana.jrev = j) ∧
    (coreRuns s = true → s.ana.mode = .start → s.pwr.versions = false → comesAt s (s.rel + 8 * tickMs) = some s' →
      ∃ t, exec .versionCheck s = .next t ∧ t.pwr.versions = true) ∧
    (∀ f fe po ok, coreRuns s = true → s.ana.mode = .start → s.pwr.versions = true → s.pwr.selfTested = false → comesAt s (s.rel + 33 * tickMs) = some s' →
      ∃ t, exec (.quickSelfTestComplete f fe po ok) s = .next t ∧ t.pwr.selfTested = true ∧ t.pwr.cfgOk = ok ∧ t.pwr.loadAt = some (s'.now + 10 * tickMs) ∧
        t.tst.qfail = (f &&& quickItems != 0)) ∧
    (sensing s = true → s.cnv.ref = .settling → s.ana.mode ≠ .start → comesAt s (s.cnv.refAt + 5 * tickMs) = some s' →
      ∃ t, exec .refSettled s = .next t ∧ t.cnv.ref = .ok) ∧
    (∀ low, 80 ≤ low → coreRuns s = true → s.pwr.committed = false → s.pwr.mains = true →
      ∃ t, exec (.resetPin low) s = .next t ∧ coreRuns t = false ∧ t.pwr.rstKind = .pin) ∧
    (∀ low, low < 8 → exec (.resetPin low) s = .next s) ∧
    (∀ low, 40 ≤ low → coreRuns s = true → s.pwr.committed = false → s.pwr.mainGood = true →
      ∃ t, exec (.brownOut low) s = .next t ∧ coreRuns t = false ∧ t.pwr.rstKind = .brown) ∧
    (∀ low, low < 40 → exec (.brownOut low) s = .next s) ∧
    (∀ e due, coreRuns s = true → s.pwr.committed = false → s.vil.softReset = some (e, due) →
      (restartSent s e = true ∨ comesAt s due = some s') → ∃ t, exec .restartReset s = .next t ∧ coreRuns t = false ∧ t.pwr.rstKind = .soft)

/-- The rows that enter and leave QUIET have their effect. When a row with a due time acts is the model's choice (log 7). -/
def Obligations.QuietRowsComplete : Prop :=
  ∀ s s' : State,
    (s.ana.mode = .run → quietBarred s = false → comesAt? s ((idleTicks s).map (s.pwr.idleSince + ·)) = some s' →
      ∃ t, exec .quietidleExpiry s = .next t ∧ ⟨5, .quiet⟩ ∈ t.ana.causes) ∧
    (∀ src, s.ana.mode = .quiet → src ≠ .reset → s.pwr.waking = none →
      exec (.quietWake src) s = .next { s with pwr := { s.pwr with waking := some src } }) ∧
    (∀ (lv : BitVec 96) (u : Nat), s.ana.mode = .quiet → s.pwr.waking = none → u ∈ wakeChans s → lv.getLsbD u ≠ s.pwr.wakeLevels.getLsbD u →
      ∃ t, exec (.wakeChannelSample lv) s = .next t ∧ t.pwr.waking = some .channel ∧ t.pwr.wakeLevels = lv) ∧
    (∀ p, s.ana.mode = .quiet → nextSwitch s = some p → s.pwr.waking = none → comesAt s (tickOf s (p * netSec)) = some s' →
      ∃ t, exec .rtcAlarm s = .next t ∧ t.pwr.waking = some .rtc)

/-! ### Lamplighter -/

/-- The rows of Lamplighter have their effect: a request joins the queue or is refused for its cost, a request that has waited
its class's limit times out, a grant that runs out or is returned is marked as over, a withdrawal leaves nothing queued. -/
def Obligations.LeaveRowsComplete : Prop :=
  ∀ (s : State) (h : Holder),
    (∀ cls dur r, coreRuns s = true → leaveReq s h cls dur none = some r → overCost s r = false → s.lve.queue.find? (·.h = h) = none →
      s.lve.queue.length < 64 → ∃ t, exec (.leaveRequest h cls dur) s = .next t ∧ (∃ q ∈ t.lve.queue, q.h = h ∧ q.arrival = s.now) ∧
        t = { s with lve := t.lve } ∧ t.lve.grants = s.lve.grants) ∧
    (∀ cls dur r, coreRuns s = true → leaveReq s h cls dur none = some r → overCost s r = true →
      ∃ t, exec (.leaveRequest h cls dur) s = .next t ∧ t.lve.nRefused = satInc 65535 s.lve.nRefused ∧ t.lve.queue = s.lve.queue ∧
        t.lve.answers = s.lve.answers ++ [⟨h, .refused "COST", s.epoch + 1, none⟩]) ∧
    (∀ cls dur, leaveReq s h cls dur none = none → exec (.leaveRequest h cls dur) s = .next s) ∧
    (∀ r n, s.lve.queue.find? (·.h = h) = some r → waitLimit s r.cls = some n → n ≤ r.waited →
      ∃ t, exec (.leaveTimeout h) s = .next t ∧ t.lve.queue = s.lve.queue.filter (·.h != h) ∧ t.lve.nTimeout = satInc 65535 s.lve.nTimeout ∧
        t.lve.answers = s.lve.answers ++ [⟨h, .timeout, s.epoch + 1, r.cmd⟩]) ∧
    (∀ g, s.lve.grants.find? (·.h = h) = some g → grantEnd g ≤ epochTick s (s.epoch + 1) →
      ∃ t, exec (.grantExpiry h) s = .next t ∧ t = { s with lve := { s.lve with grants := t.lve.grants } } ∧
        (∀ x ∈ t.lve.grants, x.h = h → x.returned = true) ∧ t.lve.grants.length = s.lve.grants.length) ∧
    (∀ cls dur r q, coreRuns s = true → leaveReq s h cls dur none = some r → overCost s r = false → s.lve.queue.find? (·.h = h) = some q →
      ∃ t n, exec (.leaveRequest h cls dur) s = .next t ∧ n ∈ t.lve.queue ∧ n.h = h ∧ n.arrival = q.arrival ∧ n.serial = q.serial ∧
        n.cls = higherClass q.cls r.cls ∧ n.line = r.line ∧ n.power = r.power ∧ n.aux = r.aux) ∧
    (∀ g, isDriveHolder h = false → s.lve.grants.find? (·.h = h) = some g → g.orphan = false → g.returned = false →
      ∃ t, exec (.grantReturn h) s = .next t ∧ (∀ x ∈ t.lve.grants, x.h = h → x.returned = true)) ∧
    (isDriveHolder h = true → exec (.grantReturn h) s = .next s) ∧
    (∃ t, exec (.leaveWithdraw h) s = .next t ∧ (∀ q ∈ t.lve.queue, q.h ≠ h) ∧ (∀ p ∈ t.lve.posted, p.2.h ≠ h)) ∧
    (∀ a, s.lve.lastInrush = some a → ∃ t, exec .staggerElapsed s = .next t ∧ t = { s with lve := t.lve } ∧
      (a + cfgTicks s leaveObj "STAGGER" ≤ epochTick s (s.epoch + 1) → t.lve.stagDone = true) ∧
      (a + cfgTicks s leaveObj "STAGGERU" ≤ epochTick s (s.epoch + 1) → t.lve.stagUDone = true))

/-! ### Sessions: bytes, lines and timers -/

/-- The rows of a UART and of a line have their effect: a byte passes its crossing as a record for WORK0 or is held in QUIET, the
lines that have arrived are read, a line arrives byte by byte, a line that stands too long is refused, a Ctrl-C empties the
line and cancels, a rate is found, lost and changed, and a notice leaves.
When a row with a due time acts is the model's choice (log 7). -/
def Obligations.LineRowsComplete : Prop :=
  ∀ s s' : State,
    (∀ p code, served s (portOf p) = true → unheard s (portOf p) = false → s.ana.mode = .quiet →
      ∃ t, exec (.uartByte p code) s = .next t ∧ t.pwr.waking = some .link ∧ t.ana = s.ana ∧
        ((linkHold s (portOf p)).length < 1024 → linkHold t (portOf p) = linkHold s (portOf p) ++ [code])) ∧
    (∀ p (code : BitVec 9), served s (portOf p) = true → unheard s (portOf p) = false → s.ana.mode ≠ .quiet →
      bufFull s (194 + p.val) = false → waitsBehind s (194 + p.val) = false →
      ∃ t r, exec (.uartByte p code) s = .next t ∧ r ∈ t.ana.bufW0 ∧ r.x = 194 + p.val ∧ r.stamp = mono s ∧ r.ptick = some (mono s)) ∧
    (∀ (code : BitVec 9), unheard s .link1 = true → code ≠ 0x101 → s.ana.mode ≠ .quiet → exec (.uartByte 1 code) s = .next s) ∧
    (∀ k, k ≠ .mac → served s k = true → s.ana.mode ≠ .quiet → exec (.commandLine k none) s = .next (rtsFollows (sessionReads s k))) ∧
    (∀ p text, served s (portOf p) = true →
      exec (.commandLine (portOf p) (some text)) s = .next ((text.toList.map codeFor ++ [13]).foldl (fun u c => uartIn u p c) s)) ∧
    (∀ k text, isBus k = true → served s k = true → s.ana.mode ≠ .quiet → untaggedOut s k = false →
      (getSes s k).waiting.length + text.toList.length < 1024 →
      ∃ t, exec (.commandLine k (some text)) s = .next t ∧
        (getSes t k).waiting = (getSes s k).waiting ++ (text.toList.map codeFor ++ [13]).map (·, s.now)) ∧
    (∀ k a l, s.ana.mode ≠ .quiet → coreRuns s = true → partialLine s k = some (a, l) → comesAt s (a + partialLimit l) = some s' →
      ∃ t, exec (.partialTimeout k) s = .next t ∧
        (typedDropped s k l = true → (getSes t k).lostTyped = (getSes s k).lostTyped + 1 ∧ t.vil.errPartial = s.vil.errPartial) ∧
        (typedDropped s k l = false → t.vil.errPartial = satInc 255 s.vil.errPartial)) ∧
    (∀ k, isLink k = true → served s k = true → (getSes s k).mode = .typed → s.ana.mode ≠ .quiet → untaggedOut s k = false →
      ∃ t, exec (.ctrlC k) s = .next t ∧ (getSes t k).waiting = keepLines (getSes s k).waiting ∧
        ((getSes s k).waiting.any (fun c => isTerm c.1) = false → (getSes s k).rxState = .ok → (getSes t k).rx = [] ∧ (getSes t k).rxStart = none)) ∧
    (∀ k o w, isLink k = true → served s k = true → (getSes s k).mode = .typed → s.ana.mode ≠ .quiet →
      (outsOf s k).find? (·.tag = none) = some o → o.work = .wait w →
      ∃ t, exec (.ctrlC k) s = .next t ∧ ∀ p ∈ t.vil.outs, p.id ≠ o.id) ∧
    (∀ rate r, autoRate s = true → s.vil.rate1 = 0 → coreRuns s = true →
      autoRates.find? (fun r => decide (rate * 100 ≤ 103 * r) && decide (97 * r ≤ rate * 100)) = some r →
      exec (.autobaudDetect 0x0D rate) s = .next { s with vil := { s.vil with armed := false, rate1 := r } }) ∧
    (∀ low, autoRate s = true → 10 * tickMs ≤ low → coreRuns s = true →
      ∃ t, exec (.autobaudRearm low) s = .next t ∧ t.vil.rate1 = 0 ∧ t.vil.armed = true ∧ t.vil.link1.out = [] ∧ t.vil.link1.nq = []) ∧
    (∀ r, s.vil.ratePend0 = some r → exec (.rateChangeEffect 0) s = .next { s with vil := { s.vil with rate0 := r, ratePend0 := none } }) ∧
    (∀ r, s.vil.ratePend1 = some (r + 1) → exec (.rateChangeEffect 1) s = .next { s with vil := { s.vil with rate1 := r + 1, armed := false, ratePend1 := none } }) ∧
    (s.vil.ratePend1 = some 0 → ∃ t, exec (.rateChangeEffect 1) s = .next t ∧ t.vil.rate1 = 0 ∧ t.vil.armed = true ∧ t.vil.ratePend1 = none) ∧
    (∀ k n l, maySend s k = true → isBus k = false → (getSes s k).nq = n :: l →
      ∃ t, exec (.noticeSent k) s = .next t ∧ (∀ x ∈ (getSes t k).out, n.epoch < x.epoch) ∧
        ((getSes s k).nlost = 0 → (getSes t k).nq = l) ∧
        ((getSes s k).nlost ≠ 0 → l.length < 64 → (getSes t k).nlost = 0 ∧ ∃ x, (getSes t k).nq = l ++ [x] ∧ x.name = "SYS.NOTICES-LOST" ∧
          x.seq = (getSes s k).seq.toNat ∧ (getSes t k).seq = (getSes s k).seq + 1)) ∧
    (∀ k n l, maySend s k = true → isBus k = true → (getSes s k).nq = n :: l → n.handed = true → tunWaits s k = [] → tunFrags s k = [] →
      exec (.noticeSent k) s = .next (noticeGone s k))

/-- The rows that end what a session waits for have their effect: a role that stands idle ends, a challenge and a block expire, a
WAIT ends, a store write completes or fails, and a macro is triggered and reads its next line.
When a row with a due time acts is the model's choice (log 7). -/
def Obligations.SessionTimerRowsComplete : Prop :=
  ∀ s s' : State,
    (∀ k r n, k ≠ .mac → (getSes s k).role = some r → outsOf s k = [] → idleLimit s r = some n →
      ((getSes s k).active + n ≤ epochTick s s.epoch → ∃ t, exec (.roleInactivityExpiry k) s = .next t ∧ (getSes t k).role = none) ∧
      (epochTick s s.epoch < (getSes s k).active + n → exec (.roleInactivityExpiry k) s = .next s)) ∧
    (∀ k p, s.sec.chal.find? (·.1 = sesIdx k) = some p → comesAt s p.2.until_ = some s' → responseRuns s k p.2 = false →
      exec (.challengeExpiry k) s = .next { s' with sec := { s'.sec with chal := tdel s'.sec.chal (sesIdx k) } }) ∧
    (∀ bus r, comesAt? s (tget {} s.sec.fails (failIdx bus r)).until_ = some s' →
      ∃ t, exec (.authBlockExpiry bus r) s = .next t ∧ tget {} t.sec.fails (failIdx bus r) = { tget {} s.sec.fails (failIdx bus r) with until_ := none }) ∧
    (∀ k tag o w, s.vil.outs.find? (fun o => o.ses = k && o.tag = tag && o.verb = "WAIT") = some o → o.work = .wait w → findOut s o.id = some o → comesAt s w = some s' →
      ∃ t, exec (.waitExpiry k tag) s = .next t ∧ (∀ p ∈ t.vil.outs, p.id ≠ o.id) ∧ (o.orphan = false → k ≠ .mac → (tag, s.epoch) ∈ (getSes t k).freed)) ∧
    (∀ w l, coreRuns s = true → s.pwr.committed = false → s.vil.writes = w :: l → w.ok = none → (∀ x ∈ l, x.ok = none) →
      (∀ ok, s.now ≠ epochTick s s.epoch →
        exec (.storeWriteComplete ok) s = .next { s with vil := { s.vil with writes := { w with ok := some ok } :: l } }) ∧
      (s.now = epochTick s s.epoch → ∃ t, exec (.storeWriteComplete false) s = .next t ∧ t.vil.writes = l ∧
        t.jrn.storeSeq = s.jrn.storeSeq + 1 ∧ t.cfg = s.cfg ∧ t.sec.locked = s.sec.locked ∧ t.sec.keys = s.sec.keys) ∧
      (s.now = epochTick s s.epoch → findOut s w.id = none →
        (w.eff = .lock → ∃ t, exec (.storeWriteComplete true) s = .next t ∧ t.sec.locked = true ∧ t.sec.lockPend = false ∧ t.vil.writes = l) ∧
        (∀ r codes, w.eff = .key r codes → ∃ t, exec (.storeWriteComplete true) s = .next t ∧ tget 0 t.sec.keys (roleNum (some r)) = codes256 codes))) ∧
    (∀ (m : Fin 64) tr, s.vil.triggers.find? (fun t => t.m = m.val && t.epoch ≤ s.epoch) = some tr → (macroSt s m).running = false → (macroSt s m).pend = false →
      runningMacros s < 8 → macroText s m ≠ [] →
      ∃ t, exec (.macroTrigger m) s = .next t ∧ (macroSt t m).running = true ∧ (macroSt t m).line = 1 ∧ t.vil.triggers = s.vil.triggers.erase tr) ∧
    (∀ (m : Fin 64) text i w, coreRuns s = true → s.ana.workersReset = none → s.pwr.committed = false → (macroSt s m).running = true → (macroSt s m).awaiting = false →
      (macroText s m)[(macroSt s m).line - 1]? = some text →
      let u := setMacro s m { macroSt s m with awaiting := true }
      readVerb u ⟨.mac, some (1000 * (m.val + 1) + (macroSt s m).line), true⟩ true (getSes u .mac).level (lineTokens text.toList 1).1 (endCol text.toList 1) = .ok (w, i) →
      exec (.macroLine m) s = .next (verbDo i u)) ∧
    (∀ (m : Fin 64), coreRuns s = true → s.ana.workersReset = none → s.pwr.committed = false → (macroSt s m).running = true → (macroSt s m).awaiting = false →
      (macroText s m)[(macroSt s m).line - 1]? = none → exec (.macroLine m) s = .next (macroEnd s m "DONE"))

/-! ### The verbs: where they complete -/

/-- A command that fails a check of Table VIL-5 is refused with one FAIL line and no accept line, and does nothing else: no
command becomes outstanding, and no configuration, drive, converter, counter, climate, bus, time, panel or thermal state changes
(R140, R142). -/
def Obligations.RefusedCommandsChangeNothing : Prop :=
  ∀ (s : State) (q : Hdr) (c : CmdSpec) (f : State → Nat → State × Work) (e : String),
    s.hears q.ses → q.ses ≠ .mac → mute s q.ses = false → firstFail s q c = some e →
    ∃ t, submit s q c f = t ∧ (getSes t q.ses).out.length = (getSes s q.ses).out.length + 1 ∧ s.sends t q 0 ("FAIL " ++ e) ∧
      t.vil.outs = s.vil.outs ∧ t.cfg = s.cfg ∧ t.stored = s.stored ∧ t.lve = s.lve ∧ t.cnv = s.cnv ∧ t.chn = s.chn ∧ t.cnt = s.cnt ∧ t.drv = s.drv ∧
      t.thm = s.thm ∧ t.clm = s.clm ∧ t.bus = s.bus ∧ t.tim = s.tim ∧ t.lan = s.lan ∧ t.pwr = s.pwr

/-- The verbs of a session and of its keys complete. -/
def Obligations.SessionVerbsComplete : Prop :=
  ∀ (s : State) (q : Hdr),
    (∀ mode level, s.hears q.ses → q.ses ≠ .mac → firstFail s q (helloSpec q mode level) = none →
      ∃ t, exec (.hello q mode level) s = .next t ∧ (getSes t q.ses).mode = mode.getD (getSes s q.ses).mode ∧
        (getSes t q.ses).level = helloLevel (getSes s q.ses) level ∧ (q.tag, s.epoch) ∈ (getSes t q.ses).freed ∧ s.sends t q 0 "OK" ∧ t.vil.outs.length = s.vil.outs.length) ∧
    (∀ r, s.takes q (authSpec s q r ("AUTH " ++ roleWord r) false) →
      ∃ t, exec (.authChallenge q r) s = .next t ∧ s.holdsCmd t q (.auth (s.epoch + 2) r none)) ∧
    (∀ r codes, s.takes q (authSpec s q r ("AUTH " ++ roleWord r ++ " RESPONSE=" ++ codesStr (codes.map BitVec.toNat)) (codes.length != 8)) →
      ∃ t, exec (.authResponse q r codes) s = .next t ∧ s.holdsCmd t q (.auth (s.epoch + 2) r (some codes))) ∧
    (s.takes q logoutSpec → ∃ t, exec (.logout q) s = .next t ∧ (getSes t q.ses).role = none ∧ s.endsCmd t q [] "DONE ROLE=NONE") ∧
    (∀ r codes, s.takes q (keySpec q r codes s) →
      ∃ t, exec (.key q r codes) s = .next t ∧ s.holdsCmd t q (.store (.key r codes) "DONE") ∧ s.queues t (.key r codes) ∧
        t.sec.keys = s.sec.keys) ∧
    (s.takes q (lockConfigSpec q s) →
      ∃ t, exec (.lockConfig q) s = .next t ∧ s.holdsCmd t q (.store .lock "DONE LOCKED=yes") ∧ t.sec.lockPend = true ∧ t.sec.locked = s.sec.locked ∧
        s.queues t .lock) ∧
    (∀ tag, s.takes q (cancelSpec tag) → (outsOf s q.ses).find? (·.tag = some tag) = none →
      ∃ t, exec (.cancel q tag) s = .next t ∧ s.endsCmd t q [] "FAIL STATE") ∧
    (∀ tag o w, s.takes q (cancelSpec tag) → q.ses ≠ .mac → (outsOf s q.ses).find? (·.tag = some tag) = some o → findOut s o.id = some o → o.work = .wait w →
      ∃ t, exec (.cancel q tag) s = .next t ∧ (∀ p ∈ t.vil.outs, p.id ≠ o.id) ∧ (o.orphan = false → (some tag, s.epoch) ∈ (getSes t q.ses).freed) ∧
        (s.now < w → s.endsCmd t q [] "DONE") ∧ (w ≤ s.now → s.endsCmd t q [] "FAIL STATE")) ∧
    (∀ ms, s.takes q (waitSpec ms) → ∃ t, exec (.wait q ms) s = .next t ∧ s.holdsCmd t q (.wait (epochTick s (s.epoch + ms))))

/-- The verbs that report complete, with the lines they report. -/
def Obligations.ReportVerbsComplete : Prop :=
  ∀ (s : State) (q : Hdr),
    (s.takes q versionSpec → let r := pairsResult (lineRoom s q) (versionLine (accept s q versionSpec))
      ∃ t, exec (.version q) s = .next t ∧ s.endsCmd t q r.1 r.2) ∧
    (s.takes q statusSpec → let r := pairsResult (lineRoom s q) (statusLine (accept s q statusSpec) q)
      ∃ t, exec (.status q) s = .next t ∧ s.endsCmd t q r.1 r.2) ∧
    (∀ word, s.takes q (helpSpec q word s) → ∃ t, exec (.help q word) s = .next t ∧
      s.endsCmd t q ((helpLines s q word).getD []) (countLine ((helpLines s q word).getD []).length)) ∧
    (∀ m : Fin 64, s.takes q (macroListSpec m) → ∃ t, exec (.macroList q m) s = .next t ∧ s.endsCmd t q (macroText s m) "DONE") ∧
    (s.takes q onListSpec → ∃ t, exec (.onList q) s = .next t ∧ s.endsCmd t q (s.vil.binds.map bindStr) "DONE") ∧
    (∀ o attrs, s.takes q (getAttrSpec o attrs) → inWork0 o.kind = false →
      ∃ t, exec (.getAttr q o attrs) s = .next t ∧ s.holdsCmd t q (.query (s.epoch + 1) o (attrs.map upStr))) ∧
    (∀ o attrs, s.takes q (getAttrSpec o attrs) → inWork0 o.kind = true → let r := queryLines (accept s q (getAttrSpec o attrs)) (lineRoom s q) o (attrs.map upStr)
      ∃ t, exec (.getAttr q o attrs) s = .next t ∧ s.endsCmd t q r.1 r.2) ∧
    (∀ o aspect, s.takes q (showObjSpec o aspect) → inWork0 o.kind = false →
      ∃ t, exec (.showObj q o aspect) s = .next t ∧ s.holdsCmd t q (.query (s.epoch + 1) ⟨o.kind, o.n, o.n, false⟩ (showMark (aspect.map upStr)))) ∧
    (∀ o aspect, s.takes q (showObjSpec o aspect) → inWork0 o.kind = true →
      let r := queryLines (accept s q (showObjSpec o aspect)) (lineRoom s q) ⟨o.kind, o.n, o.n, false⟩ (showMark (aspect.map upStr))
      ∃ t, exec (.showObj q o aspect) s = .next t ∧ s.endsCmd t q r.1 r.2) ∧
    (∀ addr count, s.takes q (regReadSpec q addr count s) → let a := accept s q (regReadSpec q addr count s)
      ∃ t, exec (.regRead q addr count) s = .next t ∧
        s.endsCmd t q [] ("DONE " ++ codesStr (regReads (regAddrs addr.toNat (max 1 (min 16 count))) a []).2)) ∧
    (∀ what, s.takes q (exportDataSpec q what s) → let a := accept s q (exportDataSpec q what s)
      ∃ t ls fin n, exec (.exportData q what) s = .next t ∧ s.holdsCmd t q (.export_ ls fin n) ∧ fin = "DONE LINES=" ++ natStr ls.length ++ " BYTES=" ++ natStr (
        match what with
        | .ring => (ringBytes a).length
        | .slot n => (match slotValid a n.val with | some i => (slotBytes i).length | none => 0)
        | .audit => (auditExport a).length))

/-- The verbs that change attributes, registers, macros and bindings complete: the change waits for its store write, or for the
boundary at which its island takes it. -/
def Obligations.ChangeVerbsComplete : Prop :=
  ∀ (s : State) (q : Hdr),
    (∀ o pairs l, chkOk (readPairs s (rangeObjs o) pairs) = some l → s.takes q (setSpec q o pairs s) → ackAlone o pairs l = none →
      let a := accept s q (setSpec q o pairs s)
      (setHeavy a l = true → ∃ t, exec (.setAttr q o pairs) s = .next t ∧ s.holdsCmd t q (.aux l) ∧ t.lve.posted.length = s.lve.posted.length + 1 ∧ t.cfg = s.cfg) ∧
      (setHeavy a l = false → (l.any fun p => attrPersists p.1.1 p.1.2) = true →
        ∃ t, exec (.setAttr q o pairs) s = .next t ∧ s.holdsCmd t q (.store (.attrs l) "DONE") ∧ s.queues t (.attrs l) ∧ t.cfg = s.cfg) ∧
      (setHeavy a l = false → (l.any fun p => attrPersists p.1.1 p.1.2) = false → (l.all fun p => p.1.1.kind = .counter) = true →
        ∃ t, exec (.setAttr q o pairs) s = .next t ∧ s.holdsCmd t q (.reply (s.epoch + if blockS s 7 then 2 else 1) [] "DONE")) ∧
      (setHeavy a l = false → (l.any fun p => attrPersists p.1.1 p.1.2) = false → (l.all fun p => p.1.1.kind = .counter) = false →
        (setHere a l = false → ∃ t, exec (.setAttr q o pairs) s = .next t ∧ s.holdsCmd t q (.effect (s.epoch + 1) (.attrs l) "DONE") ∧ t.cfg = s.cfg) ∧
        (setHere a l = true → tripBlocks a l s.epoch = true → ∃ t, exec (.setAttr q o pairs) s = .next t ∧ s.endsCmd t q [] "FAIL STATE TRIPPED" ∧ t.cfg = s.cfg) ∧
        (setHere a l = true → tripBlocks a l s.epoch = false → ∃ t, exec (.setAttr q o pairs) s = .next t ∧ s.endsCmd t q [] "DONE"))) ∧
    (∀ o pairs n, s.hears q.ses → ackAlone o pairs ((chkOk (readPairs s (rangeObjs o) pairs)).getD []) = some n →
      exec (.setAttr q o pairs) s = exec (.auditAck q n) s) ∧
    (∀ o, s.takes q (defaultObjSpec q o s) → ∃ t, exec (.defaultObj q o) s = .next t ∧ s.holdsCmd t q (.store (.defaults [o]) "DONE") ∧ s.queues t (.defaults [o]) ∧ t.cfg = s.cfg) ∧
    (s.takes q (defaultAllSpec q s) → ∃ t, exec (.defaultAll q) s = .next t ∧ s.holdsCmd t q (.store .factory "DONE") ∧ s.queues t .factory ∧ t.cfg = s.cfg) ∧
    (∀ addr value mask m, s.takes q (regWriteSpec q addr value mask s) → regWritable s addr.toNat = some m →
      ∃ t, exec (.regWrite q addr value mask) s = .next t ∧ s.holdsCmd t q (.effect (s.epoch + 1) (.reg addr value (mask.getD m.1 &&& m.1)) "DONE")) ∧
    (∀ n : Fin 4, s.takes q (slotFreeSpec q n s) → ∃ t, exec (.slotFree q n) s = .next t ∧ s.holdsCmd t q (.effect (s.epoch + 1) (.slotFree n.val) "DONE")) ∧
    (∀ n, s.takes q (auditAckSpec q n s) → ∃ t, exec (.auditAck q n) s = .next t ∧ s.holdsCmd t q (.effect (s.epoch + 1) (.auditAck n) "DONE")) ∧
    (∀ o f, s.takes q (ackSpec q o f s) → inWork0 o.kind = false → ∃ t, exec (.ack q o f) s = .next t ∧ s.holdsCmd t q (.effect (s.epoch + 1) (.ack o f) "DONE")) ∧
    (∀ o f, s.takes q (ackSpec q o f s) → inWork0 o.kind = true → ∃ t, exec (.ack q o f) s = .next t ∧ s.endsCmd t q [] "DONE") ∧
    (s.takes q (repairFuseSpec q s) → ∃ t, exec (.repairFuse q) s = .next t ∧ s.holdsCmd t q (.effect (s.epoch + 1) .repair "DONE ARMED=yes") ∧ t.tst.armed = s.tst.armed) ∧
    (∀ y mo d h mi sec u, s.takes q (timeSetSpec q y mo d h mi sec u s) →
      ∃ t, exec (.timeSet q y mo d h mi sec u) s = .next t ∧
        s.holdsCmd t q (.effect (s.epoch + 1) (.timeSet (((dayOf y mo d : Int) * 86400 + (h * 3600 + mi * 60 + sec : Nat)) * 400000000 - 5 * netAt s (epochTick s s.epoch))
          (epochTick s s.epoch) (u.getD 1000)) "")) ∧
    (∀ (m : Fin 64) line, s.takes q (macroAddSpec q m line s) → ∃ t r, exec (.macroAdd q m line) s = .next t ∧ s.queues t (.macroLines m (macroSoon s m ++ [line]) r) ∧ s.holdsCmd t q (.store (.macroLines m (macroSoon s m ++ [line]) r) "DONE")) ∧
    (∀ m : Fin 64, s.takes q (macroClearSpec m s) → ∃ t r, exec (.macroClear q m) s = .next t ∧ s.queues t (.macroLines m [] r) ∧ s.holdsCmd t q (.store (.macroLines m [] r) "DONE")) ∧
    (∀ ev ob (m : Fin 64), s.takes q (onBindSpec ev ob m s) → ∃ t, exec (.onBind q ev ob m) s = .next t ∧
      s.holdsCmd t q (.store (.bind (upStr ev) (ob.map upStr) (some m)) "DONE") ∧
      s.queues t (.bind (upStr ev) (ob.map upStr) (some m)) ∧ t.vil.binds = s.vil.binds) ∧
    (∀ ev ob, s.takes q (onOffSpec ev ob s) → ∃ t, exec (.onOff q ev ob) s = .next t ∧
      s.holdsCmd t q (.store (.bind (upStr ev) (ob.map upStr) none) "DONE") ∧
      s.queues t (.bind (upStr ev) (ob.map upStr) none) ∧ t.vil.binds = s.vil.binds) ∧
    (∀ m : Fin 64, s.takes q (macroRunSpec m) → (macroSt s m).running = false → (macroSt s m).pend = false → runningMacros s < 8 → macroText s m ≠ [] →
      ∃ t, exec (.macroRun q m) s = .next t ∧ s.holdsCmd t q (.macroRun m) ∧ (macroSt t m).running = true ∧ (macroSt t m).line = 1 ∧ (macroSt t m).cmd = some s.vil.nextId)

/-- The MODE orders complete: an order for another mode makes its transition fall due, one for the present mode ends at once, and
RESTART ends every command and asks for the reset. -/
def Obligations.ModeVerbsComplete : Prop :=
  ∀ (s : State) (q : Hdr) (c : Instr) (m : Mode),
    ((c = .modeRun q ∧ m = .run) ∨ (c = .modeSafe q ∧ m = .safe) ∨ (c = .modeQuiet q ∧ m = .quiet) ∨ (c = .modeBench q ∧ m = .bench)) →
    (s.takes q (modeSpec q m s) → s.ana.mode ≠ m →
      ∃ t r, exec c s = .next t ∧ orderRow s m = some r ∧ ⟨r, m⟩ ∈ t.ana.causes ∧ t.ana.mode = s.ana.mode ∧ s.holdsCmd t q (.mode m)) ∧
    (s.takes q (modeSpec q m s) → s.ana.mode = m → ∃ t, exec c s = .next t ∧ t.ana = s.ana ∧ s.endsCmd t q [] ("DONE MODE=" ++ modeName m)) ∧
    (s.takes q (modeRestartSpec q s) → ∃ t, exec (.modeRestart q) s = .next t ∧ t.vil.outs = [] ∧ t.vil.softReset = some (s.epoch, s.now + 100 * tickMs) ∧
      s.endsCmd t q [] ("DONE MODE=" ++ modeName s.ana.mode))

/-- The verbs that command the drives complete: an order is placed on each drive named. -/
def Obligations.DriveVerbsComplete : Prop :=
  ∀ (s : State) (q : Hdr),
    (∀ o dest tilt, s.takes q (moveSpec o dest tilt s) → let a := accept s q (moveSpec o dest tilt s)
      ∃ t, exec (.move q o dest tilt) s = .next t ∧ s.holdsCmd t q (.drives o.isRange ((rangeDrives o).map fun d => { drive := d })) ∧
        (∀ d ∈ rangeDrives o, ∃ x ∈ (drOf t d).pend, x.cmd = some s.vil.nextId ∧ x.target = moveTarget a d dest ∧ x.tilt = tilt ∧ x.stop = false ∧ x.epoch = s.epoch + 1) ∧
        ∀ d, d ∉ rangeDrives o → drOf t d = drOf s d) ∧
    (∀ o, s.takes q (stopSpec (some o) s) → rangeDrives o ≠ [] → halted s = false →
      ∃ t, exec (.stop q (some o)) s = .next t ∧ s.holdsCmd t q (.drives o.isRange ((rangeDrives o).map fun d => { drive := d })) ∧
        (∀ d ∈ rangeDrives o, ∃ x ∈ (drOf t d).pend, x.cmd = some s.vil.nextId ∧ x.stop = true) ∧ ∀ d, d ∉ rangeDrives o → drOf t d = drOf s d) ∧
    (∀ o, s.takes q (stopSpec o s) → halted s = true → ∃ t ms fin, exec (.stop q o) s = .next t ∧ s.endsCmd t q ms fin ∧ t.drv = s.drv) ∧
    (s.takes q (stopSpec none s) → halted s = false → usedDrives s = [] → ∃ t, exec (.stop q none) s = .next t ∧ s.endsCmd t q [] "DONE") ∧
    (s.takes q (stopSpec none s) → halted s = false → usedDrives s ≠ [] → ∃ t, exec (.stop q none) s = .next t ∧
      s.holdsCmd t q (.drives true ((usedDrives s).map fun d => { drive := d })) ∧ ∀ d ∈ usedDrives s, ∃ x ∈ (drOf t d).pend, x.stop = true ∧ x.cmd = some s.vil.nextId) ∧
    (∀ o, s.takes q (releaseSpec q o s) →
      let ds := match o with | some o => rangeDrives o | none => (usedDrives s).filter fun d => (drOf s d).hold.isSome
      ∃ t, exec (.release q o) s = .next t ∧ s.holdsCmd t q (.effect (s.epoch + 1) (.release ds (roleNum (roleFor s q))) "DONE") ∧ t.drv = s.drv) ∧
    (∀ d : Fin 32, s.takes q (learnSpec d s) → ∃ t, exec (.learn q d) s = .next t ∧ s.holdsCmd t q (.learn d) ∧
      (∃ x ∈ (drOf t d).pend, x.cmd = some s.vil.nextId ∧ x.learn = true) ∧ ∀ e, e ≠ d.val → drOf t e = drOf s e)

/-- The verbs that begin work of the converters, the self-test, the bus, the Lantern and the journal complete. -/
def Obligations.WorkVerbsComplete : Prop :=
  ∀ (s : State) (q : Hdr),
    (s.takes q (calConvertersSpec q s) → calActive s = false →
      ∃ t, exec (.calConverters q) s = .next t ∧ s.holdsCmd t q .cal ∧ t.cnv.cal = 1 ∧ t.lve.posted.length = s.lve.posted.length + 1) ∧
    (∀ dur, s.takes q (bistSpec q dur s) → bistActive s = false →
      ∃ t, exec (.bist q dur) s = .next t ∧ s.holdsCmd t q .bist ∧ t.tst.asked = true ∧ t.lve.posted.length = s.lve.posted.length + 1) ∧
    (∀ ident len data fd brs one, s.takes q (sendSpec q ident len data fd brs one s) → s.bus.busOff = false →
      ∃ t, exec (.send q ident len data fd brs one) s = .next t ∧ s.holdsCmd t q .send) ∧
    (∀ ident len data fd brs one, s.takes q (sendSpec q ident len data fd brs one s) → s.bus.busOff = true →
      ∃ t, exec (.send q ident len data fd brs one) s = .next t ∧ s.holdsCmd t q (.reply (s.epoch + 1) [] "FAIL BUS-OFF") ∧ t.bus = s.bus) ∧
    (∀ full fill pairs, s.takes q (drawSpec q full fill pairs s) →
      ∃ t, exec (.draw q full fill pairs) s = .next t ∧ s.holdsCmd t q (.draw 0) ∧
        t.lan.upds = s.lan.upds ++ [{ kind := .draw, full := full, els := drawEls s fill pairs, cmd := some s.vil.nextId }]) ∧
    (∀ (seg : Fin 129) period a b k, s.takes q (blinkSpec q seg period a b s) → slotOf s seg = none → freeSlot s = some k →
      ∃ t, exec (.blink q seg period a b) s = .next t ∧ s.holdsCmd t q (.blink k) ∧
        t.lan.upds = s.lan.upds ++ [{ kind := .blink, els := [(seg, a)], cmd := some s.vil.nextId, slot := some k }]) ∧
    (∀ (seg : Fin 129) period a b k c, s.takes q (blinkSpec q seg period a b s) → slotOf s seg = some (k, c) → c.armed = true →
      ∃ t, exec (.blink q seg period a b) s = .next t ∧ s.endsCmd t q [] "DONE" ∧ t.lan.slots = tset s.lan.slots k { c with change := some (period, a, b) }) ∧
    (∀ (seg : Fin 129) period a b k c, s.takes q (blinkSpec q seg period a b s) → slotOf s seg = some (k, c) → c.armed = false →
      ∃ t, exec (.blink q seg period a b) s = .next t ∧ s.holdsCmd t q (.blink k) ∧ t.lan.slots = tset s.lan.slots k { c with period := period, a := a, b := b }) ∧
    (∀ (seg : Fin 129) k c, s.takes q (blinkOffSpec q seg s) → slotOf s seg = some (k, c) → (∀ u ∈ s.lan.upds, u.cmd ≠ some s.vil.nextId) →
      ∃ t, exec (.blinkOff q seg) s = .next t ∧ (∀ p ∈ t.lan.slots, p.1 ≠ k) ∧ s.endsCmd t q [] "DONE") ∧
    (∀ slot note, s.takes q (freezeSpec q slot note s) →
      ∃ t, exec (.freeze q slot note) s = .next t ∧ s.holdsCmd t q .freeze ∧ ∃ f ∈ t.jrn.frz, f.cmd = some s.vil.nextId ∧ f.slot = slot.map (·.val) ∧ f.trig = 1) ∧
    (∀ (slot : Fin 4) sq data, s.takes q (loadSpec q slot sq data s) →
      ∃ t, exec (.load q slot sq data) s = .next t ∧ s.endsCmd t q [] "DONE" ∧
        (sq = 0 → slotAt t slot = .loading 1 data) ∧ (∀ l, slotAt s slot = .loading sq l → sq ≠ 0 → slotAt t slot = .loading (sq + 1) (l ++ data))) ∧
    (∀ (slot : Fin 4) i, s.takes q (loadEndSpec q slot s) → ((loadNext s slot).bind fun p => parseSlot p.2) = some i →
      ∃ t, exec (.loadEnd q slot) s = .next t ∧ s.endsCmd t q [] "DONE" ∧ slotAt t slot = .kept i) ∧
    (∀ slot : Fin 4, s.takes q (loadEndSpec q slot s) → ((loadNext s slot).bind fun p => parseSlot p.2) = none →
      ∃ t, exec (.loadEnd q slot) s = .next t ∧ s.endsCmd t q [] "FAIL FAULT IMAGE" ∧ slotAt t slot = .empty) ∧
    (∀ slot : Fin 4, s.takes q (replayStartSpec q slot s) →
      ∃ t, exec (.replayStart q slot) s = .next t ∧ s.holdsCmd t q .replay ∧ t.jrn.rplReq = some slot.val ∧ ⟨13, .replay⟩ ∈ t.ana.causes) ∧
    (∀ r, s.takes q (replayStopSpec q s) → s.jrn.rpl = some r →
      ∃ t, exec (.replayStop q) s = .next t ∧ t.jrn.rplReq = none ∧ t.jrn.rplSlot = r.slot ∧ t.jrn.rplEpoch = r.epoch ∧ ⟨14, .bench⟩ ∈ t.ana.causes ∧ s.endsCmd t q [] "DONE")

/-! ### Converters -/

/-- The rows of the integrating converter's scan have their effect: a free window ends with its result held, a held result
leaves with the health records or after its timeout. When a row with a due time acts is the model's choice (log 7). -/
def Obligations.ScanRowsComplete : Prop :=
  ∀ s s' : State,
    (∀ w (raw : BitVec 20), s.cnv.win = some w → w.sync = false → w.void = false → sensing s = true → comesAt s (w.start + 20 * tickMs) = some s' →
      ∃ t, exec (.icFreeWindowEnd raw) s = .next t ∧ t.cnv.held = s.cnv.held ++ [⟨w, s'.now, raw.toNat, true⟩] ∧ t.cnv.len = s'.now - w.start) ∧
    (∀ r l, s.cnv.held = r :: l → sensing s = true →
      ∃ t, exec .icResultRelease s = .next t ∧ t = resRelease { s with cnv := { s.cnv with held := l } } r false ∧ t.cnv.held = l) ∧
    (∀ r l, s.cnv.held = r :: l → sensing s = true → comesAt s (r.stop + 2 * tickMs) = some s' →
      ∃ t, exec .icReleaseTimeout s = .next t ∧ t = resRelease { s' with cnv := { s'.cnv with held := l } } r true ∧ t.cnv.held = l)

/-- The rows of the channels have their effect: a dry sample is taken by every dry channel, an open-drain output above its
limit is switched off with its trip bit, a group above its limit is switched off whole. -/
def Obligations.ChannelRowsComplete : Prop :=
  ∀ s : State,
    (∀ lv : BitVec 96, sensing s = true → ∃ t, exec (.drySample lv) s = .next t ∧ t = (List.range 96).foldl (dryChannel lv) s) ∧
    (∀ (c : Fin 96) (ma : BitVec 12), chanMode s c = "ODOUT" → (chanSt s c).out ≠ 0 → 130 < ma.toNat →
      ∃ t, exec (.odTrip c ma) s = .next t ∧ (chanSt t c).out = 0 ∧ (chanSt t c).trip = true ∧
        (grpSt t (c.val / 8)).trips = satInc 255 (grpSt s (c.val / 8)).trips ∧ ∀ u, u ≠ c.val → chanSt t u = chanSt s u) ∧
    (∀ (c : Fin 96) (ma : BitVec 12), ma.toNat ≤ 130 → exec (.odTrip c ma) s = .next s) ∧
    (∀ (g : Fin 12) (ma : BitVec 12), 400 < ma.toNat →
      ∃ t, exec (.groupTrip g ma) s = .next t ∧ (grpSt t g).tripped = true ∧ (grpSt t g).trips = satInc 255 (grpSt s g).trips ∧ (grpSt t g).ma = ma.toNat ∧
        ∀ u, u / 8 = g.val → chanMode s u = "ODOUT" → (chanSt t u).out = 0 ∧ (chanSt t u).trip = true) ∧
    (∀ (g : Fin 12) (ma : BitVec 12), ma.toNat ≤ 400 →
      ∃ t, exec (.groupTrip g ma) s = .next t ∧ grpSt t g = { grpSt s g with ma := ma.toNat } ∧ t.cnv.chans = s.cnv.chans)

/-- The rows of the fast converter, of the link's samples, of the reference and of a calibration have their effect.
When a row with a due time acts is the model's choice (log 7). -/
def Obligations.BurstAndCalibrationRowsComplete : Prop :=
  ∀ s s' : State,
    (∀ (fi : Fin 32), sensing s = true → acqActive s (acqOf s fi) = true → s.cnv.burst = none → s.cnv.fcPend = [] →
      (32 ≤ acqOf s fi → comesAt s s.cnv.fcOwnFrom = some s' →
        ∃ t b, exec (.fcTrigger fi none) s = .next t ∧ t.cnv.burst = some b ∧ b.owned = true ∧ b.simul = true ∧ b.start = s'.now) ∧
      (acqOf s fi < 32 → s.cnv.phase ≠ 1 → cfgIs s (fiObj (acqOf s fi)) "TRIG" "FREE" = true → s.cnv.fcLast.find? (·.1 = acqOf s fi) = none →
        ∃ t b, exec (.fcTrigger fi none) s = .next t ∧ t.cnv.burst = some b ∧ b.owned = false ∧ b.fi = acqOf s fi ∧ b.start = s.now) ∧
      (∀ c : Fin 16, acqOf s fi < 32 → s.cnv.phase ≠ 1 → s.cnv.fcDue.contains (acqOf s fi) = true →
        cfgObj s (fiObj (acqOf s fi)) "TRIG" = some ⟨.counter, c.val⟩ →
        ∃ t b, exec (.fcTrigger fi (some c)) s = .next t ∧ t.cnv.burst = some b ∧ b.owned = false ∧ b.fi = acqOf s fi ∧
          t.cnv.fcDue = s.cnv.fcDue.filter (· != acqOf s fi))) ∧
    (∀ b codes, s.cnv.burst = some b → sensing s = true → burstFits b codes.length = true → s.cnv.fcPend = [] →
      comesAt s (b.start + spanTicks (burstSpan (if b.simul then codes.length / 4 else codes.length) b.simul)) = some s' →
      ∃ t u, exec (.fcBurstEnd codes) s = .next t ∧ t = fcSamples b u 0 codes ∧ u.cnv.burst = none ∧ u.chn = s.chn ∧ u.now = s'.now) ∧
    (∀ (sq : BitVec 16) lv li, sensing s = true → linkOk s = true →
      ∃ t, exec (.lcSampleSet sq lv li) s = .next t ∧ t.cnv.lcSeq = some sq) ∧
    (∀ vals, s.cnv.cal = 2 → sensing s = true → calFits s.cnv.phase vals.length = true → comesAt? s (phaseDue s) = some s' →
      ∃ t, exec (.calPhaseEnd vals) s = .next t ∧ t.cnv.phases = s.cnv.phase ∧ (s.cnv.phase, vals) ∈ t.cnv.pendCal) ∧
    (sensing s = true → (s.cnv.ref = .ok ∨ s.cnv.ref = .settling) → ∃ t, exec .refFault s = .next t ∧ t.cnv.ref = .fault) ∧
    (sensing s = true → s.cnv.ref = .fault → ∃ t, exec .refRecover s = .next t ∧ t.cnv.ref = .ok)

/-! ### Churn -/

/-- What a cell does with a word (R309 to R313): discarded words are counted and flagged and change no statistic, a word taken
adds to the sum, the squares and the count, and moves the minimum and the maximum. -/
def Obligations.CellsAccumulateOrDiscard : Prop :=
  ∀ (s t : State) (k : Fin 160) (w : XWord) (e : BitVec 4) (f : WFlags),
    sensing s = true → cellEnabled s k = true → exec (.churnWord k w e f) s = .next t →
    (f.unset = true → cellOf t k = { cellOf s k with dUnset := satInc 65535 (cellOf s k).dUnset, flags := (cellOf s k).flags ||| flDisc }) ∧
    (f.unset = false → f.out = true →
      cellOf t k = { cellOf s k with dRange := satInc 65535 (cellOf s k).dRange, flags := (cellOf s k).flags ||| flDisc }) ∧
    (f.unset = false → f.out = false → f.sat = false → (cellOf s k).count < maxCount → 96 ≤ k.val → cellExt s k = false →
      (cellOf t k).sum = (cellOf s k).sum + wordVal (srcSigned k) w ∧ (cellOf t k).count = (cellOf s k).count + 1 ∧
      (cellOf t k).max = (if (cellOf s k).count = 0 then wordVal (srcSigned k) w else max (cellOf s k).max (wordVal (srcSigned k) w)) ∧
      (cellOf t k).min = (if (cellOf s k).count = 0 then wordVal (srcSigned k) w else min (cellOf s k).min (wordVal (srcSigned k) w)) ∧
      (cellOf t k).ptick = some (mono s)) ∧
    (∀ n, n ≠ k.val → cellOf t n = cellOf s n)

/-- The rows of Churn have their effect: a word reaches its cell, a snapshot closes the cells that are due, a mark is put on the
cells of the mains, and a peek latches a cell's statistics. -/
def Obligations.ChurnRowsComplete : Prop :=
  ∀ s : State,
    (∀ (k : Fin 160) w e f, sensing s = true → cellEnabled s k = true → f.unset = true →
      ∃ t, exec (.churnWord k w e f) s = .next t ∧ (cellOf t k).dUnset = satInc 65535 (cellOf s k).dUnset) ∧
    (∀ (k : Fin 160) w e f, sensing s = true → cellEnabled s k = true → f.unset = false → f.out = false → f.sat = false → (cellOf s k).count < maxCount →
      ∃ t, exec (.churnWord k w e f) s = .next t ∧ (cellOf t k).count = (cellOf s k).count + 1) ∧
    (sensing s = true → ∃ t, exec .snapshot s = .next t ∧ t.chn.due = (cellsDue s).length ∧ t.epoch = s.epoch) ∧
    (∀ kind a b, sensing s = true → ∃ t, exec (.markReport kind a b) s = .next t ∧ t = churnMark s a b) ∧
    (∀ k : Fin 160, coreRuns s = true → ∃ t, exec (.peekLatch k) s = .next t ∧ (cellOf t k).peek.count = (cellOf s k).count ∧
      (cellOf t k).count = (cellOf s k).count ∧ ∀ n, n ≠ k.val → cellOf t n = cellOf s n)

/-! ### Counters -/

/-- The rows of the counters have their effect: a source event advances the running counter of its chain's bottom, a captured
edge is latched, sampled and filtered records are sent, compare writes take effect in order, and a clear empties a chain. -/
def Obligations.CounterRowsComplete : Prop :=
  ∀ (s : State) (n : Fin 16),
    (∀ u r, counting s = true → ∃ t, exec (.pulseEdgeQualified u r) s = .next t ∧
      t = countEdge (capDivide (pulsePrescale s ((bottoms s).filter (pulseSource s u r))).1 ((bottoms s).filter fun n => pulseCapture s u r n && capsEdges s n && !ctFrozen s n)).1
        ((pulsePrescale s ((bottoms s).filter (pulseSource s u r))).2.contains)
        ((capDivide (pulsePrescale s ((bottoms s).filter (pulseSource s u r))).1 ((bottoms s).filter fun n => pulseCapture s u r n && capsEdges s n && !ctFrozen s n)).2.contains)) ∧
    (∀ u, counting s = true → ctSource s n ≠ "OFF" → isCascade s n = false → ctNoInput s n = false → clkEvent (edgeBegins s) n = some u →
      exec (.counterAdvance n) s = .next (countParks (edgeTakes u (fun m => m == n.val) noEvent))) ∧
    (clkEvent (edgeBegins s) n = none → exec (.counterAdvance n) s = .next s) ∧
    (counting s = true → (ctSt s n).acts ≠ [] → ∃ t, exec (.linkedAction n) s = .next t ∧ t = countEdge s noEvent noEvent) ∧
    (counting s = true → isCascade s n = false → capsEdges s n = true → ctFrozen s n = false → capInput s n = true →
      ∃ t, exec (.captureEdge n) s = .next t ∧ t = countEdge (capDivide s [n.val]).1 noEvent (capDivide s [n.val]).2.contains) ∧
    (∀ a m e l v, counting s = true → nearTick s = false → outFree s = true → nextCapture s = some (a, m) → (ctSt s m).queue = e :: l → e.vals = [v] →
      ∃ t, exec .captureRecordSend s = .next t ∧ (ctSt t m).queue = l ∧ (ctSt t m).lastVal = v ∧ (ctSt t m).lastTick = e.tick ∧ (ctSt t m).lastKind = e.kind) ∧
    (counting s = true → epochEdge s = true → sampleDue s n = true → exec (.sampleRecord n) s = .next (epochSends s n)) ∧
    (counting s = true → epochEdge s = true → (ctSt s n).filt ≠ none → exec (.filteredRecord n) s = .next (epochSends s n)) ∧
    ((ctSt s n).filt = none → sampleDue s n = true → (ctSt (epochSend s n) n).sampled = some s.epoch ∧ (ctSt (epochSend s n) n).count = (ctSt s n).count) ∧
    (∀ e v, (ctSt s n).filt = some e → e.vals = [v] → (ctSt (epochSend s n) n).filt = none ∧ (ctSt (epochSend s n) n).lastVal = v ∧
      (ctSt (epochSend s n) n).lastTick = e.tick) ∧
    (∀ v a k, coreRuns s = true → ctSleeping s = false → (ctSt s n).writes = [⟨.cmp v, a, k⟩] → a ≤ s.now →
      ∃ t, exec (.compareWriteEffect n) s = .next t ∧ (ctSt t n).cmp = v ∧ (ctSt t n).writes = [] ∧ (ctSt t n).count = (ctSt s n).count) ∧
    (coreRuns s = true → ctSleeping s = false → ∃ t, exec (.counterClear n) s = .next t ∧ (ctSt t (chainBottom s n)).count = 0 ∧
      (ctSt t (chainBottom s n)).residue = 0) ∧
    (∀ v : Word, coreRuns s = true → ctOwner s n = none →
      ∃ t, exec (.cntCmpWrite n v) s = .next t ∧ (ctSt t n).writes = (ctSt s n).writes ++ [⟨.cmp (v.truncate 16), ctWriteAt s, s.cnt.lines + 1⟩] ∧
        (ctSt t n).cmp = (ctSt s n).cmp) ∧
    (coreRuns s = true → ∃ t, exec (.captureTickLatch n) s = .next t ∧ (ctSt t n).capH = BitVec.ofNat 32 ((ctSt s n).lastTick / 4294967296))

/-- A counter at its largest value wraps to 0 and counts the overflow; below it, it counts up by one (R339, R345). -/
def Obligations.CountersWrapAndCountOverflows : Prop :=
  ∀ (s : State) (n : Nat),
    ((ctSt s n).count = 0xFFFF → (ctSt (stepAdvance s n).1 n).count = 0 ∧ (stepAdvance s n).2 = true ∧
      (ctSt (stepAdvance s n).1 n).ovfs = satInc 65535 (ctSt s n).ovfs) ∧
    ((ctSt s n).count ≠ 0xFFFF → (ctSt (stepAdvance s n).1 n).count.toNat = (ctSt s n).count.toNat + 1 ∧ (stepAdvance s n).2 = false ∧
      (ctSt (stepAdvance s n).1 n).ovfs = (ctSt s n).ovfs) ∧
    (∀ m, m ≠ n → ctSt (stepAdvance s n).1 m = ctSt s m)

/-! ### Line die, motor die, drives -/

/-- A zero crossing closes a feed only at least 50 µs after its close command reached the line die, and closes none that is
held open (R370, R372). -/
def Obligations.ZeroCrossingClosesCommandedFeedsAlone : Prop :=
  ∀ (s t : State) (raw : BitVec 20) (f : Nat), exec (.zeroCrossing raw) s = .next t → t.feedClosed f → ¬s.feedClosed f →
    f < 8 ∧ (∃ a, (feedOf s f).closeCmd = some a ∧ a + 400 ≤ s.now) ∧ s.drv.configured = true ∧ (feedOf s f).trip = false ∧ s.pwr.committed = false ∧ s.pwr.hold = false

/-- The rows of the feeds have their effect. When a row with a due time acts is the model's choice (log 7). -/
def Obligations.FeedRowsComplete : Prop :=
  ∀ (s s' : State) (f : Fin 8),
    (∀ raw : BitVec 20, ∃ t, exec (.zeroCrossing raw) s = .next t ∧ t.pwr.lastCross = some s.now ∧ t.drv.cross1 = some s.now) ∧
    (∀ (raw : BitVec 20) a, (∀ g : Nat, g ≠ f.val → (feedOf s g).closeCmd = none) → (feedOf s f).closeCmd = some a → a + 400 ≤ s.now → (feedOf s f).closed = false →
      feedHeld { s with pwr := { s.pwr with lastCross := some s.now }, drv := { s.drv with cross2 := s.drv.cross1, cross1 := some s.now } } f = false →
      ∃ t, exec (.zeroCrossing raw) s = .next t ∧ t.feedClosed f ∧ (feedOf t f).closeCmd = none) ∧
    (s.drv.configured = true → untestedLine s = false → ∃ t, exec (.feedCloseCommand f) s = .next t ∧ (feedOf t f).closeCmd = some s.now ∧
      (feedOf t f).closed = (feedOf s f).closed) ∧
    (∀ a, (feedOf s f).openCmd = some a → ∃ t, exec (.feedOpen f) s = .next t ∧ (feedOf t f).closed = false ∧ (feedOf t f).openCmd = none) ∧
    (∀ a, (feedOf s f).openCmd = some a → comesAt s (a + 11 * tickMs) = some s' →
      ∃ t, exec (.feedOpenTimeout f) s = .next t ∧ (feedOf t f).closed = false ∧ (feedOf t f).openCmd = none) ∧
    (∀ ma, (feedOf s f).closed = true → 100 * (feedOf s f).lim < ma → (feedOf s f).trip = false →
      ∃ t, exec (.feedTrip f ma) s = .next t ∧ (feedOf t f).closed = false ∧ (feedOf t f).trip = true ∧ (feedOf t f).trips = satInc 255 (feedOf s f).trips ∧
        (paired s f = true → (feedOf t (partner f)).closed = false)) ∧
    (∀ ma, ma ≤ 100 * (feedOf s f).lim → exec (.feedTrip f ma) s = .next s) ∧
    (∀ v : Word, 10 ≤ v.toNat % 128 → v.toNat % 128 ≤ 80 →
      ∃ t, exec (.snufferLimitWrite (.feed f) v) s = .next t ∧ (feedOf t f).limNext = some (v.toNat % 128) ∧ (feedOf t f).lim = (feedOf s f).lim) ∧
    (∀ v : Word, (v.toNat % 128 < 10 ∨ 80 < v.toNat % 128) → exec (.snufferLimitWrite (.feed f) v) s = .next s) ∧
    (comesAt? s (latchDue s (.feed f)) = some s' → ∃ t, exec (.tripLatchClear (.feed f)) s = .next t ∧ (feedOf t f).trip = false)

/-- The rows of the ports have their effect. When a row with a due time acts is the model's choice (log 7). -/
def Obligations.PortRowsComplete : Prop :=
  ∀ (s s' : State) (p : Fin 4),
    (∀ a, (portOf_ s p).rampEnd = some a → comesAt s a = some s' →
      ∃ t, exec (.rampEnd p) s = .next t ∧ (portOf_ t p).duty = (portOf_ s p).target ∧ (portOf_ t p).rampEnd = none) ∧
    (∀ mv : Int, (portOf_ s p).lim < mv.natAbs → (portOf_ s p).trip = false →
      ∃ t, exec (.portTrip p mv) s = .next t ∧ (portOf_ t p).trip = true ∧ (portOf_ t p).run = false ∧ (portOf_ t p).trips = satInc 255 (portOf_ s p).trips) ∧
    (∀ mv : Int, mv.natAbs ≤ (portOf_ s p).lim → exec (.portTrip p mv) s = .next s) ∧
    (∀ v : Word, 20 ≤ v.toNat % 256 → v.toNat % 256 ≤ 250 →
      ∃ t, exec (.snufferLimitWrite (.port p) v) s = .next t ∧ (portOf_ t p).limNext = some (v.toNat % 256) ∧ (portOf_ t p).lim = (portOf_ s p).lim) ∧
    (comesAt? s (latchDue s (.port p)) = some s' → ∃ t, exec (.tripLatchClear (.port p)) s = .next t ∧ (portOf_ t p).trip = false) ∧
    (∀ a, (portOf_ s p).deadUntil = some a → (portOf_ s p).pend = none → comesAt s a = some s' →
      ∃ t, exec (.deadTimeEnd (.port p)) s = .next t ∧ (portOf_ t p).deadUntil = none) ∧
    (∀ q : Fin 4, comesAt? s (pairFirst s q) = some s' →
      ∃ t, exec (.deadTimeEnd (.pair q)) s = .next t ∧ t = { s' with drv := { s'.drv with dead := t.drv.dead } }) ∧
    (∀ ea eb, portDrive s p = none → ∃ t, exec (.encoderEdge p ea eb) s = .next t ∧ (portOf_ t p).ea = ea ∧ (portOf_ t p).eb = eb) ∧
    (∀ ea eb d n, portDrive s p = some d → headLeg s d = none → edgeStep (cfgIs s (drvObj d) "ENCTYPE" "PULSE") (portOf_ s p) ea eb = some n →
      ∃ t, exec (.encoderEdge p ea eb) s = .next t ∧ (portOf_ t p).enc = (BitVec.ofInt 32 ((portOf_ s p).enc + n)).toInt)

/-- The rows of the barrier have their effect. When a row with a due time acts is the model's choice (log 7). -/
def Obligations.BarrierRowsComplete : Prop :=
  ∀ s s' : State,
    (coreRuns s = true → s.pwr.linkUp = true → ∃ t, exec .barrierHeartbeat s = .next t ∧ t.drv.lastHb = s.now ∧ t.drv.lastWord = s.now) ∧
    (s.drv.configured = true → comesAt s (s.drv.lastHb + 5 * tickMs) = some s' →
      ∃ t, exec .heartbeatLoss s = .next t ∧ t.drv.configured = false ∧
        ∀ f < 8, (feedOf t f).closeCmd = none ∧ ((feedOf t f).closed = true → (feedOf t f).openCmd.isSome = true)) ∧
    (coreRuns s = true → s.pwr.linkUp = true → s.drv.lost = false → comesAt s (s.drv.lastWord + 5 * tickMs) = some s' →
      ∃ t, exec .barrierLinkLost s = .next t ∧ t.drv.lost = true ∧ t.drv.losses = satInc 255 s.drv.losses) ∧
    (∀ a, coreRuns s = true → s.drv.lost = true → s.drv.backSince = some a → comesAt s (a + 100 * tickMs) = some s' →
      ∃ t, exec .barrierLinkBack s = .next t ∧ t.drv.lost = false ∧ t.drv.configured = true ∧
        ∀ f < 8, (feedOf t f).closeCmd = none ∧ ((feedOf t f).closed = true → (feedOf t f).openCmd.isSome = true))

/-- The rows of a drive's travel have their effect at their time, and the rows of the protections and holds theirs.
When a row with a due time acts is the model's choice (log 7). -/
def Obligations.TravelRowsComplete : Prop :=
  ∀ (s s' : State) (d : Fin 32),
    (∀ l, coreRuns s = true → headLeg s d = some l → (endModel s d && isEnd l.target && l.tilt.isNone) = false →
      (encModel s d && l.tilt.isNone) = false → posModel s d ≠ "NONE" → (drOf s d).learnRun = 0 → comesAt s (epochCeil s (modelEnds s d l)) = some s' →
      ∃ t, exec (.travelEnd d) s = .next t ∧ t = legEnds s' d (if isEnd l.target && l.tilt.isNone then some l.target else none)) ∧
    (∀ l a, coreRuns s = true → endModel s d = true → headLeg s d = some l → (drOf s d).lowSince = some a → (drOf s d).learnRun = 0 →
      comesAt s (a + 200 * tickMs) = some s' → posGap (posNow s' d).1 (if (drOf s d).dir then 10000 else 0) ≤ 100 * cfgPct s' (drvObj d) "ENDWIN" →
      ∃ t, exec (.endstopCollapse d) s = .next t ∧ t = legEnds s' d (some (if (drOf s d).dir then 10000 else 0))) ∧
    (∀ l a, coreRuns s = true → endModel s d = true → headLeg s d = some l → (drOf s d).lowSince = some a → (drOf s d).learnRun = 0 →
      comesAt s (a + 200 * tickMs) = some s' → ¬posGap (posNow s' d).1 (if (drOf s d).dir then 10000 else 0) ≤ 100 * cfgPct s' (drvObj d) "ENDWIN" →
      ∃ t, exec (.endstopCollapse d) s = .next t ∧ t = driveFault s' d "FAIL FAULT CUTOUT") ∧
    (∀ l, coreRuns s = true → endModel s d = true → (drOf s d).learnRun = 0 → headLeg s d = some l → isEnd l.target = true → l.tilt = none →
      comesAt s (epochCeil s (modelEnds s d l)) = some s' →
      ∃ t, exec (.endstopTimeout d) s = .next t ∧ t = driveFault (notifyLate s' "DRV.ENDSTOP" (some (drvObj d))) d "FAIL FAULT ENDSTOP") ∧
    (coreRuns s = true → (drOf s d).learnRun ≠ 0 → (drOf s d).running = true → comesAt s (epochCeil s ((drOf s d).t0 + 600000 * tickMs)) = some s' →
      ∃ t, exec (.learnRunTimeout d) s = .next t ∧ t = driveFault s' d "FAIL FAULT ENDSTOP") ∧
    (∀ l, coreRuns s = true → driveKind s d = "DC" → encModel s d = true → headLeg s d = some l →
      comesAt s (epochCeil s (max (drOf s d).lastCount ((drOf s d).t0 + cfgTicks s (drvObj d) "RAMP") + 300 * tickMs)) = some s' →
      ∃ t, exec (.stall d) s = .next t ∧ t = stalled s' d) ∧
    (∀ l, coreRuns s = true → (driveKind s d = "PAIR" ∨ (driveKind s d = "DC" ∧ portMeas s d ≠ [])) → modelOnly s = false → headLeg s d = some l →
      comesAt s (epochCeil s ((drOf s d).evalAt + 10 * tickMs)) = some s' →
      ∃ t u, exec (.obstacleEvaluation d) s = .next t ∧ u = modDr s' d (fun r => { r with evalAt := s'.now }) ∧ t = evaluates u d l (driveMeasures u d)) ∧
    (coreRuns s = true → modeIs s [.quiet, .start, .off] = false → modelOnly s = false → sagKnown s = true →
      ∃ t u, exec .sagStop s = .next t ∧ u = { s with drv := { s.drv with sagActed := true } } ∧
        t = (usedDrives u).foldl driveNow ((usedDrives u).foldl sagStops u)) ∧
    (∀ q a, (protSt s (protIdx q)).state = 0 → s.ana.mode ≠ .quiet → (protSt s (protIdx q)).onSince = some a →
      comesAt s (a + cfgTicks s (protObj (protIdx q)) "ONDLY") = some s' →
      ∃ t, exec (.protectionOnDelay q) s = .next t ∧ (protSt t (protIdx q)).state = 1) ∧
    (∀ q a, (protSt s (protIdx q)).state = 1 → s.ana.mode ≠ .quiet → (protSt s (protIdx q)).offSince = some a →
      comesAt s (a + cfgTicks s (protObj (protIdx q)) "OFFDLY") = some s' →
      ∃ t, exec (.protectionOffDelay q) s = .next t ∧ t = protState s' (protIdx q) 0) ∧
    (∀ r a, coreRuns s = true → (drOf s d).hold = some (r, a) → comesAt s a = some s' →
      ∃ t, exec (.holdExpiry d) s = .next t ∧ (drOf t d).hold = none ∧ ∀ e, e ≠ d.val → drOf t e = drOf s e)

/-! ### Thermal models -/

/-- The rows of the thermal models have their effect. When a row with a due time acts is the model's choice (log 7). -/
def Obligations.ThermalRowsComplete : Prop :=
  ∀ s s' : State,
    (∀ pe : List Int, comesAt s (s.thm.stepAt + stepTicks) = some s' →
      ∃ t u, exec (.thermalStep pe) s = .next t ∧ u = { s' with thm := { s'.thm with stepAt := s.thm.stepAt + stepTicks } } ∧
        let v := (List.range 8).foldl (fun s m => therStep (pe.getD m 0) s m) u
        ((coreRuns v = false ∨ v.ana.mode = .quiet) → t = v) ∧
        (coreRuns v = true → v.ana.mode ≠ .quiet → t = moduleStep ((List.range 4).foldl (fun s p => therStep (pe.getD (8 + p) 0) s (8 + p)) v))) ∧
    (coreRuns s = true → s.ana.mode ≠ .quiet → s.pwr.linkUp = true → s.drv.lost = false → comesAt s (s.thm.ambAt + 100 * tickMs) = some s' →
      ∃ t, exec .ambientWord s = .next t ∧ t.thm.ambAt = s'.now ∧ ∀ m < 8, therOf t m = { therOf s m with ta := (therOf s m).taK }) ∧
    (s.ana.mode ≠ .quiet → comesAt s (s.thm.ambAt + 1000 * tickMs) = some s' →
      ∃ t, exec .ambientTimeout s = .next t ∧ ∀ m < 8, (therOf t m).ta = degC (cfgDeg s (therObj m) "AMBHOT")) ∧
    (∀ (m : Fin 12) a, coreRuns s = true → s.thm.force.getLsbD m = true → (therOf s m).closedSince = some a → comesAt s (a + 10000 * tickMs) = some s' →
      ∃ t, exec (.thermoClear m) s = .next t ∧ t.thm.force.getLsbD m = false ∧ ∀ n < 12, n ≠ m.val → t.thm.force.getLsbD n = s.thm.force.getLsbD n) ∧
    (coreRuns s = true → comesAt s (s.thm.recAt + 60000 * tickMs) = some s' →
      ∃ t, exec .thermalStateRecord s = .next t ∧ t.thm.recAt = s'.now ∧ (journalOpen s = true → t.thm.rec_.isSome = true ∧ t.thm.recHeld = none) ∧
        (journalOpen s = false → t.thm.recHeld.isSome = true ∧ t.thm.rec_ = s.thm.rec_)) ∧
    (∀ (m : Fin 13) v mask, thrOk m (thrWritten s m v mask) = true → m.val ≠ 12 →
      ∃ t, exec (.thmThresholdWrite m v mask) s = .next t ∧ (therOf t m).thr = some (thrWritten s m v mask) ∧ ∀ n, n ≠ m.val → therOf t n = therOf s n) ∧
    (∀ v mask, thrOk 12 (thrWritten s 12 v mask) = true →
      ∃ t, exec (.thmThresholdWrite 12 v mask) s = .next t ∧ t.thm.modThr = some (thrWritten s 12 v mask) ∧ t.thm.models = s.thm.models) ∧
    (∀ (m : Fin 13) v mask, thrOk m (thrWritten s m v mask) = false → exec (.thmThresholdWrite m v mask) s = .next s)

/-! ### Zones, loops and schedules -/

/-- The rows of the climate have their effect. When a row with a due time acts is the model's choice (log 7). -/
def Obligations.ClimateRowsComplete : Prop :=
  ∀ s s' : State,
    (∀ (l : Fin 96), loopsCompute s = true → loopKind s l ≠ "OFF" → 0 < s.epoch → (s.epoch - 1) % loopPeriod s l = 0 → (loopSt s l).released ≠ some s.epoch → loopStarts s l = true →
      ∃ t, exec (.loopRelease l) s = .next t ∧ (loopSt t l).released = some s.epoch ∧ (loopSt t l).pend.isSome = true) ∧
    (∀ (l : Fin 96) r done, loopsCompute s = true → modeIs s [.replay] = false → (loopSt s l).pend = some r → r.epoch ≤ s.epoch →
      ∃ t, exec (.loopOutput l done) s = .next t ∧ (loopSt t l).pend = none) ∧
    (∀ (l : Fin 96), loopsCompute s = true → comesAt? s (runonDue s l) = some s' →
      ∃ t u, exec (.runonEnd l) s = .next t ∧ (loopSt u l).fan = false ∧ (loopSt u l).closedAt = none ∧ u.drv = s.drv ∧ t = curtainActs u l) ∧
    (∀ (z : Fin 24) a, coreRuns s = true → (zoneSt s z).occUntil = some a → comesAt s a = some s' →
      ∃ t, exec (.occupancyExpiry z) s = .next t ∧ (zoneSt t z).occUntil = none) ∧
    (∀ (z : Fin 24) a, coreRuns s = true → (zoneSt s z).ovrEnd = some a → comesAt s a = some s' →
      ∃ t, exec (.overrideExpiry z) s = .next t ∧ (zoneSt t z).ovrEnd = none) ∧
    (∀ n : Fin 16, climRuns s = true → schedFires s n = true →
      ∃ t, exec (.switchPoint n) s = .next t ∧ t = (List.range 24).foldl zoneEval (schedFire s n))

/-! ### The building bus -/

/-- The rows of the CAN controller have their effect. When a row with a due time acts is the model's choice (log 7). -/
def Obligations.ControllerRowsComplete : Prop :=
  ∀ s s' : State,
    (∀ f : CanFrame, busHears s = true → (f.fdf = false ∨ cfgOn s busObj "FD" = true) → f.remote = true →
      ∃ t, exec (.canFrameValid f) s = .next t ∧ t.bus.rx = satInc 0xFFFFFFFF s.bus.rx ∧ t.bus.unmatched = satInc 0xFFFF s.bus.unmatched ∧
        t.bus.qA = s.bus.qA ∧ t.bus.qB = s.bus.qB) ∧
    (∀ (f : CanFrame) n, busHears s = true → (f.fdf = false ∨ cfgOn s busObj "FD" = true) → f.remote = false → s.ana.mode ≠ .quiet →
      (List.range 48).find? (filterMatches s f) = some n → (filterOf s n).2.2.2 = 1 → s.bus.qA.length < 16 →
      ∃ t, exec (.canFrameValid f) s = .next t ∧ t.bus.qA = s.bus.qA ++ [⟨f, n, mono s⟩] ∧ t.bus.qB = s.bus.qB ∧ tget 0 t.bus.hits n = satInc 0xFFFF (tget 0 s.bus.hits n)) ∧
    (∀ (f : CanFrame) n, busHears s = true → (f.fdf = false ∨ cfgOn s busObj "FD" = true) → f.remote = false → s.ana.mode ≠ .quiet →
      (List.range 48).find? (filterMatches s f) = some n → (filterOf s n).2.2.2 = 2 → s.bus.qB.length < 48 →
      ∃ t, exec (.canFrameValid f) s = .next t ∧ t.bus.qB = s.bus.qB ++ [⟨f, n, mono s⟩] ∧ t.bus.qA = s.bus.qA) ∧
    (∀ q l, s.bus.qB = q :: l → coreRuns s = true → s.ana.mode ≠ .quiet → s.bus.passB < 8 → bufFull s 192 = false →
      ∃ t, exec (.queueDrain true) s = .next t ∧ t.bus.qB = l ∧ t.bus.passB = s.bus.passB + 1 ∧ t.bus.qA = s.bus.qA) ∧
    (∀ q l, s.bus.qA = q :: l → coreRuns s = true → s.ana.mode ≠ .quiet → s.bus.passA < 4 → bufFull s 191 = false →
      ∃ t, exec (.queueDrain false) s = .next t ∧ t.bus.qA = l ∧ t.bus.passA = s.bus.passA + 1 ∧ t.bus.qB = s.bus.qB) ∧
    (∀ (bf : Fin 48) f, coreRuns s = true → s.ana.workersReset = none → modeIs s [.off, .quiet, .replay] = false → filterOwned s bf = false → filterNotify s bf = true → ∃ t, exec (.userFrame bf f) s = .next t ∧ t = frameNotice s bf f) ∧
    (∀ (bf : Fin 48) f, coreRuns s = true → s.ana.workersReset = none → modeIs s [.off, .quiet, .replay] = false → filterOwned s bf = false → filterNotify s bf = false →
      ∃ t, exec (.userFrame bf f) s = .next t ∧ t = { s with bus := { s.bus with unused := satInc 0xFFFF s.bus.unused } }) ∧
    (∀ (tb : Fin 8) b sof sub, tbOf s tb = some b → txOffered s tb b sof = true →
      ∃ t, exec (.canTxComplete tb .done sof sub) s = .next t ∧ t.bus.txn = satInc 0xFFFFFFFF s.bus.txn ∧
        ((∀ n, b.what ≠ .timeref n) → t.bus.tbs = tdel s.bus.tbs tb)) ∧
    (∀ (tb : Fin 8) b sof sub r, tbOf s tb = some b → txOffered s tb b sof = true → (r = .lost ∨ r = .error) →
      ∃ t, exec (.canTxComplete tb r sof sub) s = .next t ∧ t.bus.txn = s.bus.txn ∧
        (b.oneshot = true → t.bus.tbs = tdel s.bus.tbs tb) ∧ (b.oneshot = false → t.bus.tbs = tset s.bus.tbs tb { b with begun := true })) ∧
    (∀ tec rec_, busHears s = true → tec < 256 → ∃ t, exec (.busErrorState tec rec_) s = .next t ∧ t.bus.tec = tec ∧ t.bus.rec_ = rec_ ∧ t.bus.busOff = false ∧ t.bus.tbs = s.bus.tbs) ∧
    (∀ tec rec_, busHears s = true → 256 ≤ tec → ∃ t, exec (.busErrorState tec rec_) s = .next t ∧ t.bus.busOff = true ∧ t.bus.offAt = s.now ∧ t.bus.sends = [] ∧ t.bus.tbs = []) ∧
    (s.bus.busOff = true → s.bus.recovering = false → s.bus.latch = false → coreRuns s = true → comesAt s (s.bus.offAt + cfgTicks s busObj "BOFFDLY") = some s' →
      exec .busOffDelayExpiry s = .next { s' with bus := { s'.bus with recovering := true } }) ∧
    (s.bus.busOff = true → s.bus.recovering = true → coreRuns s = true →
      ∃ t, exec .busOffRecovered s = .next t ∧ t.bus.busOff = false ∧ t.bus.recovering = false ∧ t.bus.tec = 0 ∧ t.bus.rec_ = 0) ∧
    (s.bus.joining = true → s.bus.asleep = false → coreRuns s = true → s.pwr.committed = false →
      ∃ t, exec .busJoin s = .next t ∧ t.bus.joined = true ∧ t.bus.joining = false ∧ t.bus.tec = 0 ∧ t.bus.rec_ = 0) ∧
    (s.ana.mode = .quiet → s.bus.asleep = false → s.bus.sleepBy.isSome = true → ∃ t, exec .busSleep s = .next t ∧ t.bus.asleep = true ∧ t.bus.joined = false ∧ t.bus.tbs = []) ∧
    (s.bus.asleep = true → s.ana.mode = .quiet → cfgWord s busObj "WAKEMODE" = "PATTERN" →
      ∃ t, exec (.canWake .pattern) s = .next t ∧ t.pwr.waking = some .can ∧ t.bus.wakeCause = 1) ∧
    (s.bus.asleep = true → s.ana.mode = .quiet → cfgWord s busObj "WAKEMODE" = "FRAME" →
      ∃ t, exec (.canWake .frame) s = .next t ∧ t.pwr.waking = some .can ∧ t.bus.wakeCause = 2) ∧
    (s.bus.asleep = true → s.ana.mode = .quiet → cfgWord s busObj "WAKEMODE" = "FRAME" →
      ∃ t, exec (.canWake .errors) s = .next t ∧ t.pwr.waking = some .can ∧ t.bus.wakeCause = 3)

/-- The rows of the Aravo profile and of the tunnels have their effect.
When a row with a due time acts is the model's choice (log 7). -/
def Obligations.ProfileRowsComplete : Prop :=
  ∀ s s' : State,
    (∀ v a, cfgNano s busObj "HBINT" = some v → nodeAddr s ≠ 0 → busSends s = true → s.bus.conflict = false → coreRuns s = true → s.ana.workersReset = none →
      s.bus.hbDue = some a → comesAt s a = some s' → ∃ t, exec .busHeartbeatSend s = .next t ∧ 
        t.bus.hbDue = some (if a + (v / 125).toNat ≤ s'.now then s'.now + (v / 125).toNat else a + (v / 125).toNat)) ∧
    (∀ src : Fin 64, busTakes s = true → src.val = nodeAddr s → ∃ t, exec (.heartbeatReceived src) s = .next t ∧ t.bus.conflict = true) ∧
    (∀ src : Fin 64, src.val ≠ nodeAddr s → exec (.heartbeatReceived src) s = .next s) ∧
    (∀ (p : Fin 32) v, pointValue s p = some v → busTakes s = true → busSends s = true → s.bus.conflict = false → s.now = epochTick s s.epoch → pointDue s p v = true →
      ∃ t, exec (.pointPublish p) s = .next t ∧ t = pointFrame { s with bus := { s.bus with points := tset s.bus.points p { val := some v, at_ := s.now, sq := ((pointSt s p).sq + 1) % 256 } } } p 0 v (pointSt s p).sq) ∧
    (∀ (src : Fin 64) (i : Byte) p, busTakes s = true → (List.range 32).find? (fun p => cfgNat s (pointObj p) "INDEX" = i.toNat && (cfgObj s (pointObj p) "SOURCE").isSome) = some p →
      exec (.pointreq src i) s = .next { s with bus := { s.bus with answers := s.bus.answers ++ [(s.epoch + 1, p, src.val)] } }) ∧
    (∀ (src : Fin 64) c, busTakes s = true → cfgOn s busObj "LISTEN" = false → cfgOn s busObj "TUNNEL" = true → s.bus.conflict = false → s.bus.tuns.find? (·.2.node = src.val) = none →
      (List.range 4).find? (fun c => (tunOf s c).isNone) = some c →
      ∃ t, exec (.tunnelOpen src) s = .next t ∧ (getSes t (tunSess c)).isOpen = true ∧ (getSes t (tunSess c)).role = none ∧ (getSes t (tunSess c)).mode = .framed) ∧
    (∀ (ses : Fin 4) (src sq : Fin 64) b u, busTakes s = true → b ≠ [] → b.length ≤ 63 → tunFor s ses src = some u →
      (s.now = epochTick s s.epoch →
        exec (.tunnelFragment ses src sq b) s = .next (tunBoundary (linesStep (fragTakes s ses u sq b (s.now - 1))))) ∧
      (s.now ≠ epochTick s s.epoch → (sq.val ≠ u.inSeq ∨ rxFree s (tunSess ses) < b.length) →
        exec (.tunnelFragment ses src sq b) s = .next (setTun s ses { u with ackDue := true, heardAt := s.now })) ∧
      (s.now ≠ epochTick s s.epoch → sq.val = u.inSeq → b.length ≤ rxFree s (tunSess ses) →
        ∃ t, exec (.tunnelFragment ses src sq b) s = .next t ∧ t = b.foldl (fun s b => rxIn s (tunSess ses) (b.setWidth 9) s.now)
          (setTun s ses { u with inSeq := (u.inSeq + 1) % 64, ackDue := true, heardAt := s.now }))) ∧
    (∀ (ses : Fin 4) (src next : Fin 64) u l, busTakes s = true → tunFor s ses src = some u → ackLeaves next u.unacked = some l →
      ∃ t, exec (.tunnelAck ses src next) s = .next t ∧ t = fragPump 4 (setTun s ses { u with heardAt := s.now, unacked := l, resends := 0, sentAt := s.now }) ses) ∧
    (∀ (ses : Fin 4) u, tunOf s ses = some u → u.unacked ≠ [] → busTakes s = true → s.bus.busOff = false → u.resends < 5 → comesAt s (u.sentAt + 100 * tickMs) = some s' →
      ∃ t, exec (.tunnelResend ses) s = .next t ∧ t = u.unacked.foldl (fun s f => fragSend s ses u f) (setTun s' ses { u with resends := u.resends + 1, sentAt := s'.now })) ∧
    (∀ (ses : Fin 4) u, tunOf s ses = some u → u.unacked ≠ [] → busTakes s = true → s.bus.busOff = false → 5 ≤ u.resends → comesAt s (u.sentAt + 100 * tickMs) = some s' →
      ∃ t, exec (.tunnelResend ses) s = .next t ∧ t = tunClose s' ses "NOACK") ∧
    (∀ (ses : Fin 4) (src : Fin 64) u, busTakes s = true → tunFor s ses src = some u → ∃ t, exec (.tunnelClose ses src) s = .next t ∧ t = tunClose s ses "PEER") ∧
    (∀ (ses : Fin 4) u, tunOf s ses = some u → busTakes s = true → s.bus.busOff = false → comesAt s (u.heardAt + cfgTicks s busObj "TUNIDLE") = some s' →
      ∃ t, exec (.tunnelIdle ses) s = .next t ∧ t = tunClose s' ses "IDLE") ∧
    (∀ id fdf d, busTakes s = true → (cfgOn s busObj "SEAL" = false ∨ cfgOn s busObj "LISTEN" = true) → ∃ t, exec (.sealedOrder id fdf d) s = .next t ∧ t.bus.unused = satInc 0xFFFF s.bus.unused) ∧
    (∀ (id : BitVec 29) (d : List Byte), let n (k : Nat) : Nat := (d.getD k 0).toNat
      let src := id.toNat / 256 % 64
      let counter := natBE ((d.drop 4).take 4)
      busTakes s = true → cfgOn s busObj "SEAL" = true → cfgOn s busObj "LISTEN" = false → id.toNat / 1048576 % 64 = 0x10 →
      id.toNat / 16384 % 64 = nodeAddr s → d.length = 16 → sealMacOk s id d = true → tget 0 s.bus.seals src < counter →
      (cfgObjs s busObj "SEALDRIVES").contains (drvObj (n 0)) = true → sealValues s (n 0) (n 1) (n 2) (n 3) = true →
      ∃ t, exec (.sealedOrder id true d) s = .next t ∧ tget 0 t.bus.seals src = counter ∧ t.bus.sealNo = s.bus.sealNo + 1 ∧
        ∃ x ∈ (drOf t (n 0)).pend, x.sealed_ = some s.bus.sealNo ∧ x.epoch = s.epoch + 1)

/-- A sealed order is placed only where its message code is right and its counter is above the last accepted of its sender; the
counter accepted is then the order's (R528 to R530). -/
def Obligations.SealedOrdersNeverRepeat : Prop :=
  ∀ (s t : State) (id : BitVec 29) (d : List Byte) (src counter : Nat),
    src = id.toNat / 256 % 64 → counter = natBE ((d.drop 4).take 4) →
    exec (.sealedOrder id true d) s = .next t → t.bus.sealNo ≠ s.bus.sealNo →
    sealMacOk s id d = true ∧ tget 0 s.bus.seals src < counter ∧ tget 0 t.bus.seals src = counter

/-! ### Time -/

/-- The rows of the reference exchange have their effect: the master loads its TIMEREF, a TIMEREF heard is stamped and its
sender becomes a candidate, a TIMEFUP that matches forms a sample and one that does not is rejected, and a delivered sample is
taken. When a row with a due time acts is the model's choice (log 7). -/
def Obligations.TimeExchangeRowsComplete : Prop :=
  ∀ s s' : State,
    (s.tim.isMaster = true → coreRuns s = true → comesAt? s (s.tim.refDue.map (tickOf s)) = some s' →
      ∃ t, exec .timerefSend s = .next t ∧ t.tim.outSeq = (s.tim.outSeq + 1) % 16 ∧ t.tim.refDue = s'.tim.refDue.map (· + (refintOwn s' : Int) * 20000000) ∧
        (busSends s' = true → ∃ b, tbOf t 0 = some b ∧ b.what = .timeref ((s.tim.outSeq + 1) % 16) ∧
          b.f.ident = aravoId 0 0x18 0 (nodeAddr s) 0 ∧ b.f.data = timerefData s' ((s.tim.outSeq + 1) % 16))) ∧
    (∀ (src : Fin 64) data sof sub, timeHears s = true → timerefOk data = true →
      ∃ t, exec (.timerefReceived src data sof sub) s = .next t ∧
        (∃ r ∈ t.tim.refs, r.src = src.val ∧ r.sq = byteAt data 0 ∧ r.sof = sof ∧ r.at_ = s.now ∧ r.net = netAt s (s.rel + sof) + sub.val) ∧
        ∃ c ∈ t.tim.cands, c.node = src.val ∧ c.at_ = s.now ∧ c.prio = byteAt data 2 ∧ c.refint = byteAt data 3) ∧
    (∀ (src : Fin 64) data sof sub, timeHears s = true → timerefOk data = false →
      ∃ t, exec (.timerefReceived src data sof sub) s = .next t ∧ t.tim = { s.tim with nRejects := satInc 0xFFFF s.tim.nRejects } ∧ t = timeReject s sof) ∧
    (∀ (src : Fin 64) data r, timeHears s = true → timefupOk data = true →
      s.tim.refs.find? (fun r => r.src = src.val && r.sq = byteAt data 0 % 16 && s.now ≤ r.at_ + 100 * tickMs) = some r →
      ∃ t, exec (.timefupReceived src data) s = .next t ∧ t = sampleForm s r data ∧ ∀ x ∈ t.tim.refs, x.src ≠ src.val) ∧
    (∀ (src : Fin 64) data, timeHears s = true → (timefupOk data = false ∨ s.tim.refs.find? (fun r => r.src = src.val && r.sq = byteAt data 0 % 16 && s.now ≤ r.at_ + 100 * tickMs) = none) →
      ∃ t, exec (.timefupReceived src data) s = .next t ∧ t.tim = { s.tim with nRejects := satInc 0xFFFF s.tim.nRejects } ∧ t = timeReject s (mono s)) ∧
    (∀ m l, s.tim.samples = m :: l → coreRuns s = true → m.at_ < epochTick s s.epoch →
      ∃ t, exec .timeSample s = .next t ∧ t.tim.samples = l ∧
        (s.tim.follow ≠ some m.src → t = { s with tim := { s.tim with samples := l } }) ∧
        (s.tim.follow = some m.src → s.tim.acq = false → t.tim.acq = true ∧ t.tim.held = some (m.src, m.theta)) ∧
        (s.tim.follow = some m.src → s.tim.acq = true → agrees s m = true → t.tim.bus = true ∧ t.tim.offset = m.theta ∧
          t.tim.nSamples = satInc 0xFFFF s.tim.nSamples))

/-- The rows of election and of the quality have their effect: a candidate claims, a master unheard is followed no longer, a
source is lost, and holdover ends. When a row with a due time acts is the model's choice (log 7). -/
def Obligations.TimeElectionRowsComplete : Prop :=
  ∀ s s' : State,
    (isCandidate s = true → coreRuns s = true → comesAt? s (claimAt s) = some s' →
      ∃ t, exec .masterClaim s = .next t ∧ t.tim.isMaster = true ∧ t.tim.follow = none ∧ t.tim.refDue = some (nextHalf s')) ∧
    (∀ n c, s.tim.follow = some n → s.tim.cands.find? (·.node = n) = some c → comesAt s (c.at_ + 3 * refintTicks c.refint) = some s' →
      ∃ t, exec .followedMasterUnheard s = .next t ∧ t = followRefresh s' ∧ (bestCand s' = none → t.tim.follow = none)) ∧
    (s.tim.bus = true → coreRuns s = true → comesAt? s (s.tim.acted.map (· + 5 * refintTicks s.tim.actedRef)) = some s' →
      ∃ t, exec .timeSourceLost s = .next t ∧ t.tim.bus = false ∧ t.tim.acq = false ∧ t.tim.held = none ∧ t.tim.good = 0 ∧ t.tim.quality ≠ 3) ∧
    (s.tim.quality = 2 → coreRuns s = true → comesAt s (tickOf s (s.tim.anchor + holdLim s)) = some s' →
      ∃ t, exec .holdlimExpiry s = .next t ∧ t = { s' with tim := { s'.tim with quality := 1 } })

/-- The rows of the clock itself have their effect: a slew ends, a step is applied, the pulse rises with its label and falls,
the RTC is written, and the latches hold what a read of the low word saw.
When a row with a due time acts is the model's choice (log 7). -/
def Obligations.ClockRowsComplete : Prop :=
  ∀ s s' : State,
    (comesAt? s s.tim.slewEnd = some s' → ∃ t, exec .slewComplete s = .next t ∧ t.tim.slew = 0 ∧ t.tim.slewEnd = none ∧ t.tim.refTick = s'.now ∧
      t.tim.base = (timeRebase s').tim.base - (slewDone s' - s'.tim.slewTheta * 4294967296 / 5)) ∧
    (∀ p, coreRuns s = true → s.tim.step = some p → comesAt s (tickOf s (p.label * netSec)) = some s' →
      ∃ t, exec .timeStep s = .next t ∧ t.tim.step = none ∧ t.tim.nSteps = satInc 0xFFFF s.tim.nSteps ∧ t.tim.refTick = s'.now ∧ t.pwr.timeLost = false) ∧
    (∀ n, coreRuns s = true → s.pwr.committed = false → s.tim.pulseDue = some n → comesAt s (tickOf s (n * netSec)) = some s' →
      ∃ t, exec .pulseStart s = .next t ∧ t.tim.label = n.toNat ∧ t.tim.pulseDue = some (n + 1) ∧ t.tim.pulseHigh = cfgOn s timeObj "PULSE") ∧
    (comesAt? s (s.tim.pulseEnd.map (tickOf s)) = some s' → exec .pulseEnd s = .next { s' with tim := { s'.tim with pulseHigh := false, pulseEnd := none } }) ∧
    (coreRuns s = true → s.tim.quality ≠ 0 → s.pwr.pilot = .normal → xFailing s 196 = false → comesAt? s (s.tim.rtcDue.map (tickOf s)) = some s' →
      ∃ t, exec .rtcWrite s = .next t ∧ t.tim.rtcDue = some (nextMinute s') ∧ t.tim.rtcBase = (timeNow s').toNat * 32768 / 80000000 ∧ t.tim.rtcAt = s'.now ∧ t.pwr.rtcValid = true) ∧
    exec .monoLatch s = .next { s with ana := { s.ana with monoH := BitVec.ofNat 32 (mono s / 4294967296) } } ∧
    exec .timeSecLatch s = .next { s with tim := { s.tim with frac := (timeNow s % netSec).toNat / 10 } }

/-! ### Lantern, journal, self-test -/

/-- The rows of Lantern have their effect: a ready pump begins the frames, a late one is latched as a fault, each frame's end
counts it and the last one or an abort ends the update, a commit stops it at the end of the step, a dip commands the abort,
recovery ends, a DRAW without supply fails after 10 s, blinks toggle, and the status is posted every 50 ms.
When a row with a due time acts is the model's choice (log 7). -/
def Obligations.LanternRowsComplete : Prop :=
  ∀ s s' : State,
    (∀ j, s.lan.job = some j → j.frameEnd = none → s.now ≤ j.pumpAt + 2 * tickMs →
      (j.test = true → ∃ t, exec .pumpReady s = .next t ∧ t.lan.recov = false ∧ t.lan.aborted = false ∧ t = recovEnds (setLan (railsRead s) fun x => { x with job := none })) ∧
      (j.test = false → j.total ≠ 0 → ∃ t, exec .pumpReady s = .next t ∧ t.lan.job = some { j with frameEnd := some (s.now + j.frameT) } ∧ t.lan.aborted = false ∧
        t.lan.tgt = j.run.foldl (fun t p => tset t p.1 p.2.1) s.lan.tgt)) ∧
    (∀ j, s.lan.job = some j → j.frameEnd = none → comesAt s (j.pumpAt + 2 * tickMs) = some s' → ∃ t, exec .pumpTimeout s = .next t ∧ t.lan.fault = true) ∧
    (∀ j, s.lan.job = some j → comesAt? s j.frameEnd = some s' →
      (s.pwr.committed = true → ∃ t, exec .lanFrameEnd s = .next t ∧ t.lan.driven = j.frame + 1 ∧ t.lan.job = none ∧ t.lan.abort = none) ∧
      (s.pwr.committed = false → j.frame + 1 < j.total → s.lan.abort = none → ∃ t, exec .lanFrameEnd s = .next t ∧ t.lan.driven = j.frame + 1 ∧
        t.lan.job = some { j with frame := j.frame + 1, frameEnd := some (s'.now + j.frameT) }) ∧
      (∀ c, s.pwr.committed = false → j.frame + 1 < j.total → s.lan.abort = some c → ∃ t, exec .lanFrameEnd s = .next t ∧ t.lan.nAbort = satInc 255 s.lan.nAbort ∧
        t.lan.job = none ∧ t.lan.recov = true ∧ t.lan.aborted = true ∧ t.lan.abortAt = s'.now) ∧
      (s.pwr.committed = false → j.total ≤ j.frame + 1 → ∃ t, exec .lanFrameEnd s = .next t ∧ t.lan.nUpd = satInc 65535 s.lan.nUpd ∧ t.lan.abort = none)) ∧
    (∀ j, s.lan.job = some j → j.frameEnd.isSome = true → j.test = false →
      exec .pumpDip s = .next { s with lan := { s.lan with abort := some 1 } }) ∧
    (s.lan.recov = true → s.lan.marks = [] → s.lan.xfail = false → s.lan.job = none → coreRuns s = true → comesAt s (epochCeil s s.lan.recUntil) = some s' →
      (s.lan.pumpCause = true → exec .recoveryEnd s = .next { s' with lan := { s'.lan with job := some { test := true, pumpAt := s'.now } } }) ∧
      (s.lan.pumpCause = false → ∃ t, exec .recoveryEnd s = .next t ∧ t.lan.recov = false ∧ t.lan.aborted = false)) ∧
    (∀ c id, s.lan.cut = some c → s.lan.recov = true → c.slot = none → c.cmd = some id → comesAt s (epochCeil s (s.lan.abortAt + 10000 * tickMs)) = some s' →
      ∃ t, exec .drawSupplyTimeout s = .next t ∧ t = finish { s' with lan := { s'.lan with cut := none } } id "FAIL STATE SUPPLY" ∧
        ((∀ o, findOut s id = some o → o.ses ≠ .mac) → ∀ q ∈ t.vil.outs, q.id ≠ id)) ∧
    (∀ (k : Fin 8) p a, s.lan.slots.find? (·.1 = k.val) = some p → p.2.next = some a → p.2.armed = true → lanModeOk s = true → coreRuns s = true → comesAt s a = some s' →
      ∃ t, exec (.blinkToggle k) s = .next t ∧ t = toggleDue k p.2 a s' ∧ t.lan.nDrop = (if p.2.waits then satInc 255 s.lan.nDrop else s.lan.nDrop)) ∧
    (coreRuns s = true → s.ana.mode ≠ .quiet → comesAt s (s.lan.postAt + 50 * tickMs) = some s' →
      exec .lanternStatusPost s = .next (arrive { s' with lan := { s'.lan with postAt := s'.now } } 198 (lanStatus s') none .none))

/-- The rows of the journal and of the self-test have their effect: the interval's anchor is taken, a freeze asks for leave once its
freeze boundary has come, its copy takes a slot and makes it valid at its end, a stage of BIST ends with what it found, and both
islands post their status. When a row with a due time acts is the model's choice (log 7). -/
def Obligations.JournalAndTestRowsComplete : Prop :=
  ∀ s s' : State,
    (s.now = epochTick s s.epoch → anchorDue s = true →
      ∃ t a l, exec .anchorInterval s = .next t ∧ t.jrn.anchors = a :: l ∧ a.epoch = s.epoch ∧ a.image = takeImage s ∧ t = { s with jrn := t.jrn }) ∧
    (∀ f l r, coreRuns s = true → s.jrn.frz = f :: l → frzDue s f = true → leaveReq s .freeze .routine 100 f.cmd = some r →
      ∃ t, exec .freezeBoundary s = .next t ∧ t.jrn.frz = { f with phase := 1 } :: l ∧ t.lve.posted = s.lve.posted ++ [(s.epoch + 1, r)]) ∧
    (∀ f l n i, s.jrn.frz = f :: l → f.phase = 2 → f.boundary < s.epoch → coreRuns s = true → jrnHolds s = false → s.jrn.holding = false →
      (if f.auto then autoSlot s else f.slot.or (lowestEmpty s)) = some n →
      slotImage s f = some i → ∃ t, exec .freezeCopyStart s = .next t ∧ slotAt t n = .empty ∧ t.jrn.frz = { f with phase := 3, slot := some n, img := some i, copyAt := s.now } :: l) ∧
    (∀ f l n i, s.jrn.frz = f :: l → f.slot = some n → f.img = some i → f.phase = 3 → coreRuns s = true →
      ∃ t, exec .freezeCopyComplete s = .next t ∧ slotAt t n = .kept i ∧ (∀ k, k ≠ n → slotAt t k = slotAt s k) ∧ t.jrn.frz = l) ∧
    (coreRuns s = true → s.ana.mode ≠ .quiet → comesAt s (s.jrn.postAt + 100 * tickMs) = some s' →
      ∃ t, exec .journalStatusPost s = .next t ∧ t = jrnPost s' ∧ t.jrn.postAt = s'.now ∧ t.jrn.told = some (jrnStatus s')) ∧
    (∀ r fl fe po rows, s.tst.run = some r → r.waits = false → r.done = none → coreRuns s = true → s.ana.mode = .bist →
      comesAt s (r.stageAt + stageMs r.stage * tickMs) = some s' → r.stage ≠ 2 →
      (r.stage < 7 → ∃ t r', exec (.bistStageEnd fl fe po rows) s = .next t ∧ t.tst.run = some r' ∧ r'.stage = r.stage + 1 ∧ r'.stageAt = s'.now ∧
        r'.found = r.found ||| (fl &&& stageBits r.stage)) ∧
      (r.stage = 7 → (s.tst.armed = false ∨ r.rows = []) → ∃ t r', exec (.bistStageEnd fl fe po rows) s = .next t ∧ t.tst.run = some r' ∧ r'.done = some "DONE" ∧
        r'.found = r.found ||| (fl &&& stageBits r.stage))) ∧
    (coreRuns s = true → s.ana.mode ≠ .quiet → comesAt s (s.tst.postAt + 100 * tickMs) = some s' →
      ∃ t, exec .testStatusPost s = .next t ∧ t = bistPost s' false ∧ t.tst.postAt = s'.now)

/-! ### Rules of the whole device -/

/-- The numbers of the accepted commands stay below the next number (the model's own numbering, log 8): every step keeps it. -/
def Obligations.EveryStepKeepsTheNumberingOfCommands : Prop :=
  ∀ s t : State, s.idsOk → step s = .next t → t.idsOk

/-- What reset leaves: the core die runs in START at epoch 0, no session holds a role, every link session works at level 3 with no
notice queued, no command is outstanding, Lamplighter's queue and grant list are empty, and no transient of the line is open. -/
def Obligations.ResetLeavesTheDeviceInStart : Prop :=
  coreRuns State.reset = true ∧ State.reset.ana.mode = .start ∧ State.reset.epoch = 0 ∧ State.reset.pending = [] ∧ State.reset.idsOk ∧
    (∀ k, (getSes State.reset k).role = none ∧ (getSes State.reset k).level = 3 ∧ (getSes State.reset k).nq = [] ∧ (getSes State.reset k).seq = 0) ∧
    State.reset.vil.outs = [] ∧ State.reset.lve.queue = [] ∧ State.reset.lve.grants = [] ∧ (∀ f, ¬State.reset.feedClosed f) ∧
    State.reset.sec.locked = false

/-- The filter history of a crossing takes arriving values only: an arrival adds none but its own value, and a substitute for a
silent source adds none. -/
def Obligations.FilterHistoryHoldsArrivals : Prop :=
  ∀ (s t : State) (x : Fin 240),
    (∀ v p, exec (.guardedArrival x v p) s = .next t → ∀ h ∈ (xcell t x).hist, h ∈ (xcell s x).hist ∨ h = wordVal (xSigned s x) v) ∧
    (exec (.silenceExpiry x) s = .next t → ∀ y, (xcell t y).hist = (xcell s y).hist)

/-- A loss of main during the 2 ms qualification, or a fall below 21.6 V, restarts the qualification: main good then needs a new rise
and 2 ms from it; the Pilot state stays. -/
def Obligations.QualificationRestarts : Prop :=
  ∀ (s : State), s.pwr.mainGood = false →
    (∀ c, (c = .mainLost ∨ c = .mainGoodQualification false) →
      ∃ t, exec c s = .next t ∧ t = { s with pwr := { s.pwr with mgSince := none } } ∧ t.pwr.pilot = s.pwr.pilot ∧ exec .mainGood t = .next t ∧
        ∃ u, exec (.mainGoodQualification true) t = .next u ∧ u.pwr.mgSince = some s.now ∧ u.pwr.pilot = s.pwr.pilot ∧
          ∀ v, exec .mainGood u = .next v → v.pwr.mainGood = true → s.now + 2 * tickMs ≤ v.now)

/-- The line die's interlock of a pair: the two feeds are never closed together; a close command waits, unchanged, while the
partner is closed or the dead time of its opening runs; with neither, and nothing else that holds the feed open, the next zero
crossing carries it out; the dead time DEADT begins when the partner opens; and none of it needs the firmware to run. -/
def Obligations.LineDieInterlocksThePair : Prop :=
  ∀ (s t : State) (raw : BitVec 20) (f : Fin 8), paired s f = true → exec (.zeroCrossing raw) s = .next t →
    (¬(s.feedClosed f ∧ s.feedClosed (partner f)) → ¬(t.feedClosed f ∧ t.feedClosed (partner f))) ∧
    ((s.feedClosed (partner f) ∨ pairDeadNow s f = true) → feedOf t f = feedOf s f) ∧
    (∀ a, (feedOf s f).closeCmd = some a → a + 400 ≤ s.now → (feedOf s (partner f)).closeCmd = none → ¬s.feedClosed (partner f) → pairDeadNow s f = false →
      s.drv.configured = true → untestedLine s = false → s.pwr.nomKind ≠ .none → (feedOf s f).trip = false → (feedOf s (partner f)).trip = false →
      outHot s f = false → s.pwr.hold = false → s.pwr.committed = false → t.feedClosed f) ∧
    (∀ u (g : Fin 8), exec (.feedOpen g) s = .next u → s.feedClosed g → (feedOf s g).openCmd.isSome = true → g.val = partner f →
      feedDead u (partner f) = some (s.now + deadTicks s (driveOfFeed s g)))
end

