-- ==== Sys2Proof/Machine/KeepsOps.lean ====
section
/-! DEFINITION. Theorems only, on the shared operations, the converters' scans, the Vilpi sessions and power: what each
definition keeps. They stand beside the meanings so that a
repair of a meaning can mend its lemma with it. -/

namespace Sys2Proof.Laws
open Sys2Proof Sys2Proof.Machine
variable {s₀ s t : State}
set_option Elab.async false

/-- What every command keeps, but for what ZERO_CROSSING, EPOCH_BOUNDARY and CORE_RESET_RELEASE change first: the queue of waiting commands, the order of time, the relation of the
epoch counter to the clock, the epoch and the boot, a set configuration lock, no feed is closed that stood open, and accepted commands are numbered below the next number. -/
structure Keeps (s t : State) : Prop where
  queue : t.pending = s.pending
  time : s.now ≤ t.now
  clock : s.rel + s.epoch * tickMs ≤ s.now → t.rel + t.epoch * tickMs ≤ t.now
  lock : s.sec.locked = true → t.sec.locked = true
  feeds : ∀ f, (tget {} t.drv.feeds f).closed = true → (tget {} s.drv.feeds f).closed = true
  ids : s.idsOk → t.idsOk
  era : t.rel = s.rel ∧ t.epoch = s.epoch

theorem Keeps.refl (s : State) : Keeps s s := ⟨rfl, Nat.le_refl _, id, id, fun _ => id, id, rfl, rfl⟩

theorem Keeps.trans {a b c : State} (h : Keeps a b) (g : Keeps b c) : Keeps a c :=
  ⟨g.queue.trans h.queue, Nat.le_trans h.time g.time, fun i => g.clock (h.clock i), fun i => g.lock (h.lock i), fun f i => h.feeds f (g.feeds f i), fun i => g.ids (h.ids i), g.era.1.trans h.era.1, g.era.2.trans h.era.2⟩

/-- An update of other fields. -/
theorem Keeps.upd {s₀ x : State} {fresh : Nat} {ana : Ana} {vil : Vil} {sec : Sec} {cfg stored : Cfg} {pwr : Pwr} {lve : Lve}
    {cnv : Cnv} {chn : Chn} {cnt : Cnt} {drv : Drv} {thm : Thm} {clm : Clm} {bus : Bus} {tim : Tim} {lan : Lan} {jrn : Jrn}
    {tst : Tst} (h : Keeps s₀ x) (h5 : sec.locked = x.sec.locked) (h6 : drv.feeds = x.drv.feeds)
    (h7 : vil.outs = x.vil.outs ∧ vil.nextId = x.vil.nextId := by exact ⟨rfl, rfl⟩) :
    Keeps s₀ ⟨x.now, x.rel, x.epoch, fresh, ana, vil, sec, cfg, stored, pwr, lve, cnv, chn, cnt, drv, thm, clm, bus, tim, lan, jrn,
      tst, x.pending⟩ :=
  ⟨h.queue, h.time, h.clock, fun i => h5 ▸ h.lock i, fun f i => h.feeds f (h6 ▸ i), fun i o ho => h7.2 ▸ h.ids i o (h7.1 ▸ ho), h.era⟩

theorem Keeps.ite {s₀ a b : State} {c : Prop} [Decidable c] (ha : Keeps s₀ a) (hb : Keeps s₀ b) : Keeps s₀ (if c then a else b) := by
  split <;> assumption

theorem Keeps.iteP {α : Type} {s₀ : State} {a b : State × α} {c : Prop} [Decidable c] (ha : Keeps s₀ a.1) (hb : Keeps s₀ b.1) :
    Keeps s₀ (if c then a else b).1 := by
  split <;> assumption

theorem keeps_foldl {α : Type} {s₀ : State} {f : State → α → State} (hf : ∀ s a, Keeps s₀ s → Keeps s₀ (f s a)) {l : List α} :
    ∀ {s : State}, Keeps s₀ s → Keeps s₀ (l.foldl f s) := by
  induction l with
  | nil => exact id
  | cons a l ih => exact fun h => ih (hf _ a h)

theorem keeps_foldlP {α β : Type} {s₀ : State} {f : State × β → α → State × β} (hf : ∀ s a, Keeps s₀ s.1 → Keeps s₀ (f s a).1)
    {l : List α} : ∀ {s : State × β}, Keeps s₀ s.1 → Keeps s₀ (l.foldl f s).1 := by
  induction l with
  | nil => exact id
  | cons a l ih => exact fun h => ih (hf _ a h)

theorem tget_tset_self {α : Type} (d v : α) (t : Tbl α) (n : Nat) : tget d (tset t n v) n = v := by
  induction t with
  | nil => simp [tset, tget]
  | cons p t ih =>
    obtain ⟨k, w⟩ := p
    simp only [tset]
    split
    · simp [tget]
    · split
      · simp [tget]
      · next h => simp only [tget]; rw [if_neg (fun e => h e.symm)]; exact ih

theorem tget_tset_ne {α : Type} (d v : α) (t : Tbl α) {n m : Nat} (h : m ≠ n) : tget d (tset t n v) m = tget d t m := by
  induction t with
  | nil => simp [tset, tget, Ne.symm h]
  | cons p t ih =>
    obtain ⟨k, w⟩ := p
    simp only [tset]
    split
    · simp [tget, Ne.symm h]
    · split
      · next e => subst e; simp [tget, Ne.symm h]
      · simp only [tget]; rw [ih]

theorem tget_map {α : Type} (d : α) (f : α → α) (hd : f d = d) (t : Tbl α) (n : Nat) :
    tget d (t.map fun p => (p.1, f p.2)) n = f (tget d t n) := by
  induction t with
  | nil => exact hd.symm
  | cons p t ih => simp only [List.map_cons, tget]; split <;> [rfl; exact ih]

/-- An update of the feeds that closes none. -/
theorem Keeps.feedsUpd {s₀ s : State} {drv : Drv} (hk : Keeps s₀ s)
    (h : ∀ f, (tget {} drv.feeds f).closed = true → (tget {} s.drv.feeds f).closed = true) : Keeps s₀ { s with drv := drv } :=
  ⟨hk.queue, hk.time, hk.clock, hk.lock, fun f i => hk.feeds f (h f i), hk.ids, hk.era⟩

/-- An update of the accepted commands that numbers none anew. -/
theorem Keeps.outsUpd {s₀ s : State} {vil : Vil} (hk : Keeps s₀ s)
    (h : (∀ o ∈ s.vil.outs, o.id < s.vil.nextId) → ∀ o ∈ vil.outs, o.id < vil.nextId) : Keeps s₀ { s with vil := vil } :=
  ⟨hk.queue, hk.time, hk.clock, hk.lock, hk.feeds, fun i => h (hk.ids i), hk.era⟩

theorem keeps_comesAt {s₀ s s' : State} {t : Nat} (hk : Keeps s₀ s) (g : comesAt s t = some s') : Keeps s₀ s' := by
  unfold comesAt at g
  split at g
  · cases g; exact hk
  · next ht =>
    split at g
    · cases g
      exact ⟨hk.queue, Nat.le_trans hk.time (Nat.le_of_lt (Nat.lt_of_not_le ht)),
        fun i => Nat.le_trans (hk.clock i) (Nat.le_of_lt (Nat.lt_of_not_le ht)), hk.lock, hk.feeds, hk.ids, hk.era⟩
    · cases g

theorem keeps_comesAt? {s₀ s s' : State} {t : Option Nat} (hk : Keeps s₀ s) (g : comesAt? s t = some s') : Keeps s₀ s' := by
  cases t with
  | none => cases g
  | some t => exact keeps_comesAt hk g

theorem keeps_atTick {t : Option Nat} {f : State → State} (hk : Keeps s₀ s) (hf : ∀ s, Keeps s₀ s → Keeps s₀ (f s)) : Keeps s₀
    (atTick s t f) := by
  unfold atTick
  split
  · next g => exact hf _ (keeps_comesAt? hk g)
  · exact hk

theorem keeps_drawn (hk : Keeps s₀ s) : Keeps s₀ (drawn s) := by
  unfold drawn
  exact Keeps.upd hk rfl rfl

theorem keeps_setSes {k : Sess} {x : Session} (hk : Keeps s₀ s) : Keeps s₀ (setSes s k x) := by
  unfold setSes
  try dsimp only
  split
  · exact Keeps.upd hk rfl rfl
  · exact Keeps.upd hk rfl rfl
  · exact Keeps.upd hk rfl rfl
  · exact Keeps.upd hk rfl rfl
  · exact Keeps.upd hk rfl rfl
  · exact Keeps.upd hk rfl rfl
  · exact Keeps.upd hk rfl rfl

theorem keeps_modSes {k : Sess} {f : Session → Session} (hk : Keeps s₀ s) : Keeps s₀ (modSes s k f) := by
  unfold modSes
  exact keeps_setSes hk

theorem keeps_sendOut {k : Sess} {tag : Option Nat} {framed : Bool} {cls : Nat} {body : String} {again : Bool} (hk : Keeps s₀ s)
    : Keeps s₀ (sendOut s k tag framed cls body again) := by
  unfold sendOut
  exact Keeps.ite hk (keeps_setSes hk)

theorem keeps_sendLine {k : Sess} {tag : Option Nat} {framed : Bool} {cls : Nat} {body : String} (hk : Keeps s₀ s) : Keeps s₀
    (sendLine s k tag framed cls body) := by
  unfold sendLine
  exact keeps_sendOut hk

theorem keeps_noticeQueue {k : Sess} {name : String} {obj : Option Obj} {args : String} (hk : Keeps s₀ s) : Keeps s₀
    (noticeQueue s k name obj args) := by
  unfold noticeQueue
  exact keeps_setSes hk

theorem keeps_lostTold {k : Sess} (hk : Keeps s₀ s) : Keeps s₀ (lostTold s k) := by
  unfold lostTold
  exact Keeps.ite (Keeps.upd (keeps_noticeQueue (keeps_setSes hk)) rfl rfl) hk

theorem keeps_noticePush {k : Sess} {name : String} {obj : Option Obj} {args : String} (hk : Keeps s₀ s) : Keeps s₀ (noticePush
    s k name obj args) := by
  unfold noticePush
  exact Keeps.ite (keeps_noticeQueue (keeps_lostTold hk)) (keeps_modSes (keeps_lostTold hk))

theorem keeps_noticeTo {name : String} {obj : Option Obj} {args : String} {every : Bool} {k : Sess} (hk : Keeps s₀ s) : Keeps s₀
    (noticeTo name obj args every s k) := by
  unfold noticeTo
  exact Keeps.ite (keeps_noticePush hk) hk

theorem keeps_notify {name : String} {obj : optParam (Option Obj) none} {args : optParam String ""} (hk : Keeps s₀ s) : Keeps s₀
    (notify s name obj args) := by
  unfold notify
  exact Keeps.ite hk (Keeps.upd (Keeps.ite (Keeps.upd (keeps_foldl (fun _ _ h4 => keeps_noticeTo h4) hk) rfl rfl) (keeps_foldl
      (fun _ _ h5 => keeps_noticeTo h5) hk)) rfl rfl)

theorem keeps_notifyAt {e : Nat} {name : String} {obj : optParam (Option Obj) none} {args : optParam String ""} (hk : Keeps s₀
    s) : Keeps s₀ (notifyAt s e name obj args) := by
  unfold notifyAt
  exact Keeps.upd hk rfl rfl

theorem keeps_notifyLate {name : String} {obj : optParam (Option Obj) none} {args : optParam String ""} (hk : Keeps s₀ s) :
    Keeps s₀ (notifyLate s name obj args) := by
  unfold notifyLate
  exact keeps_notifyAt hk

theorem keeps_lateNotices (hk : Keeps s₀ s) : Keeps s₀ (lateNotices s) := by
  unfold lateNotices
  exact Keeps.ite hk (keeps_foldl (fun _ _ h3 => keeps_notify h3) (Keeps.upd hk rfl rfl))

theorem keeps_auditStore {r : AuditRec} (hk : Keeps s₀ s) : Keeps s₀ (auditStore s r) := by
  unfold auditStore
  exact Keeps.ite (Keeps.ite (keeps_notify (Keeps.upd hk rfl rfl)) (Keeps.ite (keeps_notify (Keeps.upd hk rfl rfl)) (Keeps.upd
      hk rfl rfl))) (Keeps.ite (Keeps.upd hk rfl rfl) (Keeps.ite (keeps_notify (Keeps.upd hk rfl rfl)) (Keeps.upd hk rfl rfl)))

theorem keeps_auditMiss (hk : Keeps s₀ s) : Keeps s₀ (auditMiss s) := by
  unfold auditMiss
  exact Keeps.upd hk rfl rfl

theorem keeps_auditWrite {r : AuditRec} (hk : Keeps s₀ s) : Keeps s₀ (auditWrite s r) := by
  have p {s : State} (r : AuditRec) (h : Keeps s₀ s) : Keeps s₀ (auditStore { s with sec := auditTake s.sec r } r) :=
    keeps_auditStore (Keeps.upd h rfl rfl)
  unfold auditWrite
  exact Keeps.ite (p _ hk) (p _ (p _ (Keeps.upd hk rfl rfl)))

theorem keeps_auditHold {r : AuditRec} (hk : Keeps s₀ s) : Keeps s₀ (auditHold s r) := by
  unfold auditHold
  exact Keeps.ite (keeps_notify (Keeps.upd (Keeps.upd hk rfl rfl) rfl rfl)) (Keeps.ite (Keeps.upd (Keeps.upd hk rfl rfl) rfl
      rfl) (Keeps.ite (keeps_auditMiss hk) (keeps_auditMiss (Keeps.upd (Keeps.upd hk rfl rfl) rfl rfl))))

theorem keeps_missedFirst (hk : Keeps s₀ s) : Keeps s₀ (missedFirst s) := by
  unfold missedFirst
  try dsimp only
  split
  · exact hk
  · exact Keeps.ite hk (keeps_auditStore (Keeps.upd hk rfl rfl))

theorem keeps_auditFlush (hk : Keeps s₀ s) : Keeps s₀ (auditFlush s) := by
  unfold auditFlush
  exact Keeps.ite (keeps_foldl (fun _ _ h2 => keeps_auditStore h2) (Keeps.upd (keeps_missedFirst hk) rfl rfl)) hk

theorem keeps_auditAdd {kind : Nat} {ses : Nat} {role : Nat} {tag : Nat} {result : Nat} {reach : Bool} {text : String} (hk :
    Keeps s₀ s) : Keeps s₀ (auditAdd s kind ses role tag result reach text) := by
  unfold auditAdd
  exact Keeps.ite (keeps_auditMiss hk) (Keeps.ite (keeps_auditHold hk) (Keeps.ite (keeps_auditWrite (keeps_auditFlush hk))
      (keeps_auditMiss (keeps_auditFlush hk))))

theorem keeps_auditInternal {kind : Nat} {text : String} (hk : Keeps s₀ s) : Keeps s₀ (auditInternal s kind text) := by
  unfold auditInternal
  exact keeps_auditAdd hk

theorem keeps_addCause {row : Nat} {m : Mode} (hk : Keeps s₀ s) : Keeps s₀ (addCause s row m) := by
  unfold addCause
  exact Keeps.ite hk (Keeps.upd hk rfl rfl)

theorem keeps_jrnPut {kind : Nat} {bits : Nat} {words : optParam (List Nat) []} (hk : Keeps s₀ s) : Keeps s₀ (jrnPut s kind bits
    words) := by
  unfold jrnPut
  exact Keeps.ite (Keeps.upd hk rfl rfl) hk

theorem keeps_jrnTrigger {code : Nat} (hk : Keeps s₀ s) : Keeps s₀ (jrnTrigger s code) := by
  unfold jrnTrigger
  exact Keeps.ite hk (Keeps.ite (keeps_jrnPut hk) (Keeps.upd (keeps_jrnPut hk) rfl rfl))

theorem keeps_askLeave {e : Nat} {r : LReq} (hk : Keeps s₀ s) : Keeps s₀ (askLeave s e r) := by
  unfold askLeave
  exact Keeps.upd hk rfl rfl

theorem keeps_setXcell {x : Nat} {c : XCell} (hk : Keeps s₀ s) : Keeps s₀ (setXcell s x c) := by
  unfold setXcell
  exact Keeps.upd hk rfl rfl

theorem keeps_postRec {r : Rec} (hk : Keeps s₀ s) : Keeps s₀ (postRec s r) := by
  unfold postRec
  exact Keeps.upd hk rfl rfl

theorem keeps_stallCount (hk : Keeps s₀ s) : Keeps s₀ (stallCount s) := by
  unfold stallCount
  exact Keeps.upd hk rfl rfl

theorem keeps_silentBack {x : Nat} (hk : Keeps s₀ s) : Keeps s₀ (silentBack s x) := by
  unfold silentBack
  try dsimp only
  split
  · exact hk
  · exact Keeps.ite hk (Keeps.upd (keeps_setXcell hk) rfl rfl)

theorem keeps_passes {x : Nat} {v : XWord} {ptick : Option Nat} {pay : Pay} (hk : Keeps s₀ s) : Keeps s₀ (passes s x v ptick
    pay) := by
  unfold passes
  exact Keeps.ite (keeps_postRec (keeps_setXcell hk)) (keeps_postRec (keeps_setXcell (keeps_silentBack hk)))

theorem keeps_arrive {x : Nat} {v : XWord} {ptick : Option Nat} {pay : Pay} (hk : Keeps s₀ s) : Keeps s₀ (arrive s x v ptick
    pay) := by
  unfold arrive
  exact Keeps.ite hk (Keeps.ite (keeps_stallCount (Keeps.upd hk rfl rfl)) (keeps_passes hk))

theorem keeps_portPay {p : Nat} (hk : Keeps s₀ s) : Keeps s₀ (portPay s p).1 := by
  unfold portPay
  exact Keeps.upd (keeps_drawn (keeps_drawn hk)) rfl rfl

theorem keeps_execGuardedArrival {x : Fin 240} {v : XWord} {ptick : Option Nat} (hk : Keeps s₀ s) (ht : execGuardedArrival x v
    ptick s = .next t) : Keeps s₀ t := by
  obtain rfl := Host.Outcome.next.inj ht
  exact Keeps.ite (keeps_arrive (keeps_portPay hk)) (keeps_arrive hk)

theorem keeps_releaseHeld (hk : Keeps s₀ s) : Keeps s₀ (releaseHeld s) := by
  unfold releaseHeld
  refine Keeps.ite ?_ ?_
  · exact hk
  · try dsimp only
    split
    · exact keeps_stallCount hk
    · exact keeps_passes (Keeps.upd hk rfl rfl)

theorem keeps_execHeldHandshake (hk : Keeps s₀ s) (ht : execHeldHandshake s = .next t) : Keeps s₀ t := by
  obtain rfl := Host.Outcome.next.inj ht
  exact keeps_releaseHeld hk

theorem keeps_silence {x : Nat} {t : Nat} (hk : Keeps s₀ s) : Keeps s₀ (silence x t s) := by
  unfold silence
  exact Keeps.ite (keeps_stallCount hk) (keeps_postRec (keeps_setXcell hk))

theorem keeps_execSilenceExpiry {x : Fin 240} (hk : Keeps s₀ s) (ht : execSilenceExpiry x s = .next t) : Keeps s₀ t := by
  obtain rfl := Host.Outcome.next.inj ht
  refine Keeps.ite ?_ ?_
  · exact hk
  · try dsimp only
    split
    · exact keeps_atTick hk (fun _ h1 => keeps_silence h1)
    · exact hk

theorem keeps_writeDesc {x : Nat} {d : XDesc} (hk : Keeps s₀ s) : Keeps s₀ (writeDesc s x d) := by
  unfold writeDesc
  exact Keeps.ite (keeps_setXcell hk) hk

theorem keeps_execXingDescriptorWrite {x : Fin 240} {r : Fin 4} {v : Word} {mask : Word} (hk : Keeps s₀ s) (ht :
    execXingDescriptorWrite x r v mask s = .next t) : Keeps s₀ t := by
  obtain rfl := Host.Outcome.next.inj ht
  exact keeps_writeDesc hk

theorem keeps_descsTake (hk : Keeps s₀ s) : Keeps s₀ (descsTake s) := by
  unfold descsTake
  exact Keeps.upd hk rfl rfl

theorem keeps_xAdapt {x : Nat} {was : Bool} (hk : Keeps s₀ s) : Keeps s₀ (xAdapt s x was) := by
  unfold xAdapt
  exact Keeps.ite hk (keeps_setXcell hk)

theorem keeps_execXingClrstat {v : Word} (hk : Keeps s₀ s) (ht : execXingClrstat v s = .next t) : Keeps s₀ t := by
  obtain rfl := Host.Outcome.next.inj ht
  exact Keeps.ite (Keeps.upd hk rfl rfl) hk

theorem keeps_execXingNotes {v : Word} (hk : Keeps s₀ s) (ht : execXingNotes v s = .next t) : Keeps s₀ t := by
  obtain rfl := Host.Outcome.next.inj ht
  exact Keeps.upd hk rfl rfl

theorem keeps_writeXingCtrl {v : Word} {mask : Word} (hk : Keeps s₀ s) : Keeps s₀ (writeXingCtrl s v mask) := by
  unfold writeXingCtrl
  exact Keeps.ite (Keeps.upd (Keeps.ite (Keeps.upd hk rfl rfl) hk) rfl rfl) (Keeps.ite (Keeps.upd hk rfl rfl) hk)

theorem keeps_xNotice {r : Rec} (hk : Keeps s₀ s) : Keeps s₀ (xNotice s r) := by
  unfold xNotice
  refine Keeps.ite ?_ ?_
  · exact hk
  · try dsimp only
    split
    · exact hk
    · exact keeps_notify hk
    · exact keeps_notify hk
    · exact keeps_notify hk

theorem keeps_xSeen {r : Rec} (hk : Keeps s₀ s) : Keeps s₀ (xSeen s r) := by
  unfold xSeen
  exact keeps_setXcell hk

theorem keeps_setCell {k : Nat} {c : Cell} (hk : Keeps s₀ s) : Keeps s₀ (setCell s k c) := by
  unfold setCell
  exact Keeps.upd hk rfl rfl

theorem keeps_churnWordIn {mode : String} {k : Nat} {w : XWord} {ext : Nat} {f : WFlags} {t : Nat} (hk : Keeps s₀ s) : Keeps s₀
    (churnWordIn mode s k w ext f t) := by
  unfold churnWordIn
  exact Keeps.ite hk (Keeps.ite (keeps_setCell hk) (Keeps.ite (keeps_setCell hk) (Keeps.ite (keeps_setCell hk) (Keeps.ite
      (Keeps.ite (keeps_setCell hk) (keeps_notify (keeps_setCell hk))) (keeps_setCell hk)))))

theorem keeps_churnWord {k : Nat} {w : XWord} {ext : Nat} {f : WFlags} {t : Nat} (hk : Keeps s₀ s) : Keeps s₀ (churnWord s k w
    ext f t) := by
  unfold churnWord
  exact keeps_churnWordIn hk

theorem keeps_execChurnWord {k : Fin 160} {w : XWord} {ext : BitVec 4} {f : WFlags} (hk : Keeps s₀ s) (ht : execChurnWord k w
    ext f s = .next t) : Keeps s₀ t := by
  obtain rfl := Host.Outcome.next.inj ht
  exact Keeps.ite (keeps_churnWord (Keeps.ite (Keeps.upd hk rfl rfl) hk)) (Keeps.ite (Keeps.upd hk rfl rfl) hk)

theorem keeps_cellLost {k : Nat} {n : Nat} (hk : Keeps s₀ s) : Keeps s₀ (cellLost s k n) := by
  unfold cellLost
  exact keeps_setCell hk

theorem keeps_cellClose {k : Nat} (hk : Keeps s₀ s) : Keeps s₀ (cellClose s k) := by
  unfold cellClose
  exact keeps_arrive (Keeps.upd (keeps_setCell hk) rfl rfl)

theorem keeps_snapshotTick (hk : Keeps s₀ s) : Keeps s₀ (snapshotTick s) := by
  unfold snapshotTick
  exact Keeps.upd (keeps_foldl (fun _ _ h3 => keeps_cellClose h3) hk) rfl rfl

theorem keeps_execSnapshot (hk : Keeps s₀ s) (ht : execSnapshot s = .next t) : Keeps s₀ t := by
  obtain rfl := Host.Outcome.next.inj ht
  exact Keeps.ite (keeps_snapshotTick hk) hk

theorem keeps_cellRestart {k : Nat} (hk : Keeps s₀ s) : Keeps s₀ (cellRestart s k) := by
  unfold cellRestart
  exact Keeps.ite (keeps_cellClose hk) (keeps_setCell hk)

theorem keeps_cellsRestart (hk : Keeps s₀ s) : Keeps s₀ (cellsRestart s) := by
  unfold cellsRestart
  exact Keeps.upd hk rfl rfl

theorem keeps_cellAfter {old : State} {k : Nat} (hk : Keeps s₀ s) : Keeps s₀ (cellAfter old s k) := by
  unfold cellAfter
  exact Keeps.ite hk (Keeps.ite (Keeps.ite (Keeps.upd (keeps_cellClose (Keeps.upd hk rfl rfl)) rfl rfl) (keeps_setCell
      (Keeps.upd (keeps_cellClose (Keeps.upd hk rfl rfl)) rfl rfl))) (keeps_setCell hk))

theorem keeps_cellsAfter {old : State} (hk : Keeps s₀ s) : Keeps s₀ (cellsAfter old s) := by
  unfold cellsAfter
  exact keeps_foldl (fun _ _ h1 => keeps_cellAfter h1) hk

theorem keeps_churnMark {start : Nat} {stop : Option Nat} (hk : Keeps s₀ s) : Keeps s₀ (churnMark s start stop) := by
  unfold churnMark
  exact Keeps.upd hk rfl rfl

theorem keeps_execMarkReport {kind : MarkKind} {start : Nat} {stop : Option Nat} (hk : Keeps s₀ s) (ht : execMarkReport kind
    start stop s = .next t) : Keeps s₀ t := by
  cases kind <;>
  · obtain rfl := Host.Outcome.next.inj ht
    exact Keeps.ite (keeps_churnMark hk) hk

theorem keeps_peekLatch {k : Nat} (hk : Keeps s₀ s) : Keeps s₀ (peekLatch s k) := by
  unfold peekLatch
  exact keeps_setCell hk

theorem keeps_execPeekLatch {k : Fin 160} (hk : Keeps s₀ s) (ht : execPeekLatch k s = .next t) : Keeps s₀ t := by
  obtain rfl := Host.Outcome.next.inj ht
  exact Keeps.ite (keeps_peekLatch hk) hk

theorem keeps_execChurnClr {v : Word} (hk : Keeps s₀ s) (ht : execChurnClr v s = .next t) : Keeps s₀ t := by
  obtain rfl := Host.Outcome.next.inj ht
  exact Keeps.ite (Keeps.upd hk rfl rfl) hk

theorem keeps_setChan {u : Nat} {c : ChanSt} (hk : Keeps s₀ s) : Keeps s₀ (setChan s u c) := by
  unfold setChan
  exact Keeps.upd hk rfl rfl

theorem keeps_verdictTest {u : Nat} {v : Nat} (hk : Keeps s₀ s) : Keeps s₀ (verdictTest s u v) := by
  unfold verdictTest
  exact Keeps.ite (Keeps.ite (keeps_notify (keeps_setChan hk)) (keeps_notify (keeps_setChan hk))) (keeps_setChan hk)

theorem keeps_winStart {sync : Bool} {t : Nat} (hk : Keeps s₀ s) : Keeps s₀ (winStart s sync t) := by
  unfold winStart
  refine Keeps.ite ?_ ?_
  · exact hk
  · refine Keeps.ite ?_ ?_
    · exact Keeps.ite (Keeps.upd hk rfl rfl) hk
    · refine Keeps.ite ?_ ?_
      · exact hk
      · try dsimp only
        split
        · exact hk
        · exact Keeps.upd (keeps_setChan hk) rfl rfl

theorem keeps_winEnd {raw : Nat} {nosync : Bool} {t : Nat} (hk : Keeps s₀ s) : Keeps s₀ (winEnd s raw nosync t) := by
  unfold winEnd
  try dsimp only
  split
  · exact hk
  · exact Keeps.ite (Keeps.upd hk rfl rfl) (Keeps.upd hk rfl rfl)

theorem keeps_icCrossing {raw : Nat} (hk : Keeps s₀ s) : Keeps s₀ (icCrossing s raw) := by
  unfold icCrossing
  refine Keeps.ite ?_ ?_
  · exact hk
  · try dsimp only
    split
    · exact Keeps.ite (Keeps.upd hk rfl rfl) (Keeps.ite (keeps_winStart (keeps_winEnd (Keeps.upd hk rfl rfl))) (Keeps.upd
          (Keeps.upd hk rfl rfl) rfl rfl))
    · exact Keeps.ite (keeps_winStart (Keeps.upd hk rfl rfl)) (Keeps.upd hk rfl rfl)

theorem keeps_icFree (hk : Keeps s₀ s) : Keeps s₀ (icFree s) := by
  unfold icFree
  exact Keeps.ite (keeps_winStart hk) hk

theorem keeps_icCut (hk : Keeps s₀ s) : Keeps s₀ (icCut s) := by
  unfold icCut
  try dsimp only
  split
  · exact Keeps.ite (keeps_icFree (keeps_winEnd (keeps_drawn hk))) hk
  · exact keeps_icFree hk

theorem keeps_execIcFreeWindowEnd {raw : BitVec 20} (hk : Keeps s₀ s) (ht : execIcFreeWindowEnd raw s = .next t) : Keeps s₀ t :=
    by
  obtain rfl := Host.Outcome.next.inj ht
  try dsimp only
  split
  · exact Keeps.ite hk (keeps_atTick hk (fun _ h1 => keeps_icFree (keeps_winEnd h1)))
  · exact hk

theorem keeps_windowTest {u : Nat} {raw : Nat} {m : String} (hk : Keeps s₀ s) : Keeps s₀ (windowTest s u raw m) := by
  unfold windowTest
  exact Keeps.ite hk (Keeps.ite (keeps_verdictTest hk) (Keeps.ite (keeps_verdictTest hk) hk))

theorem keeps_probeResult {u : Nat} {raw : Nat} (hk : Keeps s₀ s) : Keeps s₀ (probeResult s u raw) := by
  unfold probeResult
  try dsimp only
  split
  · exact Keeps.upd hk rfl rfl
  · exact Keeps.ite (keeps_verdictTest (Keeps.upd (Keeps.upd hk rfl rfl) rfl rfl)) (keeps_verdictTest (Keeps.upd hk rfl rfl))

theorem keeps_resRelease {r : IcRes} {late : Bool} (hk : Keeps s₀ s) : Keeps s₀ (resRelease s r late) := by
  unfold resRelease
  exact Keeps.ite (Keeps.ite hk (Keeps.upd hk rfl rfl)) (Keeps.ite (Keeps.upd hk rfl rfl) (Keeps.ite (Keeps.ite
      (keeps_probeResult hk) hk) (keeps_churnWordIn (keeps_windowTest (Keeps.ite hk (keeps_setChan hk))))))

theorem keeps_heldRelease {late : Bool} (hk : Keeps s₀ s) : Keeps s₀ (heldRelease s late) := by
  unfold heldRelease
  try dsimp only
  split
  · exact hk
  · exact keeps_resRelease (Keeps.upd hk rfl rfl)

theorem keeps_execIcResultRelease (hk : Keeps s₀ s) (ht : execIcResultRelease s = .next t) : Keeps s₀ t := by
  obtain rfl := Host.Outcome.next.inj ht
  exact Keeps.ite (keeps_heldRelease hk) hk

theorem keeps_execIcReleaseTimeout (hk : Keeps s₀ s) (ht : execIcReleaseTimeout s = .next t) : Keeps s₀ t := by
  obtain rfl := Host.Outcome.next.inj ht
  try dsimp only
  split
  · exact Keeps.ite (keeps_atTick hk (fun _ h1 => keeps_heldRelease h1)) hk
  · exact hk

theorem keeps_execIcClr {v : Word} (hk : Keeps s₀ s) (ht : execIcClr v s = .next t) : Keeps s₀ t := by
  obtain rfl := Host.Outcome.next.inj ht
  exact Keeps.ite (Keeps.upd hk rfl rfl) hk

theorem keeps_execProbeClr {v : Word} (hk : Keeps s₀ s) (ht : execProbeClr v s = .next t) : Keeps s₀ t := by
  obtain rfl := Host.Outcome.next.inj ht
  exact Keeps.ite (Keeps.upd hk rfl rfl) hk

theorem keeps_setWork {id : Nat} {w : Work} (hk : Keeps s₀ s) : Keeps s₀ (setWork s id w) := by
  refine hk.outsUpd fun h o ho => ?_
  obtain ⟨p, hp, rfl⟩ := List.mem_map.1 ho
  dsimp only
  split <;> exact h p hp

theorem keeps_setMacro {m : Nat} {x : MacroSt} (hk : Keeps s₀ s) : Keeps s₀ (setMacro s m x) := by
  unfold setMacro
  exact Keeps.upd hk rfl rfl

theorem keeps_auditOut {o : Out} {result : Nat} (hk : Keeps s₀ s) : Keeps s₀ (auditOut s o result) := by
  unfold auditOut
  refine Keeps.outsUpd (keeps_foldl (fun _ _ h => keeps_auditAdd h) hk) fun h p hp => ?_
  obtain ⟨x, hx, rfl⟩ := List.mem_map.1 hp
  split <;> exact h x hx

theorem keeps_finishOut {o : Out} {body : String} (hk : Keeps s₀ s) : Keeps s₀ (finishOut s o body) := by
  have h : Keeps s₀ (if failNum body = 0 then s else auditOut s { o with audits := o.audits.filter (· != 9) } (failNum body)) :=
    Keeps.ite hk (keeps_auditOut hk)
  unfold finishOut
  dsimp only
  generalize (if failNum body = 0 then s else auditOut s { o with audits := o.audits.filter (· != 9) } (failNum body)) = x at h ⊢
  have h2 : Keeps s₀ { x with vil := { x.vil with outs := x.vil.outs.filter fun p => p.id != o.id } } :=
    h.outsUpd fun h p hp => h p (List.mem_filter.1 hp).1
  exact Keeps.ite h2 (keeps_modSes (keeps_sendLine h2))

theorem keeps_startPending (hk : Keeps s₀ s) : Keeps s₀ (startPending s) := by
  unfold startPending
  try dsimp only
  split
  · exact Keeps.ite (keeps_setMacro hk) hk
  · exact hk

theorem keeps_macroEnd {m : Nat} {body : String} (hk : Keeps s₀ s) : Keeps s₀ (macroEnd s m body) := by
  unfold macroEnd
  refine keeps_startPending ?_
  try dsimp only
  split
  · exact keeps_finishOut (keeps_setMacro hk)
  · exact keeps_setMacro hk

theorem keeps_macroLineDone {m : Nat} {body : String} (hk : Keeps s₀ s) : Keeps s₀ (macroLineDone s m body) := by
  unfold macroLineDone
  exact Keeps.ite hk (Keeps.ite (keeps_macroEnd hk) (Keeps.ite (keeps_macroEnd hk) (keeps_setMacro hk)))

theorem keeps_refuse {q : Hdr} {verb : String} {detail : String} {body : String} (hk : Keeps s₀ s) : Keeps s₀ (refuse s q verb
    detail body) := by
  unfold refuse
  exact Keeps.ite (keeps_macroLineDone (Keeps.ite (keeps_auditAdd (keeps_sendLine hk)) (keeps_sendLine hk))) (Keeps.ite
      (keeps_auditAdd (keeps_sendLine hk)) (keeps_sendLine hk))

theorem keeps_finish {id : Nat} {body : String} (hk : Keeps s₀ s) : Keeps s₀ (finish s id body) := by
  unfold finish
  try dsimp only
  split
  · exact hk
  · exact Keeps.ite (keeps_macroLineDone (keeps_finishOut hk)) (keeps_finishOut hk)

theorem keeps_more {id : Nat} {body : String} (hk : Keeps s₀ s) : Keeps s₀ (more s id body) := by
  unfold more
  try dsimp only
  split
  · exact hk
  · exact Keeps.ite hk (keeps_sendLine hk)

theorem keeps_settle {id : Nat} (hk : Keeps s₀ s) : Keeps s₀ (settle s id) := by
  unfold settle
  try dsimp only
  split
  · exact hk
  · try dsimp only
    split
    · exact Keeps.ite (keeps_finish (keeps_foldl (fun _ _ h1 => keeps_more h1) hk)) hk
    · exact hk

theorem keeps_wakeBy {k : Sess} (hk : Keeps s₀ s) : Keeps s₀ (wakeBy s k) := by
  unfold wakeBy
  exact Keeps.ite (Keeps.upd hk rfl rfl) hk

theorem keeps_lineHeard {k : Sess} {t : Nat} (hk : Keeps s₀ s) : Keeps s₀ (lineHeard s k t) := by
  unfold lineHeard
  exact Keeps.ite (Keeps.upd hk rfl rfl) hk

theorem keeps_lineIn {i : Instr} {q : Hdr} {s : State} {f : State → State} (hk : Keeps s₀ s) (hf : ∀ s, Keeps s₀ s → Keeps s₀ (f
    s)) : Keeps s₀ (lineIn i q s f) := by
  unfold lineIn
  exact Keeps.ite hk (Keeps.ite (Keeps.ite (Keeps.upd (keeps_wakeBy hk) rfl rfl) (Keeps.ite (keeps_wakeBy hk) hk))
    (Keeps.ite (Keeps.upd hk rfl rfl) (hf _ hk)))

theorem setSes_nextId (s : State) (k : Sess) (x : Session) : (setSes s k x).vil.nextId = s.vil.nextId := by
  cases k <;> rfl

theorem sendLine_nextId (s : State) (k : Sess) (tag : Option Nat) (b : Bool) (c : Nat) (body : String) : (sendLine s k tag b c
    body).vil.nextId = s.vil.nextId := by
  unfold sendLine sendOut; dsimp only; split
  · rfl
  · exact setSes_nextId ..

theorem lineHeard_nextId (s : State) (k : Sess) (t : Nat) : (lineHeard s k t).vil.nextId = s.vil.nextId := by
  unfold lineHeard; split <;> rfl

/-- A command more, with the next number. -/
theorem Keeps.outMore {s₀ x : State} {o : Out} {n k : Nat} (hx : Keeps s₀ x) (e : x.vil.nextId = k) (ho : o.id = k) :
    Keeps s₀ { x with vil := { x.vil with nextId := k + 1, outs := x.vil.outs ++ [o], peakSlots := n } } :=
  hx.outsUpd fun h p hp => by
    rcases List.mem_append.1 hp with hp | hp
    · exact Nat.lt_succ_of_lt (e ▸ h p hp)
    · rw [List.mem_singleton.1 hp, ho]; exact Nat.lt_succ_self _

theorem keeps_accept {q : Hdr} {c : CmdSpec} (hk : Keeps s₀ s) : Keeps s₀ (accept s q c) := by
  have e {k : Sess} {t : Option Nat} {b : Bool} {u : String} {v : Session} {n : Nat} :
      (setSes (sendLine (lineHeard s k n) k t b 0 u) k v).vil.nextId = s.vil.nextId :=
    (setSes_nextId ..).trans ((sendLine_nextId ..).trans (lineHeard_nextId ..))
  unfold accept
  dsimp only
  have h {o : Out} {n : Nat} {f : Session → Session} (ho : o.id = s.vil.nextId) := Keeps.outMore (o := o) (n := n)
    (keeps_modSes (k := q.ses) (f := f) (keeps_sendLine (k := q.ses) (tag := q.tag) (framed := q.framed) (cls := 0) (body := "OK")
      (keeps_lineHeard (k := q.ses) (t := s.now) hk))) e ho
  split
  · exact h rfl
  · exact keeps_foldl (fun _ _ h => keeps_auditAdd h) (h rfl)

theorem keeps_submit {q : Hdr} {c : CmdSpec} {f : State → Nat → State × Work} (hk : Keeps s₀ s) (hf : ∀ s a0, Keeps s₀ s → Keeps
    s₀ (f s a0).1) : Keeps s₀ (submit s q c f) := by
  unfold submit
  refine Keeps.ite hk ?_
  split
  · exact keeps_refuse hk
  · exact keeps_settle (keeps_setWork (hf _ _ (keeps_accept hk)))

theorem keeps_purgeNotices {k : Sess} (hk : Keeps s₀ s) : Keeps s₀ (purgeNotices s k) := by
  unfold purgeNotices
  exact Keeps.upd (keeps_modSes hk) rfl rfl

theorem keeps_keeperEnds {k : Sess} (hk : Keeps s₀ s) : Keeps s₀ (keeperEnds s k) := by
  unfold keeperEnds
  exact Keeps.upd hk rfl rfl

theorem keeps_keeperGrants {k : Sess} {r : Role} (hk : Keeps s₀ s) : Keeps s₀ (keeperGrants s k r) := by
  unfold keeperGrants
  exact Keeps.upd (keeps_keeperEnds hk) rfl rfl

theorem keeps_roleEnd {k : Sess} {reason : String} (hk : Keeps s₀ s) : Keeps s₀ (roleEnd s k reason) := by
  unfold roleEnd
  try dsimp only
  split
  · exact hk
  · exact Keeps.ite (keeps_notifyAt (keeps_purgeNotices (keeps_auditAdd (Keeps.upd (keeps_keeperEnds (keeps_modSes hk)) rfl
        rfl)))) (keeps_notify (keeps_purgeNotices (keeps_auditAdd (Keeps.upd (keeps_keeperEnds (keeps_modSes hk)) rfl rfl))))

theorem keeps_execRoleInactivityExpiry {k : Sess} (hk : Keeps s₀ s) (ht : execRoleInactivityExpiry k s = .next t) : Keeps s₀ t
    := by
  obtain rfl := Host.Outcome.next.inj ht
  try dsimp only
  split
  · exact hk
  · refine Keeps.ite ?_ ?_
    · exact hk
    · try dsimp only
      split
      · exact Keeps.ite (keeps_roleEnd hk) hk
      · exact hk

theorem keeps_echoChars {k : Sess} {l : List Nat} (hk : Keeps s₀ s) : Keeps s₀ (echoChars s k l) := by
  unfold echoChars
  exact Keeps.ite (keeps_modSes hk) hk

theorem keeps_countLong (hk : Keeps s₀ s) : Keeps s₀ (countLong s) := by
  unfold countLong
  exact Keeps.upd hk rfl rfl

theorem keeps_refuseLine {k : Sess} {framed : Bool} {detail : String} (hk : Keeps s₀ s) : Keeps s₀ (refuseLine s k framed
    detail) := by
  unfold refuseLine
  exact keeps_sendLine hk

theorem keeps_refuseHeld {k : Sess} {l : List Char} {detail : String} (hk : Keeps s₀ s) : Keeps s₀ (refuseHeld s k l detail) :=
    by
  unfold refuseHeld
  try dsimp only
  split
  · exact keeps_sendOut hk
  · exact keeps_sendOut hk
  · exact keeps_sendOut hk

theorem keeps_countTyped {k : Sess} (hk : Keeps s₀ s) : Keeps s₀ (countTyped s k) := by
  unfold countTyped
  exact keeps_modSes hk

theorem keeps_refuseBegun {k : Sess} {detail : String} {count : State → State} (hk : Keeps s₀ s) (hf : ∀ s, Keeps s₀ s → Keeps
    s₀ (count s)) : Keeps s₀ (refuseBegun s k detail count) := by
  unfold refuseBegun
  exact Keeps.ite (keeps_countTyped hk) (hf _ (keeps_refuseHeld hk))

theorem keeps_countOverrun {k : Sess} (hk : Keeps s₀ s) : Keeps s₀ (countOverrun s k) := by
  unfold countOverrun
  exact Keeps.upd (keeps_modSes hk) rfl rfl

theorem keeps_rxAdd {k : Sess} {code : BitVec 9} {t : Nat} (hk : Keeps s₀ s) : Keeps s₀ (rxAdd s k code t) := by
  unfold rxAdd
  exact Keeps.ite (keeps_modSes hk) (keeps_modSes (keeps_countOverrun hk))

theorem keeps_lineEnds {k : Sess} {t : Nat} (hk : Keeps s₀ s) : Keeps s₀ (lineEnds s k t).1 := by
  unfold lineEnds
  exact keeps_modSes (Keeps.ite (keeps_lineHeard (Keeps.ite hk (keeps_echoChars hk))) (Keeps.ite hk (keeps_echoChars hk)))

theorem keeps_placeChar {k : Sess} {c : Char} {t : Nat} (hk : Keeps s₀ s) : Keeps s₀ (placeChar s k c t) := by
  unfold placeChar
  exact Keeps.ite (keeps_echoChars (keeps_setSes hk)) (Keeps.ite (keeps_modSes (keeps_refuseBegun hk (fun _ h3 =>
      keeps_countLong h3))) (Keeps.ite (keeps_echoChars (keeps_setSes hk)) (keeps_setSes hk)))

theorem keeps_errChar {k : Sess} {t : Nat} (hk : Keeps s₀ s) : Keeps s₀ (errChar s k t) := by
  unfold errChar
  exact keeps_modSes hk

theorem keeps_overrunLine {k : Sess} (hk : Keeps s₀ s) : Keeps s₀ (overrunLine s k) := keeps_modSes (keeps_refuseBegun hk fun _
    h => h) 

theorem keeps_backSpace {k : Sess} (hk : Keeps s₀ s) : Keeps s₀ (backSpace s k) := by
  unfold backSpace
  exact keeps_echoChars (keeps_setSes hk)

theorem keeps_emptyLine {k : Sess} (hk : Keeps s₀ s) : Keeps s₀ (emptyLine s k) := by
  unfold emptyLine
  exact keeps_echoChars (keeps_modSes hk)

theorem keeps_readCode {k : Sess} {code : BitVec 9} {t : Nat} (hk : Keeps s₀ s) : Keeps s₀ (readCode s k code t).1 := by
  have h := keeps_modSes (k := k) (f := fun x => { x with lastCR := code = 13 }) hk
  unfold readCode
  dsimp only
  split
  · split
    · exact h
    · exact keeps_lineEnds h
  · split
    · exact h
    · exact h
    · exact h
    · split
      · exact keeps_overrunLine h
      · split
        · exact keeps_errChar h
        · split
          · exact keeps_backSpace h
          · split
            · exact keeps_emptyLine h
            · exact keeps_placeChar h

theorem keeps_rearm (hk : Keeps s₀ s) : Keeps s₀ (rearm s) := by
  unfold rearm
  exact Keeps.upd (keeps_modSes hk) rfl rfl

theorem keeps_countFerr {k : Sess} (hk : Keeps s₀ s) : Keeps s₀ (countFerr s k) := by
  unfold countFerr
  exact Keeps.ite (Keeps.upd hk rfl rfl) (Keeps.upd hk rfl rfl)

theorem keeps_setHold {k : Sess} {l : List (BitVec 9)} (hk : Keeps s₀ s) : Keeps s₀ (setHold s k l) := by
  unfold setHold
  try dsimp only
  split
  · exact Keeps.upd hk rfl rfl
  · exact Keeps.upd hk rfl rfl
  · exact hk

theorem keeps_holdByte {k : Sess} {code : BitVec 9} (hk : Keeps s₀ s) : Keeps s₀ (holdByte s k code) := by
  unfold holdByte
  exact Keeps.ite (keeps_setHold hk) (keeps_setHold (keeps_countOverrun hk))

theorem keeps_rtsFollows (hk : Keeps s₀ s) : Keeps s₀ (rtsFollows s) := by
  unfold rtsFollows
  exact Keeps.ite (Keeps.upd hk rfl rfl) (Keeps.ite (Keeps.upd hk rfl rfl) (Keeps.ite (Keeps.upd hk rfl rfl) hk))

theorem keeps_partialDrop {k : Sess} (hk : Keeps s₀ s) : Keeps s₀ (partialDrop s k) := by
  unfold partialDrop
  exact keeps_modSes (Keeps.upd hk rfl rfl)

theorem keeps_execPartialTimeout {k : Sess} (hk : Keeps s₀ s) (ht : execPartialTimeout k s = .next t) : Keeps s₀ t := by
  obtain rfl := Host.Outcome.next.inj ht
  refine Keeps.ite ?_ ?_
  · exact hk
  · refine keeps_atTick ?_ (fun _ h1 => ?_)
    · exact hk
    · try dsimp only
      split
      · exact h1
      · exact keeps_rtsFollows (keeps_partialDrop (Keeps.ite (keeps_countTyped h1) (Keeps.upd (keeps_refuseHeld h1) rfl rfl)))

theorem keeps_execAutobaudDetect {ch : Byte} {rate : Nat} (hk : Keeps s₀ s) (ht : execAutobaudDetect ch rate s = .next t) :
    Keeps s₀ t := by
  obtain rfl := Host.Outcome.next.inj ht
  refine Keeps.ite ?_ ?_
  · exact hk
  · try dsimp only
    split
    · exact Keeps.upd hk rfl rfl
    · exact hk

theorem keeps_execAutobaudRearm {low : Nat} (hk : Keeps s₀ s) (ht : execAutobaudRearm low s = .next t) : Keeps s₀ t := by
  obtain rfl := Host.Outcome.next.inj ht
  exact Keeps.ite (keeps_rearm (keeps_countFerr (keeps_wakeBy hk))) hk

theorem keeps_execRateChangeEffect {p : Fin 2} (hk : Keeps s₀ s) (ht : execRateChangeEffect p s = .next t) : Keeps s₀ t := by
  obtain rfl := Host.Outcome.next.inj ht
  refine Keeps.ite ?_ ?_
  · try dsimp only
    split
    · exact Keeps.upd hk rfl rfl
    · exact hk
  · try dsimp only
    split
    · exact Keeps.upd (keeps_rearm hk) rfl rfl
    · exact Keeps.upd hk rfl rfl
    · exact hk

theorem keeps_execCtsChange {asserted : Bool} (hk : Keeps s₀ s) (ht : execCtsChange asserted s = .next t) : Keeps s₀ t := by
  obtain rfl := Host.Outcome.next.inj ht
  exact Keeps.upd hk rfl rfl

theorem keeps_noticeGone {k : Sess} (hk : Keeps s₀ s) : Keeps s₀ (noticeGone s k) := by
  unfold noticeGone
  try dsimp only
  split
  · exact hk
  · exact keeps_lostTold (keeps_modSes hk)

theorem keeps_execNoticeSent {k : Sess} (hk : Keeps s₀ s) (ht : execNoticeSent k s = .next t) : Keeps s₀ t := by
  obtain rfl := Host.Outcome.next.inj ht
  refine Keeps.ite ?_ ?_
  · exact hk
  · try dsimp only
    split
    · exact hk
    · exact Keeps.ite (Keeps.ite (keeps_noticeGone hk) hk) (keeps_noticeGone (keeps_modSes hk))

theorem keeps_linkClr (hk : Keeps s₀ s) : Keeps s₀ (linkClr s) := by
  unfold linkClr
  exact Keeps.upd hk rfl rfl

theorem keeps_execLinkClr {v : Word} (hk : Keeps s₀ s) (ht : execLinkClr v s = .next t) : Keeps s₀ t := by
  obtain rfl := Host.Outcome.next.inj ht
  exact Keeps.ite (keeps_linkClr hk) hk

theorem keeps_queueStore {id : Nat} {x : Eff} (hk : Keeps s₀ s) : Keeps s₀ (queueStore s id x) := by
  unfold queueStore
  exact Keeps.upd hk rfl rfl

theorem keeps_execWait {q : Hdr} {ms : Nat} (hk : Keeps s₀ s) (ht : execWait q ms s = .next t) : Keeps s₀ t := by
  obtain rfl := Host.Outcome.next.inj ht
  exact keeps_lineIn hk (fun _ h1 => keeps_submit h1 (fun _ _ h2 => h2))

theorem keeps_execWaitExpiry {k : Sess} {tag : Option Nat} (hk : Keeps s₀ s) (ht : execWaitExpiry k tag s = .next t) : Keeps s₀
    t := by
  obtain rfl := Host.Outcome.next.inj ht
  try dsimp only
  split
  · try dsimp only
    split
    · exact keeps_atTick hk (fun _ h1 => keeps_finish h1)
    · exact hk
  · exact hk

theorem keeps_sendForced {q : Hdr} {cls : Nat} {body : String} (hk : Keeps s₀ s) : Keeps s₀ (sendForced s q cls body) := by
  unfold sendForced
  exact keeps_sendOut hk

theorem keeps_helloForms {k : Sess} {m : LineMode} (hk : Keeps s₀ s) : Keeps s₀ (helloForms s k m) := by
  unfold helloForms
  refine Keeps.ite hk (Keeps.outsUpd hk fun h p hp => ?_)
  obtain ⟨x, hx, rfl⟩ := List.mem_map.1 hp
  split <;> exact h x hx

theorem keeps_helloDone {q : Hdr} {mode : Option LineMode} {level : Option Nat} (hk : Keeps s₀ s) : Keeps s₀ (helloDone s q mode
    level) := by
  unfold helloDone
  exact keeps_modSes (keeps_lineHeard (keeps_helloForms (keeps_sendForced (keeps_sendForced hk))))

theorem keeps_execHello {q : Hdr} {mode : Option LineMode} {level : Option Nat} (hk : Keeps s₀ s) (ht : execHello q mode level s
    = .next t) : Keeps s₀ t := by
  obtain rfl := Host.Outcome.next.inj ht
  refine Keeps.ite ?_ ?_
  · exact hk
  · refine keeps_lineIn ?_ (fun _ h1 => ?_)
    · exact hk
    · try dsimp only
      split
      · exact keeps_sendForced h1
      · exact keeps_helloDone h1

theorem keeps_authChallengeEnd {o : Out} {r : Role} (hk : Keeps s₀ s) : Keeps s₀ (authChallengeEnd s o r) := by
  unfold authChallengeEnd
  exact Keeps.ite (keeps_finish hk) (keeps_finish (Keeps.upd (keeps_jrnPut (keeps_drawn hk)) rfl rfl))

theorem keeps_authFailed {o : Out} {r : Role} (hk : Keeps s₀ s) : Keeps s₀ (authFailed s o r) := by
  unfold authFailed
  exact Keeps.ite (keeps_notify (keeps_auditAdd (keeps_notify (keeps_auditAdd (Keeps.upd hk rfl rfl))))) (keeps_notify
      (keeps_auditAdd (Keeps.upd hk rfl rfl)))

theorem keeps_authResponseEnd {o : Out} {r : Role} {codes : List Word} (hk : Keeps s₀ s) : Keeps s₀ (authResponseEnd s o r
    codes) := by
  unfold authResponseEnd
  exact Keeps.ite (keeps_finish hk) (Keeps.ite (keeps_finish (keeps_auditAdd (keeps_keeperGrants (keeps_modSes (Keeps.upd
      (Keeps.upd (keeps_jrnPut hk) rfl rfl) rfl rfl))))) (keeps_finish (keeps_authFailed (Keeps.upd (keeps_jrnPut hk) rfl
      rfl))))

theorem keeps_authEnd {o : Out} {r : Role} {resp : Option (List Word)} (hk : Keeps s₀ s) : Keeps s₀ (authEnd s o r resp) := by
  unfold authEnd
  try dsimp only
  split
  · exact keeps_authChallengeEnd hk
  · exact keeps_authResponseEnd hk

theorem keeps_execAuthChallenge {q : Hdr} {r : Role} (hk : Keeps s₀ s) (ht : execAuthChallenge q r s = .next t) : Keeps s₀ t :=
    by
  obtain rfl := Host.Outcome.next.inj ht
  exact keeps_lineIn hk (fun _ h1 => keeps_submit h1 (fun _ _ h2 => h2))

theorem keeps_execAuthResponse {q : Hdr} {r : Role} {codes : List Word} (hk : Keeps s₀ s) (ht : execAuthResponse q r codes s =
    .next t) : Keeps s₀ t := by
  obtain rfl := Host.Outcome.next.inj ht
  exact keeps_lineIn hk (fun _ h1 => keeps_submit h1 (fun _ _ h2 => h2))

theorem keeps_execChallengeExpiry {k : Sess} (hk : Keeps s₀ s) (ht : execChallengeExpiry k s = .next t) : Keeps s₀ t := by
  obtain rfl := Host.Outcome.next.inj ht
  try dsimp only
  split
  · exact keeps_atTick hk (fun _ h1 => Keeps.ite h1 (Keeps.upd h1 rfl rfl))
  · exact hk

theorem keeps_execAuthBlockExpiry {bus : Bool} {r : Role} (hk : Keeps s₀ s) (ht : execAuthBlockExpiry bus r s = .next t) : Keeps
    s₀ t := by
  obtain rfl := Host.Outcome.next.inj ht
  exact keeps_atTick hk (fun _ h1 => Keeps.upd h1 rfl rfl)

theorem keeps_execLogout {q : Hdr} (hk : Keeps s₀ s) (ht : execLogout q s = .next t) : Keeps s₀ t := by
  obtain rfl := Host.Outcome.next.inj ht
  exact keeps_lineIn hk (fun _ h1 => keeps_submit h1 (fun _ _ h2 => keeps_purgeNotices (keeps_auditAdd (Keeps.upd
      (keeps_keeperEnds (keeps_modSes h2)) rfl rfl))))

theorem keeps_execKey {q : Hdr} {r : Role} {codes : List Word} (hk : Keeps s₀ s) (ht : execKey q r codes s = .next t) : Keeps s₀
    t := by
  obtain rfl := Host.Outcome.next.inj ht
  exact keeps_lineIn hk (fun _ h1 => keeps_submit h1 (fun _ _ h2 => keeps_queueStore h2))

theorem keeps_keyStored {k : Sess} {r : Role} {codes : List Word} (hk : Keeps s₀ s) : Keeps s₀ (keyStored s k r codes) := by
  unfold keyStored
  exact keeps_foldl (fun _ _ h2 => Keeps.ite (keeps_roleEnd h2) h2) (Keeps.upd hk rfl rfl)

theorem keeps_execLockConfig {q : Hdr} (hk : Keeps s₀ s) (ht : execLockConfig q s = .next t) : Keeps s₀ t := by
  obtain rfl := Host.Outcome.next.inj ht
  exact keeps_lineIn hk (fun _ h1 => keeps_submit h1 (fun _ _ h2 => keeps_queueStore (Keeps.upd h2 rfl rfl)))

theorem keeps_macroStart {m : Nat} {cmd : Option Nat} (hk : Keeps s₀ s) : Keeps s₀ (macroStart s m cmd).1 := by
  unfold macroStart
  refine Keeps.iteP ?_ ?_
  · refine Keeps.iteP ?_ ?_
    · try dsimp only
      try dsimp only
      split
      · exact keeps_finish (keeps_setMacro hk)
      · exact keeps_setMacro hk
    · exact keeps_setMacro hk
  · exact Keeps.iteP (keeps_setMacro hk) (keeps_notify (keeps_setMacro hk))

theorem keeps_execMacroClear {q : Hdr} {m : Fin 64} (hk : Keeps s₀ s) (ht : execMacroClear q m s = .next t) : Keeps s₀ t := by
  obtain rfl := Host.Outcome.next.inj ht
  exact keeps_lineIn hk (fun _ h1 => keeps_submit h1 (fun _ _ h2 => keeps_queueStore h2))

theorem keeps_execMacroList {q : Hdr} {m : Fin 64} (hk : Keeps s₀ s) (ht : execMacroList q m s = .next t) : Keeps s₀ t := by
  obtain rfl := Host.Outcome.next.inj ht
  exact keeps_lineIn hk (fun _ h1 => keeps_submit h1 (fun _ _ h2 => h2))

theorem keeps_execMacroRun {q : Hdr} {m : Fin 64} (hk : Keeps s₀ s) (ht : execMacroRun q m s = .next t) : Keeps s₀ t := by
  obtain rfl := Host.Outcome.next.inj ht
  refine keeps_lineIn ?_ (fun _ h1 => ?_)
  · exact hk
  · try dsimp only
    split
    · exact Keeps.ite (keeps_macroStart (keeps_submit h1 (fun _ _ h4 => h4))) (keeps_finish (keeps_macroStart (keeps_submit h1
          (fun _ _ h5 => h5))))
    · exact keeps_submit h1 (fun _ _ h6 => h6)

theorem keeps_execMacroTrigger {m : Fin 64} (hk : Keeps s₀ s) (ht : execMacroTrigger m s = .next t) : Keeps s₀ t := by
  obtain rfl := Host.Outcome.next.inj ht
  try dsimp only
  split
  · exact keeps_macroStart (Keeps.upd hk rfl rfl)
  · exact hk

theorem keeps_bindChange {event : String} {obj : Option String} {m : Option Nat} (hk : Keeps s₀ s) : Keeps s₀ (bindChange s
    event obj m) := by
  unfold bindChange
  try dsimp only
  split
  · exact Keeps.upd hk rfl rfl
  · exact Keeps.upd hk rfl rfl

theorem keeps_execOnBind {q : Hdr} {event : String} {obj : Option String} {m : Fin 64} (hk : Keeps s₀ s) (ht : execOnBind q
    event obj m s = .next t) : Keeps s₀ t := by
  obtain rfl := Host.Outcome.next.inj ht
  exact keeps_lineIn hk (fun _ h1 => keeps_submit h1 (fun _ _ h2 => keeps_queueStore h2))

theorem keeps_execOnOff {q : Hdr} {event : String} {obj : Option String} (hk : Keeps s₀ s) (ht : execOnOff q event obj s = .next
    t) : Keeps s₀ t := by
  obtain rfl := Host.Outcome.next.inj ht
  exact keeps_lineIn hk (fun _ h1 => keeps_submit h1 (fun _ _ h2 => keeps_queueStore h2))

theorem keeps_execOnList {q : Hdr} (hk : Keeps s₀ s) (ht : execOnList q s = .next t) : Keeps s₀ t := by
  obtain rfl := Host.Outcome.next.inj ht
  exact keeps_lineIn hk (fun _ h1 => keeps_submit h1 (fun _ _ h2 => h2))

theorem keeps_nominalSet (hk : Keeps s₀ s) : Keeps s₀ (nominalSet s) := by
  unfold nominalSet
  try dsimp only
  split
  · exact Keeps.upd hk rfl rfl
  · exact Keeps.ite (Keeps.upd hk rfl rfl) hk

theorem keeps_setMark {k : MarkKind} {m : Option Mark} (hk : Keeps s₀ s) : Keeps s₀ (setMark s k m) := by
  unfold setMark
  try dsimp only
  split
  · exact Keeps.upd hk rfl rfl
  · exact Keeps.upd hk rfl rfl
  · exact Keeps.upd hk rfl rfl
  · exact Keeps.upd hk rfl rfl

theorem keeps_reportMark {k : MarkKind} {start : Nat} {stop : Option Nat} {depth : Nat} (hk : Keeps s₀ s) : Keeps s₀ (reportMark
    s k start stop depth) := by
  unfold reportMark
  refine keeps_arrive ?_
  refine Keeps.ite ?_ ?_
  · refine keeps_churnMark ?_
    try dsimp only
    split
    · exact Keeps.upd hk rfl rfl
    · exact hk
  · try dsimp only
    split
    · exact Keeps.upd hk rfl rfl
    · exact hk

theorem keeps_bistHit {why : Nat} (hk : Keeps s₀ s) : Keeps s₀ (bistHit s why) := by
  unfold bistHit
  try dsimp only
  split
  · exact Keeps.ite hk (Keeps.ite (Keeps.upd hk rfl rfl) (Keeps.upd hk rfl rfl))
  · exact hk

theorem keeps_markBegins {k : MarkKind} {m : Mark} (hk : Keeps s₀ s) : Keeps s₀ (markBegins s k m) := by
  unfold markBegins
  exact Keeps.upd (keeps_bistHit (keeps_setMark hk)) rfl rfl

theorem keeps_markOpens {k : MarkKind} {m : Mark} (hk : Keeps s₀ s) : Keeps s₀ (markOpens s k m) := by
  unfold markOpens
  exact keeps_reportMark (keeps_markBegins hk)

theorem keeps_transTold (hk : Keeps s₀ s) : Keeps s₀ (transTold s) := by
  unfold transTold
  try dsimp only
  split
  · exact Keeps.ite hk (keeps_reportMark (keeps_setMark hk))
  · exact hk

theorem keeps_markCloses {k : MarkKind} {m : Mark} (hk : Keeps s₀ s) : Keeps s₀ (markCloses s k m) := by
  unfold markCloses
  exact keeps_reportMark (keeps_setMark hk)

theorem keeps_markStep {k : MarkKind} {opens : Bool} {closes : Bool} {start : Nat} {depth : Nat} {worst : Nat → Nat → Nat} (hk :
    Keeps s₀ s) : Keeps s₀ (markStep s k opens closes start depth worst) := by
  unfold markStep
  try dsimp only
  split
  · exact Keeps.ite (keeps_markOpens hk) hk
  · exact Keeps.ite (keeps_markCloses hk) (keeps_setMark hk)

theorem keeps_marksStep {start : Nat} {rms : Nat} {freq : Nat} (hk : Keeps s₀ s) : Keeps s₀ (marksStep s start rms freq) := by
  unfold marksStep
  try dsimp only
  split
  · exact Keeps.ite (keeps_markCloses (keeps_transTold (keeps_markStep (keeps_markStep (keeps_markStep hk))))) (keeps_transTold
        (keeps_markStep (keeps_markStep (keeps_markStep hk))))
  · exact keeps_transTold (keeps_markStep (keeps_markStep (keeps_markStep hk)))

theorem keeps_holdReset {k : ResetKind} (hk : Keeps s₀ s) : Keeps s₀ (holdReset s k) := by
  unfold holdReset
  exact Keeps.upd hk rfl rfl

theorem keeps_stopCharging (hk : Keeps s₀ s) : Keeps s₀ (stopCharging s) := by
  unfold stopCharging
  exact Keeps.upd hk rfl rfl

theorem keeps_mainsGone {start : Nat} {depth : Option Nat} (hk : Keeps s₀ s) : Keeps s₀ (mainsGone s start depth) := by
  unfold mainsGone
  exact Keeps.ite hk (keeps_notify (keeps_icCut (keeps_stopCharging (Keeps.ite (keeps_markOpens (Keeps.upd hk rfl rfl))
      (Keeps.upd hk rfl rfl)))))

theorem keeps_mainsReturns (hk : Keeps s₀ s) : Keeps s₀ (mainsReturns s) := by
  unfold mainsReturns
  exact Keeps.ite hk (Keeps.ite (keeps_holdReset (keeps_notify (Keeps.upd hk rfl rfl))) (keeps_notify (Keeps.upd hk rfl rfl)))

theorem keeps_execMainsAbsent (hk : Keeps s₀ s) (ht : execMainsAbsent s = .next t) : Keeps s₀ t := by
  obtain rfl := Host.Outcome.next.inj ht
  exact Keeps.ite hk (keeps_atTick hk (fun _ h1 => keeps_mainsGone h1))

theorem keeps_halfCycle {rms : Nat} {freq : Nat} (hk : Keeps s₀ s) : Keeps s₀ (halfCycle s rms freq) := by
  unfold halfCycle
  exact keeps_arrive (Keeps.ite (keeps_notify (Keeps.upd (keeps_marksStep (Keeps.ite (keeps_mainsGone (Keeps.upd hk rfl rfl))
      (keeps_mainsReturns (Keeps.upd hk rfl rfl)))) rfl rfl)) (Keeps.upd (keeps_marksStep (Keeps.ite (keeps_mainsGone (Keeps.upd
      hk rfl rfl)) (keeps_mainsReturns (Keeps.upd hk rfl rfl)))) rfl rfl))

theorem keeps_execHalfCycleReport {rms : BitVec 16} {freq : BitVec 16} (hk : Keeps s₀ s) (ht : execHalfCycleReport rms freq s =
    .next t) : Keeps s₀ t := by
  obtain rfl := Host.Outcome.next.inj ht
  exact keeps_halfCycle hk

theorem keeps_execAbsentHealthReport (hk : Keeps s₀ s) (ht : execAbsentHealthReport s = .next t) : Keeps s₀ t := by
  obtain rfl := Host.Outcome.next.inj ht
  exact Keeps.ite hk (keeps_arrive (keeps_transTold (Keeps.upd hk rfl rfl)))

theorem keeps_execTransientDetect {slew : BitVec 16} (hk : Keeps s₀ s) (ht : execTransientDetect slew s = .next t) : Keeps s₀ t
    := by
  obtain rfl := Host.Outcome.next.inj ht
  refine Keeps.ite ?_ ?_
  · exact hk
  · try dsimp only
    split
    · exact keeps_markBegins (Keeps.upd hk rfl rfl)
    · exact keeps_setMark (Keeps.upd hk rfl rfl)

theorem keeps_execMainGoodQualification {rise : Bool} (hk : Keeps s₀ s) (ht : execMainGoodQualification rise s = .next t) :
    Keeps s₀ t := by
  obtain rfl := Host.Outcome.next.inj ht
  exact Keeps.ite hk (Keeps.upd hk rfl rfl)

theorem keeps_pilotDies (hk : Keeps s₀ s) : Keeps s₀ (pilotDies s) := by
  unfold pilotDies
  exact Keeps.upd hk rfl rfl

theorem keeps_mainGood (hk : Keeps s₀ s) : Keeps s₀ (mainGood s) := by
  unfold mainGood
  exact Keeps.ite (keeps_holdReset (Keeps.upd (Keeps.ite (keeps_pilotDies hk) hk) rfl rfl)) (Keeps.upd (Keeps.ite
      (keeps_pilotDies hk) hk) rfl rfl)

theorem keeps_execMainGood (hk : Keeps s₀ s) (ht : execMainGood s = .next t) : Keeps s₀ t := by
  obtain rfl := Host.Outcome.next.inj ht
  refine Keeps.ite ?_ ?_
  · exact hk
  · try dsimp only
    split
    · exact keeps_atTick hk (fun _ h1 => keeps_mainGood h1)
    · exact hk

theorem keeps_pilotLost (hk : Keeps s₀ s) : Keeps s₀ (pilotLost s) := by
  unfold pilotLost
  exact keeps_stopCharging (Keeps.upd hk rfl rfl)

theorem keeps_execPilotCutoffPending (hk : Keeps s₀ s) (ht : execPilotCutoffPending s = .next t) : Keeps s₀ t := by
  obtain rfl := Host.Outcome.next.inj ht
  exact Keeps.ite hk (keeps_atTick hk (fun _ h1 => Keeps.upd h1 rfl rfl))

theorem keeps_execPilotDead (hk : Keeps s₀ s) (ht : execPilotDead s = .next t) : Keeps s₀ t := by
  obtain rfl := Host.Outcome.next.inj ht
  exact Keeps.ite hk (keeps_atTick hk (fun _ h1 => keeps_pilotDies h1))

theorem keeps_execVbatRecover (hk : Keeps s₀ s) (ht : execVbatRecover s = .next t) : Keeps s₀ t := by
  obtain rfl := Host.Outcome.next.inj ht
  exact Keeps.ite (Keeps.upd hk rfl rfl) hk

theorem keeps_execPilotStatePost (hk : Keeps s₀ s) (ht : execPilotStatePost s = .next t) : Keeps s₀ t := by
  obtain rfl := Host.Outcome.next.inj ht
  exact keeps_atTick hk (fun _ h1 => keeps_arrive (Keeps.upd h1 rfl rfl))

theorem keeps_auxTripped (hk : Keeps s₀ s) : Keeps s₀ (auxTripped s) := by
  unfold auxTripped
  exact keeps_notify (Keeps.upd (Keeps.upd hk rfl rfl) rfl rfl)

theorem keeps_execAuxTrip {ma : BitVec 16} {long : Bool} (hk : Keeps s₀ s) (ht : execAuxTrip ma long s = .next t) : Keeps s₀ t
    := by
  obtain rfl := Host.Outcome.next.inj ht
  exact Keeps.ite (keeps_auxTripped hk) hk

theorem keeps_auxRequest {cls : LClass} {cmd : Option Nat} (hk : Keeps s₀ s) : Keeps s₀ (auxRequest s cls cmd) := by
  unfold auxRequest
  exact keeps_askLeave (Keeps.upd hk rfl rfl)

theorem keeps_execAuxRetry (hk : Keeps s₀ s) (ht : execAuxRetry s = .next t) : Keeps s₀ t := by
  obtain rfl := Host.Outcome.next.inj ht
  exact Keeps.ite hk (keeps_atTick hk (fun _ h1 => keeps_auxRequest (Keeps.upd h1 rfl rfl)))

theorem keeps_vbatEvaluate {mv : Nat} (hk : Keeps s₀ s) : Keeps s₀ (vbatEvaluate s mv) := by
  unfold vbatEvaluate
  exact Keeps.ite (keeps_askLeave (Keeps.upd (Keeps.ite (keeps_notify (Keeps.ite (keeps_notify (Keeps.upd hk rfl rfl))
      (Keeps.upd hk rfl rfl))) (Keeps.ite (keeps_notify (Keeps.upd hk rfl rfl)) (Keeps.upd hk rfl rfl))) rfl rfl)) (Keeps.ite
      (keeps_notify (Keeps.ite (keeps_notify (Keeps.upd hk rfl rfl)) (Keeps.upd hk rfl rfl))) (Keeps.ite (keeps_notify
      (Keeps.upd hk rfl rfl)) (Keeps.upd hk rfl rfl)))

theorem keeps_execVbatEvaluation {mv : Int} (hk : Keeps s₀ s) (ht : execVbatEvaluation mv s = .next t) : Keeps s₀ t := by
  unfold execVbatEvaluation at ht
  split at ht
  · cases ht
  · split at ht <;> cases ht
    · exact hk
    · exact keeps_vbatEvaluate hk

theorem keeps_execRstcauseClear {v : Word} (hk : Keeps s₀ s) (ht : execRstcauseClear v s = .next t) : Keeps s₀ t := by
  obtain rfl := Host.Outcome.next.inj ht
  exact Keeps.upd hk rfl rfl

theorem keeps_execLockedIslandsLock (hk : Keeps s₀ s) (ht : execLockedIslandsLock s = .next t) : Keeps s₀ t := by
  obtain rfl := Host.Outcome.next.inj ht
  exact Keeps.ite (keeps_rtsFollows (Keeps.upd hk rfl rfl)) hk

theorem keeps_leaveLoads (hk : Keeps s₀ s) : Keeps s₀ (leaveLoads s) := by
  unfold leaveLoads
  exact Keeps.upd hk rfl rfl

theorem keeps_overNotice {was : Bool} {is : Bool} {name : String} (hk : Keeps s₀ s) : Keeps s₀ (overNotice s was is name) := by
  unfold overNotice
  exact Keeps.ite (keeps_notify (Keeps.upd hk rfl rfl)) (Keeps.ite (keeps_notify hk) hk)

theorem keeps_leaveOver (hk : Keeps s₀ s) : Keeps s₀ (leaveOver s) := by
  unfold leaveOver
  exact Keeps.upd (keeps_overNotice (keeps_overNotice (keeps_overNotice hk))) rfl rfl

theorem keeps_leaveLog {h : Holder} {op : Nat} {ev : Nat} (hk : Keeps s₀ s) : Keeps s₀ (leaveLog s h op ev) := by
  unfold leaveLog
  exact Keeps.ite (keeps_jrnPut (keeps_drawn hk)) (keeps_jrnPut hk)

theorem keeps_leaveAnswer {h : Holder} {a : LAnswer} {cmd : Option Nat} (hk : Keeps s₀ s) : Keeps s₀ (leaveAnswer s h a cmd) :=
    by
  unfold leaveAnswer
  exact Keeps.upd hk rfl rfl

theorem keeps_leaveRefuse {r : LReq} {why : String} (hk : Keeps s₀ s) : Keeps s₀ (leaveRefuse s r why) := by
  unfold leaveRefuse
  exact keeps_leaveAnswer (Keeps.ite (keeps_leaveLog (Keeps.upd hk rfl rfl)) (keeps_notify (keeps_leaveLog (Keeps.upd hk rfl
      rfl))))

theorem keeps_leaveArrive {r : LReq} (hk : Keeps s₀ s) : Keeps s₀ (leaveArrive s r) := by
  unfold leaveArrive
  refine Keeps.ite ?_ ?_
  · exact keeps_leaveRefuse hk
  · try dsimp only
    split
    · exact Keeps.upd hk rfl rfl
    · exact Keeps.ite (keeps_leaveRefuse hk) (Keeps.upd hk rfl rfl)

theorem keeps_leaveDelivered (hk : Keeps s₀ s) : Keeps s₀ (leaveDelivered s) := by
  unfold leaveDelivered
  exact keeps_foldl (fun _ _ h5 => keeps_leaveArrive h5) (Keeps.upd (Keeps.upd (keeps_foldl (fun _ _ h6 => keeps_leaveLog h6)
      hk) rfl rfl) rfl rfl)

theorem keeps_chargeEnds (hk : Keeps s₀ s) : Keeps s₀ (chargeEnds s) := by
  unfold chargeEnds
  exact Keeps.ite (Keeps.upd hk rfl rfl) hk

theorem keeps_grantsEnd (hk : Keeps s₀ s) : Keeps s₀ (grantsEnd s) := by
  unfold grantsEnd
  exact Keeps.ite (keeps_chargeEnds (Keeps.upd hk rfl rfl)) (Keeps.upd hk rfl rfl)

theorem keeps_calmBreak (hk : Keeps s₀ s) : Keeps s₀ (calmBreak s) := by
  unfold calmBreak
  exact keeps_foldl (fun _ _ h1 => keeps_leaveAnswer (keeps_leaveLog (Keeps.upd h1 rfl rfl))) hk

theorem keeps_leaveGrant {r : LReq} (hk : Keeps s₀ s) : Keeps s₀ (leaveGrant s r) := by
  unfold leaveGrant
  exact keeps_leaveAnswer (keeps_leaveLog (Keeps.upd (Keeps.ite (keeps_calmBreak (Keeps.upd hk rfl rfl)) hk) rfl rfl))

theorem keeps_leaveWalk {s₀ : State} {l : List LReq} :
    ∀ {s : State} {b : Option LClass} {a : List LReq}, Keeps s₀ s → Keeps s₀ (leaveWalk l s b a).1 := by
  induction l with
  | nil => exact id
  | cons r l ih =>
    intro s b a hk
    unfold leaveWalk
    split
    · exact ih (keeps_leaveGrant hk)
    · exact ih (Keeps.ite (keeps_leaveLog hk) hk)

theorem keeps_leaveWaited (hk : Keeps s₀ s) : Keeps s₀ (leaveWaited s) := by
  unfold leaveWaited
  exact Keeps.upd hk rfl rfl

theorem keeps_leaveBoundary (hk : Keeps s₀ s) : Keeps s₀ (leaveBoundary s) := by
  unfold leaveBoundary
  exact Keeps.upd (keeps_leaveWalk (keeps_leaveDelivered (keeps_leaveWaited (keeps_leaveOver (keeps_leaveLoads (keeps_grantsEnd
      hk)))))) rfl rfl

theorem keeps_execLeaveRequest {h : Holder} {cls : LClass} {dur : Nat} (hk : Keeps s₀ s) (ht : execLeaveRequest h cls dur s =
    .next t) : Keeps s₀ t := by
  obtain rfl := Host.Outcome.next.inj ht
  refine Keeps.ite ?_ ?_
  · exact hk
  · try dsimp only
    split
    · exact keeps_leaveArrive hk
    · exact hk

theorem keeps_leaveTimesOut {r : LReq} (hk : Keeps s₀ s) : Keeps s₀ (leaveTimesOut s r) := by
  unfold leaveTimesOut
  exact keeps_leaveAnswer (Keeps.ite (keeps_leaveLog (Keeps.upd hk rfl rfl)) (keeps_notify (keeps_leaveLog (Keeps.upd hk rfl
      rfl))))

theorem keeps_execLeaveTimeout {h : Holder} (hk : Keeps s₀ s) (ht : execLeaveTimeout h s = .next t) : Keeps s₀ t := by
  obtain rfl := Host.Outcome.next.inj ht
  try dsimp only
  split
  · try dsimp only
    split
    · exact Keeps.ite (keeps_leaveTimesOut hk) hk
    · exact hk
  · exact hk

theorem keeps_grantMark {h : Holder} (hk : Keeps s₀ s) : Keeps s₀ (grantMark s h) := by
  unfold grantMark
  exact Keeps.upd hk rfl rfl

theorem keeps_grantBack {h : Holder} (hk : Keeps s₀ s) : Keeps s₀ (grantBack s h) := by
  unfold grantBack
  try dsimp only
  split
  · exact Keeps.ite hk (keeps_grantMark (keeps_leaveLog hk))
  · exact hk

theorem keeps_execGrantExpiry {h : Holder} (hk : Keeps s₀ s) (ht : execGrantExpiry h s = .next t) : Keeps s₀ t := by
  obtain rfl := Host.Outcome.next.inj ht
  try dsimp only
  split
  · exact Keeps.ite (keeps_grantMark hk) hk
  · exact hk

theorem keeps_leaveReturn {h : Holder} (hk : Keeps s₀ s) : Keeps s₀ (leaveReturn s h) := by
  unfold leaveReturn
  exact Keeps.ite hk (keeps_grantBack hk)

theorem keeps_execGrantReturn {h : Holder} (hk : Keeps s₀ s) (ht : execGrantReturn h s = .next t) : Keeps s₀ t := by
  obtain rfl := Host.Outcome.next.inj ht
  exact keeps_leaveReturn hk

theorem keeps_withdrawOf {h : Holder} {p : Option Nat → Bool} (hk : Keeps s₀ s) : Keeps s₀ (withdrawOf s h p) := by
  unfold withdrawOf
  exact Keeps.ite (keeps_grantBack (Keeps.upd (Keeps.upd (keeps_foldl (fun _ _ h5 => keeps_leaveLog h5) hk) rfl rfl) rfl rfl))
      (Keeps.upd (keeps_foldl (fun _ _ h6 => keeps_leaveLog h6) hk) rfl rfl)

theorem keeps_leaveWithdraw {h : Holder} (hk : Keeps s₀ s) : Keeps s₀ (leaveWithdraw s h) := by
  unfold leaveWithdraw
  exact keeps_withdrawOf hk

theorem keeps_withdrawPost {h : Holder} (hk : Keeps s₀ s) : Keeps s₀ (withdrawPost s h) := by
  unfold withdrawPost
  exact Keeps.upd hk rfl rfl

theorem keeps_execLeaveWithdraw {h : Holder} (hk : Keeps s₀ s) (ht : execLeaveWithdraw h s = .next t) : Keeps s₀ t := by
  obtain rfl := Host.Outcome.next.inj ht
  exact keeps_leaveWithdraw hk

theorem keeps_leaveDrop {p : Holder → Bool} (hk : Keeps s₀ s) : Keeps s₀ (leaveDrop s p) := by
  unfold leaveDrop
  exact Keeps.upd (keeps_foldl (fun _ _ h2 => keeps_leaveLog h2) hk) rfl rfl

theorem keeps_grantsOrphan (hk : Keeps s₀ s) : Keeps s₀ (grantsOrphan s) := by
  unfold grantsOrphan
  exact Keeps.upd hk rfl rfl

theorem keeps_execStaggerElapsed (hk : Keeps s₀ s) (ht : execStaggerElapsed s = .next t) : Keeps s₀ t := by
  obtain rfl := Host.Outcome.next.inj ht
  try dsimp only
  split
  · exact hk
  · exact Keeps.upd hk rfl rfl

theorem keeps_execLeaveClr {v : Word} (hk : Keeps s₀ s) (ht : execLeaveClr v s = .next t) : Keeps s₀ t := by
  obtain rfl := Host.Outcome.next.inj ht
  exact Keeps.ite (Keeps.upd hk rfl rfl) hk

theorem keeps_auxAgain (hk : Keeps s₀ s) : Keeps s₀ (auxAgain s) := by
  unfold auxAgain
  exact Keeps.ite (Keeps.upd hk rfl rfl) hk

theorem keeps_auxAnswer {a : LAnswer} (hk : Keeps s₀ s) : Keeps s₀ (auxAnswer s a) := by
  unfold auxAnswer
  try dsimp only
  split
  · exact Keeps.upd hk rfl rfl
  · exact hk
  · exact keeps_auxAgain (Keeps.upd hk rfl rfl)

theorem keeps_chargeAnswer {a : LAnswer} (hk : Keeps s₀ s) : Keeps s₀ (chargeAnswer s a) := by
  unfold chargeAnswer
  exact Keeps.ite (Keeps.ite (Keeps.upd hk rfl rfl) (keeps_grantBack hk)) hk

theorem keeps_execFastChargeEnd {mv : ℤ} (hk : Keeps s₀ s) (ht : execFastChargeEnd mv s = .next t) : Keeps s₀ t := by
  obtain rfl := Host.Outcome.next.inj ht
  exact Keeps.ite (keeps_grantBack (Keeps.upd hk rfl rfl)) hk

end Sys2Proof.Laws
end

