-- ==== Sys2Proof/Machine/KeepsUnits.lean ====
section
/-! DEFINITION. Theorems only, on the channels, the counters, the feeds, the drives, time and climate: what each
definition keeps. They stand beside the meanings so that a
repair of a meaning can mend its lemma with it. -/

namespace Sys2Proof.Laws
open Sys2Proof Sys2Proof.Machine
variable {s₀ s t : State}
set_option Elab.async false

theorem keeps_setGrp {g : Nat} {x : GrpSt} (hk : Keeps s₀ s) : Keeps s₀ (setGrp s g x) := by
  unfold setGrp
  exact Keeps.upd hk rfl rfl

theorem keeps_setV10 {u : Nat} {mv : Nat} (hk : Keeps s₀ s) : Keeps s₀ (setV10 s u mv) := by
  unfold setV10
  exact keeps_setChan hk

theorem keeps_setOd {u : Nat} {on : Bool} (hk : Keeps s₀ s) : Keeps s₀ (setOd s u on) := by
  unfold setOd
  exact Keeps.ite (keeps_setGrp (keeps_setChan hk)) (keeps_setChan hk)

theorem keeps_setOutput {u : Nat} {pct : Nat} (hk : Keeps s₀ s) : Keeps s₀ (setOutput s u pct) := by
  unfold setOutput
  exact Keeps.ite (keeps_setV10 hk) (Keeps.ite (Keeps.ite (Keeps.ite hk (keeps_setOd hk)) (keeps_setOd hk)) hk)

theorem keeps_execOdTrip {c : Fin 96} {ma : BitVec 12} (hk : Keeps s₀ s) (ht : execOdTrip c ma s = .next t) : Keeps s₀ t := by
  obtain rfl := Host.Outcome.next.inj ht
  exact Keeps.ite hk (keeps_notify (keeps_verdictTest (keeps_setGrp (keeps_setChan hk))))

theorem keeps_execGroupTrip {g : Fin 12} {ma : BitVec 12} (hk : Keeps s₀ s) (ht : execGroupTrip g ma s = .next t) : Keeps s₀ t
    := by
  obtain rfl := Host.Outcome.next.inj ht
  exact Keeps.ite (keeps_setGrp hk) (keeps_notify (keeps_foldl (fun _ _ h6 => Keeps.ite (keeps_setChan h6) h6) (keeps_setGrp
      (keeps_setGrp hk))))

theorem keeps_chanModeChanged {u : Nat} (hk : Keeps s₀ s) : Keeps s₀ (chanModeChanged s u) := by
  unfold chanModeChanged
  try dsimp only
  split
  · exact Keeps.ite (Keeps.upd (keeps_setChan hk) rfl rfl) (keeps_setChan hk)
  · exact keeps_setChan hk

theorem keeps_chansAfter {old : State} (hk : Keeps s₀ s) : Keeps s₀ (chansAfter old s) := by
  unfold chansAfter
  exact keeps_foldl (fun _ _ h1 => Keeps.ite (keeps_chanModeChanged h1) (Keeps.ite (keeps_setChan h1) h1)) hk

theorem keeps_dryChannel {levels : BitVec 96} {u : Nat} (hk : Keeps s₀ s) : Keeps s₀ (dryChannel levels s u) := by
  unfold dryChannel
  exact Keeps.ite (keeps_churnWord hk) (Keeps.ite (keeps_churnWord (Keeps.ite (keeps_verdictTest (keeps_setChan hk)) hk)) hk)

theorem keeps_execDrySample {levels : BitVec 96} (hk : Keeps s₀ s) (ht : execDrySample levels s = .next t) : Keeps s₀ t := by
  obtain rfl := Host.Outcome.next.inj ht
  exact Keeps.ite (keeps_foldl (fun _ _ h1 => keeps_dryChannel h1) hk) hk

theorem keeps_fcMissed (hk : Keeps s₀ s) : Keeps s₀ (fcMissed s) := by
  unfold fcMissed
  exact Keeps.upd hk rfl rfl

theorem keeps_burstStart {a : Nat} (hk : Keeps s₀ s) : Keeps s₀ (burstStart s a) := by
  unfold burstStart
  exact Keeps.upd hk rfl rfl

theorem keeps_fcTrigger {a : Nat} (hk : Keeps s₀ s) : Keeps s₀ (fcTrigger s a) := by
  unfold fcTrigger
  refine Keeps.ite ?_ ?_
  · exact keeps_fcMissed hk
  · refine Keeps.ite ?_ ?_
    · exact keeps_fcMissed hk
    · try dsimp only
      split
      · exact keeps_burstStart hk
      · exact Keeps.upd hk rfl rfl

theorem keeps_fcMatched {ct : Nat} (hk : Keeps s₀ s) : Keeps s₀ (fcMatched s ct) := by
  unfold fcMatched
  exact keeps_foldl (fun _ _ h1 => Keeps.ite (keeps_fcMissed h1) (Keeps.upd h1 rfl rfl)) hk

theorem keeps_fcPeriod {a : Nat} (hk : Keeps s₀ s) : Keeps s₀ (fcPeriod a s) := by
  unfold fcPeriod
  exact keeps_fcTrigger (Keeps.upd hk rfl rfl)

theorem keeps_execFcTrigger {fi : Fin 32} {ct : Option (Fin 16)} (hk : Keeps s₀ s) (ht : execFcTrigger fi ct s = .next t) :
    Keeps s₀ t := by
  obtain rfl := Host.Outcome.next.inj ht
  refine Keeps.ite ?_ ?_
  · exact hk
  · refine Keeps.ite ?_ ?_
    · exact Keeps.ite (keeps_atTick hk (fun _ h2 => keeps_fcTrigger h2)) hk
    · try dsimp only
      split
      · exact Keeps.ite (keeps_atTick hk (fun _ h3 => keeps_fcPeriod h3)) hk
      · exact Keeps.ite (keeps_fcTrigger (Keeps.upd hk rfl rfl)) hk

theorem keeps_fcSample {b : FcBurst} {j : Nat} {code : BitVec 12} (hk : Keeps s₀ s) : Keeps s₀ (fcSample b s j code) := by
  unfold fcSample
  exact keeps_churnWord hk

theorem keeps_fcSamples {s₀ : State} {b : FcBurst} {l : List (BitVec 12)} :
    ∀ {s : State} {j : Nat}, Keeps s₀ s → Keeps s₀ (fcSamples b s j l) := by
  induction l with
  | nil => exact id
  | cons c l ih => exact fun hk => ih (keeps_fcSample hk)

theorem keeps_burstOver {b : FcBurst} {codes : List (BitVec 12)} (hk : Keeps s₀ s) : Keeps s₀ (burstOver b codes s) := by
  unfold burstOver
  try dsimp only
  split
  · exact keeps_burstStart (Keeps.upd (keeps_fcSamples (Keeps.upd hk rfl rfl)) rfl rfl)
  · exact keeps_fcSamples (Keeps.upd hk rfl rfl)

theorem keeps_execFcBurstEnd {codes : List (BitVec 12)} (hk : Keeps s₀ s) (ht : execFcBurstEnd codes s = .next t) : Keeps s₀ t
    := by
  obtain rfl := Host.Outcome.next.inj ht
  try dsimp only
  split
  · exact hk
  · exact Keeps.ite hk (keeps_atTick hk (fun _ h2 => keeps_burstOver h2))

theorem keeps_execFcClr {v : Word} (hk : Keeps s₀ s) (ht : execFcClr v s = .next t) : Keeps s₀ t := by
  obtain rfl := Host.Outcome.next.inj ht
  exact Keeps.ite (Keeps.upd hk rfl rfl) hk

theorem keeps_execChanClr {v : Word} (hk : Keeps s₀ s) (ht : execChanClr v s = .next t) : Keeps s₀ t := by
  obtain rfl := Host.Outcome.next.inj ht
  exact Keeps.ite (Keeps.upd hk rfl rfl) hk

theorem keeps_lcFeed {lv : XWord} {m : Bool} {f : Nat} {i : XWord} (hk : Keeps s₀ s) : Keeps s₀ (lcFeed lv m s f i) := by
  unfold lcFeed
  exact keeps_churnWord (keeps_churnWord hk)

theorem keeps_lcFeeds {s₀ : State} {lv : XWord} {m : Bool} {l : List XWord} :
    ∀ {s : State} {f : Nat}, Keeps s₀ s → Keeps s₀ (lcFeeds lv m s f l) := by
  induction l with
  | nil => exact id
  | cons i l ih => exact fun hk => Keeps.ite (ih (keeps_lcFeed hk)) hk

theorem keeps_lcSet {sq : BitVec 16} {lv : XWord} {li : List XWord} (hk : Keeps s₀ s) : Keeps s₀ (lcSet s sq lv li) := by
  unfold lcSet
  exact keeps_lcFeeds (keeps_churnWord (Keeps.ite (Keeps.upd hk rfl rfl) (keeps_foldl (fun _ _ h5 => keeps_cellLost h5)
      (Keeps.upd hk rfl rfl))))

theorem keeps_execLcSampleSet {sq : BitVec 16} {lv : XWord} {li : List XWord} (hk : Keeps s₀ s) (ht : execLcSampleSet sq lv li s
    = .next t) : Keeps s₀ t := by
  obtain rfl := Host.Outcome.next.inj ht
  exact Keeps.ite (keeps_lcSet hk) hk

theorem keeps_calAsk (hk : Keeps s₀ s) : Keeps s₀ (calAsk s) := by
  unfold calAsk
  try dsimp only
  split
  · exact keeps_askLeave (Keeps.upd hk rfl rfl)
  · exact Keeps.upd hk rfl rfl

theorem keeps_calStart {auto : Bool} (hk : Keeps s₀ s) : Keeps s₀ (calStart s auto) := by
  unfold calStart
  exact keeps_calAsk (Keeps.upd hk rfl rfl)

theorem keeps_calDue (hk : Keeps s₀ s) : Keeps s₀ (calDue s) := by
  unfold calDue
  exact Keeps.ite (Keeps.upd hk rfl rfl) (Keeps.upd hk rfl rfl)

theorem keeps_calOwn (hk : Keeps s₀ s) : Keeps s₀ (calOwn s) := by
  unfold calOwn
  exact Keeps.ite (keeps_calStart (Keeps.upd hk rfl rfl)) hk

theorem keeps_phaseNext (hk : Keeps s₀ s) : Keeps s₀ (phaseNext s) := by
  unfold phaseNext
  exact Keeps.ite (keeps_foldl (fun _ _ h3 => keeps_fcMissed h3) (Keeps.upd (Keeps.upd hk rfl rfl) rfl rfl)) (Keeps.upd hk rfl
      rfl)

theorem keeps_calEnds {body : String} (hk : Keeps s₀ s) : Keeps s₀ (calEnds s body) := by
  unfold calEnds
  exact keeps_foldl (fun _ _ h1 => keeps_finish h1) hk

theorem keeps_calAbort {body : String} (hk : Keeps s₀ s) : Keeps s₀ (calAbort s body) := by
  unfold calAbort
  exact keeps_calEnds (Keeps.upd hk rfl rfl)

theorem keeps_calAnswer {a : LAnswer} (hk : Keeps s₀ s) : Keeps s₀ (calAnswer s a) := by
  unfold calAnswer
  refine Keeps.ite ?_ ?_
  · exact hk
  · try dsimp only
    split
    · exact Keeps.ite (keeps_phaseNext hk) hk
    · exact keeps_calAbort hk
    · exact keeps_calAbort hk
    · exact hk

theorem keeps_calBroken (hk : Keeps s₀ s) : Keeps s₀ (calBroken s) := by
  unfold calBroken
  exact Keeps.ite (keeps_calAsk (Keeps.upd (keeps_leaveReturn hk) rfl rfl)) hk

theorem keeps_phaseEnd {vals : List ℤ} (hk : Keeps s₀ s) : Keeps s₀ (phaseEnd vals s) := by
  unfold phaseEnd
  exact Keeps.ite (keeps_phaseNext (Keeps.upd hk rfl rfl)) (keeps_leaveReturn (Keeps.upd (Keeps.upd hk rfl rfl) rfl rfl))

theorem keeps_execCalPhaseEnd {vals : List ℤ} (hk : Keeps s₀ s) (ht : execCalPhaseEnd vals s = .next t) : Keeps s₀ t := by
  obtain rfl := Host.Outcome.next.inj ht
  exact Keeps.ite (keeps_atTick hk (fun _ h1 => keeps_phaseEnd h1)) hk

theorem keeps_calFlags {p : Nat} (hk : Keeps s₀ s) : Keeps s₀ (calFlags s p) := by
  unfold calFlags
  exact keeps_foldl (fun _ _ h2 => keeps_setCell h2) hk

theorem keeps_calTake {q : Nat × List ℤ} (hk : Keeps s₀ s) : Keeps s₀ (calTake s q) := by
  unfold calTake
  exact keeps_calFlags (Keeps.upd hk rfl rfl)

theorem keeps_calComplete (hk : Keeps s₀ s) : Keeps s₀ (calComplete s) := by
  unfold calComplete
  exact Keeps.ite hk (keeps_calEnds (keeps_notify (Keeps.upd hk rfl rfl)))

theorem keeps_calDrift (hk : Keeps s₀ s) : Keeps s₀ (calDrift s) := by
  unfold calDrift
  try dsimp only
  split
  · exact Keeps.ite (Keeps.ite (keeps_calDue (keeps_notify (Keeps.upd hk rfl rfl))) (keeps_notify (Keeps.upd hk rfl rfl))) hk
  · exact hk

theorem keeps_refOk (hk : Keeps s₀ s) : Keeps s₀ (refOk s) := by
  unfold refOk
  exact Keeps.ite (keeps_calOwn (Keeps.upd hk rfl rfl)) (Keeps.upd hk rfl rfl)

theorem keeps_convBoundary (hk : Keeps s₀ s) : Keeps s₀ (convBoundary s) := by
  unfold convBoundary
  exact keeps_icFree (keeps_calOwn (keeps_calDrift (keeps_calComplete (keeps_foldl (fun _ _ h2 => keeps_calTake h2) (Keeps.upd
      hk rfl rfl)))))

theorem keeps_refEnable (hk : Keeps s₀ s) : Keeps s₀ (refEnable s) := by
  unfold refEnable
  exact Keeps.upd hk rfl rfl

theorem keeps_refFault (hk : Keeps s₀ s) : Keeps s₀ (refFault s) := by
  unfold refFault
  exact Keeps.ite (keeps_calAbort (keeps_leaveWithdraw (keeps_leaveReturn (Keeps.upd (keeps_notify (Keeps.upd hk rfl rfl)) rfl
      rfl)))) (keeps_notify (Keeps.upd hk rfl rfl))

theorem keeps_execRefFault (hk : Keeps s₀ s) (ht : execRefFault s = .next t) : Keeps s₀ t := by
  obtain rfl := Host.Outcome.next.inj ht
  exact Keeps.ite (keeps_refFault hk) hk

theorem keeps_execRefRecover (hk : Keeps s₀ s) (ht : execRefRecover s = .next t) : Keeps s₀ t := by
  obtain rfl := Host.Outcome.next.inj ht
  exact Keeps.ite (keeps_notify (keeps_refOk hk)) hk

theorem keeps_convQuiet (hk : Keeps s₀ s) : Keeps s₀ (convQuiet s) := by
  unfold convQuiet
  exact Keeps.upd hk rfl rfl

theorem keeps_execCalConverters {q : Hdr} (hk : Keeps s₀ s) (ht : execCalConverters q s = .next t) : Keeps s₀ t := by
  obtain rfl := Host.Outcome.next.inj ht
  exact keeps_lineIn hk (fun _ h1 => keeps_submit h1 (fun _ _ h2 => Keeps.ite h2 (keeps_calStart h2)))

theorem keeps_setCt {n : Nat} {c : CtSt} (hk : Keeps s₀ s) : Keeps s₀ (setCt s n c) := by
  unfold setCt
  exact Keeps.upd hk rfl rfl

theorem keeps_modCt {n : Nat} {f : CtSt → CtSt} (hk : Keeps s₀ s) : Keeps s₀ (modCt s n f) := by
  unfold modCt
  exact keeps_setCt hk

theorem keeps_ctPark {n : Nat} (hk : Keeps s₀ s) : Keeps s₀ (ctPark s n) := by
  unfold ctPark
  try dsimp only
  split
  · exact keeps_setCt hk
  · exact keeps_setCt hk
  · exact hk

theorem keeps_countParks (hk : Keeps s₀ s) : Keeps s₀ (countParks s) := by
  unfold countParks
  exact keeps_foldl (fun _ _ h1 => keeps_ctPark h1) hk

theorem keeps_clkEvent {n : Nat} (hk : Keeps s₀ s) (ht : clkEvent s n = some t) : Keeps s₀ t := by
  unfold clkEvent at ht
  dsimp only at ht
  split at ht
  · split at ht <;> cases ht
    exact hk
  · split at ht <;> cases ht
    exact keeps_setCt hk

theorem keeps_chainClear {b : Nat} (hk : Keeps s₀ s) : Keeps s₀ (chainClear s b) := by
  unfold chainClear
  exact keeps_foldl (fun _ _ h1 => keeps_modCt h1) hk

theorem keeps_ctCapture {b : Nat} {kind : Nat} (hk : Keeps s₀ s) : Keeps s₀ (ctCapture s b kind) := by
  unfold ctCapture
  exact Keeps.ite hk (Keeps.ite (keeps_setCt hk) (Keeps.ite (keeps_setCt hk) (Keeps.ite (keeps_setCt hk) (keeps_notify
      (keeps_setCt hk)))))

theorem keeps_writeApply {n : Nat} {w : CtWrite} (hk : Keeps s₀ s) : Keeps s₀ (writeApply n s w) := by
  unfold writeApply
  try dsimp only
  split
  · exact keeps_modCt hk
  · exact keeps_modCt hk
  · exact keeps_chainClear hk
  · exact keeps_modCt hk

theorem keeps_writesWhere {p : CtFlight → Bool} {s : State} {n : Nat} (hk : Keeps s₀ s) : Keeps s₀ (writesWhere p s n) := by
  unfold writesWhere
  exact keeps_foldl (fun _ _ h3 => keeps_writeApply h3) (keeps_modCt hk)

theorem keeps_stepWrites {n : Nat} (hk : Keeps s₀ s) : Keeps s₀ (stepWrites s n) := by
  unfold stepWrites
  exact keeps_writesWhere hk

theorem keeps_stepActs {n : Nat} (hk : Keeps s₀ s) : Keeps s₀ (stepActs s n) := by
  unfold stepActs
  exact Keeps.ite (keeps_modCt (Keeps.ite (keeps_chainClear hk) hk)) (Keeps.ite (keeps_modCt (Keeps.ite (keeps_chainClear hk)
      hk)) (Keeps.ite (keeps_chainClear hk) hk))

theorem keeps_stepAdvance {n : Nat} (hk : Keeps s₀ s) : Keeps s₀ (stepAdvance s n).1 := by
  unfold stepAdvance
  exact keeps_setCt hk

theorem keeps_chainAdvance {s₀ : State} {l : List Nat} :
    ∀ {s : State} {e : Tbl EdgeRes}, Keeps s₀ s → Keeps s₀ (chainAdvance l s e).1 := by
  induction l with
  | nil => exact id
  | cons n l ih => exact fun hk => Keeps.iteP (ih (keeps_stepAdvance hk)) (keeps_stepAdvance hk)

theorem keeps_edgeMatch {e : Tbl EdgeRes} (hk : Keeps s₀ s) : Keeps s₀ (edgeMatch s e).1 := by
  unfold edgeMatch
  refine keeps_foldlP (fun _ _ h1 => ?_) ?_
  · refine Keeps.iteP ?_ ?_
    · try dsimp only
      refine keeps_fcMatched ?_
      refine keeps_modCt ?_
      exact h1
    · exact h1
  · exact hk

theorem keeps_stepCapture {capEv : Nat → Bool} {e : Tbl EdgeRes} {s : State} {b : Nat} (hk : Keeps s₀ s) : Keeps s₀ (stepCapture
    capEv e s b) := by
  unfold stepCapture
  exact Keeps.ite (keeps_ctCapture (Keeps.ite (keeps_ctCapture (Keeps.ite (keeps_ctCapture hk) hk)) (Keeps.ite (keeps_ctCapture
      (Keeps.ite (keeps_ctCapture hk) hk)) (Keeps.ite (keeps_ctCapture hk) hk)))) (Keeps.ite (keeps_ctCapture (Keeps.ite
      (keeps_ctCapture hk) hk)) (Keeps.ite (keeps_ctCapture (Keeps.ite (keeps_ctCapture hk) hk)) (Keeps.ite (keeps_ctCapture hk)
      hk)))

theorem keeps_stepOwn {e : Tbl EdgeRes} {b : Nat} (hk : Keeps s₀ s) : Keeps s₀ (stepOwn e s b) := by
  unfold stepOwn
  exact Keeps.ite (keeps_chainClear (Keeps.ite (keeps_modCt hk) hk)) (Keeps.ite (keeps_modCt hk) hk)

theorem keeps_stepLink {e : Tbl EdgeRes} {b : Nat} (hk : Keeps s₀ s) : Keeps s₀ (stepLink e s b) := by
  unfold stepLink
  try dsimp only
  split
  · exact hk
  · exact Keeps.ite (keeps_modCt hk) hk

theorem keeps_edgeTakes {src capEv : Nat → Bool} (hk : Keeps s₀ s) : Keeps s₀ (edgeTakes s src capEv) := keeps_foldl (fun _ _ =>
    keeps_stepLink) (keeps_foldl (fun _ _ => keeps_modCt) (keeps_foldl (fun _ _ => keeps_stepOwn) (keeps_foldl (fun _ _ =>
    keeps_stepCapture) (keeps_edgeMatch (keeps_foldlP (fun _ _ h => Keeps.iteP (keeps_chainAdvance h) h) hk))))) 

theorem keeps_edgeBegins (hk : Keeps s₀ s) : Keeps s₀ (edgeBegins s) := by
  unfold edgeBegins
  exact keeps_countParks (keeps_foldl (fun _ _ h1 => keeps_stepActs h1) (keeps_foldl (fun _ _ h2 => keeps_stepWrites h2) hk))

theorem keeps_countEdge {src capEv : Nat → Bool} (hk : Keeps s₀ s) : Keeps s₀ (countEdge s src capEv) := keeps_countParks
    (keeps_edgeTakes (keeps_edgeBegins hk)) 

theorem keeps_pulsePrescale {l : List Nat} (hk : Keeps s₀ s) : Keeps s₀ (pulsePrescale s l).1 := by
  unfold pulsePrescale
  exact keeps_foldlP (fun _ _ h1 => Keeps.iteP h1 (Keeps.iteP (keeps_setCt h1) (keeps_setCt h1))) hk

theorem keeps_capDivide {l : List Nat} (hk : Keeps s₀ s) : Keeps s₀ (capDivide s l).1 := by
  unfold capDivide
  exact keeps_foldlP (fun _ _ h1 => Keeps.iteP (keeps_setCt h1) (keeps_setCt h1)) hk

theorem keeps_execPulseEdgeQualified {u : Fin 96} {rise : Bool} (hk : Keeps s₀ s) (ht : execPulseEdgeQualified u rise s = .next
    t) : Keeps s₀ t := by
  obtain rfl := Host.Outcome.next.inj ht
  exact Keeps.ite hk (keeps_countEdge (keeps_capDivide (keeps_pulsePrescale hk)))

theorem keeps_execCounterAdvance {n : Fin 16} (hk : Keeps s₀ s) (ht : execCounterAdvance n s = .next t) : Keeps s₀ t := by
  obtain rfl := Host.Outcome.next.inj ht
  refine Keeps.ite hk ?_
  split
  · next h => exact keeps_countParks (keeps_edgeTakes (keeps_clkEvent (keeps_edgeBegins hk) h))
  · exact hk

theorem keeps_execLinkedAction {n : Fin 16} (hk : Keeps s₀ s) (ht : execLinkedAction n s = .next t) : Keeps s₀ t := by
  obtain rfl := Host.Outcome.next.inj ht
  exact Keeps.ite (keeps_countEdge hk) hk

theorem keeps_execCaptureEdge {n : Fin 16} (hk : Keeps s₀ s) (ht : execCaptureEdge n s = .next t) : Keeps s₀ t := by
  obtain rfl := Host.Outcome.next.inj ht
  exact Keeps.ite hk (keeps_countEdge (keeps_capDivide hk))

theorem keeps_sendRecord {x : Nat} {v : BitVec 16} {tick : Nat} {p : Pay} (hk : Keeps s₀ s) : Keeps s₀ (sendRecord s x v tick p)
    := by
  unfold sendRecord
  exact Keeps.upd (x := s) hk rfl rfl ⟨rfl, rfl⟩

theorem keeps_sendMembers {s₀ : State} {b : Nat} {e : CtCap} {l : List (BitVec 16)} :
    ∀ {s : State} {i : Nat}, Keeps s₀ s → Keeps s₀ (sendMembers b e s i l) := by
  induction l with
  | nil => exact id
  | cons v l ih => exact fun hk => ih (keeps_sendRecord (keeps_modCt hk))

theorem keeps_queueSend {n : Nat} (hk : Keeps s₀ s) : Keeps s₀ (queueSend s n) := by
  unfold queueSend
  try dsimp only
  split
  · exact hk
  · exact keeps_sendMembers (keeps_modCt hk)

theorem keeps_queuesDrain {s₀ : State} {n : Nat} : ∀ {s : State}, Keeps s₀ s → Keeps s₀ (queuesDrain n s) := by
  induction n with
  | zero => exact id
  | succ n ih =>
    intro s hk
    unfold queuesDrain
    split
    · exact Keeps.ite (ih (keeps_queueSend hk)) hk
    · exact hk

theorem keeps_execCaptureRecordSend (hk : Keeps s₀ s) (ht : execCaptureRecordSend s = .next t) : Keeps s₀ t := by
  obtain rfl := Host.Outcome.next.inj ht
  refine Keeps.ite ?_ ?_
  · exact hk
  · try dsimp only
    split
    · exact hk
    · exact keeps_queueSend hk

theorem keeps_sampleSend {n : Nat} (hk : Keeps s₀ s) : Keeps s₀ (sampleSend s n) := by
  unfold sampleSend
  exact keeps_sendMembers (keeps_setCt hk)

theorem keeps_epochSend {n : Nat} (hk : Keeps s₀ s) : Keeps s₀ (epochSend s n) := by
  unfold epochSend
  try dsimp only
  split
  · exact keeps_sendMembers (keeps_modCt hk)
  · exact Keeps.ite (keeps_sampleSend hk) hk

theorem keeps_epochSends {n : Nat} (hk : Keeps s₀ s) : Keeps s₀ (epochSends s n) := by
  unfold epochSends
  exact keeps_foldl (fun _ _ h1 => keeps_epochSend h1) (keeps_queuesDrain (keeps_edgeBegins hk))

theorem keeps_execSampleRecord {n : Fin 16} (hk : Keeps s₀ s) (ht : execSampleRecord n s = .next t) : Keeps s₀ t := by
  obtain rfl := Host.Outcome.next.inj ht
  exact Keeps.ite (keeps_epochSends hk) hk

theorem keeps_execFilteredRecord {n : Fin 16} (hk : Keeps s₀ s) (ht : execFilteredRecord n s = .next t) : Keeps s₀ t := by
  obtain rfl := Host.Outcome.next.inj ht
  exact Keeps.ite (keeps_epochSends hk) hk

theorem keeps_execCompareWriteEffect {n : Fin 16} (hk : Keeps s₀ s) (ht : execCompareWriteEffect n s = .next t) : Keeps s₀ t :=
    by
  obtain rfl := Host.Outcome.next.inj ht
  refine Keeps.ite ?_ ?_
  · exact hk
  · try dsimp only
    split
    · exact keeps_countParks (keeps_writesWhere hk)
    · exact hk

theorem keeps_execCounterClear {n : Fin 16} (hk : Keeps s₀ s) (ht : execCounterClear n s = .next t) : Keeps s₀ t := by
  obtain rfl := Host.Outcome.next.inj ht
  exact Keeps.ite hk (keeps_chainClear (keeps_countParks (keeps_writesWhere hk)))

theorem keeps_ctWrite {n : Nat} {w : CtWrite} (hk : Keeps s₀ s) : Keeps s₀ (ctWrite s n w) := by
  unfold ctWrite
  exact keeps_modCt hk

theorem keeps_ctLine (hk : Keeps s₀ s) : Keeps s₀ (ctLine s) := by
  unfold ctLine
  exact Keeps.upd hk rfl rfl

theorem keeps_execCntCmpWrite {n : Fin 16} {v : Word} (hk : Keeps s₀ s) (ht : execCntCmpWrite n v s = .next t) : Keeps s₀ t :=
    by
  obtain rfl := Host.Outcome.next.inj ht
  exact Keeps.ite (keeps_ctWrite (keeps_ctLine hk)) hk

theorem keeps_capLatch {n : Nat} (hk : Keeps s₀ s) : Keeps s₀ (capLatch s n) := by
  unfold capLatch
  exact keeps_modCt hk

theorem keeps_execCaptureTickLatch {n : Fin 16} (hk : Keeps s₀ s) (ht : execCaptureTickLatch n s = .next t) : Keeps s₀ t := by
  obtain rfl := Host.Outcome.next.inj ht
  exact Keeps.ite (keeps_capLatch hk) hk

theorem keeps_execCntClr {v : Word} (hk : Keeps s₀ s) (ht : execCntClr v s = .next t) : Keeps s₀ t := by
  obtain rfl := Host.Outcome.next.inj ht
  exact Keeps.ite (Keeps.upd hk rfl rfl) hk

theorem keeps_filtTake {n : Nat} (hk : Keeps s₀ s) : Keeps s₀ (filtTake s n) := by
  unfold filtTake
  exact keeps_modCt hk

theorem keeps_countBoundary (hk : Keeps s₀ s) : Keeps s₀ (countBoundary s) := by
  unfold countBoundary
  exact Keeps.ite hk (keeps_foldl (fun _ _ h3 => keeps_filtTake h3) (keeps_countParks (Keeps.ite (keeps_countEdge (keeps_foldl
      (fun _ _ h4 => keeps_stepWrites h4) hk)) (keeps_foldl (fun _ _ h5 => keeps_stepWrites h5) hk))))

theorem keeps_countStart (hk : Keeps s₀ s) : Keeps s₀ (countStart s) := by
  unfold countStart
  exact keeps_foldl (fun _ _ h1 => Keeps.ite (keeps_modCt h1) h1) hk

theorem keeps_ctAfter {old : State} {n : Nat} (hk : Keeps s₀ s) : Keeps s₀ (ctAfter old s n) := by
  unfold ctAfter
  exact Keeps.ite (Keeps.ite (keeps_chainClear (keeps_modCt hk)) hk) (keeps_ctWrite (Keeps.ite (keeps_chainClear (keeps_modCt
      hk)) hk))

theorem keeps_ctsAfter {old : State} (hk : Keeps s₀ s) : Keeps s₀ (ctsAfter old s) := by
  unfold ctsAfter
  exact keeps_countParks (keeps_foldl (fun _ _ h1 => keeps_ctAfter h1) hk)

theorem keeps_chainJump {s₀ : State} {l : List Nat} : ∀ {s : State} {k : Nat}, Keeps s₀ s → Keeps s₀ (chainJump l s k) := by
  induction l with
  | nil => exact id
  | cons n l ih => exact fun hk => ih (keeps_setCt hk)

theorem keeps_makeUp {t : Nat} {b : Nat} (hk : Keeps s₀ s) : Keeps s₀ (makeUp t s b) := by
  unfold makeUp
  exact Keeps.ite hk (keeps_notify (keeps_chainJump (keeps_setCt hk)))

theorem keeps_countSleep (hk : Keeps s₀ s) : Keeps s₀ (countSleep s) := by
  unfold countSleep
  exact keeps_countParks (Keeps.upd hk rfl rfl)

theorem keeps_countWake (hk : Keeps s₀ s) : Keeps s₀ (countWake s) := by
  unfold countWake
  exact keeps_foldl (fun _ _ h1 => keeps_makeUp h1) hk

theorem keeps_setFeed {s₀ s : State} {f : Nat} {x : Feed} (hk : Keeps s₀ s)
    (hc : x.closed = true → (feedOf s f).closed = true := by first | exact id | exact nofun) : Keeps s₀ (setFeed s f x) := by
  refine hk.feedsUpd fun g h => ?_
  by_cases e : g = f
  · subst e
    exact hc (by simpa [tget_tset_self] using h)
  · simpa [tget_tset_ne _ _ _ e] using h

theorem keeps_setPort {p : Nat} {x : Port} (hk : Keeps s₀ s) : Keeps s₀ (setPort s p x) := by
  unfold setPort
  exact Keeps.upd hk rfl rfl

theorem keeps_setDr {d : Nat} {x : Dr} (hk : Keeps s₀ s) : Keeps s₀ (setDr s d x) := by
  unfold setDr
  exact Keeps.upd hk rfl rfl

theorem keeps_modDr {d : Nat} {f : Dr → Dr} (hk : Keeps s₀ s) : Keeps s₀ (modDr s d f) := by
  unfold modDr
  exact keeps_setDr hk

theorem keeps_writeRec {d : Nat} {moving : Bool} (hk : Keeps s₀ s) : Keeps s₀ (writeRec s d moving) := by
  unfold writeRec
  exact keeps_modDr hk

theorem keeps_travelBegins {d : Nat} {dir : Bool} (hk : Keeps s₀ s) : Keeps s₀ (travelBegins s d dir) := by
  unfold travelBegins
  exact keeps_writeRec (keeps_modDr hk)

theorem keeps_travelFreezes {d : Nat} (hk : Keeps s₀ s) : Keeps s₀ (travelFreezes s d) := by
  unfold travelFreezes
  exact Keeps.ite hk (keeps_writeRec (keeps_modDr hk))

theorem keeps_feedOpens {f : Nat} (hk : Keeps s₀ s) : Keeps s₀ (feedOpens s f) := by
  unfold feedOpens
  refine Keeps.ite ?_ ?_
  · exact keeps_setFeed hk
  · try dsimp only
    split
    · exact Keeps.ite (Keeps.ite (Keeps.upd (keeps_setFeed hk) rfl rfl) (keeps_setFeed hk)) (keeps_travelFreezes (Keeps.ite
          (Keeps.upd (keeps_setFeed hk) rfl rfl) (keeps_setFeed hk)))
    · exact Keeps.ite (Keeps.upd (keeps_setFeed hk) rfl rfl) (keeps_setFeed hk)

theorem keeps_feedCommand {f : Nat} {t : Nat} (hk : Keeps s₀ s) : Keeps s₀ (feedCommand s f t) := by
  unfold feedCommand
  exact keeps_setFeed hk

theorem keeps_execFeedCloseCommand {f : Fin 8} (hk : Keeps s₀ s) (ht : execFeedCloseCommand f s = .next t) : Keeps s₀ t := by
  obtain rfl := Host.Outcome.next.inj ht
  exact Keeps.ite (keeps_feedCommand hk) hk

theorem keeps_feedStop {f : Nat} (hk : Keeps s₀ s) : Keeps s₀ (feedStop s f) := by
  unfold feedStop
  exact keeps_setFeed hk

theorem keeps_execFeedOpen {f : Fin 8} (hk : Keeps s₀ s) (ht : execFeedOpen f s = .next t) : Keeps s₀ t := by
  obtain rfl := Host.Outcome.next.inj ht
  exact Keeps.ite (keeps_feedOpens hk) hk

theorem keeps_execFeedOpenTimeout {f : Fin 8} (hk : Keeps s₀ s) (ht : execFeedOpenTimeout f s = .next t) : Keeps s₀ t := by
  obtain rfl := Host.Outcome.next.inj ht
  exact keeps_atTick hk (fun _ h1 => keeps_feedOpens h1)

theorem keeps_portGo {p : Nat} {dir : Bool} (hk : Keeps s₀ s) : Keeps s₀ (portGo s p dir) := by
  unfold portGo
  try dsimp only
  split
  · exact hk
  · exact keeps_travelBegins (keeps_setPort hk)

theorem keeps_portStart {p : Nat} {dir : Bool} (hk : Keeps s₀ s) : Keeps s₀ (portStart s p dir) := by
  unfold portStart
  exact Keeps.ite hk (Keeps.ite (keeps_setPort hk) (keeps_portGo hk))

theorem keeps_portStop {p : Nat} (hk : Keeps s₀ s) : Keeps s₀ (portStop s p) := by
  unfold portStop
  try dsimp only
  split
  · exact Keeps.ite (keeps_travelFreezes (keeps_setPort hk)) (keeps_setPort hk)
  · exact keeps_setPort hk

theorem keeps_gatesOff {p : Nat} (hk : Keeps s₀ s) : Keeps s₀ (gatesOff s p) := by
  unfold gatesOff
  exact keeps_setPort (keeps_portStop hk)

theorem keeps_portsLow (hk : Keeps s₀ s) : Keeps s₀ (portsLow s) := by
  unfold portsLow
  exact keeps_foldl (fun _ _ h1 => keeps_gatesOff h1) hk

theorem keeps_execDeadTimeEnd {o : DeadOut} (hk : Keeps s₀ s) (ht : execDeadTimeEnd o s = .next t) : Keeps s₀ t := by
  obtain rfl := Host.Outcome.next.inj ht
  try dsimp only
  split
  · exact keeps_atTick hk (fun _ h1 => Keeps.upd h1 rfl rfl)
  · refine keeps_atTick ?_ (fun _ h2 => ?_)
    · exact hk
    · try dsimp only
      split
      · exact keeps_portGo (keeps_setPort h2)
      · exact keeps_setPort h2

theorem keeps_execRampEnd {p : Fin 4} (hk : Keeps s₀ s) (ht : execRampEnd p s = .next t) : Keeps s₀ t := by
  obtain rfl := Host.Outcome.next.inj ht
  exact keeps_atTick hk (fun _ h1 => keeps_setPort h1)

theorem keeps_feedTrips {f : Nat} (hk : Keeps s₀ s) : Keeps s₀ (feedTrips s f) := by
  unfold feedTrips
  exact keeps_arrive (Keeps.ite (keeps_feedOpens (keeps_setFeed (keeps_feedOpens hk))) (keeps_setFeed (keeps_feedOpens hk)))

theorem keeps_execFeedTrip {f : Fin 8} {ma : Nat} (hk : Keeps s₀ s) (ht : execFeedTrip f ma s = .next t) : Keeps s₀ t := by
  obtain rfl := Host.Outcome.next.inj ht
  exact Keeps.ite (keeps_feedTrips hk) hk

theorem keeps_portTrips {p : Nat} (hk : Keeps s₀ s) : Keeps s₀ (portTrips s p) := by
  unfold portTrips
  exact keeps_arrive (keeps_setPort (keeps_gatesOff hk))

theorem keeps_execPortTrip {p : Fin 4} {mv : ℤ} (hk : Keeps s₀ s) (ht : execPortTrip p mv s = .next t) : Keeps s₀ t := by
  obtain rfl := Host.Outcome.next.inj ht
  exact Keeps.ite (keeps_portTrips hk) hk

theorem keeps_latchClears {o : TripOut} (hk : Keeps s₀ s) : Keeps s₀ (latchClears s o) := by
  unfold latchClears
  refine keeps_notify ?_
  try dsimp only
  split
  · exact keeps_setFeed hk
  · exact keeps_setPort hk

theorem keeps_execTripLatchClear {o : TripOut} (hk : Keeps s₀ s) (ht : execTripLatchClear o s = .next t) : Keeps s₀ t := by
  obtain rfl := Host.Outcome.next.inj ht
  exact keeps_atTick hk (fun _ h1 => keeps_latchClears h1)

theorem keeps_limitWrite {o : TripOut} {v : Nat} (hk : Keeps s₀ s) : Keeps s₀ (limitWrite s o v) := by
  unfold limitWrite
  try dsimp only
  split
  · exact Keeps.ite (keeps_setFeed hk) hk
  · exact Keeps.ite (keeps_setPort hk) hk

theorem keeps_execSnufferLimitWrite {o : TripOut} {v : Word} (hk : Keeps s₀ s) (ht : execSnufferLimitWrite o v s = .next t) :
    Keeps s₀ t := by
  obtain rfl := Host.Outcome.next.inj ht
  exact keeps_limitWrite hk

theorem keeps_limitsTake (hk : Keeps s₀ s) : Keeps s₀ (limitsTake s) := by
  refine hk.feedsUpd fun f h => ?_
  dsimp only at h
  rw [tget_map {} (fun x : Feed => { x with lim := x.limNext.getD x.lim, limNext := none }) rfl] at h
  exact h

theorem keeps_barrierHeartbeat (hk : Keeps s₀ s) : Keeps s₀ (barrierHeartbeat s) := by
  unfold barrierHeartbeat
  exact Keeps.ite (keeps_foldl (fun _ _ h5 => keeps_arrive (keeps_setFeed h5)) (Keeps.upd hk rfl rfl)) (keeps_arrive
      (keeps_foldl (fun _ _ h6 => keeps_arrive (keeps_setFeed h6)) (Keeps.upd hk rfl rfl)))

theorem keeps_execBarrierHeartbeat (hk : Keeps s₀ s) (ht : execBarrierHeartbeat s = .next t) : Keeps s₀ t := by
  obtain rfl := Host.Outcome.next.inj ht
  exact Keeps.ite (keeps_barrierHeartbeat hk) hk

theorem keeps_lineSilent (hk : Keeps s₀ s) : Keeps s₀ (lineSilent s) := by
  unfold lineSilent
  exact keeps_foldl (fun _ _ h1 => keeps_feedStop h1) (Keeps.upd hk rfl rfl)

theorem keeps_execHeartbeatLoss (hk : Keeps s₀ s) (ht : execHeartbeatLoss s = .next t) : Keeps s₀ t := by
  obtain rfl := Host.Outcome.next.inj ht
  exact Keeps.ite (keeps_atTick hk (fun _ h1 => keeps_lineSilent h1)) hk

theorem keeps_linkLost (hk : Keeps s₀ s) : Keeps s₀ (linkLost s) := by
  unfold linkLost
  exact keeps_icCut (keeps_arrive (Keeps.upd (keeps_foldl (fun _ _ h4 => Keeps.ite (keeps_modDr h4) h4) hk) rfl rfl))

theorem keeps_execBarrierLinkLost (hk : Keeps s₀ s) (ht : execBarrierLinkLost s = .next t) : Keeps s₀ t := by
  obtain rfl := Host.Outcome.next.inj ht
  exact Keeps.ite (keeps_atTick hk (fun _ h1 => keeps_linkLost h1)) hk

theorem keeps_linkBack (hk : Keeps s₀ s) : Keeps s₀ (linkBack s) := by
  unfold linkBack
  exact keeps_notifyLate (keeps_arrive (keeps_foldl (fun _ _ h3 => keeps_feedStop h3) (Keeps.upd hk rfl rfl)))

theorem keeps_execMotClr {v : Word} (hk : Keeps s₀ s) (ht : execMotClr v s = .next t) : Keeps s₀ t := by
  obtain rfl := Host.Outcome.next.inj ht
  exact Keeps.ite (Keeps.upd hk rfl rfl) hk

theorem keeps_execLineClr {v : Word} (hk : Keeps s₀ s) (ht : execLineClr v s = .next t) : Keeps s₀ t := by
  obtain rfl := Host.Outcome.next.inj ht
  refine Keeps.ite (hk.feedsUpd fun f h => ?_) hk
  dsimp only at h
  rw [tget_map {} (fun x : Feed => { x with trips := 0 }) rfl] at h
  exact h

theorem keeps_driveStop {d : Nat} (hk : Keeps s₀ s) : Keeps s₀ (driveStop s d) := by
  unfold driveStop
  exact Keeps.ite (keeps_travelFreezes hk) (Keeps.ite (keeps_feedStop (keeps_feedStop hk)) (Keeps.ite (keeps_feedStop hk)
      (Keeps.ite (keeps_portStop hk) (Keeps.ite (Keeps.ite (keeps_modDr (keeps_travelFreezes (keeps_foldl (fun _ _ h4 =>
      keeps_setOd h4) hk))) (keeps_travelFreezes (keeps_foldl (fun _ _ h5 => keeps_setOd h5) hk))) hk))))

theorem keeps_outputsOff (hk : Keeps s₀ s) : Keeps s₀ (outputsOff s) := by
  unfold outputsOff
  exact keeps_foldl (fun _ _ h3 => Keeps.ite (keeps_driveStop h3) h3) (keeps_foldl (fun _ _ h4 => keeps_portStop h4)
      (keeps_foldl (fun _ _ h5 => keeps_feedStop h5) hk))

theorem keeps_loopBlock {l : Nat} {d : Nat} {on : Bool} (hk : Keeps s₀ s) : Keeps s₀ (loopBlock s l d on) := by
  unfold loopBlock
  exact Keeps.upd hk rfl rfl

theorem keeps_orderResult {d : Nat} {o : Order} {ok : Bool} {body : String} (hk : Keeps s₀ s) : Keeps s₀ (orderResult s d o ok
    body) := by
  unfold orderResult
  try dsimp only
  split
  · refine Keeps.upd ?_ rfl rfl
    try dsimp only
    split
    · exact Keeps.upd (Keeps.ite (keeps_loopBlock hk) hk) rfl rfl
    · exact Keeps.ite (keeps_loopBlock hk) hk
  · try dsimp only
    split
    · exact Keeps.upd (Keeps.ite (keeps_loopBlock hk) hk) rfl rfl
    · exact Keeps.ite (keeps_loopBlock hk) hk

theorem keeps_reportResult {r : DrvRes} (hk : Keeps s₀ s) : Keeps s₀ (reportResult s r) := by
  unfold reportResult
  try dsimp only
  split
  · exact hk
  · try dsimp only
    split
    · exact keeps_finish hk
    · exact Keeps.ite (keeps_finish (keeps_more (keeps_setWork hk))) (keeps_more (keeps_setWork hk))
    · exact Keeps.ite (keeps_setWork (keeps_queueStore hk)) (keeps_finish hk)
    · exact hk

theorem keeps_driveResults (hk : Keeps s₀ s) : Keeps s₀ (driveResults s) := by
  unfold driveResults
  exact keeps_foldl (fun _ _ h2 => keeps_reportResult h2) (Keeps.upd hk rfl rfl)

theorem keeps_placeOrder {d : Nat} {o : Order} (hk : Keeps s₀ s) : Keeps s₀ (placeOrder s d o) := by
  unfold placeOrder
  exact Keeps.upd (keeps_modDr hk) rfl rfl

theorem keeps_holdPlace {d : Nat} {rank : Nat} {ticks : Nat} (hk : Keeps s₀ s) : Keeps s₀ (holdPlace s d rank ticks) := by
  unfold holdPlace
  exact keeps_notifyLate (keeps_modDr hk)

theorem keeps_holdEnd {d : Nat} {reason : String} (hk : Keeps s₀ s) : Keeps s₀ (holdEnd s d reason) := by
  unfold holdEnd
  exact Keeps.ite hk (keeps_notifyLate (keeps_modDr hk))

theorem keeps_holdsRelease {ds : List Nat} {rank : Nat} (hk : Keeps s₀ s) : Keeps s₀ (holdsRelease s ds rank) := by
  unfold holdsRelease
  refine keeps_foldl (fun _ _ h1 => ?_) ?_
  · try dsimp only
    split
    · exact Keeps.ite (keeps_holdEnd h1) (Keeps.ite (keeps_holdEnd h1) h1)
    · exact h1
  · exact hk

theorem keeps_execHoldExpiry {d : Fin 32} (hk : Keeps s₀ s) (ht : execHoldExpiry d s = .next t) : Keeps s₀ t := by
  obtain rfl := Host.Outcome.next.inj ht
  exact Keeps.ite hk (keeps_atTick hk (fun _ h1 => keeps_holdEnd h1))

theorem keeps_driveHalt {d : Nat} (hk : Keeps s₀ s) : Keeps s₀ (driveHalt s d) := by
  unfold driveHalt
  exact Keeps.ite (keeps_modDr (Keeps.ite (keeps_withdrawPost hk) hk)) (keeps_driveStop (keeps_modDr (Keeps.ite
      (keeps_withdrawPost hk) hk)))

theorem keeps_setProt {p : Nat} {x : ProtSt} (hk : Keeps s₀ s) : Keeps s₀ (setProt s p x) := by
  unfold setProt
  exact Keeps.upd hk rfl rfl

theorem keeps_standingAgain {d : Nat} {o : Order} (hk : Keeps s₀ s) : Keeps s₀ (standingAgain s d o) := by
  unfold standingAgain
  try dsimp only
  split
  · exact keeps_setProt hk
  · exact hk

theorem keeps_orderDone {d : Nat} {o : Order} (hk : Keeps s₀ s) : Keeps s₀ (orderDone s d o) := by
  unfold orderDone
  exact keeps_orderResult (keeps_modDr hk)

theorem keeps_orderFail {d : Nat} {o : Order} {body : String} {again : Bool} (hk : Keeps s₀ s) : Keeps s₀ (orderFail s d o body
    again) := by
  unfold orderFail
  exact keeps_orderResult (Keeps.ite (keeps_standingAgain (keeps_modDr (Keeps.ite (keeps_driveHalt hk) hk))) (keeps_modDr
      (Keeps.ite (keeps_driveHalt hk) hk)))

theorem keeps_driveCause {d : Nat} {place : Nat} {body : String} (hk : Keeps s₀ s) : Keeps s₀ (driveCause s d place body) := by
  unfold driveCause
  exact keeps_modDr hk

theorem keeps_legWrite {d : Nat} (hk : Keeps s₀ s) : Keeps s₀ (legWrite s d) := by
  unfold legWrite
  try dsimp only
  split
  · exact hk
  · exact Keeps.ite (keeps_modDr (Keeps.ite hk (keeps_setV10 hk))) (Keeps.ite (keeps_travelBegins hk) (Keeps.ite
        (keeps_feedCommand (keeps_modDr hk)) (Keeps.ite (keeps_feedCommand (keeps_modDr hk)) (Keeps.ite (keeps_portStart
        (keeps_modDr hk)) (Keeps.ite (keeps_modDr hk) (keeps_travelBegins (keeps_setOd hk)))))))

theorem keeps_legStart {d : Nat} (hk : Keeps s₀ s) : Keeps s₀ (legStart s d) := by
  unfold legStart
  exact Keeps.ite (keeps_modDr hk) (keeps_legWrite hk)

theorem keeps_legAsk {d : Nat} {o : Order} (hk : Keeps s₀ s) : Keeps s₀ (legAsk s d o) := by
  unfold legAsk
  try dsimp only
  split
  · exact keeps_askLeave (keeps_modDr hk)
  · exact hk

theorem keeps_learnDone {d : Nat} {o : Order} (hk : Keeps s₀ s) : Keeps s₀ (learnDone s d o) := by
  unfold learnDone
  exact keeps_orderResult (keeps_modDr hk)

theorem keeps_legsFrom {s₀ : State} {d : Nat} {o : Order} {l : List Leg} :
    ∀ {s : State}, Keeps s₀ s → Keeps s₀ (legsFrom d o l s) := by
  induction l with
  | nil => exact fun hk => Keeps.ite (keeps_learnDone hk) (keeps_orderDone hk)
  | cons l rest ih =>
    intro s hk
    unfold legsFrom
    refine Keeps.ite (ih hk) (Keeps.ite (keeps_legStart (keeps_modDr hk)) (Keeps.ite (keeps_driveHalt (keeps_modDr (keeps_modDr hk))) ?_))
    split
    · exact keeps_orderFail (keeps_modDr hk)
    · exact keeps_legAsk (keeps_modDr hk)

theorem keeps_stopApply {d : Nat} (hk : Keeps s₀ s) : Keeps s₀ (stopApply s d) := by
  unfold stopApply
  exact keeps_modDr (Keeps.ite (keeps_driveHalt hk) hk)

theorem keeps_moveApply {d : Nat} {o : Order} (hk : Keeps s₀ s) : Keeps s₀ (moveApply s d o) := by
  unfold moveApply
  refine Keeps.ite ?_ ?_
  · exact keeps_orderFail hk
  · refine Keeps.ite ?_ ?_
    · exact keeps_orderFail hk
    · try dsimp only
      split
      · exact keeps_orderFail hk
      · exact Keeps.ite (keeps_orderFail hk) (Keeps.ite (keeps_modDr hk) (keeps_legsFrom (keeps_modDr (Keeps.ite
            (keeps_driveHalt hk) hk))))

theorem keeps_orderApply {d : Nat} {o : Order} (hk : Keeps s₀ s) : Keeps s₀ (orderApply s d o) := by
  unfold orderApply
  exact Keeps.ite (keeps_stopApply (Keeps.ite (keeps_holdPlace (Keeps.ite (keeps_loopBlock (keeps_modDr hk)) (keeps_modDr hk)))
      (Keeps.ite (keeps_loopBlock (keeps_modDr hk)) (keeps_modDr hk)))) (keeps_moveApply (Keeps.ite (keeps_holdPlace (Keeps.ite
      (keeps_loopBlock (keeps_modDr hk)) (keeps_modDr hk))) (Keeps.ite (keeps_loopBlock (keeps_modDr hk)) (keeps_modDr hk))))

theorem keeps_auditLoses {d : Nat} {w : Order} {l : Order} (hk : Keeps s₀ s) : Keeps s₀ (auditLoses s d w l) := by
  unfold auditLoses
  exact Keeps.ite (keeps_auditAdd hk) hk

theorem keeps_orderLoses {d : Nat} {w : Order} {l : Order} (hk : Keeps s₀ s) : Keeps s₀ (orderLoses s d w l) := by
  unfold orderLoses
  exact keeps_auditLoses (keeps_orderResult (keeps_standingAgain hk))

theorem keeps_arbitrate {d : Nat} {due : List Order} (hk : Keeps s₀ s) : Keeps s₀ (arbitrate s d due) := by
  unfold arbitrate
  try dsimp only
  split
  · refine keeps_foldl (fun _ _ h2 => ?_) ?_
    · try dsimp only
      split
      · exact keeps_orderResult h2
      · exact h2
    · exact hk
  · try dsimp only
    split
    · refine keeps_orderApply ?_
      refine keeps_foldl (fun _ _ h5 => ?_) ?_
      · exact keeps_orderLoses h5
      · refine keeps_foldl (fun _ _ h6 => ?_) ?_
        · try dsimp only
          split
          · exact keeps_orderResult h6
          · exact h6
        · exact hk
    · refine Keeps.ite ?_ ?_
      · refine keeps_orderApply ?_
        refine keeps_foldl (fun _ _ h7 => ?_) ?_
        · exact keeps_orderLoses h7
        · refine keeps_foldl (fun _ _ h8 => ?_) ?_
          · try dsimp only
            split
            · exact keeps_orderResult h8
            · exact h8
          · exact hk
      · refine keeps_foldl (fun _ _ h9 => ?_) ?_
        · exact keeps_orderLoses h9
        · refine keeps_foldl (fun _ _ h10 => ?_) ?_
          · try dsimp only
            split
            · exact keeps_orderResult h10
            · exact h10
          · exact hk

theorem keeps_causeTakes {d : Nat} (hk : Keeps s₀ s) : Keeps s₀ (causeTakes s d) := by
  unfold causeTakes
  try dsimp only
  split
  · exact hk
  · refine Keeps.ite ?_ ?_
    · refine keeps_placeOrder ?_
      try dsimp only
      split
      · exact Keeps.ite (Keeps.ite (keeps_modDr (keeps_driveHalt (keeps_modDr hk))) (keeps_modDr hk)) (keeps_orderFail
            (Keeps.ite (keeps_modDr (keeps_driveHalt (keeps_modDr hk))) (keeps_modDr hk)))
      · exact Keeps.ite (keeps_modDr (keeps_driveHalt (keeps_modDr hk))) (keeps_modDr hk)
    · refine Keeps.ite ?_ ?_
      · refine keeps_placeOrder ?_
        try dsimp only
        split
        · exact Keeps.ite (Keeps.ite (keeps_modDr (keeps_driveHalt (keeps_modDr hk))) (keeps_modDr hk)) (keeps_orderFail
              (Keeps.ite (keeps_modDr (keeps_driveHalt (keeps_modDr hk))) (keeps_modDr hk)))
        · exact Keeps.ite (keeps_modDr (keeps_driveHalt (keeps_modDr hk))) (keeps_modDr hk)
      · try dsimp only
        split
        · exact Keeps.ite (Keeps.ite (keeps_modDr (keeps_driveHalt (keeps_modDr hk))) (keeps_modDr hk)) (keeps_orderFail
              (Keeps.ite (keeps_modDr (keeps_driveHalt (keeps_modDr hk))) (keeps_modDr hk)))
        · exact Keeps.ite (keeps_modDr (keeps_driveHalt (keeps_modDr hk))) (keeps_modDr hk)

theorem keeps_reversal {d : Nat} (hk : Keeps s₀ s) : Keeps s₀ (reversal s d) := by
  unfold reversal
  try dsimp only
  split
  · exact Keeps.ite (keeps_legsFrom (keeps_modDr (keeps_modDr hk))) (keeps_modDr hk)
  · exact keeps_modDr hk

theorem keeps_driveSettle {d : Nat} (hk : Keeps s₀ s) : Keeps s₀ (driveSettle s d) := by
  unfold driveSettle
  refine Keeps.ite ?_ ?_
  · try dsimp only
    split
    · exact keeps_legsFrom (keeps_modDr hk)
    · exact keeps_modDr hk
  · refine Keeps.ite ?_ ?_
    · try dsimp only
      split
      · exact Keeps.ite (keeps_orderDone (keeps_modDr hk)) (keeps_legsFrom (keeps_modDr hk))
      · exact keeps_modDr hk
    · exact hk

theorem keeps_driveDue {d : Nat} (hk : Keeps s₀ s) : Keeps s₀ (driveDue s d) := by
  unfold driveDue
  refine Keeps.ite ?_ ?_
  · refine keeps_legWrite ?_
    try dsimp only
    split
    · refine Keeps.ite ?_ ?_
      · refine keeps_legWrite ?_
        refine keeps_modDr ?_
        try dsimp only
        split
        · refine Keeps.ite ?_ ?_
          · refine keeps_modDr ?_
            refine keeps_travelFreezes ?_
            try dsimp only
            split
            · exact Keeps.ite (keeps_driveStop (keeps_modDr hk)) hk
            · exact hk
          · try dsimp only
            split
            · exact Keeps.ite (keeps_driveStop (keeps_modDr hk)) hk
            · exact hk
        · try dsimp only
          split
          · exact Keeps.ite (keeps_driveStop (keeps_modDr hk)) hk
          · exact hk
      · try dsimp only
        split
        · refine Keeps.ite ?_ ?_
          · refine keeps_modDr ?_
            refine keeps_travelFreezes ?_
            try dsimp only
            split
            · exact Keeps.ite (keeps_driveStop (keeps_modDr hk)) hk
            · exact hk
          · try dsimp only
            split
            · exact Keeps.ite (keeps_driveStop (keeps_modDr hk)) hk
            · exact hk
        · try dsimp only
          split
          · exact Keeps.ite (keeps_driveStop (keeps_modDr hk)) hk
          · exact hk
    · try dsimp only
      split
      · refine Keeps.ite ?_ ?_
        · refine keeps_modDr ?_
          refine keeps_travelFreezes ?_
          try dsimp only
          split
          · exact Keeps.ite (keeps_driveStop (keeps_modDr hk)) hk
          · exact hk
        · try dsimp only
          split
          · exact Keeps.ite (keeps_driveStop (keeps_modDr hk)) hk
          · exact hk
      · try dsimp only
        split
        · exact Keeps.ite (keeps_driveStop (keeps_modDr hk)) hk
        · exact hk
  · try dsimp only
    split
    · refine Keeps.ite ?_ ?_
      · refine keeps_legWrite ?_
        refine keeps_modDr ?_
        try dsimp only
        split
        · refine Keeps.ite ?_ ?_
          · refine keeps_modDr ?_
            refine keeps_travelFreezes ?_
            try dsimp only
            split
            · exact Keeps.ite (keeps_driveStop (keeps_modDr hk)) hk
            · exact hk
          · try dsimp only
            split
            · exact Keeps.ite (keeps_driveStop (keeps_modDr hk)) hk
            · exact hk
        · try dsimp only
          split
          · exact Keeps.ite (keeps_driveStop (keeps_modDr hk)) hk
          · exact hk
      · try dsimp only
        split
        · refine Keeps.ite ?_ ?_
          · refine keeps_modDr ?_
            refine keeps_travelFreezes ?_
            try dsimp only
            split
            · exact Keeps.ite (keeps_driveStop (keeps_modDr hk)) hk
            · exact hk
          · try dsimp only
            split
            · exact Keeps.ite (keeps_driveStop (keeps_modDr hk)) hk
            · exact hk
        · try dsimp only
          split
          · exact Keeps.ite (keeps_driveStop (keeps_modDr hk)) hk
          · exact hk
    · try dsimp only
      split
      · refine Keeps.ite ?_ ?_
        · refine keeps_modDr ?_
          refine keeps_travelFreezes ?_
          try dsimp only
          split
          · exact Keeps.ite (keeps_driveStop (keeps_modDr hk)) hk
          · exact hk
        · try dsimp only
          split
          · exact Keeps.ite (keeps_driveStop (keeps_modDr hk)) hk
          · exact hk
      · try dsimp only
        split
        · exact Keeps.ite (keeps_driveStop (keeps_modDr hk)) hk
        · exact hk

theorem keeps_driveXing {d : Nat} (hk : Keeps s₀ s) : Keeps s₀ (driveXing s d) := by
  unfold driveXing
  exact Keeps.ite (keeps_driveCause (keeps_modDr hk)) hk

theorem keeps_driveTurn {d : Nat} (hk : Keeps s₀ s) : Keeps s₀ (driveTurn s d) := by
  unfold driveTurn
  refine keeps_driveSettle ?_
  refine keeps_reversal ?_
  refine keeps_arbitrate ?_
  refine keeps_modDr ?_
  refine keeps_causeTakes ?_
  refine keeps_driveXing ?_
  refine keeps_driveDue ?_
  try dsimp only
  split
  · exact Keeps.ite (keeps_holdEnd hk) hk
  · exact hk

theorem keeps_driveNow {d : Nat} (hk : Keeps s₀ s) : Keeps s₀ (driveNow s d) := by
  unfold driveNow
  exact Keeps.ite (keeps_driveTurn hk) hk

theorem keeps_protLapses {p : Nat} (hk : Keeps s₀ s) : Keeps s₀ (protLapses s p) := by
  unfold protLapses
  refine keeps_foldl (fun _ _ h1 => ?_) ?_
  · try dsimp only
    split
    · exact Keeps.ite (keeps_modDr (Keeps.ite (keeps_driveHalt (keeps_modDr h1)) (keeps_modDr h1))) (keeps_modDr h1)
    · exact keeps_modDr h1
  · exact hk

theorem keeps_protState {p : Nat} {n : Nat} (hk : Keeps s₀ s) : Keeps s₀ (protState s p n) := by
  unfold protState
  exact Keeps.ite hk (Keeps.ite (keeps_protLapses (keeps_notifyLate (keeps_setProt hk))) (keeps_jrnTrigger (keeps_notifyLate
      (keeps_setProt hk))))

theorem keeps_protDeliver {r : Rec} {p : Nat} (hk : Keeps s₀ s) : Keeps s₀ (protDeliver r s p) := by
  unfold protDeliver
  exact Keeps.ite hk (Keeps.ite (keeps_protState (keeps_setProt hk)) (Keeps.ite (keeps_protState (keeps_setProt (Keeps.ite
      (keeps_protState hk) hk))) (Keeps.ite (keeps_protState (keeps_setProt (Keeps.ite (keeps_protState hk) hk))) (keeps_setProt
      (Keeps.ite (keeps_protState hk) hk)))))

theorem keeps_execProtectionOnDelay {q : Prot} (hk : Keeps s₀ s) (ht : execProtectionOnDelay q s = .next t) : Keeps s₀ t := by
  obtain rfl := Host.Outcome.next.inj ht
  exact Keeps.ite hk (keeps_atTick hk (fun _ h1 => keeps_protState h1))

theorem keeps_execProtectionOffDelay {q : Prot} (hk : Keeps s₀ s) (ht : execProtectionOffDelay q s = .next t) : Keeps s₀ t := by
  obtain rfl := Host.Outcome.next.inj ht
  exact Keeps.ite hk (keeps_atTick hk (fun _ h1 => keeps_protState h1))

theorem keeps_protPlace {p : Nat} (hk : Keeps s₀ s) : Keeps s₀ (protPlace s p) := by
  unfold protPlace
  exact Keeps.ite (keeps_setProt hk) (keeps_setProt (keeps_foldl (fun _ _ h3 => Keeps.ite h3 (Keeps.ite (keeps_placeOrder
      (keeps_setProt h3)) h3)) hk))

theorem keeps_tripDeliver {o : TripOut} (hk : Keeps s₀ s) : Keeps s₀ (tripDeliver s o) := by
  unfold tripDeliver
  try dsimp only
  split
  · exact keeps_notify (keeps_driveCause (keeps_jrnTrigger hk))
  · exact keeps_notify (keeps_jrnTrigger hk)

theorem keeps_hotDeliver {m : Nat} (hk : Keeps s₀ s) : Keeps s₀ (hotDeliver s m) := by
  unfold hotDeliver
  exact Keeps.ite hk (keeps_foldl (fun _ _ h1 => Keeps.ite (keeps_driveCause h1) h1) hk)

theorem keeps_linkDeliver {r : Rec} (hk : Keeps s₀ s) : Keeps s₀ (linkDeliver s r) := by
  unfold linkDeliver
  exact Keeps.ite hk (Keeps.ite (Keeps.upd hk rfl rfl) (Keeps.ite hk (keeps_notify (keeps_jrnTrigger (Keeps.upd hk rfl rfl)))))

theorem keeps_linkActs (hk : Keeps s₀ s) : Keeps s₀ (linkActs s) := by
  unfold linkActs
  try dsimp only
  split
  · exact Keeps.ite (keeps_foldl (fun _ _ h1 => Keeps.ite (keeps_driveCause (keeps_modDr h1)) h1) (Keeps.upd hk rfl rfl)) hk
  · exact hk

theorem keeps_sagDeliver {r : Rec} {rms : Nat} {freq : Nat} {present : Bool} (hk : Keeps s₀ s) : Keeps s₀ (sagDeliver s r rms
    freq present) := by
  unfold sagDeliver
  exact Keeps.ite (Keeps.upd hk rfl rfl) (Keeps.upd hk rfl rfl)

theorem keeps_methodDeliver (hk : Keeps s₀ s) : Keeps s₀ (methodDeliver s) := by
  unfold methodDeliver
  exact Keeps.ite hk (Keeps.upd hk rfl rfl)

theorem keeps_endaDeliver {r : Rec} {d : Nat} (hk : Keeps s₀ s) : Keeps s₀ (endaDeliver r s d) := by
  unfold endaDeliver
  exact Keeps.ite (keeps_modDr hk) hk

theorem keeps_localCloses {d : Nat} {down : Bool} (hk : Keeps s₀ s) : Keeps s₀ (localCloses s d down) := by
  unfold localCloses
  exact Keeps.ite (keeps_placeOrder hk) (keeps_placeOrder hk)

theorem keeps_localDeliver {r : Rec} {d : Nat} (hk : Keeps s₀ s) : Keeps s₀ (localDeliver r s d) := by
  unfold localDeliver
  exact Keeps.ite (keeps_localCloses (keeps_modDr hk)) (Keeps.ite (keeps_localCloses (keeps_modDr hk)) (keeps_modDr hk))

theorem keeps_portDeliver {r : Rec} (hk : Keeps s₀ s) : Keeps s₀ (portDeliver s r) := by
  unfold portDeliver
  try dsimp only
  split
  · exact Keeps.upd hk rfl rfl
  · exact hk

theorem keeps_driveDeliver {r : Rec} (hk : Keeps s₀ s) : Keeps s₀ (driveDeliver s r) := by
  unfold driveDeliver
  refine Keeps.ite ?_ ?_
  · exact hk
  · refine Keeps.ite ?_ ?_
    · refine keeps_foldl (fun _ _ h6 => ?_) ?_
      · exact Keeps.ite (keeps_protDeliver h6) h6
      · refine Keeps.ite ?_ ?_
        · try dsimp only
          split
          · refine keeps_localDeliver ?_
            refine Keeps.ite ?_ ?_
            · refine keeps_foldl (fun _ _ h7 => ?_) ?_
              · exact keeps_endaDeliver h7
              · refine keeps_portDeliver ?_
                refine Keeps.ite ?_ ?_
                · refine keeps_methodDeliver ?_
                  try dsimp only
                  split
                  · exact keeps_tripDeliver hk
                  · exact Keeps.ite hk (keeps_sagDeliver hk)
                  · exact hk
                · try dsimp only
                  split
                  · exact keeps_tripDeliver hk
                  · exact Keeps.ite hk (keeps_sagDeliver hk)
                  · exact hk
            · refine keeps_portDeliver ?_
              refine Keeps.ite ?_ ?_
              · refine keeps_methodDeliver ?_
                try dsimp only
                split
                · exact keeps_tripDeliver hk
                · exact Keeps.ite hk (keeps_sagDeliver hk)
                · exact hk
              · try dsimp only
                split
                · exact keeps_tripDeliver hk
                · exact Keeps.ite hk (keeps_sagDeliver hk)
                · exact hk
          · refine Keeps.ite ?_ ?_
            · refine keeps_foldl (fun _ _ h8 => ?_) ?_
              · exact keeps_endaDeliver h8
              · refine keeps_portDeliver ?_
                refine Keeps.ite ?_ ?_
                · refine keeps_methodDeliver ?_
                  try dsimp only
                  split
                  · exact keeps_tripDeliver hk
                  · exact Keeps.ite hk (keeps_sagDeliver hk)
                  · exact hk
                · try dsimp only
                  split
                  · exact keeps_tripDeliver hk
                  · exact Keeps.ite hk (keeps_sagDeliver hk)
                  · exact hk
            · refine keeps_portDeliver ?_
              refine Keeps.ite ?_ ?_
              · refine keeps_methodDeliver ?_
                try dsimp only
                split
                · exact keeps_tripDeliver hk
                · exact Keeps.ite hk (keeps_sagDeliver hk)
                · exact hk
              · try dsimp only
                split
                · exact keeps_tripDeliver hk
                · exact Keeps.ite hk (keeps_sagDeliver hk)
                · exact hk
        · refine Keeps.ite ?_ ?_
          · refine keeps_foldl (fun _ _ h9 => ?_) ?_
            · exact keeps_endaDeliver h9
            · refine keeps_portDeliver ?_
              refine Keeps.ite ?_ ?_
              · refine keeps_methodDeliver ?_
                try dsimp only
                split
                · exact keeps_tripDeliver hk
                · exact Keeps.ite hk (keeps_sagDeliver hk)
                · exact hk
              · try dsimp only
                split
                · exact keeps_tripDeliver hk
                · exact Keeps.ite hk (keeps_sagDeliver hk)
                · exact hk
          · refine keeps_portDeliver ?_
            refine Keeps.ite ?_ ?_
            · refine keeps_methodDeliver ?_
              try dsimp only
              split
              · exact keeps_tripDeliver hk
              · exact Keeps.ite hk (keeps_sagDeliver hk)
              · exact hk
            · try dsimp only
              split
              · exact keeps_tripDeliver hk
              · exact Keeps.ite hk (keeps_sagDeliver hk)
              · exact hk
    · refine Keeps.ite ?_ ?_
      · try dsimp only
        split
        · refine keeps_localDeliver ?_
          refine Keeps.ite ?_ ?_
          · refine keeps_foldl (fun _ _ h10 => ?_) ?_
            · exact keeps_endaDeliver h10
            · refine keeps_portDeliver ?_
              refine Keeps.ite ?_ ?_
              · refine keeps_methodDeliver ?_
                try dsimp only
                split
                · exact keeps_tripDeliver hk
                · exact Keeps.ite hk (keeps_sagDeliver hk)
                · exact hk
              · try dsimp only
                split
                · exact keeps_tripDeliver hk
                · exact Keeps.ite hk (keeps_sagDeliver hk)
                · exact hk
          · refine keeps_portDeliver ?_
            refine Keeps.ite ?_ ?_
            · refine keeps_methodDeliver ?_
              try dsimp only
              split
              · exact keeps_tripDeliver hk
              · exact Keeps.ite hk (keeps_sagDeliver hk)
              · exact hk
            · try dsimp only
              split
              · exact keeps_tripDeliver hk
              · exact Keeps.ite hk (keeps_sagDeliver hk)
              · exact hk
        · refine Keeps.ite ?_ ?_
          · refine keeps_foldl (fun _ _ h11 => ?_) ?_
            · exact keeps_endaDeliver h11
            · refine keeps_portDeliver ?_
              refine Keeps.ite ?_ ?_
              · refine keeps_methodDeliver ?_
                try dsimp only
                split
                · exact keeps_tripDeliver hk
                · exact Keeps.ite hk (keeps_sagDeliver hk)
                · exact hk
              · try dsimp only
                split
                · exact keeps_tripDeliver hk
                · exact Keeps.ite hk (keeps_sagDeliver hk)
                · exact hk
          · refine keeps_portDeliver ?_
            refine Keeps.ite ?_ ?_
            · refine keeps_methodDeliver ?_
              try dsimp only
              split
              · exact keeps_tripDeliver hk
              · exact Keeps.ite hk (keeps_sagDeliver hk)
              · exact hk
            · try dsimp only
              split
              · exact keeps_tripDeliver hk
              · exact Keeps.ite hk (keeps_sagDeliver hk)
              · exact hk
      · refine Keeps.ite ?_ ?_
        · refine keeps_foldl (fun _ _ h12 => ?_) ?_
          · exact keeps_endaDeliver h12
          · refine keeps_portDeliver ?_
            refine Keeps.ite ?_ ?_
            · refine keeps_methodDeliver ?_
              try dsimp only
              split
              · exact keeps_tripDeliver hk
              · exact Keeps.ite hk (keeps_sagDeliver hk)
              · exact hk
            · try dsimp only
              split
              · exact keeps_tripDeliver hk
              · exact Keeps.ite hk (keeps_sagDeliver hk)
              · exact hk
        · refine keeps_portDeliver ?_
          refine Keeps.ite ?_ ?_
          · refine keeps_methodDeliver ?_
            try dsimp only
            split
            · exact keeps_tripDeliver hk
            · exact Keeps.ite hk (keeps_sagDeliver hk)
            · exact hk
          · try dsimp only
            split
            · exact keeps_tripDeliver hk
            · exact Keeps.ite hk (keeps_sagDeliver hk)
            · exact hk

theorem keeps_driveBoundary (hk : Keeps s₀ s) : Keeps s₀ (driveBoundary s) := by
  unfold driveBoundary
  exact Keeps.ite hk (keeps_foldl (fun _ _ h2 => keeps_driveTurn h2) (keeps_foldl (fun _ _ h3 => keeps_protPlace h3)
      (keeps_linkActs hk)))

theorem keeps_driveAnswer {d : Nat} {m : LMsg} (hk : Keeps s₀ s) : Keeps s₀ (driveAnswer s d m) := by
  unfold driveAnswer
  try dsimp only
  split
  · refine Keeps.ite ?_ ?_
    · exact Keeps.ite (keeps_grantBack hk) hk
    · try dsimp only
      split
      · exact keeps_legStart hk
      · exact keeps_orderFail (keeps_modDr hk)
      · exact keeps_orderFail (keeps_modDr hk)
      · exact hk
  · exact Keeps.ite (keeps_grantBack hk) hk

theorem keeps_profileMoves {d : Nat} {e : Nat} (hk : Keeps s₀ s) : Keeps s₀ (profileMoves s d e) := by
  unfold profileMoves
  exact Keeps.ite (keeps_modDr hk) hk

theorem keeps_legEnds {d : Nat} {e : Option Nat} (hk : Keeps s₀ s) : Keeps s₀ (legEnds s d e) := by
  unfold legEnds
  refine keeps_driveHalt ?_
  refine keeps_modDr ?_
  try dsimp only
  split
  · exact keeps_profileMoves hk
  · exact hk

theorem keeps_execTravelEnd {d : Fin 32} (hk : Keeps s₀ s) (ht : execTravelEnd d s = .next t) : Keeps s₀ t := by
  obtain rfl := Host.Outcome.next.inj ht
  refine Keeps.ite ?_ ?_
  · exact hk
  · try dsimp only
    split
    · exact hk
    · exact Keeps.ite hk (keeps_atTick hk (fun _ h2 => keeps_legEnds h2))

theorem keeps_driveFault {d : Nat} {body : String} (hk : Keeps s₀ s) : Keeps s₀ (driveFault s d body) := by
  unfold driveFault
  exact keeps_driveNow (keeps_driveHalt (keeps_modDr (keeps_driveCause hk)))

theorem keeps_learnEnd {d : Nat} {late : Nat} (hk : Keeps s₀ s) : Keeps s₀ (learnEnd s d late) := by
  unfold learnEnd
  exact keeps_legEnds (Keeps.ite (keeps_setPort (keeps_modDr hk)) (keeps_modDr hk))

theorem keeps_execEndstopCollapse {d : Fin 32} (hk : Keeps s₀ s) (ht : execEndstopCollapse d s = .next t) : Keeps s₀ t := by
  obtain rfl := Host.Outcome.next.inj ht
  refine Keeps.ite ?_ ?_
  · exact hk
  · try dsimp only
    split
    · exact hk
    · exact keeps_atTick hk (fun _ h1 => Keeps.ite (keeps_learnEnd h1) (Keeps.ite (keeps_legEnds h1) (keeps_driveFault h1)))

theorem keeps_execEndstopTimeout {d : Fin 32} (hk : Keeps s₀ s) (ht : execEndstopTimeout d s = .next t) : Keeps s₀ t := by
  obtain rfl := Host.Outcome.next.inj ht
  refine Keeps.ite ?_ ?_
  · exact hk
  · try dsimp only
    split
    · exact hk
    · exact Keeps.ite hk (keeps_atTick hk (fun _ h1 => keeps_driveFault (keeps_notifyLate h1)))

theorem keeps_execLearnRunTimeout {d : Fin 32} (hk : Keeps s₀ s) (ht : execLearnRunTimeout d s = .next t) : Keeps s₀ t := by
  obtain rfl := Host.Outcome.next.inj ht
  exact Keeps.ite hk (keeps_atTick hk (fun _ h1 => keeps_driveFault h1))

theorem keeps_execEncoderEdge {p : Fin 4} {ea : Bool} {eb : Bool} (hk : Keeps s₀ s) (ht : execEncoderEdge p ea eb s = .next t) :
    Keeps s₀ t := by
  obtain rfl := Host.Outcome.next.inj ht
  try dsimp only
  split
  · exact keeps_setPort hk
  · try dsimp only
    split
    · exact Keeps.ite (keeps_notifyLate (keeps_modDr (keeps_setPort hk))) (keeps_setPort hk)
    · try dsimp only
      split
      · exact Keeps.ite (keeps_legEnds (Keeps.ite (keeps_setPort hk) (keeps_modDr (keeps_setPort hk)))) (Keeps.ite
            (keeps_setPort hk) (keeps_modDr (keeps_setPort hk)))
      · exact Keeps.ite (keeps_setPort hk) (keeps_modDr (keeps_setPort hk))

theorem keeps_obstacleVerdict {d : Nat} (hk : Keeps s₀ s) : Keeps s₀ (obstacleVerdict s d) := by
  unfold obstacleVerdict
  refine Keeps.ite ?_ ?_
  · exact keeps_driveNow (keeps_driveCause (keeps_modDr (keeps_jrnTrigger hk)))
  · refine keeps_driveNow ?_
    try dsimp only
    split
    · exact keeps_holdPlace (keeps_driveCause (keeps_modDr (keeps_notifyLate (keeps_jrnTrigger hk))))
    · exact keeps_driveCause (keeps_modDr (keeps_notifyLate (keeps_jrnTrigger hk)))

theorem keeps_sampleTakes {d : Nat} {p : Nat} {i : Nat} (hk : Keeps s₀ s) : Keeps s₀ (sampleTakes s d p i) := by
  unfold sampleTakes
  exact keeps_modDr hk

theorem keeps_evaluates {d : Nat} {l : Leg} {m : Nat × Nat} (hk : Keeps s₀ s) : Keeps s₀ (evaluates s d l m) := by
  unfold evaluates
  exact Keeps.ite (keeps_sampleTakes hk) (Keeps.ite (keeps_obstacleVerdict (keeps_modDr (keeps_sampleTakes hk))) (keeps_modDr
      (keeps_sampleTakes hk)))

theorem keeps_execObstacleEvaluation {d : Fin 32} (hk : Keeps s₀ s) (ht : execObstacleEvaluation d s = .next t) : Keeps s₀ t :=
    by
  obtain rfl := Host.Outcome.next.inj ht
  refine Keeps.ite ?_ ?_
  · exact hk
  · try dsimp only
    split
    · exact hk
    · exact keeps_atTick hk (fun _ h1 => Keeps.ite (keeps_modDr h1) (keeps_evaluates (keeps_modDr h1)))

theorem keeps_stalled {d : Nat} (hk : Keeps s₀ s) : Keeps s₀ (stalled s d) := by
  unfold stalled
  exact Keeps.ite (keeps_learnEnd hk) (Keeps.ite (keeps_legEnds (keeps_setPort hk)) (Keeps.ite hk (keeps_obstacleVerdict hk)))

theorem keeps_execStall {d : Fin 32} (hk : Keeps s₀ s) (ht : execStall d s = .next t) : Keeps s₀ t := by
  obtain rfl := Host.Outcome.next.inj ht
  exact Keeps.ite hk (keeps_atTick hk (fun _ h2 => keeps_stalled h2))

theorem keeps_sagStops {d : Nat} (hk : Keeps s₀ s) : Keeps s₀ (sagStops s d) := by
  unfold sagStops
  exact Keeps.ite (keeps_notifyLate (keeps_driveCause (keeps_modDr (keeps_jrnTrigger hk)))) hk

theorem keeps_execSagStop (hk : Keeps s₀ s) (ht : execSagStop s = .next t) : Keeps s₀ t := by
  obtain rfl := Host.Outcome.next.inj ht
  exact Keeps.ite hk (keeps_foldl (fun _ _ h2 => keeps_driveNow h2) (keeps_foldl (fun _ _ h3 => keeps_sagStops h3) (Keeps.upd hk
      rfl rfl)))

theorem keeps_driveEnds {m : Mode} {d : Nat} (hk : Keeps s₀ s) : Keeps s₀ (driveEnds m s d) := by
  unfold driveEnds
  try dsimp only
  split
  · exact keeps_standingAgain (keeps_orderResult (keeps_modDr (Keeps.ite (keeps_driveStop hk) hk)))
  · exact keeps_modDr (Keeps.ite (keeps_driveStop hk) hk)

theorem keeps_drivesStop {m : Mode} (hk : Keeps s₀ s) : Keeps s₀ (drivesStop s m) := by
  unfold drivesStop
  exact keeps_outputsOff (keeps_foldl (fun _ _ h1 => keeps_driveEnds h1) (keeps_leaveDrop hk))

theorem keeps_drivesBench (hk : Keeps s₀ s) : Keeps s₀ (drivesBench s) := by
  unfold drivesBench
  exact keeps_foldl (fun _ _ h4 => Keeps.ite (keeps_foldl (fun _ _ h5 => keeps_setOd h5) h4) h4) (keeps_foldl (fun _ _ h6 =>
      keeps_portStop h6) (keeps_foldl (fun _ _ h7 => keeps_feedStop h7) (keeps_foldl (fun _ _ h8 => keeps_modDr h8) hk)))

theorem keeps_drivesUnbench {m : Mode} (hk : Keeps s₀ s) : Keeps s₀ (drivesUnbench s m) := by
  unfold drivesUnbench
  exact keeps_foldl (fun _ _ h1 => keeps_modDr (keeps_driveEnds h1)) hk

theorem keeps_protsSleep (hk : Keeps s₀ s) : Keeps s₀ (protsSleep s) := by
  unfold protsSleep
  exact Keeps.upd hk rfl rfl

theorem keeps_driveRestart {d : Nat} (hk : Keeps s₀ s) : Keeps s₀ (driveRestart s d) := by
  unfold driveRestart
  refine Keeps.ite ?_ ?_
  · exact keeps_modDr (keeps_modDr hk)
  · try dsimp only
    split
    · exact Keeps.ite (keeps_notifyLate (keeps_modDr (keeps_modDr hk))) (keeps_modDr (keeps_modDr hk))
    · exact keeps_notifyLate (keeps_modDr (keeps_modDr hk))

theorem keeps_drivesRestart (hk : Keeps s₀ s) : Keeps s₀ (drivesRestart s) := by
  unfold drivesRestart
  exact Keeps.upd (keeps_foldl (fun _ _ h2 => keeps_driveRestart h2) (Keeps.upd hk rfl rfl)) rfl rfl

theorem keeps_drivesGasp (hk : Keeps s₀ s) : Keeps s₀ (drivesGasp s) := by
  unfold drivesGasp
  exact keeps_foldl (fun _ _ h1 => keeps_modDr h1) hk

theorem keeps_execMove {q : Hdr} {o : ObjRange} {dest : MoveTo} {tilt : Option Nat} (hk : Keeps s₀ s) (ht : execMove q o dest
    tilt s = .next t) : Keeps s₀ t := by
  obtain rfl := Host.Outcome.next.inj ht
  exact keeps_lineIn hk (fun _ h1 => keeps_submit h1 (fun _ _ h2 => keeps_foldl (fun _ _ h3 => keeps_placeOrder h3) h2))

theorem keeps_execStop {q : Hdr} {o : Option ObjRange} (hk : Keeps s₀ s) (ht : execStop q o s = .next t) : Keeps s₀ t := by
  obtain rfl := Host.Outcome.next.inj ht
  exact keeps_lineIn hk (fun _ h1 => keeps_submit h1 (fun _ _ h2 => Keeps.iteP h2 (Keeps.iteP h2 (Keeps.iteP h2 (keeps_foldl
      (fun _ _ h4 => keeps_placeOrder h4) h2)))))

theorem keeps_execRelease {q : Hdr} {o : Option ObjRange} (hk : Keeps s₀ s) (ht : execRelease q o s = .next t) : Keeps s₀ t :=
    by
  obtain rfl := Host.Outcome.next.inj ht
  exact keeps_lineIn hk (fun _ h1 => keeps_submit h1 (fun _ _ h2 => h2))

theorem keeps_execLearn {q : Hdr} {d : Fin 32} (hk : Keeps s₀ s) (ht : execLearn q d s = .next t) : Keeps s₀ t := by
  obtain rfl := Host.Outcome.next.inj ht
  exact keeps_lineIn hk (fun _ h1 => keeps_submit h1 (fun _ _ h2 => keeps_placeOrder h2))

theorem keeps_driveCancel {id : Nat} (hk : Keeps s₀ s) : Keeps s₀ (driveCancel s id) := by
  unfold driveCancel
  refine keeps_foldl (fun _ _ h1 => ?_) ?_
  · try dsimp only
    split
    · refine Keeps.ite ?_ ?_
      · refine keeps_placeOrder ?_
        refine keeps_modDr ?_
        try dsimp only
        split
        · exact keeps_placeOrder (keeps_modDr h1)
        · exact h1
      · try dsimp only
        split
        · exact keeps_placeOrder (keeps_modDr h1)
        · exact h1
    · try dsimp only
      split
      · exact keeps_placeOrder (keeps_modDr h1)
      · exact h1
  · exact hk

theorem keeps_driveAfter {old : State} {d : Nat} (hk : Keeps s₀ s) : Keeps s₀ (driveAfter old s d) := by
  unfold driveAfter
  exact Keeps.ite hk (Keeps.ite (keeps_setV10 (keeps_foldl (fun _ _ h6 => keeps_limitWrite h6) (Keeps.ite (keeps_modDr hk) hk)))
      (keeps_foldl (fun _ _ h7 => keeps_limitWrite h7) (Keeps.ite (keeps_modDr hk) hk)))

theorem keeps_protAfter {old : State} {p : Nat} (hk : Keeps s₀ s) : Keeps s₀ (protAfter old s p) := by
  unfold protAfter
  exact Keeps.ite (keeps_protState (Keeps.ite (keeps_setProt (Keeps.ite (keeps_protLapses (keeps_setProt hk)) hk)) (Keeps.ite
      (keeps_protLapses (keeps_setProt hk)) hk))) (Keeps.ite (keeps_setProt (Keeps.ite (keeps_protLapses (keeps_setProt hk))
      hk)) (Keeps.ite (keeps_protLapses (keeps_setProt hk)) hk))

theorem keeps_drivesAfter {old : State} (hk : Keeps s₀ s) : Keeps s₀ (drivesAfter old s) := by
  unfold drivesAfter
  exact Keeps.ite hk (keeps_foldl (fun _ _ h1 => keeps_protAfter h1) (keeps_foldl (fun _ _ h2 => keeps_driveAfter h2) hk))

theorem keeps_setTher {m : Nat} {x : TherM} (hk : Keeps s₀ s) : Keeps s₀ (setTher s m x) := by
  unfold setTher
  exact Keeps.upd hk rfl rfl

theorem keeps_modTher {m : Nat} {f : TherM → TherM} (hk : Keeps s₀ s) : Keeps s₀ (modTher s m f) := by
  unfold modTher
  exact keeps_setTher hk

theorem keeps_faultRecord {kind : String} {m : Nat} (hk : Keeps s₀ s) : Keeps s₀ (faultRecord s kind m) := by
  unfold faultRecord
  exact Keeps.ite (Keeps.upd hk rfl rfl) (Keeps.upd hk rfl rfl)

theorem keeps_therRecord (hk : Keeps s₀ s) : Keeps s₀ (therRecord s) := by
  unfold therRecord
  exact Keeps.ite (Keeps.upd hk rfl rfl) (Keeps.upd hk rfl rfl)

theorem keeps_execThermalStateRecord (hk : Keeps s₀ s) (ht : execThermalStateRecord s = .next t) : Keeps s₀ t := by
  obtain rfl := Host.Outcome.next.inj ht
  exact Keeps.ite hk (keeps_atTick hk (fun _ h1 => keeps_therRecord (Keeps.upd h1 rfl rfl)))

theorem keeps_journalOpens (hk : Keeps s₀ s) : Keeps s₀ (journalOpens s) := by
  unfold journalOpens
  exact Keeps.upd (Keeps.upd hk rfl rfl) rfl rfl

theorem keeps_hotRefresh (hk : Keeps s₀ s) : Keeps s₀ (hotRefresh s) := by
  unfold hotRefresh
  exact keeps_foldl (fun _ _ h4 => Keeps.ite (keeps_feedStop h4) (keeps_gatesOff h4)) (Keeps.upd hk rfl rfl)

theorem keeps_dutyFollows {m : Nat} (hk : Keeps s₀ s) : Keeps s₀ (dutyFollows s m) := by
  unfold dutyFollows
  refine Keeps.ite ?_ ?_
  · exact hk
  · try dsimp only
    split
    · exact Keeps.ite (keeps_setPort hk) hk
    · exact hk

theorem keeps_levelChanges {m : Nat} {l : Nat} (hk : Keeps s₀ s) : Keeps s₀ (levelChanges s m l) := by
  unfold levelChanges
  exact Keeps.ite (keeps_arrive (keeps_hotRefresh (keeps_dutyFollows (Keeps.ite (keeps_therRecord (keeps_faultRecord
      (keeps_modTher (Keeps.upd hk rfl rfl)))) (Keeps.upd hk rfl rfl))))) (keeps_arrive (keeps_hotRefresh (keeps_dutyFollows
      (Keeps.ite (keeps_therRecord (keeps_faultRecord (keeps_modTher (Keeps.upd hk rfl rfl)))) (Keeps.upd hk rfl rfl)))))

theorem keeps_therStep {pe : ℤ} {m : Nat} (hk : Keeps s₀ s) : Keeps s₀ (therStep pe s m) := by
  unfold therStep
  exact Keeps.ite hk (Keeps.ite (keeps_dutyFollows (keeps_modTher hk)) (keeps_levelChanges (keeps_dutyFollows (keeps_modTher
      hk))))

theorem keeps_moduleLevel {l : Nat} (hk : Keeps s₀ s) : Keeps s₀ (moduleLevel s l) := by
  unfold moduleLevel
  exact Keeps.ite hk (keeps_hotRefresh (Keeps.ite (keeps_therRecord (keeps_faultRecord (Keeps.upd hk rfl rfl))) (Keeps.upd hk
      rfl rfl)))

theorem keeps_moduleStep (hk : Keeps s₀ s) : Keeps s₀ (moduleStep s) := by
  unfold moduleStep
  exact Keeps.ite (keeps_moduleLevel (Keeps.upd hk rfl rfl)) (Keeps.ite (Keeps.upd hk rfl rfl) (keeps_moduleLevel (Keeps.upd hk
      rfl rfl)))

theorem keeps_thermalStep {pe : List ℤ} (hk : Keeps s₀ s) : Keeps s₀ (thermalStep pe s) := by
  unfold thermalStep
  exact Keeps.ite (keeps_foldl (fun _ _ h2 => keeps_therStep h2) hk) (keeps_moduleStep (keeps_foldl (fun _ _ h3 =>
      keeps_therStep h3) (keeps_foldl (fun _ _ h4 => keeps_therStep h4) hk)))

theorem keeps_execThermalStep {pe : List ℤ} (hk : Keeps s₀ s) (ht : execThermalStep pe s = .next t) : Keeps s₀ t := by
  obtain rfl := Host.Outcome.next.inj ht
  exact keeps_atTick hk (fun _ h1 => keeps_thermalStep (Keeps.upd h1 rfl rfl))

theorem keeps_ambTake {m : Nat} {t : ℤ} (hk : Keeps s₀ s) : Keeps s₀ (ambTake s m t) := by
  unfold ambTake
  exact keeps_modTher hk

theorem keeps_ambSet {m : Nat} {src : String} {t : Option ℤ} (hk : Keeps s₀ s) : Keeps s₀ (ambSet s m src t) := by
  unfold ambSet
  try dsimp only
  split
  · exact Keeps.ite (keeps_ambTake (keeps_modTher hk)) (keeps_notify (keeps_faultRecord (keeps_ambTake (keeps_modTher hk))))
  · exact Keeps.ite (keeps_notify (keeps_faultRecord (keeps_ambTake (keeps_modTher hk)))) (keeps_ambTake (keeps_modTher hk))

theorem keeps_ambDeliver {r : Rec} {m : Nat} (hk : Keeps s₀ s) : Keeps s₀ (ambDeliver r s m) := by
  unfold ambDeliver
  exact Keeps.ite hk (keeps_ambSet hk)

theorem keeps_ambFixed {m : Nat} (hk : Keeps s₀ s) : Keeps s₀ (ambFixed s m) := by
  unfold ambFixed
  exact Keeps.ite (keeps_ambTake (keeps_modTher hk)) hk

theorem keeps_execAmbientWord (hk : Keeps s₀ s) (ht : execAmbientWord s = .next t) : Keeps s₀ t := by
  obtain rfl := Host.Outcome.next.inj ht
  exact Keeps.ite hk (keeps_atTick hk (fun _ h1 => keeps_foldl (fun _ _ h3 => keeps_modTher h3) (Keeps.upd h1 rfl rfl)))

theorem keeps_execAmbientTimeout (hk : Keeps s₀ s) (ht : execAmbientTimeout s = .next t) : Keeps s₀ t := by
  obtain rfl := Host.Outcome.next.inj ht
  exact Keeps.ite hk (keeps_atTick hk (fun _ h1 => keeps_foldl (fun _ _ h2 => keeps_modTher h2) h1))

theorem keeps_forceSet {m : Nat} {on : Bool} (hk : Keeps s₀ s) : Keeps s₀ (forceSet s m on) := by
  unfold forceSet
  exact keeps_hotRefresh (Keeps.upd hk rfl rfl)

theorem keeps_thermoOpens {m : Nat} (hk : Keeps s₀ s) : Keeps s₀ (thermoOpens s m) := by
  unfold thermoOpens
  exact Keeps.ite (keeps_modTher hk) (keeps_hotDeliver (keeps_notify (keeps_faultRecord (keeps_forceSet (keeps_modTher hk)))))

theorem keeps_thermoDeliver {r : Rec} {m : Nat} (hk : Keeps s₀ s) : Keeps s₀ (thermoDeliver r s m) := by
  unfold thermoDeliver
  exact Keeps.ite hk (Keeps.ite (keeps_thermoOpens hk) (keeps_modTher hk))

theorem keeps_execThermoClear {m : Fin 12} (hk : Keeps s₀ s) (ht : execThermoClear m s = .next t) : Keeps s₀ t := by
  obtain rfl := Host.Outcome.next.inj ht
  exact Keeps.ite hk (keeps_atTick hk (fun _ h1 => keeps_notify (keeps_forceSet h1)))

theorem keeps_winNotice {name : String} {was : Bool} {is : Bool} {t : Option ℤ} (hk : Keeps s₀ s) : Keeps s₀ (winNotice s name
    was is t) := by
  unfold winNotice
  exact Keeps.ite hk (keeps_notify hk)

theorem keeps_chargeCloses (hk : Keeps s₀ s) : Keeps s₀ (chargeCloses s) := by
  unfold chargeCloses
  exact Keeps.ite (keeps_grantBack (keeps_stopCharging hk)) hk

theorem keeps_windowsStep (hk : Keeps s₀ s) : Keeps s₀ (windowsStep s) := by
  unfold windowsStep
  exact keeps_winNotice (Keeps.ite (keeps_journalOpens (keeps_winNotice (Keeps.ite (keeps_chargeCloses (keeps_winNotice
      (Keeps.upd hk rfl rfl))) (keeps_winNotice (Keeps.upd hk rfl rfl))))) (keeps_winNotice (Keeps.ite (keeps_chargeCloses
      (keeps_winNotice (Keeps.upd hk rfl rfl))) (keeps_winNotice (Keeps.upd hk rfl rfl)))))

theorem keeps_x145Deliver {r : Rec} (hk : Keeps s₀ s) : Keeps s₀ (x145Deliver r s) := by
  unfold x145Deliver
  exact keeps_windowsStep (Keeps.ite (keeps_moduleLevel (keeps_foldl (fun _ _ h5 => Keeps.ite (keeps_ambSet h5) h5) (Keeps.ite
      (Keeps.ite (Keeps.upd hk rfl rfl) (keeps_notify (keeps_faultRecord (Keeps.upd hk rfl rfl)))) (Keeps.ite (keeps_notify
      (keeps_faultRecord (Keeps.upd hk rfl rfl))) (Keeps.upd hk rfl rfl))))) (keeps_foldl (fun _ _ h8 => Keeps.ite (keeps_ambSet
      h8) h8) (Keeps.ite (Keeps.ite (Keeps.upd hk rfl rfl) (keeps_notify (keeps_faultRecord (Keeps.upd hk rfl rfl)))) (Keeps.ite
      (keeps_notify (keeps_faultRecord (Keeps.upd hk rfl rfl))) (Keeps.upd hk rfl rfl)))))

theorem keeps_panelDeliver {r : Rec} (hk : Keeps s₀ s) : Keeps s₀ (panelDeliver r s) := by
  unfold panelDeliver
  exact Keeps.ite hk (Keeps.ite (keeps_winNotice (Keeps.upd (Keeps.upd hk rfl rfl) rfl rfl)) (Keeps.upd hk rfl rfl))

theorem keeps_levelDeliver {o : TripOut} {l : Nat} (hk : Keeps s₀ s) : Keeps s₀ (levelDeliver s o l) := by
  unfold levelDeliver
  exact Keeps.ite (keeps_hotDeliver (keeps_jrnTrigger (keeps_notify hk))) (keeps_notify hk)

theorem keeps_thermDeliver {r : Rec} (hk : Keeps s₀ s) : Keeps s₀ (thermDeliver s r) := by
  unfold thermDeliver
  refine Keeps.ite ?_ ?_
  · refine keeps_x145Deliver ?_
    try dsimp only
    split
    · exact Keeps.ite (keeps_levelDeliver hk) hk
    · exact hk
  · refine Keeps.ite ?_ ?_
    · refine keeps_panelDeliver ?_
      refine keeps_foldl (fun _ _ h2 => ?_) ?_
      · exact keeps_thermoDeliver (keeps_ambDeliver h2)
      · try dsimp only
        split
        · exact Keeps.ite (keeps_levelDeliver hk) hk
        · exact hk
    · try dsimp only
      split
      · exact Keeps.ite (keeps_levelDeliver hk) hk
      · exact hk

theorem keeps_tmodDeliver {l : Nat} {th : ℤ} (hk : Keeps s₀ s) : Keeps s₀ (tmodDeliver s l th) := by
  unfold tmodDeliver
  exact Keeps.ite (keeps_notify (Keeps.ite (keeps_grantBack (keeps_chargeEnds (Keeps.ite (keeps_hotDeliver (keeps_jrnTrigger
      (keeps_notify (Keeps.upd hk rfl rfl)))) (keeps_notify (Keeps.upd hk rfl rfl))))) (Keeps.ite (keeps_hotDeliver
      (keeps_jrnTrigger (keeps_notify (Keeps.upd hk rfl rfl)))) (keeps_notify (Keeps.upd hk rfl rfl))))) (Keeps.ite
      (keeps_grantBack (keeps_chargeEnds (Keeps.ite (keeps_hotDeliver (keeps_jrnTrigger (keeps_notify (Keeps.upd hk rfl rfl))))
      (keeps_notify (Keeps.upd hk rfl rfl))))) (Keeps.ite (keeps_hotDeliver (keeps_jrnTrigger (keeps_notify (Keeps.upd hk rfl
      rfl)))) (keeps_notify (Keeps.upd hk rfl rfl))))

theorem keeps_thermBoundary (hk : Keeps s₀ s) : Keeps s₀ (thermBoundary s) := by
  unfold thermBoundary
  refine keeps_foldl (fun _ _ h4 => ?_) ?_
  · try dsimp only
    split
    · exact Keeps.ite (keeps_ambSet h4) h4
    · exact keeps_ambFixed h4
  · exact keeps_foldl (fun _ _ h5 => keeps_tmodDeliver h5) (Keeps.upd hk rfl rfl)

theorem keeps_coolEntry (hk : Keeps s₀ s) : Keeps s₀ (coolEntry s) := by
  unfold coolEntry
  exact Keeps.ite (keeps_faultRecord (Keeps.upd (keeps_notify (keeps_faultRecord (Keeps.upd hk rfl rfl))) rfl rfl))
      (keeps_notify (keeps_faultRecord (Keeps.upd hk rfl rfl)))

theorem keeps_levelRestore {m : Nat} {l : Nat} {t : ℤ} (hk : Keeps s₀ s) : Keeps s₀ (levelRestore s m l t) := by
  unfold levelRestore
  exact Keeps.upd hk rfl rfl

theorem keeps_therFrom {r : TherRec} {t : Option Nat} {m : Nat} (hk : Keeps s₀ s) : Keeps s₀ (therFrom s r t m) := by
  unfold therFrom
  try dsimp only
  split
  · exact hk
  · exact keeps_levelRestore (keeps_setTher hk)

theorem keeps_therFresh {m : Nat} (hk : Keeps s₀ s) : Keeps s₀ (therFresh s m) := by
  unfold therFresh
  exact keeps_setTher (Keeps.upd hk rfl rfl)

theorem keeps_therStart {l : List Nat} (hk : Keeps s₀ s) : Keeps s₀ (therStart s l) := by
  unfold therStart
  try dsimp only
  split
  · exact keeps_notify (Keeps.upd (keeps_foldl (fun _ _ h2 => keeps_therFresh h2) hk) rfl rfl)
  · exact Keeps.ite (Keeps.upd (keeps_levelRestore (Keeps.upd (keeps_foldl (fun _ _ h7 => keeps_therFrom h7) hk) rfl rfl)) rfl
        rfl) (keeps_notify (Keeps.upd (keeps_levelRestore (Keeps.upd (keeps_foldl (fun _ _ h8 => keeps_therFrom h8) hk) rfl
        rfl)) rfl rfl))

theorem keeps_thermRestart {kept : Bool} (hk : Keeps s₀ s) : Keeps s₀ (thermRestart s kept) := by
  unfold thermRestart
  exact keeps_hotRefresh (Keeps.upd (keeps_foldl (fun _ _ h4 => keeps_modTher h4) (Keeps.ite (Keeps.upd (keeps_therStart
      (Keeps.upd hk rfl rfl)) rfl rfl) (keeps_therStart (Keeps.upd hk rfl rfl)))) rfl rfl)

theorem keeps_thermSleep (hk : Keeps s₀ s) : Keeps s₀ (thermSleep s) := by
  unfold thermSleep
  exact Keeps.upd hk rfl rfl

theorem keeps_thermWake (hk : Keeps s₀ s) : Keeps s₀ (thermWake s) := by
  unfold thermWake
  exact Keeps.upd (keeps_foldl (fun _ _ h3 => keeps_modTher h3) hk) rfl rfl

theorem keeps_thrSet {m : Nat} {t : Option (Nat × Nat × Nat)} (hk : Keeps s₀ s) : Keeps s₀ (thrSet s m t) := by
  unfold thrSet
  exact Keeps.ite (Keeps.upd hk rfl rfl) (keeps_modTher hk)

theorem keeps_execThmThresholdWrite {m : Fin 13} {v : Word} {mask : Word} (hk : Keeps s₀ s) (ht : execThmThresholdWrite m v mask
    s = .next t) : Keeps s₀ t := by
  obtain rfl := Host.Outcome.next.inj ht
  exact Keeps.ite (keeps_thrSet hk) hk

theorem keeps_thmClr (hk : Keeps s₀ s) : Keeps s₀ (thmClr s) := by
  unfold thmClr
  exact Keeps.upd hk rfl rfl

theorem keeps_execThmClr {v : Word} (hk : Keeps s₀ s) (ht : execThmClr v s = .next t) : Keeps s₀ t := by
  obtain rfl := Host.Outcome.next.inj ht
  exact Keeps.ite (keeps_thmClr hk) hk

theorem keeps_thermAfter {old : State} (hk : Keeps s₀ s) : Keeps s₀ (thermAfter old s) := by
  unfold thermAfter
  exact Keeps.ite hk (keeps_hotRefresh (Keeps.ite (keeps_thrSet (keeps_foldl (fun _ _ h3 => keeps_ambFixed (Keeps.ite
      (keeps_forceSet (Keeps.ite (keeps_thrSet h3) h3)) (Keeps.ite (keeps_thrSet h3) h3))) hk)) (keeps_foldl (fun _ _ h6 =>
      keeps_ambFixed (Keeps.ite (keeps_forceSet (Keeps.ite (keeps_thrSet h6) h6)) (Keeps.ite (keeps_thrSet h6) h6))) hk)))

theorem keeps_timeRebase (hk : Keeps s₀ s) : Keeps s₀ (timeRebase s) := by
  unfold timeRebase
  exact Keeps.upd hk rfl rfl

theorem keeps_holdRefresh (hk : Keeps s₀ s) : Keeps s₀ (holdRefresh s) := by
  unfold holdRefresh
  exact Keeps.ite hk (Keeps.upd (keeps_timeRebase hk) rfl rfl)

theorem keeps_qualRefresh (hk : Keeps s₀ s) : Keeps s₀ (qualRefresh s) := by
  unfold qualRefresh
  exact keeps_holdRefresh (Keeps.upd hk rfl rfl)

theorem keeps_qualNote (hk : Keeps s₀ s) : Keeps s₀ (qualNote s) := by
  unfold qualNote
  exact Keeps.ite hk (keeps_notify (Keeps.upd hk rfl rfl))

theorem keeps_sourceNote {st : String} (hk : Keeps s₀ s) : Keeps s₀ (sourceNote s st) := by
  unfold sourceNote
  exact keeps_notify hk

theorem keeps_rtcWrite (hk : Keeps s₀ s) : Keeps s₀ (rtcWrite s) := by
  unfold rtcWrite
  exact Keeps.ite hk (Keeps.upd hk rfl rfl)

theorem keeps_execRtcWrite (hk : Keeps s₀ s) (ht : execRtcWrite s = .next t) : Keeps s₀ t := by
  obtain rfl := Host.Outcome.next.inj ht
  exact Keeps.ite hk (keeps_atTick hk (fun _ h1 => Keeps.upd (keeps_rtcWrite h1) rfl rfl))

theorem keeps_slewStart {theta : ℤ} (hk : Keeps s₀ s) : Keeps s₀ (slewStart s theta) := by
  unfold slewStart
  exact Keeps.ite (Keeps.upd (keeps_timeRebase hk) rfl rfl) (Keeps.upd (keeps_timeRebase hk) rfl rfl)

theorem keeps_stepDecide {theta : ℤ} {anchor : ℤ} (hk : Keeps s₀ s) : Keeps s₀ (stepDecide s theta anchor) := by
  unfold stepDecide
  exact Keeps.upd (keeps_timeRebase hk) rfl rfl

theorem keeps_offsetApply {theta : ℤ} {anchor : ℤ} (hk : Keeps s₀ s) : Keeps s₀ (offsetApply s theta anchor) := by
  unfold offsetApply
  exact Keeps.ite (keeps_slewStart (Keeps.upd hk rfl rfl)) (keeps_stepDecide hk)

theorem keeps_execSlewComplete (hk : Keeps s₀ s) (ht : execSlewComplete s = .next t) : Keeps s₀ t := by
  obtain rfl := Host.Outcome.next.inj ht
  exact keeps_atTick hk (fun _ h1 => Keeps.upd (keeps_timeRebase h1) rfl rfl)

theorem keeps_pulse (hk : Keeps s₀ s) : Keeps s₀ (pulse s) := by
  unfold pulse
  try dsimp only
  split
  · exact hk
  · exact keeps_arrive (Keeps.upd hk rfl rfl)

theorem keeps_execPulseStart (hk : Keeps s₀ s) (ht : execPulseStart s = .next t) : Keeps s₀ t := by
  obtain rfl := Host.Outcome.next.inj ht
  exact Keeps.ite hk (keeps_atTick hk (fun _ h1 => keeps_pulse h1))

theorem keeps_execPulseEnd (hk : Keeps s₀ s) (ht : execPulseEnd s = .next t) : Keeps s₀ t := by
  obtain rfl := Host.Outcome.next.inj ht
  exact keeps_atTick hk (fun _ h1 => Keeps.upd h1 rfl rfl)

theorem keeps_stepApply {p : StepPend} (hk : Keeps s₀ s) : Keeps s₀ (stepApply p s) := by
  unfold stepApply
  exact keeps_rtcWrite (keeps_qualRefresh (Keeps.upd (Keeps.upd (Keeps.ite (Keeps.upd (Keeps.upd (Keeps.ite (keeps_pulse hk) hk)
      rfl rfl) rfl rfl) (Keeps.upd (Keeps.upd (Keeps.ite (keeps_pulse hk) hk) rfl rfl) rfl rfl)) rfl rfl) rfl rfl))

theorem keeps_execTimeStep (hk : Keeps s₀ s) (ht : execTimeStep s = .next t) : Keeps s₀ t := by
  obtain rfl := Host.Outcome.next.inj ht
  refine Keeps.ite ?_ ?_
  · exact hk
  · try dsimp only
    split
    · exact keeps_atTick hk (fun _ h1 => keeps_stepApply h1)
    · exact hk

theorem keeps_masterNote (hk : Keeps s₀ s) : Keeps s₀ (masterNote s) := by
  unfold masterNote
  exact Keeps.ite (keeps_notifyLate hk) (keeps_notifyLate hk)

theorem keeps_followRefresh (hk : Keeps s₀ s) : Keeps s₀ (followRefresh s) := by
  unfold followRefresh
  exact Keeps.ite hk (keeps_masterNote (Keeps.upd hk rfl rfl))

theorem keeps_timerefStops (hk : Keeps s₀ s) : Keeps s₀ (timerefStops s) := by
  unfold timerefStops
  exact Keeps.upd (keeps_drawn (Keeps.upd hk rfl rfl)) rfl rfl

theorem keeps_masterStops (hk : Keeps s₀ s) : Keeps s₀ (masterStops s) := by
  unfold masterStops
  exact Keeps.ite (keeps_masterNote (keeps_timerefStops hk)) hk

theorem keeps_candRefresh (hk : Keeps s₀ s) : Keeps s₀ (candRefresh s) := by
  unfold candRefresh
  exact Keeps.ite (Keeps.upd hk rfl rfl) (keeps_masterStops (Keeps.upd hk rfl rfl))

theorem keeps_execMasterClaim (hk : Keeps s₀ s) (ht : execMasterClaim s = .next t) : Keeps s₀ t := by
  obtain rfl := Host.Outcome.next.inj ht
  exact Keeps.ite hk (keeps_atTick hk (fun _ h1 => keeps_masterNote (keeps_qualRefresh (Keeps.upd h1 rfl rfl))))

theorem keeps_execFollowedMasterUnheard (hk : Keeps s₀ s) (ht : execFollowedMasterUnheard s = .next t) : Keeps s₀ t := by
  obtain rfl := Host.Outcome.next.inj ht
  try dsimp only
  split
  · exact hk
  · try dsimp only
    split
    · exact keeps_atTick hk (fun _ h1 => keeps_followRefresh h1)
    · exact hk

theorem keeps_tb0Load {kind : Nat} {data : List Byte} {what : TxWhat} (hk : Keeps s₀ s) : Keeps s₀ (tb0Load s kind data what) :=
    by
  unfold tb0Load
  exact Keeps.upd hk rfl rfl

theorem keeps_execTimerefSend (hk : Keeps s₀ s) (ht : execTimerefSend s = .next t) : Keeps s₀ t := by
  obtain rfl := Host.Outcome.next.inj ht
  exact Keeps.ite hk (keeps_atTick hk (fun _ h1 => Keeps.ite (keeps_tb0Load (Keeps.upd h1 rfl rfl)) (Keeps.upd h1 rfl rfl)))

theorem keeps_timerefSent {sq : Nat} {sof : Nat} {sub : Nat} (hk : Keeps s₀ s) : Keeps s₀ (timerefSent s sq sof sub) := by
  unfold timerefSent
  exact keeps_tb0Load (keeps_arrive hk)

theorem keeps_timeReject {sof : Nat} (hk : Keeps s₀ s) : Keeps s₀ (timeReject s sof) := by
  unfold timeReject
  exact keeps_arrive (Keeps.upd hk rfl rfl)

theorem keeps_candHear {src : Nat} {data : List Byte} (hk : Keeps s₀ s) : Keeps s₀ (candHear s src data) := by
  unfold candHear
  exact keeps_followRefresh (Keeps.ite (keeps_masterNote (Keeps.upd (keeps_timerefStops (Keeps.upd hk rfl rfl)) rfl rfl))
      (Keeps.upd hk rfl rfl))

theorem keeps_execTimerefReceived {src : Fin 64} {data : List Byte} {sof : Nat} {sub : Fin 10} (hk : Keeps s₀ s) (ht :
    execTimerefReceived src data sof sub s = .next t) : Keeps s₀ t := by
  obtain rfl := Host.Outcome.next.inj ht
  refine Keeps.ite ?_ ?_
  · exact hk
  · refine Keeps.ite ?_ ?_
    · exact keeps_timeReject hk
    · refine keeps_candHear ?_
      refine Keeps.upd ?_ rfl rfl
      try dsimp only
      split
      · exact keeps_timeReject hk
      · exact hk

theorem keeps_sampleForm {r : TimeRef} {data : List Byte} (hk : Keeps s₀ s) : Keeps s₀ (sampleForm s r data) := by
  unfold sampleForm
  exact Keeps.ite (Keeps.upd (keeps_arrive (Keeps.upd hk rfl rfl)) rfl rfl) (keeps_arrive (Keeps.upd hk rfl rfl))

theorem keeps_execTimefupReceived {src : Fin 64} {data : List Byte} (hk : Keeps s₀ s) (ht : execTimefupReceived src data s =
    .next t) : Keeps s₀ t := by
  obtain rfl := Host.Outcome.next.inj ht
  refine Keeps.ite ?_ ?_
  · exact hk
  · try dsimp only
    split
    · exact keeps_sampleForm hk
    · exact keeps_timeReject hk

theorem keeps_freqStep {theta : ℤ} (hk : Keeps s₀ s) : Keeps s₀ (freqStep s theta) := by
  unfold freqStep
  exact Keeps.ite hk (Keeps.upd (keeps_timeRebase hk) rfl rfl)

theorem keeps_sampleAct {m : TimeSmp} (hk : Keeps s₀ s) : Keeps s₀ (sampleAct s m) := by
  unfold sampleAct
  exact Keeps.ite (keeps_sourceNote (keeps_qualNote (keeps_qualRefresh (keeps_freqStep (keeps_offsetApply (Keeps.upd hk rfl
      rfl)))))) (keeps_qualNote (keeps_qualRefresh (keeps_freqStep (keeps_offsetApply (Keeps.upd hk rfl rfl)))))

theorem keeps_sampleTake {m : TimeSmp} (hk : Keeps s₀ s) : Keeps s₀ (sampleTake s m) := by
  unfold sampleTake
  exact Keeps.ite hk (Keeps.ite (keeps_sourceNote (Keeps.upd hk rfl rfl)) (Keeps.ite (keeps_sampleAct hk) (Keeps.upd hk rfl
      rfl)))

theorem keeps_sampleStep (hk : Keeps s₀ s) : Keeps s₀ (sampleStep s) := by
  unfold sampleStep
  try dsimp only
  split
  · exact Keeps.ite (keeps_sampleTake (Keeps.upd hk rfl rfl)) hk
  · exact hk

theorem keeps_execTimeSample (hk : Keeps s₀ s) (ht : execTimeSample s = .next t) : Keeps s₀ t := by
  obtain rfl := Host.Outcome.next.inj ht
  exact Keeps.ite (keeps_sampleStep hk) hk

theorem keeps_sourceLost (hk : Keeps s₀ s) : Keeps s₀ (sourceLost s) := by
  unfold sourceLost
  exact Keeps.ite hk (keeps_qualNote (keeps_qualRefresh (keeps_sourceNote (Keeps.upd hk rfl rfl))))

theorem keeps_execTimeSourceLost (hk : Keeps s₀ s) (ht : execTimeSourceLost s = .next t) : Keeps s₀ t := by
  obtain rfl := Host.Outcome.next.inj ht
  exact Keeps.ite hk (keeps_atTick hk (fun _ h1 => keeps_sourceLost h1))

theorem keeps_execHoldlimExpiry (hk : Keeps s₀ s) (ht : execHoldlimExpiry s = .next t) : Keeps s₀ t := by
  obtain rfl := Host.Outcome.next.inj ht
  exact Keeps.ite hk (keeps_atTick hk (fun _ h1 => Keeps.upd h1 rfl rfl))

theorem keeps_execTimeSet {q : Hdr} {y : Nat} {mo : Nat} {d : Nat} {h : Nat} {mi : Nat} {sec : Nat} {unc : Option Nat} (hk :
    Keeps s₀ s) (ht : execTimeSet q y mo d h mi sec unc s = .next t) : Keeps s₀ t := by
  obtain rfl := Host.Outcome.next.inj ht
  exact keeps_lineIn hk (fun _ h1 => keeps_submit h1 (fun _ _ h2 => h2))

theorem keeps_timeSetApply {theta : ℤ} {at_ : Nat} {unc : Nat} (hk : Keeps s₀ s) : Keeps s₀ (timeSetApply s theta at_ unc) := by
  unfold timeSetApply
  exact keeps_rtcWrite (keeps_qualNote (keeps_qualRefresh (keeps_offsetApply (Keeps.upd hk rfl rfl))))

theorem keeps_timeRestart (hk : Keeps s₀ s) : Keeps s₀ (timeRestart s) := by
  unfold timeRestart
  exact Keeps.ite (Keeps.upd (Keeps.upd hk rfl rfl) rfl rfl) (Keeps.upd hk rfl rfl)

theorem keeps_timeConfigured (hk : Keeps s₀ s) : Keeps s₀ (timeConfigured s) := by
  unfold timeConfigured
  exact keeps_candRefresh (Keeps.upd hk rfl rfl)

theorem keeps_timeCommit (hk : Keeps s₀ s) : Keeps s₀ (timeCommit s) := by
  unfold timeCommit
  exact Keeps.upd hk rfl rfl

theorem keeps_timeQuietEntry (hk : Keeps s₀ s) : Keeps s₀ (timeQuietEntry s) := by
  unfold timeQuietEntry
  exact keeps_followRefresh (Keeps.upd (keeps_masterStops (Keeps.upd (keeps_sourceLost hk) rfl rfl)) rfl rfl)

theorem keeps_timeBoundary (hk : Keeps s₀ s) : Keeps s₀ (timeBoundary s) := by
  unfold timeBoundary
  refine Keeps.ite ?_ ?_
  · refine keeps_candRefresh ?_
    refine keeps_qualNote ?_
    refine keeps_foldl (fun _ _ h4 => ?_) ?_
    · exact keeps_sampleStep h4
    · try dsimp only
      split
      · exact keeps_notify (Keeps.upd hk rfl rfl)
      · exact hk
  · refine keeps_foldl (fun _ _ h5 => ?_) ?_
    · exact keeps_finish h5
    · refine keeps_candRefresh ?_
      refine keeps_qualNote ?_
      refine keeps_foldl (fun _ _ h6 => ?_) ?_
      · exact keeps_sampleStep h6
      · try dsimp only
        split
        · exact keeps_notify (Keeps.upd hk rfl rfl)
        · exact hk

theorem keeps_timeDeliver {r : Rec} (hk : Keeps s₀ s) : Keeps s₀ (timeDeliver s r) := by
  unfold timeDeliver
  exact Keeps.ite (keeps_holdRefresh (Keeps.upd hk rfl rfl)) hk

theorem keeps_timeAfter {old : State} (hk : Keeps s₀ s) : Keeps s₀ (timeAfter old s) := by
  unfold timeAfter
  exact Keeps.ite hk (keeps_qualRefresh (keeps_followRefresh (keeps_candRefresh (Keeps.ite (Keeps.ite (keeps_masterStops
      (Keeps.upd (Keeps.ite hk (Keeps.upd hk rfl rfl)) rfl rfl)) (Keeps.ite hk (Keeps.upd hk rfl rfl))) (Keeps.upd (Keeps.ite
      (keeps_masterStops (Keeps.upd (Keeps.ite hk (Keeps.upd hk rfl rfl)) rfl rfl)) (Keeps.ite hk (Keeps.upd hk rfl rfl))) rfl
      rfl)))))

theorem keeps_timeLatch (hk : Keeps s₀ s) : Keeps s₀ (timeLatch s) := by
  unfold timeLatch
  exact Keeps.upd hk rfl rfl

theorem keeps_execTimeSecLatch (hk : Keeps s₀ s) (ht : execTimeSecLatch s = .next t) : Keeps s₀ t := by
  obtain rfl := Host.Outcome.next.inj ht
  exact keeps_timeLatch hk

theorem keeps_timeClr (hk : Keeps s₀ s) : Keeps s₀ (timeClr s) := by
  unfold timeClr
  exact Keeps.upd hk rfl rfl

theorem keeps_execTimeClr {v : Word} (hk : Keeps s₀ s) (ht : execTimeClr v s = .next t) : Keeps s₀ t := by
  obtain rfl := Host.Outcome.next.inj ht
  exact Keeps.ite (keeps_timeClr hk) hk

theorem keeps_setLoop {l : Nat} {x : LoopSt} (hk : Keeps s₀ s) : Keeps s₀ (setLoop s l x) := by
  unfold setLoop
  exact Keeps.upd hk rfl rfl

theorem keeps_modLoop {l : Nat} {f : LoopSt → LoopSt} (hk : Keeps s₀ s) : Keeps s₀ (modLoop s l f) := by
  unfold modLoop
  exact keeps_setLoop hk

theorem keeps_setZone {z : Nat} {x : ZoneSt} (hk : Keeps s₀ s) : Keeps s₀ (setZone s z x) := by
  unfold setZone
  exact Keeps.upd hk rfl rfl

theorem keeps_setSched {n : Nat} {x : SchedSt} (hk : Keeps s₀ s) : Keeps s₀ (setSched s n x) := by
  unfold setSched
  exact Keeps.upd hk rfl rfl

theorem keeps_loopChannel {u : Nat} {pct : Nat} (hk : Keeps s₀ s) : Keeps s₀ (loopChannel s u pct) := by
  unfold loopChannel
  exact Keeps.ite hk (Keeps.ite (Keeps.upd hk rfl rfl) (keeps_setOutput hk))

theorem keeps_loopChannels {l : Nat} {pct : Nat} (hk : Keeps s₀ s) : Keeps s₀ (loopChannels s l pct) := by
  unfold loopChannels
  exact keeps_foldl (fun _ _ h1 => Keeps.ite (keeps_loopChannel h1) h1) hk

theorem keeps_zoneEval {z : Nat} (hk : Keeps s₀ s) : Keeps s₀ (zoneEval s z) := by
  unfold zoneEval
  exact Keeps.ite hk (Keeps.ite (keeps_setZone hk) (Keeps.ite (Keeps.ite (keeps_foldl (fun _ _ h5 => keeps_loopChannels h5)
      (keeps_setZone hk)) (keeps_setZone hk)) (keeps_notifyLate (Keeps.ite (keeps_foldl (fun _ _ h6 => keeps_loopChannels h6)
      (keeps_setZone hk)) (keeps_setZone hk)))))

theorem keeps_overrideSet {z : Nat} (hk : Keeps s₀ s) : Keeps s₀ (overrideSet s z) := by
  unfold overrideSet
  exact keeps_setZone hk

theorem keeps_overrideEnd {z : Nat} (hk : Keeps s₀ s) : Keeps s₀ (overrideEnd s z) := by
  unfold overrideEnd
  exact Keeps.ite hk (keeps_notifyLate (Keeps.upd (keeps_setZone hk) rfl rfl))

theorem keeps_execOverrideExpiry {z : Fin 24} (hk : Keeps s₀ s) (ht : execOverrideExpiry z s = .next t) : Keeps s₀ t := by
  obtain rfl := Host.Outcome.next.inj ht
  exact Keeps.ite hk (keeps_atTick hk (fun _ h1 => keeps_zoneEval (keeps_overrideEnd h1)))

theorem keeps_execOccupancyExpiry {z : Fin 24} (hk : Keeps s₀ s) (ht : execOccupancyExpiry z s = .next t) : Keeps s₀ t := by
  obtain rfl := Host.Outcome.next.inj ht
  exact Keeps.ite hk (keeps_atTick hk (fun _ h1 => keeps_zoneEval (keeps_setZone h1)))

theorem keeps_posIssue {n : Nat} {v : Item} (hk : Keeps s₀ s) : Keeps s₀ (posIssue s n v) := by
  unfold posIssue
  exact keeps_foldl (fun _ _ h1 => keeps_placeOrder h1) hk

theorem keeps_markFired {n : Nat} {l : List SPoint} (hk : Keeps s₀ s) : Keeps s₀ (markFired s n l) := by
  unfold markFired
  exact keeps_setSched hk

theorem keeps_modeValue {n : Nat} (hk : Keeps s₀ s) : Keeps s₀ (modeValue s n) := by
  unfold modeValue
  exact Keeps.ite hk (keeps_setSched hk)

theorem keeps_overridesEnd {n : Nat} (hk : Keeps s₀ s) : Keeps s₀ (overridesEnd s n) := by
  unfold overridesEnd
  exact keeps_foldl (fun _ _ h1 => keeps_overrideEnd h1) hk

theorem keeps_schedFire {n : Nat} (hk : Keeps s₀ s) : Keeps s₀ (schedFire s n) := by
  unfold schedFire
  exact Keeps.ite (Keeps.ite (keeps_modeValue (keeps_markFired hk)) (keeps_overridesEnd (keeps_modeValue (keeps_markFired hk))))
      (keeps_foldl (fun _ _ h6 => keeps_posIssue (keeps_setSched h6)) (keeps_markFired hk))

theorem keeps_execSwitchPoint {n : Fin 16} (hk : Keeps s₀ s) (ht : execSwitchPoint n s = .next t) : Keeps s₀ t := by
  obtain rfl := Host.Outcome.next.inj ht
  exact Keeps.ite hk (keeps_foldl (fun _ _ h1 => keeps_zoneEval h1) (keeps_schedFire hk))

theorem keeps_schedResume {n : Nat} (hk : Keeps s₀ s) : Keeps s₀ (schedResume s n) := by
  unfold schedResume
  try dsimp only
  split
  · exact Keeps.ite (keeps_posIssue (keeps_markFired (keeps_setSched hk))) (keeps_setSched hk)
  · exact keeps_setSched hk

theorem keeps_schedStep {n : Nat} (hk : Keeps s₀ s) : Keeps s₀ (schedStep s n) := by
  unfold schedStep
  exact Keeps.ite (keeps_schedResume hk) (Keeps.ite (keeps_schedFire hk) hk)

theorem keeps_schedsStep (hk : Keeps s₀ s) : Keeps s₀ (schedsStep s) := by
  unfold schedsStep
  exact Keeps.ite (Keeps.ite (keeps_foldl (fun _ _ h2 => keeps_setSched h2) hk) (keeps_notifyLate (Keeps.upd (keeps_foldl (fun _
      _ h3 => keeps_setSched h3) hk) rfl rfl))) (keeps_foldl (fun _ _ h5 => keeps_schedStep h5) (Keeps.upd hk rfl rfl))

theorem keeps_driveIssue {l : Nat} {o : LoopOut} {d : Nat} (hk : Keeps s₀ s) : Keeps s₀ (driveIssue s l o d) := by
  unfold driveIssue
  exact Keeps.ite hk (keeps_placeOrder (keeps_modLoop hk))

theorem keeps_outIssue {l : Nat} {o : LoopOut} (hk : Keeps s₀ s) : Keeps s₀ (outIssue s l o) := by
  unfold outIssue
  exact keeps_foldl (fun _ _ h2 => Keeps.ite (keeps_loopChannel h2) (Keeps.ite h2 (keeps_driveIssue h2))) (keeps_modLoop hk)

theorem keeps_outsIssue {l : Nat} {outs : List LoopOut} (hk : Keeps s₀ s) : Keeps s₀ (outsIssue s l outs) := by
  unfold outsIssue
  exact keeps_foldl (fun _ _ h1 => keeps_outIssue h1) hk

theorem keeps_staleNote {o : Obj} {input : String} {on : Bool} (hk : Keeps s₀ s) : Keeps s₀ (staleNote s o input on) := by
  unfold staleNote
  exact keeps_notifyLate hk

theorem keeps_staleSet {l : Nat} {n : Nat} {on : Bool} (hk : Keeps s₀ s) : Keeps s₀ (staleSet s l n on) := by
  unfold staleSet
  exact Keeps.ite hk (keeps_staleNote (keeps_setLoop hk))

theorem keeps_emptyStep {l : Nat} {n : Nat} (hk : Keeps s₀ s) : Keeps s₀ (emptyStep l s n) := by
  unfold emptyStep
  try dsimp only
  split
  · exact keeps_staleSet (keeps_modLoop hk)
  · exact hk

theorem keeps_loopResult {l : Nat} (hk : Keeps s₀ s) : Keeps s₀ (loopResult s l).1 := by
  unfold loopResult
  refine Keeps.iteP ?_ ?_
  · exact hk
  · refine Keeps.iteP ?_ ?_
    · exact hk
    · refine Keeps.iteP ?_ ?_
      · try dsimp only
        refine keeps_modLoop ?_
        exact hk
      · refine Keeps.iteP ?_ ?_
        · exact hk
        · try dsimp only
          split
          · try dsimp only
            refine keeps_drawn ?_
            exact hk
          · exact hk

theorem keeps_doorPeriod {l : Nat} (hk : Keeps s₀ s) : Keeps s₀ (doorPeriod s l) := by
  unfold doorPeriod
  exact Keeps.ite hk (keeps_modLoop hk)

theorem keeps_execLoopRelease {l : Fin 96} (hk : Keeps s₀ s) (ht : execLoopRelease l s = .next t) : Keeps s₀ t := by
  obtain rfl := Host.Outcome.next.inj ht
  exact Keeps.ite hk (keeps_modLoop (keeps_loopResult (keeps_foldl (fun _ _ h5 => keeps_emptyStep h5) (keeps_doorPeriod
      (Keeps.ite (keeps_setLoop hk) hk)))))

theorem keeps_loopCommits {l : Nat} {r : LoopRes} (hk : Keeps s₀ s) : Keeps s₀ (loopCommits l r s) := by
  unfold loopCommits
  exact Keeps.ite (keeps_outsIssue (keeps_modLoop hk)) (keeps_modLoop hk)

theorem keeps_loopDrops {l : Nat} (hk : Keeps s₀ s) : Keeps s₀ (loopDrops l s) := by
  unfold loopDrops
  exact Keeps.ite (keeps_setLoop hk) (keeps_notifyLate (keeps_setLoop hk))

theorem keeps_loopVerdict {l : Nat} {r : LoopRes} {met : Bool} (hk : Keeps s₀ s) : Keeps s₀ (loopVerdict s l r met) := by
  unfold loopVerdict
  exact Keeps.ite (keeps_loopCommits (keeps_jrnPut hk)) (keeps_loopDrops (keeps_jrnPut hk))

theorem keeps_execLoopOutput {l : Fin 96} {done : Bool} (hk : Keeps s₀ s) (ht : execLoopOutput l done s = .next t) : Keeps s₀ t
    := by
  obtain rfl := Host.Outcome.next.inj ht
  refine Keeps.ite ?_ ?_
  · exact hk
  · try dsimp only
    split
    · exact Keeps.ite (keeps_loopVerdict hk) hk
    · exact hk

theorem keeps_loopLate {l : Nat} (hk : Keeps s₀ s) : Keeps s₀ (loopLate s l) := by
  unfold loopLate
  try dsimp only
  split
  · exact Keeps.ite (keeps_loopVerdict hk) hk
  · exact hk

theorem keeps_verdictsApply (hk : Keeps s₀ s) : Keeps s₀ (verdictsApply s) := by
  unfold verdictsApply
  refine keeps_foldl (fun _ _ h2 => ?_) ?_
  · try dsimp only
    split
    · exact keeps_loopVerdict h2
    · exact h2
  · exact Keeps.upd hk rfl rfl

theorem keeps_curtainActs {l : Nat} (hk : Keeps s₀ s) : Keeps s₀ (curtainActs s l) := by
  unfold curtainActs
  exact Keeps.ite hk (Keeps.ite (keeps_outsIssue (keeps_setLoop hk)) (keeps_setLoop hk))

theorem keeps_runonEnds {l : Nat} (hk : Keeps s₀ s) : Keeps s₀ (runonEnds l s) := by
  unfold runonEnds
  exact keeps_curtainActs (keeps_modLoop hk)

theorem keeps_execRunonEnd {l : Fin 96} (hk : Keeps s₀ s) (ht : execRunonEnd l s = .next t) : Keeps s₀ t := by
  obtain rfl := Host.Outcome.next.inj ht
  exact Keeps.ite hk (keeps_atTick hk (fun _ h1 => keeps_runonEnds h1))

theorem keeps_doorStep {l : Nat} (hk : Keeps s₀ s) : Keeps s₀ (doorStep s l) := by
  unfold doorStep
  exact Keeps.ite hk (Keeps.ite (Keeps.ite hk (keeps_curtainActs (keeps_setLoop hk))) (Keeps.ite (keeps_runonEnds (Keeps.ite
      (keeps_setLoop hk) hk)) (Keeps.ite (keeps_setLoop hk) hk)))

theorem keeps_counterDeliver {r : Rec} (hk : Keeps s₀ s) : Keeps s₀ (counterDeliver s r) := by
  unfold counterDeliver
  try dsimp only
  split
  · exact Keeps.ite hk (Keeps.ite (Keeps.upd (Keeps.upd hk rfl rfl) rfl rfl) (Keeps.upd hk rfl rfl))
  · exact hk

theorem keeps_presDeliver {r : Rec} {z : Nat} (hk : Keeps s₀ s) : Keeps s₀ (presDeliver r s z) := by
  unfold presDeliver
  exact Keeps.ite hk (Keeps.ite (keeps_setZone hk) hk)

theorem keeps_climDeliver {r : Rec} (hk : Keeps s₀ s) : Keeps s₀ (climDeliver s r) := by
  unfold climDeliver
  exact Keeps.ite (keeps_counterDeliver hk) (Keeps.ite (keeps_foldl (fun _ _ h1 => keeps_presDeliver h1) hk) hk)

theorem keeps_loopStale {l : Nat} (hk : Keeps s₀ s) : Keeps s₀ (loopStale s l) := by
  unfold loopStale
  refine keeps_foldl (fun _ _ h1 => ?_) ?_
  · try dsimp only
    split
    · exact keeps_staleSet h1
    · exact h1
  · exact hk

theorem keeps_zoneStale {z : Nat} (hk : Keeps s₀ s) : Keeps s₀ (zoneStale s z) := by
  unfold zoneStale
  exact keeps_foldl (fun _ _ h2 => Keeps.ite h2 (keeps_staleNote (keeps_setZone h2))) hk

theorem keeps_zoneTimes {z : Nat} (hk : Keeps s₀ s) : Keeps s₀ (zoneTimes s z) := by
  unfold zoneTimes
  exact Keeps.ite (keeps_overrideEnd (Keeps.ite (keeps_setZone hk) hk)) (Keeps.ite (keeps_setZone hk) hk)

theorem keeps_climBoundary (hk : Keeps s₀ s) : Keeps s₀ (climBoundary s) := by
  unfold climBoundary
  exact Keeps.ite (Keeps.ite (Keeps.upd hk rfl rfl) (keeps_foldl (fun _ _ h4 => keeps_setOutput h4) (Keeps.upd hk rfl rfl)))
      (keeps_foldl (fun _ _ h11 => keeps_doorStep h11) (Keeps.ite (keeps_verdictsApply (keeps_foldl (fun _ _ h12 =>
      keeps_loopStale h12) (keeps_foldl (fun _ _ h13 => keeps_zoneEval h13) (keeps_foldl (fun _ _ h14 => keeps_zoneStale h14)
      (keeps_schedsStep (keeps_foldl (fun _ _ h15 => keeps_zoneTimes h15) (Keeps.ite (Keeps.upd hk rfl rfl) (keeps_foldl (fun _
      _ h16 => keeps_setOutput h16) (Keeps.upd hk rfl rfl))))))))) (Keeps.ite (keeps_foldl (fun _ _ h17 => keeps_loopLate h17)
      (keeps_foldl (fun _ _ h18 => keeps_loopStale h18) (keeps_foldl (fun _ _ h19 => keeps_zoneEval h19) (keeps_foldl (fun _ _
      h20 => keeps_zoneStale h20) (keeps_schedsStep (keeps_foldl (fun _ _ h21 => keeps_zoneTimes h21) (Keeps.ite (Keeps.upd hk
      rfl rfl) (keeps_foldl (fun _ _ h22 => keeps_setOutput h22) (Keeps.upd hk rfl rfl))))))))) (keeps_foldl (fun _ _ h23 =>
      keeps_loopStale h23) (keeps_foldl (fun _ _ h24 => keeps_zoneEval h24) (keeps_foldl (fun _ _ h25 => keeps_zoneStale h25)
      (keeps_schedsStep (keeps_foldl (fun _ _ h26 => keeps_zoneTimes h26) (Keeps.ite (Keeps.upd hk rfl rfl) (keeps_foldl (fun _
      _ h27 => keeps_setOutput h27) (Keeps.upd hk rfl rfl)))))))))))

theorem keeps_loopsSet {a : String} (hk : Keeps s₀ s) : Keeps s₀ (loopsSet s a) := by
  unfold loopsSet
  exact keeps_foldl (fun _ _ h1 => keeps_foldl (fun _ _ h2 => Keeps.ite (keeps_setOutput h2) h2) h1) (Keeps.upd hk rfl rfl)

theorem keeps_climPark {safe : Bool} (hk : Keeps s₀ s) : Keeps s₀ (climPark s safe) := by
  unfold climPark
  exact keeps_loopsSet (keeps_foldl (fun _ _ h1 => keeps_modLoop h1) hk)

theorem keeps_climSleep (hk : Keeps s₀ s) : Keeps s₀ (climSleep s) := by
  unfold climSleep
  exact Keeps.upd (keeps_climPark hk) rfl rfl

theorem keeps_climRestart (hk : Keeps s₀ s) : Keeps s₀ (climRestart s) := by
  unfold climRestart
  exact Keeps.upd hk rfl rfl

theorem keeps_climAfter {old : State} (hk : Keeps s₀ s) : Keeps s₀ (climAfter old s) := by
  unfold climAfter
  exact Keeps.ite hk (keeps_foldl (fun _ _ h5 => Keeps.ite h5 (keeps_modeValue h5)) (keeps_foldl (fun _ _ h6 => Keeps.ite h6
      (keeps_setSched h6)) (keeps_foldl (fun _ _ h7 => Keeps.ite (keeps_overrideSet h7) h7) (keeps_foldl (fun _ _ h8 =>
      Keeps.ite (keeps_modLoop h8) h8) hk))))

end Sys2Proof.Laws
end

