-- ==== Sys2Proof/Machine/KeepsBus.lean ====
section
/-! DEFINITION. Theorems only, on the buses, the Lantern, the journal and the self-tests: what each
definition keeps. They stand beside the meanings so that a
repair of a meaning can mend its lemma with it. -/

namespace Sys2Proof.Laws
open Sys2Proof Sys2Proof.Machine
variable {s₀ s t : State}
set_option Elab.async false

theorem keeps_setBus {f : Bus → Bus} (hk : Keeps s₀ s) : Keeps s₀ (setBus s f) := by
  unfold setBus
  exact Keeps.upd hk rfl rfl

theorem keeps_busNote (hk : Keeps s₀ s) : Keeps s₀ (busNote s) := by
  unfold busNote
  exact keeps_notifyLate hk

theorem keeps_queueDrop {b : Bool} (hk : Keeps s₀ s) : Keeps s₀ (queueDrop s b) := by
  unfold queueDrop
  exact Keeps.ite (keeps_setBus hk) (keeps_setBus hk)

theorem keeps_queueEpisode {b : Bool} (hk : Keeps s₀ s) : Keeps s₀ (queueEpisode s b) := by
  unfold queueEpisode
  exact Keeps.ite (Keeps.ite hk (keeps_notifyLate (keeps_setBus hk))) (Keeps.ite hk (keeps_notifyLate (keeps_setBus hk)))

theorem keeps_queueAdd {b : Bool} {q : QFrame} (hk : Keeps s₀ s) : Keeps s₀ (queueAdd s b q) := by
  unfold queueAdd
  exact Keeps.ite (keeps_queueEpisode (keeps_queueDrop (Keeps.ite (keeps_setBus hk) (keeps_setBus hk)))) (Keeps.ite
      (keeps_setBus hk) (keeps_setBus hk))

theorem keeps_execCanFrameValid {f : CanFrame} (hk : Keeps s₀ s) (ht : execCanFrameValid f s = .next t) : Keeps s₀ t := by
  obtain rfl := Host.Outcome.next.inj ht
  refine Keeps.ite ?_ ?_
  · exact hk
  · refine Keeps.ite ?_ ?_
    · exact keeps_setBus (keeps_setBus hk)
    · try dsimp only
      split
      · exact keeps_setBus (keeps_setBus hk)
      · exact Keeps.ite (keeps_setBus (keeps_setBus hk)) (Keeps.ite (keeps_queueDrop (keeps_setBus (keeps_setBus hk)))
            (keeps_queueAdd (keeps_setBus (keeps_setBus hk))))

theorem keeps_execQueueDrain {b : Bool} (hk : Keeps s₀ s) (ht : execQueueDrain b s = .next t) : Keeps s₀ t := by
  obtain rfl := Host.Outcome.next.inj ht
  try dsimp only
  split
  · exact hk
  · exact Keeps.ite hk (keeps_arrive (Keeps.ite (keeps_setBus hk) (keeps_setBus hk)))

theorem keeps_busUnused (hk : Keeps s₀ s) : Keeps s₀ (busUnused s) := by
  unfold busUnused
  exact keeps_setBus hk

theorem keeps_frameNotice {bf : Nat} {f : CanFrame} (hk : Keeps s₀ s) : Keeps s₀ (frameNotice s bf f) := by
  unfold frameNotice
  exact Keeps.ite (keeps_notify hk) (keeps_notify (keeps_notify hk))

theorem keeps_execUserFrame {bf : Fin 48} {f : CanFrame} (hk : Keeps s₀ s) (ht : execUserFrame bf f s = .next t) : Keeps s₀ t :=
    by
  obtain rfl := Host.Outcome.next.inj ht
  exact Keeps.ite hk (Keeps.ite (keeps_frameNotice hk) (keeps_busUnused hk))

theorem keeps_sendLoad {s₀ : State} {n : Nat} : ∀ {s : State}, Keeps s₀ s → Keeps s₀ (sendLoad n s) := by
  induction n with
  | zero => exact id
  | succ n ih =>
    intro s hk
    unfold sendLoad
    split
    · split
      · exact keeps_setBus hk
      · exact ih (keeps_setBus hk)
    · exact hk

theorem keeps_waitLoad {s₀ : State} {n : Nat} : ∀ {s : State}, Keeps s₀ s → Keeps s₀ (waitLoad n s) := by
  induction n with
  | zero => exact id
  | succ n ih =>
    intro s hk
    unfold waitLoad
    split
    · split
      · exact ih (keeps_setBus hk)
      · exact keeps_setBus hk
    · exact hk

theorem keeps_profSend {f : TxFrame} {what : TxWhat} (hk : Keeps s₀ s) : Keeps s₀ (profSend s f what) := by
  unfold profSend
  exact Keeps.ite hk (Keeps.ite (keeps_setBus hk) (keeps_waitLoad (keeps_setBus hk)))

theorem keeps_txOutcome {tb : Nat} {code : Nat} {sof : Nat} {sub : Nat} (hk : Keeps s₀ s) : Keeps s₀ (txOutcome s tb code sof
    sub) := by
  unfold txOutcome
  exact keeps_arrive hk

theorem keeps_fragSent {c : Nat} {sq : Nat} (hk : Keeps s₀ s) : Keeps s₀ (fragSent s c sq) := by
  unfold fragSent
  exact Keeps.ite (keeps_setBus hk) hk

theorem keeps_execCanTxComplete {tb : Fin 8} {r : TxRes} {sof : Nat} {sub : Fin 10} (hk : Keeps s₀ s) (ht : execCanTxComplete tb
    r sof sub s = .next t) : Keeps s₀ t := by
  obtain rfl := Host.Outcome.next.inj ht
  try dsimp only
  split
  · exact hk
  · refine Keeps.ite ?_ ?_
    · exact hk
    · try dsimp only
      split
      · try dsimp only
        split
        · exact keeps_timerefSent (keeps_txOutcome (Keeps.ite (keeps_drawn (keeps_setBus (keeps_setBus (keeps_setBus hk))))
              (keeps_setBus (keeps_setBus hk))))
        · exact keeps_fragSent (keeps_txOutcome (Keeps.ite (keeps_drawn (keeps_setBus (keeps_setBus (keeps_setBus hk))))
              (keeps_setBus (keeps_setBus hk))))
        · exact keeps_txOutcome (Keeps.ite (keeps_drawn (keeps_setBus (keeps_setBus (keeps_setBus hk)))) (keeps_setBus
              (keeps_setBus hk)))
      · exact keeps_txOutcome (Keeps.ite (keeps_setBus hk) (keeps_setBus hk))
      · exact keeps_txOutcome (Keeps.ite (keeps_setBus (keeps_setBus hk)) (keeps_setBus hk))

theorem keeps_execSend {q : Hdr} {ident : BitVec 29} {len : Nat} {data : List Word} {fd : Bool} {brs : Bool} {oneshot : Bool}
    (hk : Keeps s₀ s) (ht : execSend q ident len data fd brs oneshot s = .next t) : Keeps s₀ t := by
  obtain rfl := Host.Outcome.next.inj ht
  exact keeps_lineIn hk (fun _ h1 => keeps_submit h1 (fun _ _ h2 => Keeps.iteP h2 (keeps_sendLoad (keeps_setBus h2))))

theorem keeps_sendCancel {id : Nat} {cancel : Nat} (hk : Keeps s₀ s) : Keeps s₀ (sendCancel s id cancel).1 := by
  unfold sendCancel
  try dsimp only
  split
  · exact keeps_finish (keeps_setBus hk)
  · exact Keeps.iteP (keeps_txOutcome (keeps_setBus (keeps_drawn (keeps_setBus hk)))) (keeps_txOutcome (keeps_setBus
        (keeps_drawn (keeps_setBus hk))))

theorem keeps_sendEnds {n : Nat} {body : String} (hk : Keeps s₀ s) : Keeps s₀ (sendEnds s n body) := by
  unfold sendEnds
  try dsimp only
  split
  · exact keeps_finish (keeps_setBus hk)
  · exact hk

theorem keeps_cancelEnds {n : Nat} {body : String} (hk : Keeps s₀ s) : Keeps s₀ (cancelEnds s n body) := by
  unfold cancelEnds
  exact keeps_foldl (fun _ _ h2 => keeps_finish h2) (keeps_setBus hk)

theorem keeps_txDeliver {r : Rec} (hk : Keeps s₀ s) : Keeps s₀ (txDeliver s r) := by
  unfold txDeliver
  exact Keeps.ite (keeps_setBus (keeps_foldl (fun _ _ h2 => keeps_cancelEnds (keeps_sendEnds h2)) hk)) (Keeps.ite
      (keeps_sendEnds hk) (Keeps.ite (Keeps.ite hk (keeps_sendEnds hk)) (Keeps.ite (Keeps.ite hk (keeps_sendEnds hk)) (Keeps.ite
      (keeps_sendEnds hk) (Keeps.ite (keeps_cancelEnds (keeps_sendEnds hk)) (Keeps.ite (keeps_cancelEnds hk) hk))))))

theorem keeps_busEmpties {body : String} (hk : Keeps s₀ s) : Keeps s₀ (busEmpties s body) := by
  unfold busEmpties
  refine keeps_setBus ?_
  refine keeps_foldl (fun _ _ h3 => ?_) ?_
  · exact keeps_cancelEnds (keeps_sendEnds h3)
  · refine keeps_foldl (fun _ _ h4 => ?_) ?_
    · try dsimp only
      split
      · exact keeps_finish h4
      · exact h4
    · exact hk

theorem keeps_busOffEnters (hk : Keeps s₀ s) : Keeps s₀ (busOffEnters s) := by
  unfold busOffEnters
  refine keeps_setBus ?_
  refine keeps_foldl (fun _ _ h6 => ?_) ?_
  · try dsimp only
    split
    · exact keeps_setWork h6
    · exact h6
  · exact keeps_foldl (fun _ _ h7 => keeps_txOutcome h7) hk

theorem keeps_execBusErrorState {tec : Nat} {rec_ : Nat} (hk : Keeps s₀ s) (ht : execBusErrorState tec rec_ s = .next t) : Keeps
    s₀ t := by
  obtain rfl := Host.Outcome.next.inj ht
  exact Keeps.ite hk (Keeps.ite (Keeps.ite (keeps_busOffEnters (keeps_setBus hk)) (keeps_setBus hk)) (keeps_busNote (Keeps.ite
      (keeps_busOffEnters (keeps_setBus hk)) (keeps_setBus hk))))

theorem keeps_execBusOffDelayExpiry (hk : Keeps s₀ s) (ht : execBusOffDelayExpiry s = .next t) : Keeps s₀ t := by
  obtain rfl := Host.Outcome.next.inj ht
  exact Keeps.ite hk (keeps_atTick hk (fun _ h1 => keeps_setBus h1))

theorem keeps_execBusOffRecovered (hk : Keeps s₀ s) (ht : execBusOffRecovered s = .next t) : Keeps s₀ t := by
  obtain rfl := Host.Outcome.next.inj ht
  exact Keeps.ite hk (keeps_busNote (keeps_setBus hk))

theorem keeps_busStart (hk : Keeps s₀ s) : Keeps s₀ (busStart s) := by
  unfold busStart
  exact keeps_setBus hk

theorem keeps_execBusJoin (hk : Keeps s₀ s) (ht : execBusJoin s = .next t) : Keeps s₀ t := by
  obtain rfl := Host.Outcome.next.inj ht
  exact Keeps.ite hk (keeps_setBus hk)

theorem keeps_queuesDrop (hk : Keeps s₀ s) : Keeps s₀ (queuesDrop s) := by
  unfold queuesDrop
  exact keeps_setBus hk

theorem keeps_busQuietEntry (hk : Keeps s₀ s) : Keeps s₀ (busQuietEntry s) := by
  unfold busQuietEntry
  exact keeps_setBus (keeps_queuesDrop hk)

theorem keeps_busSleeps (hk : Keeps s₀ s) : Keeps s₀ (busSleeps s) := by
  unfold busSleeps
  exact keeps_setBus (keeps_busEmpties hk)

theorem keeps_busSleepDue (hk : Keeps s₀ s) : Keeps s₀ (busSleepDue s) := by
  unfold busSleepDue
  exact Keeps.ite (keeps_busSleeps hk) hk

theorem keeps_execBusSleep (hk : Keeps s₀ s) (ht : execBusSleep s = .next t) : Keeps s₀ t := by
  obtain rfl := Host.Outcome.next.inj ht
  exact Keeps.ite hk (keeps_busSleeps hk)

theorem keeps_busWakes (hk : Keeps s₀ s) : Keeps s₀ (busWakes s) := by
  unfold busWakes
  exact keeps_setBus hk

theorem keeps_execCanWake {k : CanWakeKind} (hk : Keeps s₀ s) (ht : execCanWake k s = .next t) : Keeps s₀ t := by
  obtain rfl := Host.Outcome.next.inj ht
  exact Keeps.ite hk (Keeps.upd (keeps_setBus hk) rfl rfl)

theorem keeps_busLeaves (hk : Keeps s₀ s) : Keeps s₀ (busLeaves s) := by
  unfold busLeaves
  exact keeps_setBus (keeps_busEmpties hk)

theorem keeps_busCommit (hk : Keeps s₀ s) : Keeps s₀ (busCommit s) := by
  unfold busCommit
  exact keeps_drawn (keeps_setBus hk)

theorem keeps_latchAck (hk : Keeps s₀ s) : Keeps s₀ (latchAck s) := by
  unfold latchAck
  exact keeps_setBus hk

theorem keeps_conflictAck (hk : Keeps s₀ s) : Keeps s₀ (conflictAck s) := by
  unfold conflictAck
  exact keeps_setBus hk

theorem keeps_busClr (hk : Keeps s₀ s) : Keeps s₀ (busClr s) := by
  unfold busClr
  exact keeps_setBus hk

theorem keeps_execBusClr {v : Word} (hk : Keeps s₀ s) (ht : execBusClr v s = .next t) : Keeps s₀ t := by
  obtain rfl := Host.Outcome.next.inj ht
  exact Keeps.ite (keeps_busClr hk) hk

theorem keeps_setLan {f : Lan → Lan} (hk : Keeps s₀ s) : Keeps s₀ (setLan s f) := by
  unfold setLan
  exact Keeps.upd hk rfl rfl

theorem keeps_setSlot {k : Nat} {b : BlinkSt} (hk : Keeps s₀ s) : Keeps s₀ (setSlot s k b) := by
  unfold setSlot
  exact keeps_setLan hk

theorem keeps_storeInternal {x : Eff} (hk : Keeps s₀ s) : Keeps s₀ (storeInternal s x) := Keeps.ite hk (keeps_queueStore
    (hk.outsUpd fun h p hp => Nat.lt_succ_of_lt (h p hp))) 

theorem keeps_panelWrite {prog : List (Nat × Nat)} (hk : Keeps s₀ s) : Keeps s₀ (panelWrite s prog) := by
  unfold panelWrite
  exact keeps_storeInternal hk

theorem keeps_panelStored {lvl : Tbl Nat} {tgt : Tbl Nat} {prog : List (Nat × Nat)} (hk : Keeps s₀ s) : Keeps s₀ (panelStored s
    lvl tgt prog) := by
  unfold panelStored
  exact keeps_setLan hk

theorem keeps_lanPost (hk : Keeps s₀ s) : Keeps s₀ (lanPost s) := by
  unfold lanPost
  exact keeps_arrive (keeps_setLan hk)

theorem keeps_execLanternStatusPost (hk : Keeps s₀ s) (ht : execLanternStatusPost s = .next t) : Keeps s₀ t := by
  obtain rfl := Host.Outcome.next.inj ht
  exact Keeps.ite (keeps_atTick hk (fun _ h1 => keeps_lanPost h1)) hk

theorem keeps_lanAsk (hk : Keeps s₀ s) : Keeps s₀ (lanAsk s) := by
  unfold lanAsk
  try dsimp only
  split
  · refine Keeps.ite ?_ ?_
    · exact hk
    · try dsimp only
      split
      · exact keeps_askLeave (keeps_setLan hk)
      · exact hk
  · exact hk

theorem keeps_lanPop (hk : Keeps s₀ s) : Keeps s₀ (lanPop s) := by
  unfold lanPop
  exact keeps_setLan hk

theorem keeps_slotFreed {k : Option Nat} (hk : Keeps s₀ s) : Keeps s₀ (slotFreed s k) := by
  unfold slotFreed
  try dsimp only
  split
  · exact keeps_setLan hk
  · exact hk

theorem keeps_lanEnds {cmd : Option Nat} {body : String} (hk : Keeps s₀ s) : Keeps s₀ (lanEnds s cmd body) := by
  unfold lanEnds
  try dsimp only
  split
  · exact keeps_finish hk
  · exact hk

theorem keeps_lanEndsNext {cmd : Option Nat} {body : String} (hk : Keeps s₀ s) : Keeps s₀ (lanEndsNext s cmd body) := by
  unfold lanEndsNext
  try dsimp only
  split
  · exact keeps_setWork hk
  · exact hk

theorem keeps_lanGives {u : LanUpd} {again : Bool} (hk : Keeps s₀ s) : Keeps s₀ (lanGives s u again) := by
  unfold lanGives
  exact keeps_slotFreed (Keeps.ite (keeps_setLan (keeps_lanPop hk)) (keeps_lanPop hk))

theorem keeps_lanFails {body : String} {again : Bool} (hk : Keeps s₀ s) : Keeps s₀ (lanFails s body again) := by
  unfold lanFails
  try dsimp only
  split
  · exact hk
  · exact keeps_lanEnds (keeps_lanGives hk)

theorem keeps_lanFailsNext {body : String} {again : Bool} (hk : Keeps s₀ s) : Keeps s₀ (lanFailsNext s body again) := by
  unfold lanFailsNext
  try dsimp only
  split
  · exact hk
  · exact keeps_lanEndsNext (keeps_lanGives hk)

theorem keeps_lanStart (hk : Keeps s₀ s) : Keeps s₀ (lanStart s) := by
  unfold lanStart
  try dsimp only
  split
  · exact hk
  · exact keeps_setLan hk

theorem keeps_lanTake (hk : Keeps s₀ s) : Keeps s₀ (lanTake s) := by
  unfold lanTake
  exact Keeps.ite (keeps_lanFails (keeps_leaveReturn hk)) (Keeps.ite (keeps_setLan (keeps_leaveReturn hk)) (Keeps.ite
      (keeps_setLan hk) (keeps_lanStart hk)))

theorem keeps_lanGranted (hk : Keeps s₀ s) : Keeps s₀ (lanGranted s) := by
  unfold lanGranted
  exact Keeps.ite (keeps_setLan hk) (keeps_lanTake hk)

theorem keeps_lanPosted (hk : Keeps s₀ s) : Keeps s₀ (lanPosted s) := by
  unfold lanPosted
  try dsimp only
  split
  · exact Keeps.ite hk (Keeps.ite (keeps_lanTake (keeps_setLan (keeps_setLan hk))) (keeps_setLan hk))
  · exact hk

theorem keeps_lanAnswer {m : LMsg} (hk : Keeps s₀ s) : Keeps s₀ (lanAnswer s m) := by
  unfold lanAnswer
  refine Keeps.ite ?_ ?_
  · exact Keeps.ite (keeps_leaveReturn hk) hk
  · try dsimp only
    split
    · exact keeps_lanGranted hk
    · exact keeps_lanFails hk
    · try dsimp only
      split
      · exact Keeps.ite (keeps_lanEnds (keeps_setLan hk)) (keeps_lanFails hk)
      · exact hk
    · exact hk

theorem keeps_lanToggles (hk : Keeps s₀ s) : Keeps s₀ (lanToggles s) := by
  unfold lanToggles
  exact Keeps.ite hk (keeps_setLan hk)

theorem keeps_toggleAdd {k : Nat} {b : BlinkSt} (hk : Keeps s₀ s) : Keeps s₀ (toggleAdd s k b) := by
  unfold toggleAdd
  try dsimp only
  split
  · exact keeps_setLan hk
  · exact hk

theorem keeps_toggleDue {k : Nat} {b : BlinkSt} {t : Nat} (hk : Keeps s₀ s) : Keeps s₀ (toggleDue k b t s) := by
  unfold toggleDue
  exact Keeps.ite (keeps_toggleAdd (keeps_setSlot (Keeps.ite (keeps_setLan hk) hk))) (keeps_lanToggles (keeps_setSlot (Keeps.ite
      (keeps_setLan hk) hk)))

theorem keeps_execBlinkToggle {k : Fin 8} (hk : Keeps s₀ s) (ht : execBlinkToggle k s = .next t) : Keeps s₀ t := by
  obtain rfl := Host.Outcome.next.inj ht
  try dsimp only
  split
  · try dsimp only
    split
    · exact Keeps.ite (keeps_atTick hk (fun _ h1 => keeps_toggleDue h1)) hk
    · exact hk
  · exact hk

theorem keeps_lanNext (hk : Keeps s₀ s) : Keeps s₀ (lanNext s) := by
  unfold lanNext
  exact keeps_lanToggles (Keeps.ite (keeps_lanTake (keeps_setLan hk)) hk)

theorem keeps_slotsToggled {l : List Nat} (hk : Keeps s₀ s) : Keeps s₀ (slotsToggled s l) := by
  unfold slotsToggled
  exact keeps_setLan hk

theorem keeps_slotArm {k : Option Nat} (hk : Keeps s₀ s) : Keeps s₀ (slotArm s k) := by
  unfold slotArm
  try dsimp only
  split
  · exact keeps_setSlot hk
  · exact hk

theorem keeps_updDone (hk : Keeps s₀ s) : Keeps s₀ (updDone s) := by
  unfold updDone
  try dsimp only
  split
  · exact hk
  · exact keeps_lanEndsNext (keeps_slotArm (keeps_leaveReturn (keeps_lanPop hk)))

theorem keeps_lanFinish {j : LanJob} (hk : Keeps s₀ s) : Keeps s₀ (lanFinish s j) := by
  unfold lanFinish
  exact keeps_lanNext (Keeps.ite (keeps_slotsToggled (keeps_panelWrite (keeps_setLan hk))) (keeps_updDone (keeps_panelWrite
      (keeps_setLan hk))))

theorem keeps_causeCode {c : Nat} (hk : Keeps s₀ s) : Keeps s₀ (causeCode s c).1 := by
  unfold causeCode
  exact Keeps.iteP hk (keeps_drawn hk)

theorem keeps_recovStarts {pump : Bool} (hk : Keeps s₀ s) : Keeps s₀ (recovStarts s pump) := by
  unfold recovStarts
  exact keeps_setLan hk

theorem keeps_lanAborts {j : LanJob} {c : Nat} (hk : Keeps s₀ s) : Keeps s₀ (lanAborts s j c) := by
  unfold lanAborts
  refine keeps_lanPost ?_
  refine keeps_notifyLate ?_
  refine Keeps.ite ?_ ?_
  · exact keeps_slotsToggled (keeps_recovStarts (keeps_panelWrite (keeps_setLan (keeps_causeCode (keeps_setLan hk)))))
  · refine Keeps.ite ?_ ?_
    · exact keeps_updDone (keeps_recovStarts (keeps_panelWrite (keeps_setLan (keeps_causeCode (keeps_setLan hk)))))
    · try dsimp only
      split
      · exact keeps_leaveReturn (keeps_setLan (keeps_lanPop (keeps_recovStarts (keeps_panelWrite (keeps_setLan (keeps_causeCode
            (keeps_setLan hk)))))))
      · exact keeps_recovStarts (keeps_panelWrite (keeps_setLan (keeps_causeCode (keeps_setLan hk))))

theorem keeps_lanUnstart {j : LanJob} (hk : Keeps s₀ s) : Keeps s₀ (lanUnstart s j) := by
  unfold lanUnstart
  exact Keeps.ite (keeps_setLan (keeps_setLan hk)) (keeps_leaveReturn (keeps_setLan (keeps_setLan hk)))

theorem keeps_lanAbortAsk {c : Nat} (hk : Keeps s₀ s) : Keeps s₀ (lanAbortAsk s c) := by
  unfold lanAbortAsk
  try dsimp only
  split
  · exact Keeps.ite hk (Keeps.ite (keeps_lanUnstart hk) (keeps_setLan hk))
  · exact hk

theorem keeps_lanStops {j : LanJob} (hk : Keeps s₀ s) : Keeps s₀ (lanStops s j) := by
  unfold lanStops
  exact keeps_setLan hk

theorem keeps_execPumpDip (hk : Keeps s₀ s) (ht : execPumpDip s = .next t) : Keeps s₀ t := by
  obtain rfl := Host.Outcome.next.inj ht
  exact Keeps.ite (keeps_lanAbortAsk hk) hk

theorem keeps_countFrame {j : LanJob} (hk : Keeps s₀ s) : Keeps s₀ (countFrame s j) := by
  unfold countFrame
  exact Keeps.ite hk (keeps_setLan hk)

theorem keeps_execLanFrameEnd (hk : Keeps s₀ s) (ht : execLanFrameEnd s = .next t) : Keeps s₀ t := by
  obtain rfl := Host.Outcome.next.inj ht
  try dsimp only
  split
  · exact hk
  · refine keeps_atTick ?_ (fun _ h1 => ?_)
    · exact hk
    · refine Keeps.ite ?_ ?_
      · exact keeps_lanStops (keeps_countFrame (keeps_setLan h1))
      · refine Keeps.ite ?_ ?_
        · exact keeps_lanPost (keeps_lanFinish (keeps_countFrame (keeps_setLan h1)))
        · try dsimp only
          split
          · exact keeps_lanAborts (keeps_countFrame (keeps_setLan h1))
          · exact keeps_lanPost (keeps_countFrame (keeps_setLan h1))

theorem keeps_placeRefresh (hk : Keeps s₀ s) : Keeps s₀ (placeRefresh s) := by
  unfold placeRefresh
  exact Keeps.ite (keeps_lanEndsNext (keeps_slotArm (keeps_setLan hk))) (keeps_lanAsk (keeps_notify (keeps_setLan (keeps_setLan
      hk))))

theorem keeps_recovEnds (hk : Keeps s₀ s) : Keeps s₀ (recovEnds s) := by
  unfold recovEnds
  exact Keeps.ite (keeps_placeRefresh (keeps_setLan hk)) (keeps_setLan (keeps_setLan hk))

theorem keeps_execRecoveryEnd (hk : Keeps s₀ s) (ht : execRecoveryEnd s = .next t) : Keeps s₀ t := by
  obtain rfl := Host.Outcome.next.inj ht
  exact Keeps.ite hk (keeps_atTick hk (fun _ h2 => Keeps.ite (keeps_setLan h2) (keeps_recovEnds h2)))

theorem keeps_framesBegin {j : LanJob} (hk : Keeps s₀ s) : Keeps s₀ (framesBegin s j) := by
  unfold framesBegin
  exact Keeps.ite (keeps_lanFinish (keeps_panelWrite (keeps_setLan hk))) (keeps_panelWrite (keeps_setLan hk))

theorem keeps_railsRead (hk : Keeps s₀ s) : Keeps s₀ (railsRead s) := by
  unfold railsRead
  exact keeps_setLan (keeps_drawn (keeps_drawn hk))

theorem keeps_execPumpReady (hk : Keeps s₀ s) (ht : execPumpReady s = .next t) : Keeps s₀ t := by
  obtain rfl := Host.Outcome.next.inj ht
  try dsimp only
  split
  · exact hk
  · exact Keeps.ite hk (Keeps.ite (keeps_recovEnds (keeps_setLan (keeps_railsRead hk))) (keeps_framesBegin (keeps_railsRead
        hk)))

theorem keeps_execPumpTimeout (hk : Keeps s₀ s) (ht : execPumpTimeout s = .next t) : Keeps s₀ t := by
  obtain rfl := Host.Outcome.next.inj ht
  try dsimp only
  split
  · exact hk
  · exact Keeps.ite hk (keeps_atTick hk (fun _ h1 => Keeps.ite (keeps_lanEndsNext (keeps_slotFreed (keeps_setLan
        (keeps_notifyLate (keeps_setLan h1))))) (Keeps.ite (keeps_lanNext (keeps_notifyLate (keeps_setLan h1))) (keeps_lanNext
        (keeps_lanFailsNext (keeps_leaveReturn (keeps_notifyLate (keeps_setLan h1))))))))

theorem keeps_execDrawSupplyTimeout (hk : Keeps s₀ s) (ht : execDrawSupplyTimeout s = .next t) : Keeps s₀ t := by
  obtain rfl := Host.Outcome.next.inj ht
  try dsimp only
  split
  · exact Keeps.ite hk (keeps_atTick hk (fun _ h1 => keeps_lanEnds (keeps_setLan h1)))
  · exact hk

theorem keeps_lanDeliver {r : Rec} (hk : Keeps s₀ s) : Keeps s₀ (lanDeliver s r) := by
  unfold lanDeliver
  try dsimp only
  split
  · exact keeps_setLan hk
  · refine Keeps.ite ?_ ?_
    · exact hk
    · try dsimp only
      split
      · exact keeps_setLan (keeps_lanAbortAsk (keeps_setLan hk))
      · exact keeps_setLan hk
      · exact hk

theorem keeps_lanMark {m : Nat × MarkKind × Bool} (hk : Keeps s₀ s) : Keeps s₀ (lanMark s m) := by
  unfold lanMark
  exact Keeps.ite (keeps_lanAbortAsk (keeps_setLan hk)) (keeps_setLan hk)

theorem keeps_lanBoundary (hk : Keeps s₀ s) : Keeps s₀ (lanBoundary s) := by
  unfold lanBoundary
  exact keeps_lanToggles (keeps_lanAsk (keeps_lanPosted (Keeps.ite (keeps_placeRefresh (Keeps.ite (keeps_setLan (keeps_setLan
      (keeps_foldl (fun _ _ h6 => keeps_lanMark h6) (keeps_setLan hk)))) (keeps_setLan (keeps_foldl (fun _ _ h7 => keeps_lanMark
      h7) (keeps_setLan hk))))) (Keeps.ite (keeps_setLan (keeps_setLan (keeps_foldl (fun _ _ h8 => keeps_lanMark h8)
      (keeps_setLan hk)))) (keeps_setLan (keeps_foldl (fun _ _ h9 => keeps_lanMark h9) (keeps_setLan hk)))))))

theorem keeps_drawsEnd {body : String} (hk : Keeps s₀ s) : Keeps s₀ (drawsEnd s body) := by
  unfold drawsEnd
  exact keeps_foldl (fun _ _ h6 => keeps_finish h6) (keeps_setLan hk)

theorem keeps_drawCut {body : String} (hk : Keeps s₀ s) : Keeps s₀ (drawCut s body) := by
  unfold drawCut
  try dsimp only
  split
  · exact Keeps.ite (keeps_lanEnds (keeps_setLan hk)) hk
  · exact hk

theorem keeps_lanMode {m : Mode} (hk : Keeps s₀ s) : Keeps s₀ (lanMode s m) := by
  unfold lanMode
  exact Keeps.ite (keeps_setLan (Keeps.ite (keeps_setLan (keeps_leaveWithdraw (Keeps.ite (keeps_drawsEnd (keeps_lanAbortAsk hk))
      (keeps_drawCut (keeps_lanAbortAsk hk))))) (Keeps.ite (keeps_setLan (keeps_leaveReturn (Keeps.ite (keeps_drawsEnd
      (keeps_lanAbortAsk hk)) (keeps_drawCut (keeps_lanAbortAsk hk))))) (Keeps.ite (keeps_drawsEnd (keeps_lanAbortAsk hk))
      (keeps_drawCut (keeps_lanAbortAsk hk)))))) (Keeps.ite (keeps_setLan (keeps_leaveWithdraw (Keeps.ite (keeps_drawsEnd
      (keeps_lanAbortAsk hk)) (keeps_drawCut (keeps_lanAbortAsk hk))))) (Keeps.ite (keeps_setLan (keeps_leaveReturn (Keeps.ite
      (keeps_drawsEnd (keeps_lanAbortAsk hk)) (keeps_drawCut (keeps_lanAbortAsk hk))))) (Keeps.ite (keeps_drawsEnd
      (keeps_lanAbortAsk hk)) (keeps_drawCut (keeps_lanAbortAsk hk)))))

theorem keeps_lanWarm (hk : Keeps s₀ s) : Keeps s₀ (lanWarm s) := by
  unfold lanWarm
  exact keeps_setLan (keeps_lanAbortAsk hk)

theorem keeps_lanCommit (hk : Keeps s₀ s) : Keeps s₀ (lanCommit s) := by
  unfold lanCommit
  exact keeps_setLan hk

theorem keeps_lanRestart (hk : Keeps s₀ s) : Keeps s₀ (lanRestart s) := by
  unfold lanRestart
  exact Keeps.upd hk rfl rfl

theorem keeps_lanFactory (hk : Keeps s₀ s) : Keeps s₀ (lanFactory s) := by
  unfold lanFactory
  exact keeps_setLan hk

theorem keeps_lanAck (hk : Keeps s₀ s) : Keeps s₀ (lanAck s) := by
  unfold lanAck
  exact keeps_notify (keeps_setLan hk)

theorem keeps_execDraw {q : Hdr} {full : Bool} {fill : Option Nat} {pairs : List (Fin 129 × Nat)} (hk : Keeps s₀ s) (ht :
    execDraw q full fill pairs s = .next t) : Keeps s₀ t := by
  obtain rfl := Host.Outcome.next.inj ht
  exact keeps_lineIn hk (fun _ h1 => keeps_submit h1 (fun _ _ h2 => keeps_lanAsk (keeps_setLan h2)))

theorem keeps_blinkStart {id seg period a b : Nat} (hk : Keeps s₀ s) : Keeps s₀ (blinkStart s id seg period a b).1 := by
  unfold blinkStart
  dsimp only
  split
  · exact Keeps.iteP (keeps_setSlot hk) (keeps_lanAsk (keeps_setLan (keeps_setSlot hk)))
  · split
    · exact keeps_lanAsk (keeps_setLan (keeps_setSlot hk))
    · exact hk

theorem keeps_execBlink {q : Hdr} {seg : Fin 129} {period : Nat} {a : Nat} {b : Nat} (hk : Keeps s₀ s) (ht : execBlink q seg
    period a b s = .next t) : Keeps s₀ t := by
  obtain rfl := Host.Outcome.next.inj ht
  exact keeps_lineIn hk (fun _ h1 => keeps_submit h1 (fun _ _ h2 => keeps_blinkStart h2))

theorem keeps_blinkDrop {seg : Nat} (hk : Keeps s₀ s) : Keeps s₀ (blinkDrop s seg) := by
  unfold blinkDrop
  try dsimp only
  split
  · exact hk
  · exact keeps_foldl (fun _ _ h6 => keeps_lanEnds h6) (keeps_setLan (Keeps.ite (keeps_withdrawPost hk) hk))

theorem keeps_execBlinkOff {q : Hdr} {seg : Fin 129} (hk : Keeps s₀ s) (ht : execBlinkOff q seg s = .next t) : Keeps s₀ t := by
  obtain rfl := Host.Outcome.next.inj ht
  exact keeps_lineIn hk (fun _ h1 => keeps_submit h1 (fun _ _ h2 => keeps_slotFreed (keeps_blinkDrop h2)))

theorem keeps_lanCancel {id : Nat} (hk : Keeps s₀ s) (ht : lanCancel s id = some t) : Keeps s₀ t := by
  unfold lanCancel at ht
  split at ht
  · cases ht
  · split at ht
    · split at ht <;> cases ht
      exact keeps_lanEnds (keeps_slotFreed (keeps_lanPop (Keeps.ite (keeps_withdrawPost hk) hk)))
    · split at ht
      · split at ht <;> cases ht
        exact keeps_lanEnds (keeps_slotFreed (keeps_setLan hk))
      · cases ht

theorem keeps_lanClr (hk : Keeps s₀ s) : Keeps s₀ (lanClr s) := by
  unfold lanClr
  exact keeps_setLan hk

theorem keeps_execLanClr {v : Word} (hk : Keeps s₀ s) (ht : execLanClr v s = .next t) : Keeps s₀ t := by
  obtain rfl := Host.Outcome.next.inj ht
  exact Keeps.ite (keeps_lanClr hk) hk

theorem keeps_setJrn {f : Jrn → Jrn} (hk : Keeps s₀ s) : Keeps s₀ (setJrn s f) := by
  unfold setJrn
  exact Keeps.upd hk rfl rfl

theorem keeps_jrnXing {r : Rec} (hk : Keeps s₀ s) : Keeps s₀ (jrnXing s r) := by
  unfold jrnXing
  exact Keeps.ite hk (Keeps.ite (keeps_jrnPut (keeps_setJrn hk)) (Keeps.ite (keeps_jrnPut (keeps_setJrn hk)) (keeps_setJrn hk)))

theorem keeps_jrnAnchor {cause : Nat} (hk : Keeps s₀ s) : Keeps s₀ (jrnAnchor s cause) := by
  unfold jrnAnchor
  refine Keeps.ite ?_ ?_
  · exact hk
  · try dsimp only
    split
    · exact Keeps.ite (keeps_setJrn hk) (keeps_setJrn hk)
    · exact keeps_setJrn hk

theorem keeps_anchorSeal (hk : Keeps s₀ s) : Keeps s₀ (anchorSeal s) := by
  unfold anchorSeal
  try dsimp only
  split
  · exact Keeps.ite (keeps_setJrn hk) hk
  · exact hk

theorem keeps_execAnchorInterval (hk : Keeps s₀ s) (ht : execAnchorInterval s = .next t) : Keeps s₀ t := by
  obtain rfl := Host.Outcome.next.inj ht
  exact Keeps.ite (keeps_jrnAnchor hk) hk

theorem keeps_jrnConfig (hk : Keeps s₀ s) : Keeps s₀ (jrnConfig s) := by
  unfold jrnConfig
  exact keeps_jrnAnchor (keeps_setJrn hk)

theorem keeps_ringPut {r : JRec} (hk : Keeps s₀ s) : Keeps s₀ (ringPut s r) := by
  unfold ringPut
  exact keeps_setJrn hk

theorem keeps_jrnResume (hk : Keeps s₀ s) : Keeps s₀ (jrnResume s) := by
  unfold jrnResume
  exact Keeps.ite hk (keeps_foldl (fun _ _ h5 => keeps_ringPut h5) (keeps_setJrn (Keeps.ite (keeps_notify (keeps_setJrn hk))
      (keeps_notify (keeps_ringPut (keeps_setJrn (keeps_notify (keeps_setJrn hk))))))))

theorem keeps_jrnWrite {l : List JRec} (hk : Keeps s₀ s) : Keeps s₀ (jrnWrite s l) := by
  unfold jrnWrite
  exact Keeps.ite hk (Keeps.ite (Keeps.ite hk (Keeps.ite (keeps_notify (keeps_setJrn hk)) (keeps_setJrn hk))) (keeps_foldl (fun
      _ _ h3 => keeps_ringPut h3) (keeps_jrnResume hk)))

theorem keeps_digests {e : Nat} (hk : Keeps s₀ s) : Keeps s₀ (digests s e) := by
  unfold digests
  exact Keeps.ite hk (keeps_foldl (fun _ _ h3 => Keeps.ite (keeps_jrnPut h3) h3) (keeps_drawn hk))

theorem keeps_rateStep (hk : Keeps s₀ s) : Keeps s₀ (rateStep s) := by
  unfold rateStep
  exact Keeps.ite (keeps_setJrn hk) hk

theorem keeps_jrnBoundary {l : List Rec} (hk : Keeps s₀ s) : Keeps s₀ (jrnBoundary s l) := by
  unfold jrnBoundary
  exact keeps_rateStep (keeps_setJrn (keeps_digests (keeps_foldl (fun _ _ h5 => keeps_jrnXing h5) (keeps_jrnWrite (keeps_setJrn
      hk)))))

theorem keeps_jrnDeliver {r : Rec} (hk : Keeps s₀ s) : Keeps s₀ (jrnDeliver s r) := by
  unfold jrnDeliver
  refine Keeps.ite ?_ ?_
  · exact hk
  · try dsimp only
    split
    · exact keeps_setJrn hk
    · exact keeps_setJrn hk
    · exact hk

theorem keeps_jrnPost (hk : Keeps s₀ s) : Keeps s₀ (jrnPost s) := by
  unfold jrnPost
  exact keeps_arrive (keeps_setJrn hk)

theorem keeps_jrnTells (hk : Keeps s₀ s) : Keeps s₀ (jrnTells s) := by
  unfold jrnTells
  exact Keeps.ite (keeps_jrnPost hk) hk

theorem keeps_execJournalStatusPost (hk : Keeps s₀ s) (ht : execJournalStatusPost s = .next t) : Keeps s₀ t := by
  obtain rfl := Host.Outcome.next.inj ht
  exact Keeps.ite (keeps_atTick hk (fun _ h1 => keeps_jrnPost h1)) hk

theorem keeps_setSlotAt {n : Nat} {x : Slot} (hk : Keeps s₀ s) : Keeps s₀ (setSlotAt s n x) := by
  unfold setSlotAt
  exact keeps_setJrn hk

theorem keeps_setFrz {f : Frz} (hk : Keeps s₀ s) : Keeps s₀ (setFrz s f) := by
  unfold setFrz
  exact keeps_setJrn hk

theorem keeps_frzPop (hk : Keeps s₀ s) : Keeps s₀ (frzPop s) := by
  unfold frzPop
  exact keeps_setJrn hk

theorem keeps_frzFails {f : Frz} {body : String} (hk : Keeps s₀ s) : Keeps s₀ (frzFails s f body) := by
  unfold frzFails
  try dsimp only
  split
  · exact keeps_finish (keeps_frzPop hk)
  · exact keeps_frzPop hk

theorem keeps_frzAsk {e : Nat} (hk : Keeps s₀ s) : Keeps s₀ (frzAsk s e) := by
  unfold frzAsk
  try dsimp only
  split
  · refine Keeps.ite ?_ ?_
    · try dsimp only
      split
      · exact keeps_askLeave (keeps_setFrz hk)
      · exact hk
    · exact hk
  · exact hk

theorem keeps_execFreezeBoundary (hk : Keeps s₀ s) (ht : execFreezeBoundary s = .next t) : Keeps s₀ t := by
  obtain rfl := Host.Outcome.next.inj ht
  exact Keeps.ite (keeps_frzAsk hk) hk

theorem keeps_frzAnswer {m : LMsg} (hk : Keeps s₀ s) : Keeps s₀ (frzAnswer s m) := by
  unfold frzAnswer
  try dsimp only
  split
  · refine Keeps.ite ?_ ?_
    · exact Keeps.ite (keeps_leaveReturn hk) hk
    · try dsimp only
      split
      · exact keeps_setFrz hk
      · exact keeps_frzFails hk
      · exact Keeps.ite (keeps_setFrz hk) (keeps_frzFails hk)
      · exact hk
  · exact Keeps.ite (keeps_leaveReturn hk) hk

theorem keeps_frzSkip {f : Frz} (hk : Keeps s₀ s) : Keeps s₀ (frzSkip s f) := by
  unfold frzSkip
  exact keeps_notify (keeps_frzPop (keeps_leaveReturn hk))

theorem keeps_copyStarts {f : Frz} {n : Nat} (hk : Keeps s₀ s) : Keeps s₀ (copyStarts s f n) := by
  unfold copyStarts
  try dsimp only
  split
  · exact keeps_setFrz (keeps_setSlotAt hk)
  · exact Keeps.ite (keeps_frzSkip hk) (keeps_frzFails (keeps_leaveReturn hk))

theorem keeps_copyBegins {f : Frz} (hk : Keeps s₀ s) : Keeps s₀ (copyBegins s f) := by
  unfold copyBegins
  refine Keeps.ite ?_ ?_
  · try dsimp only
    split
    · exact keeps_copyStarts hk
    · exact keeps_frzSkip hk
  · try dsimp only
    split
    · exact keeps_copyStarts hk
    · exact keeps_frzFails (keeps_leaveReturn hk)

theorem keeps_execFreezeCopyStart (hk : Keeps s₀ s) (ht : execFreezeCopyStart s = .next t) : Keeps s₀ t := by
  obtain rfl := Host.Outcome.next.inj ht
  try dsimp only
  split
  · exact Keeps.ite hk (keeps_jrnTells (keeps_copyBegins hk))
  · exact hk

theorem keeps_frozenNote {n : Nat} {i : SlotImg} (hk : Keeps s₀ s) : Keeps s₀ (frozenNote s n i) := by
  unfold frozenNote
  exact keeps_notifyLate hk

theorem keeps_copyEnds (hk : Keeps s₀ s) : Keeps s₀ (copyEnds s) := by
  unfold copyEnds
  try dsimp only
  split
  · try dsimp only
    split
    · refine Keeps.ite ?_ ?_
      · exact hk
      · try dsimp only
        split
        · exact keeps_setWork (keeps_frzPop (keeps_frozenNote (keeps_setSlotAt (keeps_leaveReturn hk))))
        · exact keeps_frzPop (keeps_frozenNote (keeps_setSlotAt (keeps_leaveReturn hk)))
    · exact hk
  · exact hk

theorem keeps_execFreezeCopyComplete (hk : Keeps s₀ s) (ht : execFreezeCopyComplete s = .next t) : Keeps s₀ t := by
  obtain rfl := Host.Outcome.next.inj ht
  exact Keeps.ite (keeps_jrnTells (keeps_copyEnds hk)) hk

theorem keeps_jrnCloses (hk : Keeps s₀ s) : Keeps s₀ (jrnCloses s) := by
  unfold jrnCloses
  try dsimp only
  split
  · exact Keeps.ite hk (Keeps.ite (keeps_setJrn (keeps_leaveReturn hk)) (keeps_frzFails (keeps_leaveReturn hk)))
  · exact hk

theorem keeps_frzLapse (hk : Keeps s₀ s) : Keeps s₀ (frzLapse s) := by
  unfold frzLapse
  try dsimp only
  split
  · exact Keeps.ite (keeps_setFrz hk) hk
  · exact hk

theorem keeps_copyLate (hk : Keeps s₀ s) : Keeps s₀ (copyLate s) := by
  unfold copyLate
  try dsimp only
  split
  · exact Keeps.ite (keeps_copyEnds hk) hk
  · exact hk

theorem keeps_frzBoundary (hk : Keeps s₀ s) : Keeps s₀ (frzBoundary s) := by
  unfold frzBoundary
  exact keeps_jrnTells (keeps_frzAsk (keeps_frzLapse (keeps_copyLate (Keeps.ite hk (keeps_jrnCloses hk)))))

theorem keeps_execFreeze {q : Hdr} {slot : Option (Fin 4)} {note : Option String} (hk : Keeps s₀ s) (ht : execFreeze q slot note
    s = .next t) : Keeps s₀ t := by
  obtain rfl := Host.Outcome.next.inj ht
  exact keeps_lineIn hk fun _ h1 => keeps_submit h1 fun _ _ h2 => keeps_setJrn (f := fun x => { x with frz := _ }) h2

theorem keeps_frzCancel {id : Nat} (hk : Keeps s₀ s) (ht : frzCancel s id = some t) : Keeps s₀ t := by
  unfold frzCancel at ht
  split at ht
  · split at ht <;> cases ht
    exact keeps_finish (keeps_setJrn (Keeps.ite (keeps_leaveWithdraw hk) hk))
  · cases ht

theorem keeps_execSlotFree {q : Hdr} {n : Fin 4} (hk : Keeps s₀ s) (ht : execSlotFree q n s = .next t) : Keeps s₀ t := by
  obtain rfl := Host.Outcome.next.inj ht
  exact keeps_lineIn hk (fun _ h1 => keeps_submit h1 (fun _ _ h2 => h2))

theorem keeps_execExportData {q : Hdr} {what : ExportWhat} (hk : Keeps s₀ s) (ht : execExportData q what s = .next t) : Keeps s₀
    t := by
  obtain rfl := Host.Outcome.next.inj ht
  exact keeps_lineIn hk (fun _ h1 => keeps_submit h1 (fun _ _ h2 => h2))

theorem keeps_exportStep {o : Out} (hk : Keeps s₀ s) : Keeps s₀ (exportStep s o) := by
  unfold exportStep
  try dsimp only
  split
  · exact keeps_setWork (keeps_more hk)
  · refine keeps_finish ?_
    try dsimp only
    split
    · exact Keeps.upd hk rfl rfl
    · exact hk
  · exact hk

theorem keeps_execLoad {q : Hdr} {slot : Fin 4} {sq : Nat} {data : List Word} (hk : Keeps s₀ s) (ht : execLoad q slot sq data s
    = .next t) : Keeps s₀ t := by
  obtain rfl := Host.Outcome.next.inj ht
  exact keeps_lineIn hk (fun _ h1 => keeps_submit h1 (fun _ _ h2 => keeps_setSlotAt h2))

theorem keeps_execLoadEnd {q : Hdr} {slot : Fin 4} (hk : Keeps s₀ s) (ht : execLoadEnd q slot s = .next t) : Keeps s₀ t := by
  obtain rfl := Host.Outcome.next.inj ht
  refine keeps_lineIn ?_ (fun _ h1 => ?_)
  · exact hk
  · refine keeps_submit ?_ (fun _ _ h2 => ?_)
    · exact h1
    · try dsimp only
      split
      · exact keeps_setSlotAt h2
      · exact keeps_setSlotAt h2

theorem keeps_execReplayStart {q : Hdr} {slot : Fin 4} (hk : Keeps s₀ s) (ht : execReplayStart q slot s = .next t) : Keeps s₀ t
    := by
  obtain rfl := Host.Outcome.next.inj ht
  exact keeps_lineIn hk (fun _ h1 => keeps_submit h1 (fun _ _ h2 => keeps_addCause (keeps_setJrn h2)))

theorem keeps_replayEnds {body : String} {res : Nat} {island : Nat} (hk : Keeps s₀ s) : Keeps s₀ (replayEnds s body res island)
    := by
  unfold replayEnds
  try dsimp only
  split
  · refine keeps_addCause ?_
    refine Keeps.ite ?_ ?_
    · refine keeps_setJrn ?_
      try dsimp only
      split
      · exact keeps_finish hk
      · exact hk
    · refine keeps_notify ?_
      refine keeps_setJrn ?_
      try dsimp only
      split
      · exact keeps_finish hk
      · exact hk
  · refine Keeps.upd ?_ rfl rfl
    try dsimp only
    split
    · exact keeps_finish hk
    · exact hk

theorem keeps_execReplayStop {q : Hdr} (hk : Keeps s₀ s) (ht : execReplayStop q s = .next t) : Keeps s₀ t := by
  obtain rfl := Host.Outcome.next.inj ht
  exact keeps_lineIn hk (fun _ h1 => keeps_submit h1 (fun _ _ h2 => keeps_replayEnds h2))

theorem keeps_imageTake {i : Image} (hk : Keeps s₀ s) : Keeps s₀ (imageTake s i) := by
  unfold imageTake
  exact Keeps.upd hk rfl rfl

theorem keeps_replayEnter (hk : Keeps s₀ s) : Keeps s₀ (replayEnter s) := by
  unfold replayEnter
  try dsimp only
  split
  · exact keeps_imageTake (keeps_setJrn hk)
  · exact hk

theorem keeps_replayLeave (hk : Keeps s₀ s) : Keeps s₀ (replayLeave s) := by
  unfold replayLeave
  try dsimp only
  split
  · exact Keeps.upd (keeps_imageTake (keeps_setJrn hk)) rfl rfl
  · exact hk

theorem keeps_replayEpoch {deliver : State → List Rec → State} (hk : Keeps s₀ s) (hf : ∀ s a0, Keeps s₀ s → Keeps s₀ (deliver s
    a0)) : Keeps s₀ (replayEpoch s deliver) := by
  unfold replayEpoch
  try dsimp only
  split
  · exact hk
  · exact Keeps.ite (keeps_replayEnds (hf _ _ (Keeps.upd (Keeps.ite (keeps_drawn hk) hk) rfl rfl))) (Keeps.ite (keeps_replayEnds
        (hf _ _ (Keeps.upd (Keeps.ite (keeps_drawn hk) hk) rfl rfl))) (Keeps.ite (keeps_replayEnds (hf _ _ (Keeps.upd (Keeps.ite
        (keeps_drawn hk) hk) rfl rfl))) (keeps_setJrn (hf _ _ (Keeps.upd (Keeps.ite (keeps_drawn hk) hk) rfl rfl)))))

theorem keeps_jrnCommit (hk : Keeps s₀ s) : Keeps s₀ (jrnCommit s) := by
  unfold jrnCommit
  exact keeps_setJrn hk

theorem keeps_jrnReset (hk : Keeps s₀ s) : Keeps s₀ (jrnReset s) := by
  unfold jrnReset
  exact keeps_setJrn hk

theorem keeps_jrnOpen (hk : Keeps s₀ s) : Keeps s₀ (jrnOpen s) := by
  unfold jrnOpen
  refine Keeps.ite ?_ ?_
  · exact keeps_setJrn hk
  · refine keeps_jrnPut ?_
    refine keeps_setJrn ?_
    refine Keeps.ite ?_ ?_
    · try dsimp only
      split
      · exact keeps_ringPut (keeps_foldl (fun _ _ h6 => keeps_ringPut h6) hk)
      · exact hk
    · refine keeps_notify ?_
      refine keeps_ringPut ?_
      refine keeps_setJrn ?_
      try dsimp only
      split
      · exact keeps_ringPut (keeps_foldl (fun _ _ h7 => keeps_ringPut h7) hk)
      · exact hk

theorem keeps_execJrnClr {v : Word} (hk : Keeps s₀ s) (ht : execJrnClr v s = .next t) : Keeps s₀ t := by
  obtain rfl := Host.Outcome.next.inj ht
  exact Keeps.ite (keeps_setJrn hk) hk

theorem keeps_setTst {f : Tst → Tst} (hk : Keeps s₀ s) : Keeps s₀ (setTst s f) := by
  unfold setTst
  exact Keeps.upd hk rfl rfl

theorem keeps_heldNotice {was : Bool} {is : Bool} {name : String} (hk : Keeps s₀ s) : Keeps s₀ (heldNotice s was is name) := by
  unfold heldNotice
  exact Keeps.ite (keeps_notify hk) hk

theorem keeps_versionCheck (hk : Keeps s₀ s) : Keeps s₀ (versionCheck s) := by
  unfold versionCheck
  exact keeps_heldNotice (keeps_heldNotice (keeps_heldNotice (keeps_setTst hk)))

theorem keeps_setFaults {faults : BitVec 10} {holds : Tbl (BitVec 12)} (hk : Keeps s₀ s) : Keeps s₀ (setFaults s faults holds)
    := by
  unfold setFaults
  exact keeps_foldl (fun _ _ h3 => Keeps.ite (keeps_portStop h3) h3) (keeps_foldl (fun _ _ h4 => Keeps.ite (keeps_feedStop h4)
      h4) (keeps_setTst hk))

theorem keeps_latchFaults {bits : BitVec 10} {found : BitVec 10} {holds : Tbl (BitVec 12)} (hk : Keeps s₀ s) : Keeps s₀
    (latchFaults s bits found holds) := by
  unfold latchFaults
  exact keeps_setFaults hk

theorem keeps_faultNotes {found : BitVec 10} (hk : Keeps s₀ s) : Keeps s₀ (faultNotes s found) := by
  unfold faultNotes
  exact keeps_foldl (fun _ _ h1 => keeps_notifyLate h1) hk

theorem keeps_quickResult {faults : BitVec 10} {feeds : BitVec 8} {ports : BitVec 4} (hk : Keeps s₀ s) : Keeps s₀ (quickResult s
    faults feeds ports) := by
  unfold quickResult
  exact keeps_faultNotes (keeps_latchFaults (keeps_setTst hk))

theorem keeps_bistEnds {body : String} (hk : Keeps s₀ s) : Keeps s₀ (bistEnds s body) := by
  unfold bistEnds
  exact keeps_foldl (fun _ _ h2 => keeps_finish h2) (keeps_setTst hk)

theorem keeps_execBist {q : Hdr} {dur : Option Nat} (hk : Keeps s₀ s) (ht : execBist q dur s = .next t) : Keeps s₀ t := by
  obtain rfl := Host.Outcome.next.inj ht
  refine keeps_lineIn ?_ (fun _ h1 => ?_)
  · exact hk
  · refine keeps_submit ?_ (fun _ _ h2 => ?_)
    · exact h1
    · refine Keeps.iteP ?_ ?_
      · exact h2
      · try dsimp only
        split
        · exact keeps_askLeave (keeps_setTst h2)
        · exact h2

theorem keeps_execRepairFuse {q : Hdr} (hk : Keeps s₀ s) (ht : execRepairFuse q s = .next t) : Keeps s₀ t := by
  obtain rfl := Host.Outcome.next.inj ht
  exact keeps_lineIn hk (fun _ h1 => keeps_submit h1 (fun _ _ h2 => h2))

theorem keeps_repairArm (hk : Keeps s₀ s) : Keeps s₀ (repairArm s) := by
  unfold repairArm
  exact keeps_setTst hk

theorem keeps_bistAnswer {a : LAnswer} (hk : Keeps s₀ s) : Keeps s₀ (bistAnswer s a) := by
  unfold bistAnswer
  refine Keeps.ite ?_ ?_
  · exact keeps_bistHit hk
  · refine Keeps.ite ?_ ?_
    · exact Keeps.ite (keeps_leaveReturn hk) hk
    · try dsimp only
      split
      · try dsimp only
        split
        · exact keeps_bistEnds (keeps_leaveReturn hk)
        · exact keeps_addCause hk
      · exact keeps_bistEnds hk
      · exact keeps_bistEnds hk
      · exact hk

theorem keeps_bistDropped (hk : Keeps s₀ s) : Keeps s₀ (bistDropped s) := by
  unfold bistDropped
  exact Keeps.ite (keeps_bistEnds (keeps_leaveReturn hk)) hk

theorem keeps_bistEnter {prev : Mode} (hk : Keeps s₀ s) : Keeps s₀ (bistEnter s prev) := by
  unfold bistEnter
  exact Keeps.upd (keeps_setTst hk) rfl rfl

theorem keeps_bistPost {fail : Bool} (hk : Keeps s₀ s) : Keeps s₀ (bistPost s fail) := by
  unfold bistPost
  exact keeps_drawn (keeps_arrive (keeps_setTst hk))

theorem keeps_execTestStatusPost (hk : Keeps s₀ s) (ht : execTestStatusPost s = .next t) : Keeps s₀ t := by
  obtain rfl := Host.Outcome.next.inj ht
  exact Keeps.ite (keeps_atTick hk (fun _ h1 => keeps_bistPost h1)) hk

theorem keeps_rowFails {p : Nat × Nat} (hk : Keeps s₀ s) : Keeps s₀ (rowFails s p) := by
  unfold rowFails
  try dsimp only
  split
  · exact hk
  · exact Keeps.ite (keeps_notifyLate (keeps_setTst hk)) (keeps_setTst hk)

theorem keeps_fuseStage (hk : Keeps s₀ s) : Keeps s₀ (fuseStage s) := by
  unfold fuseStage
  try dsimp only
  split
  · exact hk
  · exact keeps_foldl (fun _ _ h5 => keeps_notifyLate h5) (keeps_setTst hk)

theorem keeps_stageLatches {n : Nat} {feeds : BitVec 8} {ports : BitVec 4} (hk : Keeps s₀ s) : Keeps s₀ (stageLatches s n feeds
    ports) := by
  unfold stageLatches
  exact Keeps.ite (keeps_latchFaults hk) (keeps_faultNotes (keeps_latchFaults hk))

theorem keeps_stageEnds {faults : BitVec 10} {feeds : BitVec 8} {ports : BitVec 4} {rows : List (Nat × Nat)} (hk : Keeps s₀ s) :
    Keeps s₀ (stageEnds faults feeds ports rows s) := by
  unfold stageEnds
  try dsimp only
  split
  · exact hk
  · try dsimp only
    split
    · exact keeps_bistPost (keeps_stageLatches (Keeps.ite (keeps_foldl (fun _ _ h6 => keeps_rowFails h6) (keeps_setTst hk))
          (Keeps.ite (keeps_fuseStage (keeps_setTst hk)) (keeps_setTst hk))))
    · try dsimp only
      split
      · exact keeps_setTst (keeps_bistPost (keeps_stageLatches (Keeps.ite (keeps_foldl (fun _ _ h7 => keeps_rowFails h7)
            (keeps_setTst hk)) (Keeps.ite (keeps_fuseStage (keeps_setTst hk)) (keeps_setTst hk)))))
      · exact keeps_setTst (keeps_bistPost (keeps_stageLatches (Keeps.ite (keeps_foldl (fun _ _ h8 => keeps_rowFails h8)
            (keeps_setTst hk)) (Keeps.ite (keeps_fuseStage (keeps_setTst hk)) (keeps_setTst hk)))))

theorem keeps_execBistStageEnd {faults : BitVec 10} {feeds : BitVec 8} {ports : BitVec 4} {rows : List (Fin 32 × Fin 256)} (hk :
    Keeps s₀ s) (ht : execBistStageEnd faults feeds ports rows s = .next t) : Keeps s₀ t := by
  obtain rfl := Host.Outcome.next.inj ht
  try dsimp only
  split
  · exact Keeps.ite hk (keeps_atTick hk (fun _ h1 => keeps_stageEnds h1))
  · exact hk

theorem keeps_slotsFail (hk : Keeps s₀ s) : Keeps s₀ (slotsFail s) := by
  unfold slotsFail
  refine keeps_foldl (fun _ _ h2 => ?_) ?_
  · refine Keeps.ite ?_ ?_
    · try dsimp only
      split
      · exact keeps_setSlotAt h2
      · exact h2
    · exact h2
  · exact keeps_drawn hk

theorem keeps_faultActs {found : BitVec 10} (hk : Keeps s₀ s) : Keeps s₀ (faultActs s found) := by
  unfold faultActs
  exact Keeps.ite (keeps_slotsFail (Keeps.ite (keeps_notify (Keeps.upd hk rfl rfl)) hk)) (Keeps.ite (keeps_notify (Keeps.upd hk
      rfl rfl)) hk)

theorem keeps_bistCompletes {r : BistRun} (hk : Keeps s₀ s) : Keeps s₀ (bistCompletes s r) := by
  unfold bistCompletes
  exact keeps_bistEnds (keeps_notify (keeps_setTst (keeps_faultActs hk)))

theorem keeps_bistGivesUp {r : BistRun} (hk : Keeps s₀ s) : Keeps s₀ (bistGivesUp s r) := by
  unfold bistGivesUp
  exact keeps_setFaults (keeps_setTst hk)

theorem keeps_bistOver {r : BistRun} {body : String} (hk : Keeps s₀ s) : Keeps s₀ (bistOver s r body) := by
  unfold bistOver
  exact Keeps.ite (Keeps.ite (keeps_addCause (keeps_bistCompletes (keeps_leaveReturn hk))) (keeps_setTst (Keeps.upd
      (keeps_bistCompletes (keeps_leaveReturn hk)) rfl rfl))) (keeps_addCause (keeps_bistEnds (keeps_bistGivesUp
      (keeps_leaveReturn hk))))

theorem keeps_bistBoundary (hk : Keeps s₀ s) : Keeps s₀ (bistBoundary s) := by
  unfold bistBoundary
  split
  · exact keeps_bistDropped hk
  · dsimp only
    split
    · exact keeps_bistOver hk
    · refine Keeps.ite (keeps_setTst hk) ?_
      split
      · exact keeps_setTst hk
      · exact Keeps.ite (keeps_setTst hk) (Keeps.ite (keeps_setTst hk) hk)

theorem keeps_bistDeliver {r : Rec} (hk : Keeps s₀ s) : Keeps s₀ (bistDeliver s r) := by
  unfold bistDeliver
  refine Keeps.ite ?_ ?_
  · exact hk
  · try dsimp only
    split
    · exact keeps_setTst hk
    · exact keeps_setTst hk
    · exact hk

theorem keeps_bistTaken (hk : Keeps s₀ s) : Keeps s₀ (bistTaken s) := by
  unfold bistTaken
  try dsimp only
  split
  · exact keeps_leaveReturn (keeps_bistGivesUp hk)
  · exact keeps_setTst hk

theorem keeps_bistCommit (hk : Keeps s₀ s) : Keeps s₀ (bistCommit s) := by
  unfold bistCommit
  try dsimp only
  split
  · exact Keeps.ite (keeps_setTst (keeps_drawn hk)) hk
  · exact hk

theorem keeps_bistCancel {id : Nat} (hk : Keeps s₀ s) (ht : bistCancel s id = some t) : Keeps s₀ t := by
  unfold bistCancel at ht
  split at ht <;> cases ht
  exact Keeps.ite (keeps_finish hk) (keeps_leaveWithdraw (keeps_setTst (keeps_finish hk)))

theorem keeps_tstClr (hk : Keeps s₀ s) : Keeps s₀ (tstClr s) := by
  unfold tstClr
  exact keeps_setTst hk

theorem keeps_execTstClr {v : Word} (hk : Keeps s₀ s) (ht : execTstClr v s = .next t) : Keeps s₀ t := by
  obtain rfl := Host.Outcome.next.inj ht
  exact Keeps.ite (keeps_tstClr hk) hk

theorem keeps_calCancel {id : Nat} (hk : Keeps s₀ s) (ht : calCancel s id = some t) : Keeps s₀ t := by
  unfold calCancel at ht
  split at ht <;> cases ht
  exact Keeps.ite (keeps_finish hk) (keeps_leaveWithdraw (Keeps.upd (keeps_finish hk) rfl rfl))

theorem keeps_macroCancel {m : Nat} {id : Nat} (hk : Keeps s₀ s) : Keeps s₀ (macroCancel s m id) := by
  unfold macroCancel
  exact Keeps.ite (keeps_macroEnd hk) (Keeps.ite (keeps_finish (keeps_setMacro hk)) (keeps_finish hk))

theorem keeps_cancelPlain {s₀ s t : State} {o : Out} (hk : Keeps s₀ s) (ht : cancelPlain s o = some t) : Keeps s₀ t := by
  have out : ∀ {u : State}, Keeps s₀ u → some u = some t → Keeps s₀ t := fun h e => Option.some.inj e ▸ h
  unfold cancelPlain at ht
  split at ht
  · exact out (keeps_finish hk) ht
  · split at ht
    · exact out (keeps_finish (keeps_driveCancel hk)) ht
    · exact absurd ht (by simp)
  · exact out (keeps_finish (keeps_driveCancel hk)) ht
  · exact out (keeps_finish hk) ht
  · exact out (keeps_replayEnds hk) ht
  · exact out (keeps_macroCancel hk) ht
  · exact keeps_calCancel hk ht
  · exact keeps_bistCancel hk ht
  · exact keeps_lanCancel hk ht
  · exact keeps_lanCancel hk ht
  · exact keeps_frzCancel hk ht
  · exact absurd ht (by simp)

theorem keeps_execCancel {q : Hdr} {tag : Nat} (hk : Keeps s₀ s) (ht : execCancel q tag s = .next t) : Keeps s₀ t := by
  obtain rfl := Host.Outcome.next.inj ht
  refine keeps_lineIn hk fun s hk => keeps_submit hk fun s id h => ?_
  split
  · exact h
  · split
    · exact keeps_finish h
    · refine Keeps.iteP (keeps_sendCancel h) ?_
      split
      · next g => exact keeps_cancelPlain h g
      · exact h

theorem keeps_cancelQuiet {o : Out} (hk : Keeps s₀ s) : Keeps s₀ (cancelQuiet s o) := by
  refine Keeps.ite (keeps_sendCancel (hk.outsUpd fun h p hp => Nat.lt_succ_of_lt (h p hp))) ?_
  cases h : cancelPlain s o with
  | none => exact hk
  | some t => exact keeps_cancelPlain hk h

theorem keeps_partialEmpty {k : Sess} {pre : List (BitVec 9 × Nat)} {post : List (BitVec 9 × Nat)} (hk : Keeps s₀ s) : Keeps s₀
    (partialEmpty s k pre post) := by
  unfold partialEmpty
  refine Keeps.ite ?_ ?_
  · exact keeps_modSes hk
  · try dsimp only
    split
    · exact keeps_emptyLine (keeps_modSes hk)
    · exact keeps_emptyLine (keeps_modSes hk)
    · exact keeps_modSes hk

theorem keeps_untaggedCancel {k : Sess} (hk : Keeps s₀ s) : Keeps s₀ (untaggedCancel s k) := by
  unfold untaggedCancel
  try dsimp only
  split
  · exact keeps_cancelQuiet hk
  · exact hk

theorem keeps_ctrlCNow {k : Sess} (hk : Keeps s₀ s) : Keeps s₀ (ctrlCNow s k) := by
  unfold ctrlCNow
  exact keeps_untaggedCancel (keeps_partialEmpty hk)

theorem keeps_ctrlCWaits {k : Sess} (hk : Keeps s₀ s) : Keeps s₀ (ctrlCWaits s k) := by
  unfold ctrlCWaits
  exact Keeps.ite (keeps_untaggedCancel (keeps_partialEmpty hk)) hk

theorem keeps_rxIn {k : Sess} {code : BitVec 9} {t : Nat} (hk : Keeps s₀ s) : Keeps s₀ (rxIn s k code t) := by
  unfold rxIn
  exact Keeps.ite (keeps_ctrlCNow hk) (keeps_rxAdd hk)

theorem keeps_uartIn {p : Fin 2} {code : BitVec 9} (hk : Keeps s₀ s) : Keeps s₀ (uartIn s p code) := by
  unfold uartIn
  exact Keeps.ite hk (Keeps.ite (Keeps.ite (keeps_countFerr (keeps_wakeBy hk)) (keeps_wakeBy hk)) (Keeps.ite (keeps_rtsFollows
      (keeps_holdByte (Keeps.ite (keeps_countFerr (keeps_wakeBy hk)) (keeps_wakeBy hk)))) (keeps_arrive (Keeps.ite
      (keeps_countFerr (keeps_wakeBy hk)) (keeps_wakeBy hk)))))

theorem keeps_execUartByte {p : Fin 2} {code : BitVec 9} (hk : Keeps s₀ s) (ht : execUartByte p code s = .next t) : Keeps s₀ t
    := by
  obtain rfl := Host.Outcome.next.inj ht
  exact keeps_uartIn hk

theorem keeps_byteTake {r : Rec} (hk : Keeps s₀ s) : Keeps s₀ (byteTake s r) := by
  unfold byteTake
  exact Keeps.ite hk (Keeps.ite (keeps_rearm (keeps_xSeen hk)) (keeps_rxIn (keeps_xSeen hk)))

theorem keeps_holdPasses {p : Fin 2} (hk : Keeps s₀ s) : Keeps s₀ (holdPasses s p) := by
  unfold holdPasses
  exact keeps_foldl (fun _ _ h3 => Keeps.ite (keeps_postRec h3) (keeps_arrive h3)) (keeps_setHold hk)

theorem keeps_execCtrlC {k : Sess} (hk : Keeps s₀ s) (ht : execCtrlC k s = .next t) : Keeps s₀ t := by
  obtain rfl := Host.Outcome.next.inj ht
  exact Keeps.ite hk (Keeps.ite (keeps_rtsFollows (keeps_holdByte (keeps_wakeBy hk))) (keeps_rtsFollows (keeps_ctrlCNow hk)))

theorem keeps_profFrame {prio : Nat} {kind : Nat} {dest : Nat} {sub : Nat} {data : List Byte} (hk : Keeps s₀ s) : Keeps s₀
    (profFrame s prio kind dest sub data) := by
  unfold profFrame
  exact keeps_profSend hk

theorem keeps_setTun {c : Nat} {t : Tun} (hk : Keeps s₀ s) : Keeps s₀ (setTun s c t) := by
  unfold setTun
  exact keeps_setBus hk

theorem keeps_tunCtl {node : Nat} {c : Nat} {data : List Nat} (hk : Keeps s₀ s) : Keeps s₀ (tunCtl s node c data) := by
  unfold tunCtl
  exact keeps_profFrame hk

theorem keeps_sesNotice {c : Nat} {args : String} (hk : Keeps s₀ s) : Keeps s₀ (sesNotice s c args) := by
  unfold sesNotice
  exact keeps_notify hk

theorem keeps_tunShut {c : Nat} {reason : String} {told : Bool} (hk : Keeps s₀ s) : Keeps s₀ (tunShut s c reason told) := by
  have orphans {x : State} {k : Sess} (hx : Keeps s₀ x) : Keeps s₀ { x with vil := { x.vil with outs := x.vil.outs.map fun o => if o.ses = k then { o with orphan := true } else o } } :=
    hx.outsUpd fun h o ho => by
      obtain ⟨p, hp, rfl⟩ := List.mem_map.1 ho
      dsimp only
      split <;> exact h p hp
  unfold tunShut
  split
  · exact hk
  · exact keeps_sesNotice (keeps_setBus (Keeps.upd (keeps_setSes (keeps_roleEnd (orphans
      (keeps_foldl (fun _ _ h => keeps_cancelQuiet h) (Keeps.ite (keeps_tunCtl hk) hk))))) rfl rfl))

theorem keeps_tunClose {c : Nat} {reason : String} (hk : Keeps s₀ s) : Keeps s₀ (tunClose s c reason) := by
  unfold tunClose
  exact keeps_tunShut hk

theorem keeps_tunCloseAll {reason : String} (hk : Keeps s₀ s) : Keeps s₀ (tunCloseAll s reason) := by
  unfold tunCloseAll
  exact keeps_foldl (fun _ _ h1 => keeps_tunClose h1) hk

theorem keeps_execTunnelOpen {src : Fin 64} (hk : Keeps s₀ s) (ht : execTunnelOpen src s = .next t) : Keeps s₀ t := by
  obtain rfl := Host.Outcome.next.inj ht
  refine Keeps.ite ?_ ?_
  · exact hk
  · refine Keeps.ite ?_ ?_
    · exact keeps_busUnused hk
    · refine Keeps.ite ?_ ?_
      · exact keeps_tunCtl hk
      · refine Keeps.ite ?_ ?_
        · exact hk
        · try dsimp only
          split
          · refine keeps_tunCtl ?_
            try dsimp only
            split
            · exact keeps_tunClose hk
            · exact hk
          · refine keeps_tunCtl ?_
            refine keeps_sesNotice ?_
            refine keeps_modSes ?_
            refine keeps_setTun ?_
            try dsimp only
            split
            · exact keeps_tunClose hk
            · exact hk

theorem keeps_fragSend {c : Nat} {t : Tun} {f : Frag} (hk : Keeps s₀ s) : Keeps s₀ (fragSend s c t f) := by
  unfold fragSend
  exact keeps_profSend hk

theorem keeps_fragPump {s₀ : State} {c : Nat} {n : Nat} : ∀ {s : State}, Keeps s₀ s → Keeps s₀ (fragPump n s c) := by
  induction n with
  | zero => exact id
  | succ n ih =>
    intro s hk
    unfold fragPump
    split
    · exact hk
    · exact Keeps.ite hk (ih (keeps_fragSend (keeps_setTun hk)))

theorem keeps_tunLines {c : Nat} (hk : Keeps s₀ s) : Keeps s₀ (tunLines s c) := by
  unfold tunLines
  try dsimp only
  split
  · exact hk
  · exact keeps_modSes (keeps_setTun hk)

theorem keeps_fragTakes {ses : Nat} {t : Tun} {sq : Nat} {bytes : List Byte} {at_ : Nat} (hk : Keeps s₀ s) : Keeps s₀ (fragTakes
    s ses t sq bytes at_) := by
  unfold fragTakes
  exact Keeps.ite (keeps_foldl (fun _ _ h3 => keeps_rxIn h3) (keeps_setTun hk)) (keeps_setTun hk)

theorem keeps_execTunnelAck {ses : Fin 4} {src : Fin 64} {next : Fin 64} (hk : Keeps s₀ s) (ht : execTunnelAck ses src next s =
    .next t) : Keeps s₀ t := by
  obtain rfl := Host.Outcome.next.inj ht
  refine Keeps.ite ?_ ?_
  · exact hk
  · try dsimp only
    split
    · exact keeps_tunCtl hk
    · try dsimp only
      split
      · exact keeps_setTun hk
      · exact keeps_fragPump (keeps_setTun hk)

theorem keeps_execTunnelResend {ses : Fin 4} (hk : Keeps s₀ s) (ht : execTunnelResend ses s = .next t) : Keeps s₀ t := by
  obtain rfl := Host.Outcome.next.inj ht
  try dsimp only
  split
  · exact hk
  · exact Keeps.ite hk (keeps_atTick hk (fun _ h1 => Keeps.ite (keeps_tunClose h1) (keeps_foldl (fun _ _ h3 => keeps_fragSend
        h3) (keeps_setTun h1))))

theorem keeps_execTunnelClose {ses : Fin 4} {src : Fin 64} (hk : Keeps s₀ s) (ht : execTunnelClose ses src s = .next t) : Keeps
    s₀ t := by
  obtain rfl := Host.Outcome.next.inj ht
  refine Keeps.ite ?_ ?_
  · exact hk
  · try dsimp only
    split
    · exact keeps_tunCtl hk
    · exact keeps_tunClose hk

theorem keeps_execTunnelIdle {ses : Fin 4} (hk : Keeps s₀ s) (ht : execTunnelIdle ses s = .next t) : Keeps s₀ t := by
  obtain rfl := Host.Outcome.next.inj ht
  try dsimp only
  split
  · exact hk
  · exact Keeps.ite hk (keeps_atTick hk (fun _ h1 => keeps_tunClose h1))

theorem keeps_execBusHeartbeatSend (hk : Keeps s₀ s) (ht : execBusHeartbeatSend s = .next t) : Keeps s₀ t := by
  obtain rfl := Host.Outcome.next.inj ht
  try dsimp only
  split
  · exact hk
  · exact Keeps.ite hk (keeps_atTick hk (fun _ h1 => keeps_profFrame (keeps_setBus h1)))

theorem keeps_profStops (hk : Keeps s₀ s) : Keeps s₀ (profStops s) := by
  unfold profStops
  exact keeps_drawn (keeps_setBus hk)

theorem keeps_execHeartbeatReceived {src : Fin 64} (hk : Keeps s₀ s) (ht : execHeartbeatReceived src s = .next t) : Keeps s₀ t
    := by
  obtain rfl := Host.Outcome.next.inj ht
  exact Keeps.ite hk (keeps_setBus (keeps_tunCloseAll (keeps_profStops (keeps_notify hk))))

theorem keeps_pointFrame {p : Nat} {dest : Nat} {v : ℤ × Nat} {sq : Nat} (hk : Keeps s₀ s) : Keeps s₀ (pointFrame s p dest v sq)
    := by
  unfold pointFrame
  exact keeps_profSend hk

theorem keeps_execPointPublish {p : Fin 32} (hk : Keeps s₀ s) (ht : execPointPublish p s = .next t) : Keeps s₀ t := by
  obtain rfl := Host.Outcome.next.inj ht
  try dsimp only
  split
  · exact hk
  · exact Keeps.ite hk (keeps_pointFrame (keeps_setBus hk))

theorem keeps_execPointreq {src : Fin 64} {index : Byte} (hk : Keeps s₀ s) (ht : execPointreq src index s = .next t) : Keeps s₀
    t := by
  obtain rfl := Host.Outcome.next.inj ht
  refine Keeps.ite ?_ ?_
  · exact hk
  · try dsimp only
    split
    · exact keeps_setBus hk
    · exact keeps_busUnused hk

theorem keeps_sealFails {src : Nat} (hk : Keeps s₀ s) : Keeps s₀ (sealFails s src) := by
  unfold sealFails
  exact Keeps.ite (keeps_notify (keeps_setBus (keeps_setBus hk))) (keeps_setBus hk)

theorem keeps_sealAck {src : Nat} {drive : Nat} {result : Nat} {counter : Nat} (hk : Keeps s₀ s) : Keeps s₀ (sealAck s src drive
    result counter) := by
  unfold sealAck
  exact keeps_profFrame hk

theorem keeps_sealPlace {src : Nat} {d : Nat} {code : Nat} {pos : Nat} {tilt : Nat} {counter : Nat} (hk : Keeps s₀ s) : Keeps s₀
    (sealPlace s src d code pos tilt counter) := by
  unfold sealPlace
  exact keeps_sealAck (keeps_placeOrder (keeps_storeInternal (keeps_setBus hk)))

theorem keeps_execSealedOrder {ident : BitVec 29} {fdf : Bool} {data : List Byte} (hk : Keeps s₀ s) (ht : execSealedOrder ident
    fdf data s = .next t) : Keeps s₀ t := by
  obtain rfl := Host.Outcome.next.inj ht
  exact Keeps.ite hk (Keeps.ite (keeps_busUnused hk) (Keeps.ite (keeps_busUnused hk) (Keeps.ite (keeps_sealFails (keeps_jrnPut
      hk)) (Keeps.ite (keeps_sealAck (keeps_jrnPut hk)) (Keeps.ite (keeps_sealAck (keeps_jrnPut hk)) (Keeps.ite (keeps_sealAck
      (keeps_jrnPut hk)) (keeps_sealPlace (keeps_jrnPut hk))))))))

theorem keeps_sealStoredAt {src : Nat} {n : Nat} (hk : Keeps s₀ s) : Keeps s₀ (sealStoredAt s src n) := by
  unfold sealStoredAt
  exact keeps_setBus hk

theorem keeps_sealEnd {e : Nat × String} (hk : Keeps s₀ s) : Keeps s₀ (sealEnd s e) := by
  unfold sealEnd
  try dsimp only
  split
  · exact hk
  · exact keeps_profFrame (keeps_setBus hk)

theorem keeps_busDeliver {r : Rec} (hk : Keeps s₀ s) : Keeps s₀ (busDeliver s r) := by
  unfold busDeliver
  refine Keeps.ite ?_ ?_
  · exact keeps_txDeliver hk
  · refine Keeps.ite ?_ ?_
    · exact hk
    · refine Keeps.ite ?_ ?_
      · exact keeps_setBus hk
      · try dsimp only
        split
        · exact Keeps.ite (keeps_busUnused hk) hk
        · exact hk

theorem keeps_tunAcks {c : Nat} (hk : Keeps s₀ s) : Keeps s₀ (tunAcks s c) := by
  unfold tunAcks
  try dsimp only
  split
  · exact Keeps.ite (keeps_tunCtl (keeps_setTun hk)) hk
  · exact hk

theorem keeps_busBoundary (hk : Keeps s₀ s) : Keeps s₀ (busBoundary s) := by
  unfold busBoundary
  refine Keeps.ite ?_ ?_
  · try dsimp only
    split
    · exact Keeps.ite (keeps_setBus (keeps_setBus hk)) (keeps_setBus hk)
    · exact keeps_setBus hk
  · refine keeps_waitLoad ?_
    refine keeps_sendLoad ?_
    refine keeps_foldl (fun _ _ h8 => ?_) ?_
    · exact keeps_tunAcks h8
    · refine keeps_foldl (fun _ _ h9 => ?_) ?_
      · try dsimp only
        split
        · exact keeps_pointFrame h9
        · exact h9
      · refine keeps_setBus ?_
        refine keeps_foldl (fun _ _ h10 => ?_) ?_
        · exact keeps_sealEnd h10
        · refine Keeps.upd ?_ rfl rfl
          try dsimp only
          split
          · exact Keeps.ite (keeps_setBus (keeps_setBus hk)) (keeps_setBus hk)
          · exact keeps_setBus hk

theorem keeps_tunBoundary (hk : Keeps s₀ s) : Keeps s₀ (tunBoundary s) := by
  unfold tunBoundary
  exact Keeps.ite hk (keeps_foldl (fun _ _ h1 => keeps_fragPump (keeps_tunLines h1)) hk)

theorem keeps_busAfter {old : State} (hk : Keeps s₀ s) : Keeps s₀ (busAfter old s) := by
  unfold busAfter
  exact Keeps.ite (keeps_setBus (Keeps.ite (keeps_busLeaves (Keeps.ite (Keeps.upd (keeps_tunCloseAll (Keeps.upd hk rfl rfl)) rfl
      rfl) hk)) (Keeps.ite (Keeps.upd (keeps_tunCloseAll (Keeps.upd hk rfl rfl)) rfl rfl) hk))) (Keeps.ite (keeps_busLeaves
      (Keeps.ite (Keeps.upd (keeps_tunCloseAll (Keeps.upd hk rfl rfl)) rfl rfl) hk)) (Keeps.ite (Keeps.upd (keeps_tunCloseAll
      (Keeps.upd hk rfl rfl)) rfl rfl) hk))

theorem keeps_busWarm (hk : Keeps s₀ s) : Keeps s₀ (busWarm s) := by
  unfold busWarm
  exact keeps_drawn (keeps_setBus (keeps_foldl (fun _ _ h2 => keeps_tunShut h2) hk))

end Sys2Proof.Laws
end

