-- ==== Sys2Proof/Machine/KeepsVerbs.lean ====
section
/-! DEFINITION. Theorems only, on the verbs, the modes, startup and the epoch: what each
definition keeps. They stand beside the meanings so that a
repair of a meaning can mend its lemma with it. -/

namespace Sys2Proof.Laws
open Sys2Proof Sys2Proof.Machine
variable {s₀ s t : State}
set_option Elab.async false

theorem keeps_monoLatch (hk : Keeps s₀ s) : Keeps s₀ (monoLatch s) := by
  unfold monoLatch
  exact Keeps.upd hk rfl rfl

theorem keeps_execMonoLatch (hk : Keeps s₀ s) (ht : execMonoLatch s = .next t) : Keeps s₀ t := by
  obtain rfl := Host.Outcome.next.inj ht
  exact keeps_monoLatch hk

theorem keeps_nextState {o : Host.Outcome State Fault Refusal} (hk : Keeps s₀ s) (hf : ∀ t, o = .next t → Keeps s₀ t) : Keeps s₀
    (nextState o s) := by
  unfold nextState
  split
  · exact hf _ rfl
  · exact hk

theorem keeps_regApply {addr : Nat} {v mask : Word} (hk : Keeps s₀ s) : Keeps s₀ (regApply s addr v mask) := by
  unfold regApply
  split
  · exact hk
  · dsimp only
    refine Keeps.ite (keeps_nextState hk fun _ => keeps_execRstcauseClear hk) (Keeps.ite (Keeps.ite (keeps_writeXingCtrl hk)
      (keeps_writeDesc hk)) (Keeps.ite (keeps_ctWrite (keeps_ctLine hk)) (Keeps.ite (Keeps.ite hk (keeps_limitWrite hk)) (Keeps.ite
      (Keeps.ite hk (keeps_limitWrite hk)) (Keeps.ite (keeps_nextState hk fun _ => keeps_execThmThresholdWrite hk)
      (keeps_nextState hk fun t ht => ?_))))))
    split at ht
    · exact keeps_execLeaveClr hk ht
    · exact keeps_execLinkClr hk ht
    · exact keeps_execBusClr hk ht
    · exact keeps_execCntClr hk ht
    · exact keeps_execFcClr hk ht
    · exact keeps_execIcClr hk ht
    · exact keeps_execChanClr hk ht
    · exact keeps_execChurnClr hk ht
    · exact keeps_execMotClr hk ht
    · exact keeps_execLineClr hk ht
    · exact keeps_execThmClr hk ht
    · exact keeps_execLanClr hk ht
    · exact keeps_execJrnClr hk ht
    · exact keeps_execTstClr hk ht
    · exact keeps_execTimeClr hk ht
    · exact keeps_execProbeClr hk ht
    · cases ht; exact hk

theorem keeps_regLatch {addr : Nat} (hk : Keeps s₀ s) : Keeps s₀ (regLatch s addr) := by
  unfold regLatch
  split
  · exact keeps_monoLatch hk
  · exact Keeps.ite (keeps_capLatch hk) hk
  · exact Keeps.ite (keeps_nextState hk fun _ => keeps_execPeekLatch hk) hk
  · exact Keeps.ite (keeps_timeLatch hk) hk
  · exact hk

theorem keeps_odRead {off : Nat} {v : Nat} (hk : Keeps s₀ s) : Keeps s₀ (odRead s off v).1 := by
  unfold odRead
  exact Keeps.iteP hk (Keeps.iteP (keeps_drawn hk) hk)

theorem keeps_regRead {addr : Nat} (hk : Keeps s₀ s) : Keeps s₀ (regRead s addr).1 := by
  have h := keeps_regLatch (addr := addr) hk
  have p {v : Nat} : Keeps s₀ (match regBlock addr with
      | some (11, off, _) => odRead (regLatch s addr) off v
      | _ => (regLatch s addr, v)).1 := by
    split
    · exact keeps_odRead h
    · exact h
  unfold regRead
  dsimp only
  split
  · exact keeps_jrnPut p
  · exact p

theorem keeps_regReads {s₀ : State} {l : List Nat} :
    ∀ {s : State} {a : List Nat}, Keeps s₀ s → Keeps s₀ (regReads l s a).1 := by
  induction l with
  | nil => exact id
  | cons n l ih => exact fun hk => ih (keeps_regRead hk)

theorem keeps_execRegRead {q : Hdr} {addr : Word} {count : Nat} (hk : Keeps s₀ s) (ht : execRegRead q addr count s = .next t) :
    Keeps s₀ t := by
  obtain rfl := Host.Outcome.next.inj ht
  exact keeps_lineIn hk (fun _ h1 => keeps_submit h1 (fun _ _ h2 => keeps_regReads h2))

theorem keeps_execRegWrite {q : Hdr} {addr : Word} {value : Word} {mask : Option Word} (hk : Keeps s₀ s) (ht : execRegWrite q
    addr value mask s = .next t) : Keeps s₀ t := by
  obtain rfl := Host.Outcome.next.inj ht
  exact keeps_lineIn hk (fun _ h1 => keeps_submit h1 (fun _ _ h2 => h2))

theorem keeps_timeReads {o : ObjRange} {attrs : List String} (hk : Keeps s₀ s) : Keeps s₀ (timeReads s o attrs) := by
  unfold timeReads
  exact Keeps.ite (keeps_jrnPut hk) hk

theorem keeps_queryServe {id : Nat} {o : ObjRange} {attrs : List String} (hk : Keeps s₀ s) : Keeps s₀ (queryServe s id o attrs)
    := by
  unfold queryServe
  exact keeps_setWork (keeps_timeReads hk)

theorem keeps_execGetAttr {q : Hdr} {o : ObjRange} {attrs : List String} (hk : Keeps s₀ s) (ht : execGetAttr q o attrs s = .next
    t) : Keeps s₀ t := by
  obtain rfl := Host.Outcome.next.inj ht
  exact keeps_lineIn hk (fun _ h1 => keeps_submit h1 (fun _ _ h2 => h2))

theorem keeps_execShowObj {q : Hdr} {o : Obj} {aspect : Option String} (hk : Keeps s₀ s) (ht : execShowObj q o aspect s = .next
    t) : Keeps s₀ t := by
  obtain rfl := Host.Outcome.next.inj ht
  exact keeps_lineIn hk (fun _ h1 => keeps_submit h1 (fun _ _ h2 => h2))

theorem keeps_execVersion {q : Hdr} (hk : Keeps s₀ s) (ht : execVersion q s = .next t) : Keeps s₀ t := by
  obtain rfl := Host.Outcome.next.inj ht
  exact keeps_lineIn hk (fun _ h1 => keeps_submit h1 (fun _ _ h2 => h2))

theorem keeps_execStatus {q : Hdr} (hk : Keeps s₀ s) (ht : execStatus q s = .next t) : Keeps s₀ t := by
  obtain rfl := Host.Outcome.next.inj ht
  exact keeps_lineIn hk (fun _ h1 => keeps_submit h1 (fun _ _ h2 => h2))

theorem keeps_execHelp {q : Hdr} {word : Option String} (hk : Keeps s₀ s) (ht : execHelp q word s = .next t) : Keeps s₀ t := by
  obtain rfl := Host.Outcome.next.inj ht
  exact keeps_lineIn hk (fun _ h1 => keeps_submit h1 (fun _ _ h2 => h2))

theorem keeps_xSet {x : Nat} {a : String} {v : Val} (hk : Keeps s₀ s) : Keeps s₀ (xSet s x a v) := by
  unfold xSet
  exact Keeps.upd (keeps_setXcell hk) rfl rfl

theorem keeps_xingsAfter {old : State} (hk : Keeps s₀ s) : Keeps s₀ (xingsAfter old s) := by
  unfold xingsAfter
  exact keeps_foldl (fun _ _ h1 => Keeps.ite h1 (Keeps.upd (keeps_xAdapt h1) rfl rfl)) hk

theorem keeps_auditFreed {n : Nat} (hk : Keeps s₀ s) : Keeps s₀ (auditFreed s n) := by
  unfold auditFreed
  exact Keeps.upd hk rfl rfl

theorem keeps_liveSet {o : Obj} {v : Val} (hk : Keeps s₀ s) : Keeps s₀ (liveSet s o v) := by
  unfold liveSet
  try dsimp only
  split
  · exact keeps_setV10 hk
  · exact keeps_setOd hk
  · exact keeps_ctWrite hk
  · exact keeps_ctWrite hk
  · exact keeps_auditFreed hk
  · exact keeps_setSlotAt hk
  · exact hk

theorem keeps_pairSet {p : (Obj × String) × Val} (hk : Keeps s₀ s) : Keeps s₀ (pairSet s p) := by
  unfold pairSet
  exact Keeps.ite (keeps_liveSet hk) (Keeps.ite (keeps_xSet hk) (Keeps.ite (Keeps.upd (Keeps.upd hk rfl rfl) rfl rfl) (Keeps.upd
      hk rfl rfl)))

theorem keeps_backupChange {l : Pairs} (hk : Keeps s₀ s) : Keeps s₀ (backupChange s l) := by
  unfold backupChange
  try dsimp only
  split
  · exact Keeps.ite hk (Keeps.upd hk rfl rfl)
  · exact hk

theorem keeps_portsAfter {old : State} (hk : Keeps s₀ s) : Keeps s₀ (portsAfter old s) := by
  unfold portsAfter
  exact Keeps.ite (keeps_rtsFollows (Keeps.ite (Keeps.upd (Keeps.ite (Keeps.upd hk rfl rfl) hk) rfl rfl) (Keeps.ite (Keeps.upd
      hk rfl rfl) hk))) (Keeps.ite (Keeps.upd (Keeps.ite (Keeps.upd hk rfl rfl) hk) rfl rfl) (Keeps.ite (Keeps.upd hk rfl rfl)
      hk))

theorem keeps_auxWanted (hk : Keeps s₀ s) : Keeps s₀ (auxWanted s) := by
  unfold auxWanted
  exact Keeps.upd hk rfl rfl

theorem keeps_auxSetOff (hk : Keeps s₀ s) : Keeps s₀ (auxSetOff s) := by
  unfold auxSetOff
  exact keeps_auxWanted (Keeps.upd (keeps_leaveReturn (keeps_withdrawOf hk)) rfl rfl)

theorem keeps_powerAfter {old : State} (hk : Keeps s₀ s) : Keeps s₀ (powerAfter old s) := by
  unfold powerAfter
  exact Keeps.ite (keeps_auxSetOff (Keeps.ite (keeps_stopCharging (Keeps.ite (keeps_nominalSet hk) hk)) (Keeps.ite
      (keeps_nominalSet hk) hk))) (Keeps.ite (keeps_stopCharging (Keeps.ite (keeps_nominalSet hk) hk)) (Keeps.ite
      (keeps_nominalSet hk) hk))

theorem keeps_cfgAfter {old : State} (hk : Keeps s₀ s) : Keeps s₀ (cfgAfter old s) := by
  unfold cfgAfter
  exact Keeps.ite hk (keeps_powerAfter (keeps_portsAfter (keeps_busAfter (keeps_climAfter (keeps_timeAfter (keeps_thermAfter
      (keeps_drivesAfter (keeps_ctsAfter (keeps_cellsAfter (keeps_xingsAfter (keeps_chansAfter hk)))))))))))

theorem keeps_pairsSet {l : Pairs} (hk : Keeps s₀ s) : Keeps s₀ (pairsSet s l) := by
  unfold pairsSet
  exact Keeps.ite (keeps_jrnConfig (keeps_foldl (fun _ _ h4 => Keeps.ite (keeps_overrideSet h4) h4) (keeps_cfgAfter (keeps_foldl
      (fun _ _ h5 => keeps_pairSet h5) (keeps_backupChange (keeps_ctLine hk)))))) (keeps_foldl (fun _ _ h6 => Keeps.ite
      (keeps_overrideSet h6) h6) (keeps_cfgAfter (keeps_foldl (fun _ _ h7 => keeps_pairSet h7) (keeps_backupChange (keeps_ctLine
      hk)))))

theorem keeps_auxSupersede {id : Nat} {ses : Sess} {tag : Option Nat} (hk : Keeps s₀ s) : Keeps s₀ (auxSupersede s id ses tag)
    := by
  unfold auxSupersede
  exact Keeps.ite hk (keeps_foldl (fun _ _ h3 => keeps_finish h3) (keeps_auxWanted (keeps_withdrawOf hk)))

theorem keeps_outPairs {id : Nat} {l : Pairs} (hk : Keeps s₀ s) : Keeps s₀ (outPairs s id l) := by
  unfold outPairs
  try dsimp only
  split
  · exact keeps_auxSupersede (keeps_pairsSet hk)
  · exact keeps_pairsSet hk

theorem keeps_auxOutAnswer {o : Out} {rest : Pairs} {a : LAnswer} (hk : Keeps s₀ s) : Keeps s₀ (auxOutAnswer s o rest a) := by
  unfold auxOutAnswer
  try dsimp only
  split
  · exact keeps_setWork (keeps_queueStore hk)
  · exact keeps_finish hk
  · exact keeps_finish hk
  · exact hk

theorem keeps_auxAnswered {m : LMsg} (hk : Keeps s₀ s) : Keeps s₀ (auxAnswered s m) := by
  unfold auxAnswered
  try dsimp only
  split
  · try dsimp only
    split
    · exact keeps_auxOutAnswer (keeps_auxAnswer hk)
    · exact keeps_auxAnswer hk
  · exact keeps_auxAnswer hk

theorem keeps_objDefault {o : Obj} (hk : Keeps s₀ s) : Keeps s₀ (objDefault s o) := by
  unfold objDefault
  exact Keeps.ite (Keeps.upd (Keeps.ite (keeps_setXcell (Keeps.upd hk rfl rfl)) (Keeps.upd hk rfl rfl)) rfl rfl) (Keeps.ite
      (Keeps.ite (keeps_bindChange (keeps_setMacro (Keeps.upd hk rfl rfl))) (keeps_setMacro (Keeps.upd hk rfl rfl))) (Keeps.upd
      hk rfl rfl))

theorem keeps_objsDefault {os : List Obj} (hk : Keeps s₀ s) : Keeps s₀ (objsDefault s os) := by
  unfold objsDefault
  exact keeps_jrnConfig (keeps_cfgAfter (keeps_foldl (fun _ _ h1 => keeps_objDefault h1) hk))

theorem keeps_factorySet (hk : Keeps s₀ s) : Keeps s₀ (factorySet s) := by
  unfold factorySet
  exact keeps_jrnConfig (keeps_lanFactory (Keeps.ite (Keeps.upd hk rfl rfl) (Keeps.upd (Keeps.upd hk rfl rfl) rfl rfl)))

theorem keeps_ackOne {p : Obj × String} (hk : Keeps s₀ s) : Keeps s₀ (ackOne s p) := by
  unfold ackOne
  exact Keeps.ite (keeps_foldl (fun _ _ h1 => keeps_latchClears h1) hk) (Keeps.ite (Keeps.upd hk rfl rfl) (Keeps.ite
      (keeps_latchAck hk) (Keeps.ite (keeps_conflictAck hk) (Keeps.ite (keeps_lanAck hk) hk))))

theorem keeps_ackApply {o : Obj} {fault : Option String} (hk : Keeps s₀ s) : Keeps s₀ (ackApply s o fault) := by
  unfold ackApply
  exact keeps_foldl (fun _ _ h1 => keeps_ackOne h1) hk

theorem keeps_execAck {q : Hdr} {o : Obj} {fault : Option String} (hk : Keeps s₀ s) (ht : execAck q o fault s = .next t) : Keeps
    s₀ t := by
  obtain rfl := Host.Outcome.next.inj ht
  exact keeps_lineIn hk (fun _ h1 => keeps_submit h1 (fun _ _ h2 => Keeps.iteP (keeps_ackApply h2) h2))

theorem keeps_auditAckOrder {q : Hdr} {n : Nat} (hk : Keeps s₀ s) : Keeps s₀ (auditAckOrder q n s) := by
  unfold auditAckOrder
  exact keeps_submit hk (fun _ _ h1 => h1)

theorem keeps_execAuditAck {q : Hdr} {n : Nat} (hk : Keeps s₀ s) (ht : execAuditAck q n s = .next t) : Keeps s₀ t := by
  obtain rfl := Host.Outcome.next.inj ht
  exact keeps_lineIn hk (fun _ h1 => keeps_auditAckOrder h1)

theorem keeps_macroEdited {m : Nat} {lines : List String} {role : Role} (hk : Keeps s₀ s) : Keeps s₀ (macroEdited s m lines
    role) := by
  unfold macroEdited
  exact keeps_setMacro hk

theorem keeps_learntTakes {d : Nat} (hk : Keeps s₀ s) : Keeps s₀ (learntTakes s d) := by
  unfold learntTakes
  try dsimp only
  split
  · exact hk
  · exact keeps_modDr (keeps_pairsSet hk)

theorem keeps_applyEff {id : Nat} {x : Eff} (hk : Keeps s₀ s) : Keeps s₀ (applyEff s id x) := by
  cases x with
  | none => exact hk
  | attrs l => exact keeps_outPairs hk
  | defaults os => exact keeps_objsDefault hk
  | factory => exact keeps_factorySet hk
  | reg a v m => exact keeps_regApply hk
  | lock => exact keeps_notify ⟨hk.queue, hk.time, hk.clock, fun _ => rfl, hk.feeds, hk.ids, hk.era⟩
  | key r codes => exact keeps_keyStored hk
  | macroLines m lines role => exact keeps_macroEdited hk
  | bind ev o m => exact keeps_bindChange hk
  | release ds rank => exact keeps_holdsRelease hk
  | ack o f => exact keeps_ackApply hk
  | timeSet theta at_ unc => exact keeps_timeSetApply hk
  | sealCount src n => exact keeps_sealStoredAt hk
  | panel lvl tgt prog => exact keeps_panelStored hk
  | auditAck n => exact keeps_auditFreed hk
  | slotFree n => exact keeps_setSlotAt hk
  | repair => exact keeps_repairArm hk
  | xingAdapt _ => exact hk
  | learnt d => exact keeps_learntTakes hk

theorem keeps_effectDo {o : Out} {x : Eff} {fin : String} (hk : Keeps s₀ s) : Keeps s₀ (effectDo s o x fin) := by
  unfold effectDo
  refine Keeps.ite ?_ ?_
  · exact keeps_finish hk
  · try dsimp only
    split
    · exact Keeps.ite (keeps_finish (keeps_timeSetApply (keeps_auditOut hk))) (keeps_setWork (keeps_timeSetApply (keeps_auditOut
          hk)))
    · exact Keeps.ite (keeps_finish hk) (Keeps.ite (keeps_finish (keeps_applyEff (keeps_auditOut hk))) (keeps_setWork
          (keeps_applyEff (keeps_auditOut hk))))
    · exact keeps_setWork (keeps_applyEff (keeps_auditOut hk))

theorem keeps_restartOrder {id : Nat} (hk : Keeps s₀ s) : Keeps s₀ (restartOrder s id) := by
  unfold restartOrder
  exact Keeps.upd (keeps_foldl (fun _ _ h2 => keeps_finishOut h2) hk) rfl rfl

theorem keeps_storeDone {id : Nat} {x : Eff} (hk : Keeps s₀ s) : Keeps s₀ (storeDone s id x) := by
  unfold storeDone
  try dsimp only
  split
  · exact keeps_applyEff hk
  · refine Keeps.ite ?_ ?_
    · exact keeps_finish hk
    · try dsimp only
      split
      · exact Keeps.ite (keeps_finish hk) (keeps_finish (keeps_applyEff hk))
      · exact keeps_finish (keeps_applyEff (keeps_auditOut hk))
      · exact keeps_restartOrder (keeps_finish (keeps_applyEff hk))
      · exact keeps_finish (keeps_applyEff hk)

theorem keeps_storeFailed {id : Nat} {x : Eff} (hk : Keeps s₀ s) : Keeps s₀ (storeFailed s id x) := by
  unfold storeFailed
  exact keeps_finish (Keeps.ite (Keeps.upd hk rfl rfl) hk)

theorem keeps_writeEnds {ok : Bool} (hk : Keeps s₀ s) : Keeps s₀ (writeEnds s ok) := by
  unfold writeEnds
  exact Keeps.upd hk rfl rfl

theorem keeps_storeRecord {ok : Bool} (hk : Keeps s₀ s) : Keeps s₀ (storeRecord s ok) := by
  unfold storeRecord
  exact Keeps.upd (keeps_jrnPut hk) rfl rfl

theorem keeps_writesTake {s₀ : State} {n : Nat} : ∀ {s : State}, Keeps s₀ s → Keeps s₀ (writesTake n s) := by
  induction n with
  | zero => exact id
  | succ n ih =>
    intro s hk
    unfold writesTake
    split
    · exact hk
    · split
      · exact hk
      · exact ih (Keeps.ite (keeps_storeDone (keeps_storeRecord (Keeps.upd hk rfl rfl))) (keeps_storeFailed (keeps_storeRecord (Keeps.upd hk rfl rfl))))

theorem keeps_writesLate {s₀ : State} {n : Nat} : ∀ {s : State}, Keeps s₀ s → Keeps s₀ (writesLate n s) := by
  induction n with
  | zero => exact id
  | succ n ih =>
    intro s hk
    unfold writesLate
    split
    · exact Keeps.ite (ih (keeps_writeEnds hk)) hk
    · exact hk

theorem keeps_storesStep (hk : Keeps s₀ s) : Keeps s₀ (storesStep s) := by
  unfold storesStep
  exact keeps_writesTake (keeps_writesLate hk)

theorem keeps_execStoreWriteComplete {ok : Bool} (hk : Keeps s₀ s) (ht : execStoreWriteComplete ok s = .next t) : Keeps s₀ t :=
    by
  obtain rfl := Host.Outcome.next.inj ht
  exact Keeps.ite hk (Keeps.ite (keeps_writesTake (keeps_writeEnds hk)) (keeps_writeEnds hk))

theorem keeps_afterLine {l : Pairs} (hk : Keeps s₀ s) : Keeps s₀ (afterLine s l) := by
  unfold afterLine
  exact Keeps.upd (keeps_backupChange hk) rfl rfl

theorem keeps_setWorkFor {id : Nat} {l : Pairs} (hk : Keeps s₀ s) : Keeps s₀ (setWorkFor s id l).1 := by
  unfold setWorkFor
  exact Keeps.iteP (keeps_auxRequest hk) (Keeps.iteP (keeps_queueStore hk) (Keeps.iteP (keeps_pairsSet hk) (Keeps.iteP
      (Keeps.iteP hk (keeps_pairsSet hk)) hk)))

theorem keeps_execSetAttr {q : Hdr} {o : ObjRange} {pairs : List (String × Tok)} (hk : Keeps s₀ s) (ht : execSetAttr q o pairs s
    = .next t) : Keeps s₀ t := by
  obtain rfl := Host.Outcome.next.inj ht
  refine keeps_lineIn ?_ (fun _ h1 => ?_)
  · exact hk
  · try dsimp only
    split
    · exact keeps_auditAckOrder h1
    · exact keeps_submit h1 (fun _ _ h4 => keeps_setWorkFor h4)

theorem keeps_execDefaultObj {q : Hdr} {o : Obj} (hk : Keeps s₀ s) (ht : execDefaultObj q o s = .next t) : Keeps s₀ t := by
  obtain rfl := Host.Outcome.next.inj ht
  exact keeps_lineIn hk (fun _ h1 => keeps_submit h1 (fun _ _ h2 => keeps_queueStore h2))

theorem keeps_execDefaultAll {q : Hdr} (hk : Keeps s₀ s) (ht : execDefaultAll q s = .next t) : Keeps s₀ t := by
  obtain rfl := Host.Outcome.next.inj ht
  exact keeps_lineIn hk (fun _ h1 => keeps_submit h1 (fun _ _ h2 => keeps_queueStore h2))

theorem keeps_idleStep (hk : Keeps s₀ s) : Keeps s₀ (idleStep s) := by
  unfold idleStep
  exact Keeps.ite (Keeps.upd hk rfl rfl) hk

theorem keeps_odOff (hk : Keeps s₀ s) : Keeps s₀ (odOff s) := by
  unfold odOff
  exact keeps_foldl (fun _ _ h1 => Keeps.ite (keeps_setOd h1) h1) hk

theorem keeps_analogPut {f : State → Nat → Nat} (hk : Keeps s₀ s) : Keeps s₀ (analogPut s f) := by
  unfold analogPut
  exact keeps_foldl (fun _ _ h1 => Keeps.ite (keeps_setV10 h1) h1) hk

theorem keeps_analogSafe (hk : Keeps s₀ s) : Keeps s₀ (analogSafe s) := by
  unfold analogSafe
  exact keeps_foldl (fun _ _ h2 => Keeps.ite (keeps_modDr h2) h2) (keeps_analogPut hk)

theorem keeps_sesWarm {k : Sess} (hk : Keeps s₀ s) : Keeps s₀ (sesWarm s k) := by
  unfold sesWarm
  exact keeps_modSes (keeps_roleEnd hk)

theorem keeps_bytesLost (hk : Keeps s₀ s) : Keeps s₀ (bytesLost s) := by
  unfold bytesLost
  exact Keeps.upd hk rfl rfl

theorem keeps_warmRestart (hk : Keeps s₀ s) : Keeps s₀ (warmRestart s) := by
  unfold warmRestart
  exact Keeps.upd (keeps_busWarm (keeps_lanWarm (keeps_climRestart (Keeps.upd (Keeps.upd (keeps_grantsOrphan (keeps_leaveDrop
      (Keeps.upd (keeps_bytesLost (keeps_foldl (fun _ _ h8 => keeps_sesWarm h8) (keeps_foldl (fun _ _ h9 => keeps_finishOut h9)
      hk))) rfl rfl))) rfl rfl) rfl rfl)))) rfl rfl

theorem keeps_replayOver {m : Mode} (hk : Keeps s₀ s) : Keeps s₀ (replayOver s m) := by
  unfold replayOver
  exact keeps_drivesUnbench (keeps_replayLeave hk)

theorem keeps_modeLeaves {m : Mode} (hk : Keeps s₀ s) : Keeps s₀ (modeLeaves s m) := by
  unfold modeLeaves
  try dsimp only
  split
  · exact Keeps.ite hk (keeps_drivesUnbench hk)
  · exact Keeps.ite (keeps_warmRestart (keeps_replayOver hk)) hk
  · exact hk

theorem keeps_superviseAnew (hk : Keeps s₀ s) : Keeps s₀ (superviseAnew s) := by
  unfold superviseAnew
  exact Keeps.upd hk rfl rfl

theorem keeps_rxAnew {k : Sess} (hk : Keeps s₀ s) : Keeps s₀ (rxAnew s k) := by
  unfold rxAnew
  exact keeps_modSes hk

theorem keeps_quietLeft (hk : Keeps s₀ s) : Keeps s₀ (quietLeft s) := by
  unfold quietLeft
  refine keeps_rtsFollows ?_
  refine keeps_holdPasses ?_
  refine keeps_holdPasses ?_
  refine keeps_foldl (fun _ _ h5 => ?_) ?_
  · exact keeps_rxAnew h5
  · try dsimp only
    split
    · exact keeps_notify (Keeps.upd (Keeps.ite (keeps_auxRequest (keeps_superviseAnew (Keeps.upd (keeps_refEnable
          (keeps_cellsRestart (keeps_countWake (keeps_thermWake (keeps_busWakes hk))))) rfl rfl))) (keeps_superviseAnew
          (Keeps.upd (keeps_refEnable (keeps_cellsRestart (keeps_countWake (keeps_thermWake (keeps_busWakes hk))))) rfl rfl)))
          rfl rfl)
    · exact Keeps.ite (keeps_auxRequest (keeps_superviseAnew (Keeps.upd (keeps_refEnable (keeps_cellsRestart (keeps_countWake
          (keeps_thermWake (keeps_busWakes hk))))) rfl rfl))) (keeps_superviseAnew (Keeps.upd (keeps_refEnable
          (keeps_cellsRestart (keeps_countWake (keeps_thermWake (keeps_busWakes hk))))) rfl rfl))

theorem keeps_quietEntered (hk : Keeps s₀ s) : Keeps s₀ (quietEntered s) := by
  unfold quietEntered
  exact Keeps.upd (Keeps.ite (keeps_portsLow (keeps_outputsOff (keeps_convQuiet (keeps_cellsRestart (keeps_countSleep
      (keeps_thermSleep (keeps_climSleep (keeps_protsSleep (keeps_lanMode (keeps_busQuietEntry (keeps_timeQuietEntry
      hk))))))))))) (Keeps.upd (keeps_leaveReturn (keeps_portsLow (keeps_outputsOff (keeps_convQuiet (keeps_cellsRestart
      (keeps_countSleep (keeps_thermSleep (keeps_climSleep (keeps_protsSleep (keeps_lanMode (keeps_busQuietEntry
      (keeps_timeQuietEntry hk)))))))))))) rfl rfl)) rfl rfl

theorem keeps_startEnds (hk : Keeps s₀ s) : Keeps s₀ (startEnds s) := by
  unfold startEnds
  exact keeps_jrnAnchor (Keeps.upd (keeps_auditInternal hk) rfl rfl)

theorem keeps_wakeTold (hk : Keeps s₀ s) : Keeps s₀ (wakeTold s) := by
  unfold wakeTold
  exact Keeps.ite (keeps_notify (Keeps.upd hk rfl rfl)) hk

theorem keeps_auxOnStart (hk : Keeps s₀ s) : Keeps s₀ (auxOnStart s) := by
  unfold auxOnStart
  exact Keeps.ite (keeps_auxRequest hk) hk

theorem keeps_startMacros (hk : Keeps s₀ s) : Keeps s₀ (startMacros s) := by
  unfold startMacros
  exact Keeps.upd hk rfl rfl

theorem keeps_runStarts (hk : Keeps s₀ s) : Keeps s₀ (runStarts s) := by
  unfold runStarts
  exact Keeps.ite (keeps_startMacros (keeps_auxOnStart (keeps_countStart (keeps_wakeTold hk)))) (keeps_notify (keeps_startMacros
      (keeps_auxOnStart (keeps_countStart (keeps_wakeTold hk)))))

theorem keeps_modeEnters {old : Mode} {m : Mode} (hk : Keeps s₀ s) : Keeps s₀ (modeEnters s old m) := by
  unfold modeEnters
  try dsimp only
  split
  · exact Keeps.ite (keeps_notify (Keeps.ite (keeps_runStarts (Keeps.ite (keeps_superviseAnew (keeps_startEnds (Keeps.ite
        (keeps_analogPut (Keeps.ite (keeps_quietLeft hk) hk)) (Keeps.ite (keeps_quietLeft hk) hk)))) (Keeps.ite (keeps_analogPut
        (Keeps.ite (keeps_quietLeft hk) hk)) (Keeps.ite (keeps_quietLeft hk) hk)))) (Keeps.upd (Keeps.ite (keeps_superviseAnew
        (keeps_startEnds (Keeps.ite (keeps_analogPut (Keeps.ite (keeps_quietLeft hk) hk)) (Keeps.ite (keeps_quietLeft hk) hk))))
        (Keeps.ite (keeps_analogPut (Keeps.ite (keeps_quietLeft hk) hk)) (Keeps.ite (keeps_quietLeft hk) hk))) rfl rfl)))
        (Keeps.ite (keeps_runStarts (Keeps.ite (keeps_superviseAnew (keeps_startEnds (Keeps.ite (keeps_analogPut (Keeps.ite
        (keeps_quietLeft hk) hk)) (Keeps.ite (keeps_quietLeft hk) hk)))) (Keeps.ite (keeps_analogPut (Keeps.ite (keeps_quietLeft
        hk) hk)) (Keeps.ite (keeps_quietLeft hk) hk)))) (Keeps.upd (Keeps.ite (keeps_superviseAnew (keeps_startEnds (Keeps.ite
        (keeps_analogPut (Keeps.ite (keeps_quietLeft hk) hk)) (Keeps.ite (keeps_quietLeft hk) hk)))) (Keeps.ite (keeps_analogPut
        (Keeps.ite (keeps_quietLeft hk) hk)) (Keeps.ite (keeps_quietLeft hk) hk))) rfl rfl))
  · exact Keeps.ite (Keeps.upd (keeps_lanMode (keeps_odOff (keeps_climPark (keeps_analogSafe (keeps_portsLow (keeps_drivesStop
        (Keeps.ite (keeps_superviseAnew (keeps_startEnds (Keeps.ite (keeps_analogPut (Keeps.ite (keeps_quietLeft hk) hk))
        (Keeps.ite (keeps_quietLeft hk) hk)))) (Keeps.ite (keeps_analogPut (Keeps.ite (keeps_quietLeft hk) hk)) (Keeps.ite
        (keeps_quietLeft hk) hk))))))))) rfl rfl) (keeps_lanMode (keeps_odOff (keeps_climPark (keeps_analogSafe (keeps_portsLow
        (keeps_drivesStop (Keeps.ite (keeps_superviseAnew (keeps_startEnds (Keeps.ite (keeps_analogPut (Keeps.ite
        (keeps_quietLeft hk) hk)) (Keeps.ite (keeps_quietLeft hk) hk)))) (Keeps.ite (keeps_analogPut (Keeps.ite (keeps_quietLeft
        hk) hk)) (Keeps.ite (keeps_quietLeft hk) hk)))))))))
  · exact keeps_coolEntry (keeps_lanMode (keeps_portsLow (keeps_drivesStop (Keeps.ite (keeps_superviseAnew (keeps_startEnds
        (Keeps.ite (keeps_analogPut (Keeps.ite (keeps_quietLeft hk) hk)) (Keeps.ite (keeps_quietLeft hk) hk)))) (Keeps.ite
        (keeps_analogPut (Keeps.ite (keeps_quietLeft hk) hk)) (Keeps.ite (keeps_quietLeft hk) hk))))))
  · exact keeps_bistEnter (keeps_lanMode (keeps_odOff (keeps_climPark (keeps_portsLow (keeps_drivesStop (Keeps.ite
        (keeps_superviseAnew (keeps_startEnds (Keeps.ite (keeps_analogPut (Keeps.ite (keeps_quietLeft hk) hk)) (Keeps.ite
        (keeps_quietLeft hk) hk)))) (Keeps.ite (keeps_analogPut (Keeps.ite (keeps_quietLeft hk) hk)) (Keeps.ite (keeps_quietLeft
        hk) hk))))))))
  · exact keeps_replayEnter (keeps_lanMode (keeps_drivesStop (Keeps.ite (keeps_superviseAnew (keeps_startEnds (Keeps.ite
        (keeps_analogPut (Keeps.ite (keeps_quietLeft hk) hk)) (Keeps.ite (keeps_quietLeft hk) hk)))) (Keeps.ite (keeps_analogPut
        (Keeps.ite (keeps_quietLeft hk) hk)) (Keeps.ite (keeps_quietLeft hk) hk)))))
  · exact keeps_drivesBench (keeps_analogPut (keeps_loopsSet (Keeps.ite (keeps_superviseAnew (keeps_startEnds (Keeps.ite
        (keeps_analogPut (Keeps.ite (keeps_quietLeft hk) hk)) (Keeps.ite (keeps_quietLeft hk) hk)))) (Keeps.ite (keeps_analogPut
        (Keeps.ite (keeps_quietLeft hk) hk)) (Keeps.ite (keeps_quietLeft hk) hk)))))
  · exact keeps_quietEntered (Keeps.ite (keeps_superviseAnew (keeps_startEnds (Keeps.ite (keeps_analogPut (Keeps.ite
        (keeps_quietLeft hk) hk)) (Keeps.ite (keeps_quietLeft hk) hk)))) (Keeps.ite (keeps_analogPut (Keeps.ite (keeps_quietLeft
        hk) hk)) (Keeps.ite (keeps_quietLeft hk) hk)))
  · exact Keeps.ite (keeps_superviseAnew (keeps_startEnds (Keeps.ite (keeps_analogPut (Keeps.ite (keeps_quietLeft hk) hk))
        (Keeps.ite (keeps_quietLeft hk) hk)))) (Keeps.ite (keeps_analogPut (Keeps.ite (keeps_quietLeft hk) hk)) (Keeps.ite
        (keeps_quietLeft hk) hk))

theorem keeps_modeGo {c : ModeCause} {auto : Bool} (hk : Keeps s₀ s) : Keeps s₀ (modeGo s c auto) := by
  unfold modeGo
  exact Keeps.ite (keeps_modeEnters (Keeps.ite (Keeps.upd (keeps_modeLeaves (Keeps.ite (keeps_jrnPut hk) hk)) rfl rfl)
      (keeps_jrnPut (Keeps.upd (keeps_modeLeaves (Keeps.ite (keeps_jrnPut hk) hk)) rfl rfl)))) (keeps_notify (keeps_modeEnters
      (Keeps.ite (Keeps.upd (keeps_modeLeaves (Keeps.ite (keeps_jrnPut hk) hk)) rfl rfl) (keeps_jrnPut (Keeps.upd
      (keeps_modeLeaves (Keeps.ite (keeps_jrnPut hk) hk)) rfl rfl)))))

theorem keeps_modeFinish {o : Out} {body : String} (hk : Keeps s₀ s) : Keeps s₀ (modeFinish s o body) := by
  unfold modeFinish
  exact keeps_finish (Keeps.ite (keeps_auditOut hk) hk)

theorem keeps_modeAnswer {o : Out} (hk : Keeps s₀ s) : Keeps s₀ (modeAnswer s o) := by
  unfold modeAnswer
  try dsimp only
  split
  · exact Keeps.ite (keeps_modeFinish hk) (Keeps.ite (keeps_modeFinish hk) (Keeps.ite hk (keeps_modeFinish hk)))
  · exact Keeps.ite (keeps_finish (Keeps.upd hk rfl rfl)) hk
  · exact hk

theorem keeps_modeAnswers (hk : Keeps s₀ s) : Keeps s₀ (modeAnswers s) := by
  unfold modeAnswers
  exact keeps_foldl (fun _ _ h1 => keeps_modeAnswer h1) hk

theorem keeps_modeDecide (hk : Keeps s₀ s) : Keeps s₀ (modeDecide s) := by
  unfold modeDecide
  try dsimp only
  split
  · exact keeps_modeAnswers (Keeps.upd hk rfl rfl)
  · exact keeps_modeAnswers (Keeps.upd (keeps_modeGo (Keeps.upd (Keeps.upd hk rfl rfl) rfl rfl)) rfl rfl)

theorem keeps_modeOrder {q : Hdr} {m : Mode} (hk : Keeps s₀ s) : Keeps s₀ (modeOrder q m s) := by
  unfold modeOrder
  refine keeps_submit ?_ (fun _ _ h1 => ?_)
  · exact hk
  · refine Keeps.iteP ?_ ?_
    · try dsimp only
      try dsimp only
      split
      · exact keeps_auditOut h1
      · exact h1
    · try dsimp only
      try dsimp only
      split
      · exact keeps_addCause (Keeps.ite (Keeps.upd h1 rfl rfl) h1)
      · exact Keeps.ite (Keeps.upd h1 rfl rfl) h1

theorem keeps_execModeRun {q : Hdr} (hk : Keeps s₀ s) (ht : execModeRun q s = .next t) : Keeps s₀ t := by
  obtain rfl := Host.Outcome.next.inj ht
  exact keeps_lineIn hk (fun _ h1 => keeps_modeOrder h1)

theorem keeps_execModeSafe {q : Hdr} (hk : Keeps s₀ s) (ht : execModeSafe q s = .next t) : Keeps s₀ t := by
  obtain rfl := Host.Outcome.next.inj ht
  exact keeps_lineIn hk (fun _ h1 => keeps_modeOrder h1)

theorem keeps_execModeQuiet {q : Hdr} (hk : Keeps s₀ s) (ht : execModeQuiet q s = .next t) : Keeps s₀ t := by
  obtain rfl := Host.Outcome.next.inj ht
  exact keeps_lineIn hk (fun _ h1 => keeps_modeOrder h1)

theorem keeps_execModeBench {q : Hdr} (hk : Keeps s₀ s) (ht : execModeBench q s = .next t) : Keeps s₀ t := by
  obtain rfl := Host.Outcome.next.inj ht
  exact keeps_lineIn hk (fun _ h1 => keeps_modeOrder h1)

theorem keeps_execModeRestart {q : Hdr} (hk : Keeps s₀ s) (ht : execModeRestart q s = .next t) : Keeps s₀ t := by
  obtain rfl := Host.Outcome.next.inj ht
  exact keeps_lineIn hk (fun _ h1 => keeps_submit h1 (fun _ _ h2 => keeps_restartOrder (keeps_finish h2)))

theorem keeps_execQuietidleExpiry (hk : Keeps s₀ s) (ht : execQuietidleExpiry s = .next t) : Keeps s₀ t := by
  obtain rfl := Host.Outcome.next.inj ht
  exact Keeps.ite hk (keeps_atTick hk (fun _ h1 => keeps_addCause h1))

theorem keeps_execQuietWake {src : WakeSrc} (hk : Keeps s₀ s) (ht : execQuietWake src s = .next t) : Keeps s₀ t := by
  obtain rfl := Host.Outcome.next.inj ht
  exact Keeps.ite (Keeps.upd hk rfl rfl) hk

theorem keeps_execWakeChannelSample {levels : BitVec 96} (hk : Keeps s₀ s) (ht : execWakeChannelSample levels s = .next t) :
    Keeps s₀ t := by
  obtain rfl := Host.Outcome.next.inj ht
  exact Keeps.ite hk (Keeps.upd (Keeps.ite (Keeps.upd hk rfl rfl) hk) rfl rfl)

theorem keeps_execRtcAlarm (hk : Keeps s₀ s) (ht : execRtcAlarm s = .next t) : Keeps s₀ t := by
  obtain rfl := Host.Outcome.next.inj ht
  refine Keeps.ite ?_ ?_
  · exact hk
  · try dsimp only
    split
    · exact keeps_atTick hk (fun _ h1 => Keeps.upd h1 rfl rfl)
    · exact hk

theorem keeps_restartTold (hk : Keeps s₀ s) : Keeps s₀ (restartTold s) := by
  unfold restartTold
  exact Keeps.ite (keeps_lateNotices (keeps_notify (Keeps.upd hk rfl rfl))) hk

theorem keeps_takeover (hk : Keeps s₀ s) : Keeps s₀ (takeover s) := by
  unfold takeover
  exact Keeps.ite (keeps_notify (keeps_warmRestart (keeps_auditInternal (keeps_jrnTrigger (keeps_bistTaken (keeps_drivesStop
      (Keeps.ite (keeps_replayOver (Keeps.upd hk rfl rfl)) (Keeps.upd hk rfl rfl)))))))) (keeps_addCause (Keeps.upd
      (keeps_notify (keeps_warmRestart (keeps_auditInternal (keeps_jrnTrigger (keeps_bistTaken (keeps_drivesStop (Keeps.ite
      (keeps_replayOver (Keeps.upd hk rfl rfl)) (Keeps.upd hk rfl rfl)))))))) rfl rfl))

theorem keeps_windowCloses (hk : Keeps s₀ s) : Keeps s₀ (windowCloses s) := by
  unfold windowCloses
  exact Keeps.ite (keeps_takeover (Keeps.upd hk rfl rfl)) (Keeps.upd hk rfl rfl)

theorem keeps_execHeartbeatWindowClose (hk : Keeps s₀ s) (ht : execHeartbeatWindowClose s = .next t) : Keeps s₀ t := by
  obtain rfl := Host.Outcome.next.inj ht
  exact Keeps.ite (keeps_windowCloses hk) hk

theorem keeps_beatsIn {w : Fin 2} (hk : Keeps s₀ s) : Keeps s₀ (beatsIn s w) := by
  unfold beatsIn
  exact Keeps.ite (Keeps.ite (keeps_windowCloses hk) hk) (keeps_restartTold (Keeps.ite (Keeps.upd (Keeps.ite (keeps_windowCloses
      hk) hk) rfl rfl) (Keeps.upd (Keeps.ite (keeps_windowCloses hk) hk) rfl rfl)))

theorem keeps_execWorkerHeartbeat {w : Fin 2} (hk : Keeps s₀ s) (ht : execWorkerHeartbeat w s = .next t) : Keeps s₀ t := by
  obtain rfl := Host.Outcome.next.inj ht
  exact Keeps.ite (keeps_beatsIn hk) hk

theorem keeps_windowStep (hk : Keeps s₀ s) : Keeps s₀ (windowStep s) := by
  unfold windowStep
  exact Keeps.ite (keeps_windowCloses hk) hk

theorem keeps_protWarm {p : Nat} (hk : Keeps s₀ s) : Keeps s₀ (protWarm s p) := by
  unfold protWarm
  try dsimp only
  split
  · exact Keeps.ite (keeps_protState hk) hk
  · exact hk

theorem keeps_workersStart {crcOk : Bool} (hk : Keeps s₀ s) : Keeps s₀ (workersStart crcOk s) := by
  unfold workersStart
  exact keeps_jrnAnchor (Keeps.upd (keeps_foldl (fun _ _ h4 => keeps_protWarm h4) (Keeps.ite (keeps_superviseAnew (Keeps.upd hk
      rfl rfl)) (keeps_foldl (fun _ _ h6 => keeps_modDr h6) (Keeps.upd (keeps_superviseAnew (Keeps.upd hk rfl rfl)) rfl rfl))))
      rfl rfl)

theorem keeps_execWorkerRelease {crcOk : Bool} (hk : Keeps s₀ s) (ht : execWorkerRelease crcOk s = .next t) : Keeps s₀ t := by
  obtain rfl := Host.Outcome.next.inj ht
  exact Keeps.ite (keeps_atTick hk (fun _ h1 => keeps_workersStart h1)) hk

theorem keeps_execSafeAutoReturn (hk : Keeps s₀ s) (ht : execSafeAutoReturn s = .next t) : Keeps s₀ t := by
  obtain rfl := Host.Outcome.next.inj ht
  exact Keeps.ite (keeps_addCause hk) hk

theorem keeps_execSecViolation {w : Fin 2} {addr : Word} (hk : Keeps s₀ s) (ht : execSecViolation w addr s = .next t) : Keeps s₀
    t := by
  obtain rfl := Host.Outcome.next.inj ht
  exact Keeps.ite hk (Keeps.ite (keeps_notify (Keeps.upd (keeps_auditInternal hk) rfl rfl)) (keeps_takeover (keeps_notify
      (Keeps.upd (keeps_auditInternal hk) rfl rfl))))

theorem keeps_verbRun {i : Instr} (hk : Keeps s₀ s) : Keeps s₀ (verbRun i s) := by
  unfold verbRun
  split
  · exact keeps_nextState hk fun _ => keeps_execHello hk
  · exact keeps_nextState hk fun _ => keeps_execAuthChallenge hk
  · exact keeps_nextState hk fun _ => keeps_execAuthResponse hk
  · exact keeps_nextState hk fun _ => keeps_execLogout hk
  · exact keeps_nextState hk fun _ => keeps_execKey hk
  · exact keeps_nextState hk fun _ => keeps_execVersion hk
  · exact keeps_nextState hk fun _ => keeps_execStatus hk
  · exact keeps_nextState hk fun _ => keeps_execHelp hk
  · exact keeps_nextState hk fun _ => keeps_execCancel hk
  · exact keeps_nextState hk fun _ => keeps_execGetAttr hk
  · exact keeps_nextState hk fun _ => keeps_execSetAttr hk
  · exact keeps_nextState hk fun _ => keeps_execShowObj hk
  · exact keeps_nextState hk fun _ => keeps_execDefaultObj hk
  · exact keeps_nextState hk fun _ => keeps_execDefaultAll hk
  · exact keeps_nextState hk fun _ => keeps_execLockConfig hk
  · exact keeps_nextState hk fun _ => keeps_execModeRun hk
  · exact keeps_nextState hk fun _ => keeps_execModeSafe hk
  · exact keeps_nextState hk fun _ => keeps_execModeQuiet hk
  · exact keeps_nextState hk fun _ => keeps_execModeBench hk
  · exact keeps_nextState hk fun _ => keeps_execModeRestart hk
  · exact keeps_nextState hk fun _ => keeps_execRegRead hk
  · exact keeps_nextState hk fun _ => keeps_execRegWrite hk
  · exact keeps_nextState hk fun _ => keeps_execMove hk
  · exact keeps_nextState hk fun _ => keeps_execStop hk
  · exact keeps_nextState hk fun _ => keeps_execRelease hk
  · exact keeps_nextState hk fun _ => keeps_execLearn hk
  · exact keeps_nextState hk fun _ => keeps_execAck hk
  · exact keeps_nextState hk fun _ => keeps_execCalConverters hk
  · exact keeps_nextState hk fun _ => keeps_execBist hk
  · exact keeps_nextState hk fun _ => keeps_execRepairFuse hk
  · exact keeps_nextState hk fun _ => keeps_execTimeSet hk
  · exact keeps_nextState hk fun _ => keeps_execSend hk
  · exact keeps_nextState hk fun _ => keeps_execDraw hk
  · exact keeps_nextState hk fun _ => keeps_execBlink hk
  · exact keeps_nextState hk fun _ => keeps_execBlinkOff hk
  · exact keeps_nextState hk fun _ => keeps_execFreeze hk
  · exact keeps_nextState hk fun _ => keeps_execExportData hk
  · exact keeps_nextState hk fun _ => keeps_execLoad hk
  · exact keeps_nextState hk fun _ => keeps_execLoadEnd hk
  · exact keeps_nextState hk fun _ => keeps_execReplayStart hk
  · exact keeps_nextState hk fun _ => keeps_execReplayStop hk
  · exact keeps_nextState hk fun _ => keeps_execMacroClear hk
  · exact keeps_nextState hk fun _ => keeps_execMacroList hk
  · exact keeps_nextState hk fun _ => keeps_execMacroRun hk
  · exact keeps_nextState hk fun _ => keeps_execOnBind hk
  · exact keeps_nextState hk fun _ => keeps_execOnOff hk
  · exact keeps_nextState hk fun _ => keeps_execOnList hk
  · exact keeps_nextState hk fun _ => keeps_execWait hk
  · exact keeps_nextState hk fun _ => keeps_execAuditAck hk
  · exact keeps_nextState hk fun _ => keeps_execSlotFree hk
  · exact hk

theorem keeps_lineRefused {q : Hdr} {step : Nat} {detail : String} (hk : Keeps s₀ s) : Keeps s₀ (lineRefused s q step detail) :=
    by
  unfold lineRefused
  exact Keeps.ite (keeps_refuse hk) (keeps_refuse hk)

theorem keeps_operandRefused {q : Hdr} {v : String} {detail : String} (hk : Keeps s₀ s) : Keeps s₀ (operandRefused s q v detail)
    := by
  unfold operandRefused
  exact keeps_submit hk (fun _ _ h1 => h1)

theorem keeps_scratch {level : Nat} (hk : Keeps s₀ s) : Keeps s₀ (scratch s level) := by
  refine Keeps.upd (pwr := { s.pwr with xtal := true, committed := false }) (x := { s with vil := { s.vil with outs := [], link0 := { mode := .framed, level := level, role := some .maker } } }) ?_ rfl rfl
  refine hk.outsUpd ?_
  intro _ o ho
  exact absurd ho List.not_mem_nil

theorem keeps_execMacroAdd {q : Hdr} {m : Fin 64} {line : String} (hk : Keeps s₀ s) (ht : execMacroAdd q m line s = .next t) :
    Keeps s₀ t := by
  obtain rfl := Host.Outcome.next.inj ht
  exact keeps_lineIn hk (fun _ h1 => keeps_submit h1 (fun _ _ h2 => keeps_queueStore h2))

theorem keeps_verbDo {i : Instr} (hk : Keeps s₀ s) : Keeps s₀ (verbDo i s) := by
  unfold verbDo
  split
  · exact keeps_nextState hk fun _ => keeps_execMacroAdd hk
  · exact keeps_verbRun hk

theorem keeps_textRead {k : Sess} {framed : Bool} {body : List Char} {col : Nat} {bad : Option Nat} (hk : Keeps s₀ s) : Keeps s₀
    (textRead s k framed body col bad) := by
  have p {tg : LineTag} {q : Hdr} {e : String} : Keeps s₀ (match tg with | .bad => refuseLine s k framed e | _ => lineRefused s q 2 e) := by
    split
    · exact keeps_refuseLine hk
    · exact keeps_lineRefused hk
  unfold textRead
  dsimp only
  split
  · exact p
  · refine Keeps.ite hk ?_
    split
    · exact p
    · refine Keeps.ite (keeps_refuseLine hk) (keeps_modSes ?_)
      split
      · exact keeps_lineRefused (keeps_modSes hk)
      · exact keeps_operandRefused (keeps_modSes hk)
      · exact keeps_verbDo (keeps_modSes hk)

theorem keeps_crcRefused {k : Sess} (hk : Keeps s₀ s) : Keeps s₀ (crcRefused s k) := by
  unfold crcRefused
  exact Keeps.upd (keeps_modSes (keeps_refuseLine hk)) rfl rfl

theorem keeps_lineChecked {k : Sess} {l : RxLine} (hk : Keeps s₀ s) : Keeps s₀ (lineChecked s k l) := by
  unfold lineChecked
  refine Keeps.ite ?_ ?_
  · exact keeps_countTyped hk
  · try dsimp only
    split
    · try dsimp only
      split
      · exact keeps_lineRefused hk
      · exact keeps_lineRefused hk
      · exact keeps_refuseLine hk
    · refine Keeps.ite ?_ ?_
      · try dsimp only
        split
        · exact keeps_textRead hk
        · exact keeps_crcRefused hk
      · exact keeps_textRead hk

theorem keeps_lineRead {k : Sess} {l : RxLine} (hk : Keeps s₀ s) : Keeps s₀ (lineRead s k l) := by
  unfold lineRead
  exact Keeps.ite hk (keeps_modSes (keeps_lineChecked (keeps_modSes hk)))

theorem keeps_readCodes {s₀ : State} {n : Nat} {k : Sess} : ∀ {s : State}, Keeps s₀ s → Keeps s₀ (readCodes n s k) := by
  induction n with
  | zero => exact id
  | succ n ih =>
    intro s hk
    have h := keeps_ctrlCWaits (k := k) hk
    unfold readCodes
    refine Keeps.ite h ?_
    split
    · exact h
    · refine Keeps.ite h (ih ?_)
      split
      · exact keeps_lineRead (keeps_readCode (keeps_modSes h))
      · exact keeps_readCode (keeps_modSes h)

theorem keeps_readAll {k : Sess} (hk : Keeps s₀ s) : Keeps s₀ (readAll s k) := by
  unfold readAll
  exact keeps_readCodes hk

theorem keeps_keptDo {s₀ : State} {n : Nat} {k : Sess} : ∀ {s : State}, Keeps s₀ s → Keeps s₀ (keptDo n s k) := by
  induction n with
  | zero => exact id
  | succ n ih =>
    intro s hk
    unfold keptDo
    refine Keeps.ite hk ?_
    split
    · exact hk
    · exact ih (keeps_verbDo (Keeps.upd hk rfl rfl))

theorem keeps_sessionReads {k : Sess} (hk : Keeps s₀ s) : Keeps s₀ (sessionReads s k) := by
  unfold sessionReads
  exact keeps_keptDo (keeps_readAll hk)

theorem keeps_execCommandLine {k : Sess} {text : Option String} (hk : Keeps s₀ s) (ht : execCommandLine k text s = .next t) :
    Keeps s₀ t := by
  obtain rfl := Host.Outcome.next.inj ht
  refine Keeps.ite ?_ ?_
  · exact hk
  · try dsimp only
    split
    · exact Keeps.ite hk (keeps_rtsFollows (keeps_sessionReads hk))
    · exact Keeps.ite (keeps_foldl (fun _ _ h2 => keeps_uartIn h2) hk) (Keeps.ite (keeps_wakeBy hk) (keeps_foldl (fun _ _ h3 =>
          keeps_rxIn h3) hk))

theorem keeps_execMacroLine {m : Fin 64} (hk : Keeps s₀ s) (ht : execMacroLine m s = .next t) : Keeps s₀ t := by
  obtain rfl := Host.Outcome.next.inj ht
  refine Keeps.ite ?_ ?_
  · exact hk
  · try dsimp only
    split
    · exact keeps_macroEnd hk
    · try dsimp only
      split
      · exact keeps_lineRefused (keeps_setMacro hk)
      · exact keeps_lineRefused (keeps_setMacro hk)
      · exact keeps_operandRefused (keeps_setMacro hk)
      · exact keeps_verbDo (keeps_setMacro hk)

theorem secFresh_locked (c : Sec) : (secFresh c).locked = c.locked := by
  unfold secFresh; dsimp only; split <;> rfl

theorem keeps_coreLoses (hk : Keeps s₀ s) : Keeps s₀ (coreLoses s) := by
  refine ⟨hk.queue, hk.time, hk.clock, fun i => (secFresh_locked s.sec).trans (hk.lock i), fun f i => hk.feeds f ?_, fun _ _ ho => absurd ho List.not_mem_nil, hk.era⟩
  dsimp only [coreLoses, drvFresh] at i
  rw [tget_map {} (fun x : Feed => { closed := x.closed, openCmd := x.openCmd }) rfl] at i
  exact i

theorem keeps_coreDown (hk : Keeps s₀ s) : Keeps s₀ (coreDown s) := keeps_coreLoses (keeps_jrnReset (keeps_lanRestart
    (keeps_timeCommit (keeps_portsLow (keeps_foldl (fun _ _ => keeps_feedStop) hk))))) 

theorem keeps_resetBegins {k : ResetKind} {extra : Nat} (hk : Keeps s₀ s) : Keeps s₀ (resetBegins s k extra) := by
  unfold resetBegins
  exact Keeps.upd (keeps_coreDown (keeps_holdReset hk)) rfl rfl

theorem keeps_resetAgain {k : ResetKind} {due : Nat} (hk : Keeps s₀ s) : Keeps s₀ (resetAgain s k due) := by
  unfold resetAgain
  exact Keeps.upd hk rfl rfl

theorem keeps_holdsFreeze (hk : Keeps s₀ s) : Keeps s₀ (holdsFreeze s) := by
  unfold holdsFreeze
  exact Keeps.upd hk rfl rfl

theorem keeps_holdsThaw (hk : Keeps s₀ s) : Keeps s₀ (holdsThaw s) := by
  unfold holdsThaw
  exact Keeps.upd hk rfl rfl

theorem keeps_holdsLost (hk : Keeps s₀ s) : Keeps s₀ (holdsLost s) := by
  unfold holdsLost
  exact Keeps.upd hk rfl rfl

theorem keeps_goesOff (hk : Keeps s₀ s) : Keeps s₀ (goesOff s) := by
  unfold goesOff
  exact Keeps.upd (keeps_coreDown (keeps_holdsFreeze (Keeps.ite hk (keeps_holdsLost hk)))) rfl rfl

theorem keeps_gaspImages (hk : Keeps s₀ s) : Keeps s₀ (gaspImages s) := by
  unfold gaspImages
  exact Keeps.ite (Keeps.upd (keeps_drivesGasp hk) rfl rfl) hk

theorem keeps_commit (hk : Keeps s₀ s) : Keeps s₀ (commit s) := by
  unfold commit
  exact Keeps.ite (keeps_notify (keeps_foldl (fun _ _ h7 => keeps_finishOut h7) (keeps_busCommit (keeps_timeCommit
      (keeps_jrnCommit (keeps_lanCommit (Keeps.upd (keeps_portsLow (keeps_gaspImages (keeps_bistCommit hk))) rfl rfl)))))))
      (keeps_goesOff (Keeps.upd (keeps_notify (keeps_foldl (fun _ _ h8 => keeps_finishOut h8) (keeps_busCommit (keeps_timeCommit
      (keeps_jrnCommit (keeps_lanCommit (Keeps.upd (keeps_portsLow (keeps_gaspImages (keeps_bistCommit hk))) rfl rfl))))))) rfl
      rfl))

theorem keeps_holdAsserted (hk : Keeps s₀ s) : Keeps s₀ (holdAsserted s) := by
  unfold holdAsserted
  try dsimp only
  split
  · exact Keeps.ite hk (keeps_commit hk)
  · exact keeps_goesOff (Keeps.upd hk rfl rfl)
  · exact hk

theorem keeps_execHoldAssert (hk : Keeps s₀ s) (ht : execHoldAssert s = .next t) : Keeps s₀ t := by
  obtain rfl := Host.Outcome.next.inj ht
  exact keeps_holdAsserted hk

theorem keeps_execMainLost (hk : Keeps s₀ s) (ht : execMainLost s = .next t) : Keeps s₀ t := by
  obtain rfl := Host.Outcome.next.inj ht
  exact Keeps.ite (keeps_holdAsserted (keeps_pilotLost hk)) (Keeps.upd hk rfl rfl)

theorem keeps_flushEnds (hk : Keeps s₀ s) : Keeps s₀ (flushEnds s) := by
  unfold flushEnds
  exact Keeps.ite (Keeps.upd (keeps_goesOff hk) rfl rfl) (Keeps.ite (keeps_holdReset (Keeps.upd (keeps_goesOff hk) rfl rfl))
      (Keeps.ite (keeps_holdReset (Keeps.upd (keeps_goesOff hk) rfl rfl)) (Keeps.upd (keeps_goesOff hk) rfl rfl)))

theorem keeps_execFlushComplete (hk : Keeps s₀ s) (ht : execFlushComplete s = .next t) : Keeps s₀ t := by
  obtain rfl := Host.Outcome.next.inj ht
  exact Keeps.ite (keeps_flushEnds hk) hk

theorem keeps_flushLost (hk : Keeps s₀ s) : Keeps s₀ (flushLost s) := by
  unfold flushLost
  exact keeps_goesOff (Keeps.upd (Keeps.ite (Keeps.upd hk rfl rfl) hk) rfl rfl)

theorem keeps_pinReset {low : Nat} (hk : Keeps s₀ s) : Keeps s₀ (pinReset s low) := by
  unfold pinReset
  refine Keeps.ite ?_ ?_
  · exact Keeps.upd hk rfl rfl
  · try dsimp only
    split
    · exact Keeps.upd hk rfl rfl
    · exact keeps_resetAgain (Keeps.upd hk rfl rfl)
    · exact Keeps.ite (keeps_resetBegins (Keeps.upd hk rfl rfl)) (Keeps.ite (keeps_commit (Keeps.upd (Keeps.upd hk rfl rfl) rfl
          rfl)) (Keeps.ite (keeps_holdReset (keeps_commit (Keeps.upd hk rfl rfl))) (keeps_commit (Keeps.upd hk rfl rfl))))

theorem keeps_execResetPin {low : Nat} (hk : Keeps s₀ s) (ht : execResetPin low s = .next t) : Keeps s₀ t := by
  obtain rfl := Host.Outcome.next.inj ht
  exact Keeps.ite hk (Keeps.ite (Keeps.ite (keeps_pinReset (keeps_drawn hk)) (keeps_drawn hk)) (keeps_pinReset hk))

theorem keeps_brownReset {low : Nat} (hk : Keeps s₀ s) : Keeps s₀ (brownReset s low) := by
  have gone {s : State} (hk : Keeps s₀ s) : Keeps s₀ (goesOff { s with jrn := { s.jrn with gasp := none } }) :=
    keeps_goesOff (Keeps.upd hk rfl rfl)
  unfold brownReset
  split
  · exact hk
  · exact Keeps.ite (keeps_resetAgain hk) (gone hk)
  · exact Keeps.ite (Keeps.ite (keeps_holdReset (keeps_flushLost hk)) (keeps_flushLost hk)) (Keeps.ite (keeps_resetBegins hk) (gone hk))

theorem keeps_execBrownOut {low : Nat} (hk : Keeps s₀ s) (ht : execBrownOut low s = .next t) : Keeps s₀ t := by
  obtain rfl := Host.Outcome.next.inj ht
  exact Keeps.ite hk (keeps_brownReset hk)

theorem keeps_execKeeperWatchdogExpiry (hk : Keeps s₀ s) (ht : execKeeperWatchdogExpiry s = .next t) : Keeps s₀ t := by
  obtain rfl := Host.Outcome.next.inj ht
  refine Keeps.ite hk (keeps_resetBegins ⟨hk.queue, Nat.le_trans hk.time (Nat.le_max_left _ _),
    fun i => Nat.le_trans (hk.clock i) (Nat.le_max_left _ _), hk.lock, hk.feeds, hk.ids, hk.era⟩)

theorem keeps_execRestartReset (hk : Keeps s₀ s) (ht : execRestartReset s = .next t) : Keeps s₀ t := by
  obtain rfl := Host.Outcome.next.inj ht
  try dsimp only
  split
  · exact hk
  · exact Keeps.ite hk (Keeps.ite (keeps_resetBegins hk) (keeps_atTick hk (fun _ h1 => Keeps.ite (keeps_resetBegins h1) h1)))

theorem keeps_coreStarts : Keeps (coreReleased s) (coreStarts s) := by
  have h := Keeps.refl (coreReleased s)
  exact keeps_timeRestart (Keeps.ite (keeps_holdsThaw (Keeps.upd (Keeps.upd h rfl rfl) rfl rfl)) (Keeps.upd (Keeps.upd h rfl rfl) rfl rfl))

/-- CORE_RESET_RELEASE keeps all, or the release comes. -/
theorem keeps_execCoreResetRelease {s t : State} (ht : execCoreResetRelease s = .next t) :
    Keeps s t ∨ ∃ u, Keeps s u ∧ Keeps (coreReleased u) t := by
  obtain rfl := Host.Outcome.next.inj ht
  split
  · split
    · unfold atTick
      split
      · next e =>
        refine .inr ⟨_, ?_, keeps_coreStarts⟩
        exact keeps_comesAt (Keeps.refl s) e
      · exact .inl (Keeps.refl s)
    · exact .inl (Keeps.refl s)
  · exact .inl (Keeps.refl s)

theorem keeps_lineConfigured (hk : Keeps s₀ s) : Keeps s₀ (lineConfigured s) := by
  unfold lineConfigured
  exact Keeps.ite (keeps_versionCheck (keeps_foldl (fun _ _ h1 => keeps_feedStop h1) (Keeps.upd hk rfl rfl))) hk

theorem keeps_linkUp {lrev : Byte} {jrev : Byte} (hk : Keeps s₀ s) : Keeps s₀ (linkUp lrev jrev s) := by
  unfold linkUp
  exact Keeps.ite (keeps_lineConfigured (Keeps.upd hk rfl rfl)) (Keeps.ite (keeps_versionCheck (Keeps.upd hk rfl rfl))
      (Keeps.upd hk rfl rfl))

theorem keeps_execBarrierLinkUp {lrev : Byte} {jrev : Byte} (hk : Keeps s₀ s) (ht : execBarrierLinkUp lrev jrev s = .next t) :
    Keeps s₀ t := by
  obtain rfl := Host.Outcome.next.inj ht
  exact Keeps.ite (keeps_atTick hk (fun _ h1 => keeps_linkUp h1)) hk

theorem keeps_execBarrierLinkBack (hk : Keeps s₀ s) (ht : execBarrierLinkBack s = .next t) : Keeps s₀ t := by
  obtain rfl := Host.Outcome.next.inj ht
  exact Keeps.ite (keeps_atTick hk (fun _ h1 => keeps_versionCheck (keeps_linkBack h1))) hk

theorem keeps_execVersionCheck (hk : Keeps s₀ s) (ht : execVersionCheck s = .next t) : Keeps s₀ t := by
  obtain rfl := Host.Outcome.next.inj ht
  exact Keeps.ite (keeps_atTick hk (fun _ h1 => keeps_versionCheck (Keeps.upd h1 rfl rfl))) hk

theorem keeps_execQuickSelfTestComplete {faults : BitVec 10} {feeds : BitVec 8} {ports : BitVec 4} {copyOk : Bool} (hk : Keeps
    s₀ s) (ht : execQuickSelfTestComplete faults feeds ports copyOk s = .next t) : Keeps s₀ t := by
  obtain rfl := Host.Outcome.next.inj ht
  exact Keeps.ite (keeps_atTick hk (fun _ h1 => keeps_quickResult (Keeps.upd h1 rfl rfl))) hk

theorem keeps_descsLoad (hk : Keeps s₀ s) : Keeps s₀ (descsLoad s) := by
  unfold descsLoad
  exact keeps_foldl (fun _ _ h1 => keeps_setXcell h1) hk

theorem keeps_ratesLoad (hk : Keeps s₀ s) : Keeps s₀ (ratesLoad s) := by
  unfold ratesLoad
  exact Keeps.ite (Keeps.ite hk (Keeps.upd hk rfl rfl)) (Keeps.upd (Keeps.ite hk (Keeps.upd hk rfl rfl)) rfl rfl)

theorem keeps_tripsLoad (hk : Keeps s₀ s) : Keeps s₀ (tripsLoad s) := by
  unfold tripsLoad
  exact keeps_foldl (fun _ _ h1 => keeps_foldl (fun _ _ h2 => keeps_limitWrite h2) h1) hk

theorem keeps_startNotices (hk : Keeps s₀ s) : Keeps s₀ (startNotices s) := by
  unfold startNotices
  exact Keeps.upd (Keeps.ite (keeps_notify (Keeps.ite (keeps_notify (Keeps.ite (keeps_notify hk) hk)) (Keeps.ite (keeps_notify
      hk) hk))) (Keeps.ite (keeps_notify (Keeps.ite (keeps_notify hk) hk)) (Keeps.ite (keeps_notify hk) hk))) rfl rfl

theorem keeps_configLoad (hk : Keeps s₀ s) : Keeps s₀ (configLoad s) := by
  unfold configLoad
  exact keeps_refEnable (keeps_lineConfigured (keeps_jrnAnchor (keeps_jrnOpen (keeps_startNotices (keeps_busStart
      (keeps_timeConfigured (keeps_climRestart (keeps_lanRestart (keeps_thermRestart (keeps_drivesRestart (keeps_nominalSet
      (keeps_tripsLoad (keeps_ratesLoad (Keeps.upd (Keeps.ite (keeps_descsLoad (Keeps.upd (Keeps.upd hk rfl rfl) rfl rfl))
      (Keeps.upd hk rfl rfl)) rfl rfl))))))))))))))

theorem keeps_startBoundary (hk : Keeps s₀ s) : Keeps s₀ (startBoundary s) := by
  unfold startBoundary
  refine Keeps.ite ?_ ?_
  · exact hk
  · try dsimp only
    split
    · exact Keeps.ite (keeps_configLoad hk) hk
    · exact hk

theorem keeps_startTarget (hk : Keeps s₀ s) : Keeps s₀ (startTarget s) := by
  unfold startTarget
  exact Keeps.ite hk (Keeps.ite (keeps_addCause hk) (keeps_addCause hk))

theorem keeps_execRefSettled (hk : Keeps s₀ s) (ht : execRefSettled s = .next t) : Keeps s₀ t := by
  obtain rfl := Host.Outcome.next.inj ht
  exact Keeps.ite (keeps_atTick hk (fun _ h1 => Keeps.ite (keeps_modeDecide (keeps_leaveBoundary (keeps_startTarget (keeps_refOk
      h1)))) (keeps_startTarget (keeps_refOk h1)))) hk

theorem keeps_mainsTake {r : Rec} (hk : Keeps s₀ s) : Keeps s₀ (mainsTake s r) := by
  unfold mainsTake
  refine Keeps.ite ?_ ?_
  · exact hk
  · refine Keeps.ite ?_ ?_
    · exact keeps_notify (keeps_stopCharging (Keeps.upd hk rfl rfl))
    · refine Keeps.ite ?_ ?_
      · exact keeps_stopCharging hk
      · try dsimp only
        split
        · exact Keeps.upd hk rfl rfl
        · exact Keeps.upd hk rfl rfl
        · exact hk

theorem keeps_keeperTakes {r : Rec} (hk : Keeps s₀ s) : Keeps s₀ (keeperTakes s r) := by
  unfold keeperTakes
  exact keeps_bistDeliver (keeps_jrnDeliver (keeps_lanDeliver (keeps_timeDeliver (keeps_thermDeliver (keeps_linkDeliver
      (keeps_mainsTake (keeps_xSeen hk)))))))

theorem keeps_work0Takes {r : Rec} (hk : Keeps s₀ s) : Keeps s₀ (work0Takes s r) := by
  unfold work0Takes
  exact Keeps.ite hk (Keeps.ite (keeps_lanDeliver (keeps_busDeliver (keeps_xSeen hk))) (keeps_busDeliver (keeps_xSeen hk)))

theorem keeps_work1Takes {r : Rec} (hk : Keeps s₀ s) : Keeps s₀ (work1Takes s r) := by
  unfold work1Takes
  exact keeps_climDeliver (keeps_driveDeliver (Keeps.ite hk (keeps_thermDeliver (keeps_xSeen hk))))

theorem keeps_xTold {r : Rec} (hk : Keeps s₀ s) : Keeps s₀ (xTold s r) := by
  unfold xTold
  refine Keeps.ite ?_ ?_
  · exact keeps_xNotice hk
  · refine Keeps.ite ?_ ?_
    · exact hk
    · try dsimp only
      split
      · exact keeps_notifyAt hk
      · exact keeps_notifyAt hk
      · exact keeps_notifyAt hk
      · exact hk

theorem keeps_deliver {k : List Rec} {w0 : List Rec} {w1 : List Rec} {tells : List Rec} (hk : Keeps s₀ s) : Keeps s₀ (deliver s
    k w0 w1 tells) := by
  unfold deliver
  exact keeps_foldl (fun _ _ h2 => keeps_xTold h2) (keeps_foldl (fun _ _ h3 => keeps_xTold h3) (keeps_foldl (fun _ _ h4 =>
      keeps_work1Takes h4) (keeps_foldl (fun _ _ h5 => keeps_work0Takes h5) (keeps_foldl (fun _ _ h6 => keeps_keeperTakes h6)
      hk))))

theorem keeps_deliverAll {l : List Rec} (hk : Keeps s₀ s) : Keeps s₀ (deliverAll s l) := by
  unfold deliverAll
  exact keeps_deliver hk

theorem keeps_deliveries (hk : Keeps s₀ s) : Keeps s₀ (deliveries s) := by
  unfold deliveries
  exact keeps_foldl (fun _ _ h12 => keeps_byteTake h12) (Keeps.ite (keeps_replayEpoch (keeps_jrnBoundary (Keeps.upd hk rfl rfl))
      (fun _ _ h13 => keeps_deliverAll h13)) (keeps_deliver (keeps_jrnBoundary (Keeps.upd hk rfl rfl))))

theorem keeps_answerTakes {m : LMsg} (hk : Keeps s₀ s) : Keeps s₀ (answerTakes s m) := by
  unfold answerTakes
  try dsimp only
  split
  · exact keeps_driveAnswer hk
  · exact keeps_auxAnswered hk
  · exact keeps_lanAnswer hk
  · exact Keeps.ite (keeps_calBroken hk) (keeps_calAnswer hk)
  · exact keeps_bistAnswer hk
  · exact keeps_frzAnswer hk
  · exact keeps_chargeAnswer hk

theorem keeps_answersTake (hk : Keeps s₀ s) : Keeps s₀ (answersTake s) := by
  unfold answersTake
  exact keeps_foldl (fun _ _ h2 => keeps_answerTakes h2) (Keeps.upd hk rfl rfl)

theorem keeps_workStep {id : Nat} (hk : Keeps s₀ s) : Keeps s₀ (workStep s id) := by
  unfold workStep
  try dsimp only
  split
  · exact hk
  · try dsimp only
    split
    · exact keeps_settle hk
    · exact Keeps.ite (keeps_queryServe hk) hk
    · exact Keeps.ite (keeps_effectDo hk) hk
    · exact Keeps.ite (keeps_authEnd hk) hk
    · exact Keeps.ite hk (keeps_exportStep hk)
    · exact hk

theorem keeps_worksStep (hk : Keeps s₀ s) : Keeps s₀ (worksStep s) := by
  unfold worksStep
  exact keeps_foldl (fun _ _ h1 => keeps_workStep h1) hk

/-- The advance to the next boundary keeps the clock past its epoch. -/
theorem epochAdvances_clock {s : State} : (epochAdvances s).rel + (epochAdvances s).epoch * tickMs ≤ (epochAdvances s).now := by
  have := Nat.le_max_right s.now (epochTick s (s.epoch + 1))
  simp only [epochTick, epochAdvances, Nat.mul_comm tickMs] at this ⊢
  exact this

theorem keeps_epochBegins : Keeps (epochAdvances s) (epochBegins s) := by
  exact keeps_limitsTake (Keeps.upd (keeps_foldl (fun _ _ => keeps_modSes) (Keeps.refl _)) rfl rfl)

theorem keeps_workersStep (hk : Keeps s₀ s) : Keeps s₀ (workersStep s) := by
  unfold workersStep
  exact Keeps.ite hk (keeps_climBoundary (keeps_driveBoundary (keeps_driveResults hk)))

theorem keeps_linesStep (hk : Keeps s₀ s) : Keeps s₀ (linesStep s) := by
  unfold linesStep
  exact Keeps.ite hk (keeps_startPending (keeps_rtsFollows (keeps_foldl (fun _ _ h1 => keeps_sessionReads h1) hk)))

theorem keeps_islandsStep (hk : Keeps s₀ s) : Keeps s₀ (islandsStep s) := by
  unfold islandsStep
  exact keeps_startBoundary (keeps_auditFlush (keeps_linesStep (keeps_bistBoundary (keeps_lanBoundary (keeps_leaveBoundary
      (keeps_busBoundary (keeps_workersStep (keeps_frzBoundary (keeps_descsTake (keeps_worksStep (keeps_storesStep
      (keeps_answersTake (keeps_timeBoundary (keeps_thermBoundary (keeps_countBoundary (keeps_convBoundary (keeps_lateNotices
      hk)))))))))))))))))

theorem keeps_epochRuns (hk : Keeps s₀ s) : Keeps s₀ (epochRuns s) := by
  unfold epochRuns
  exact Keeps.ite (keeps_countParks (keeps_modeDecide (keeps_jrnBoundary (keeps_descsTake (keeps_busSleepDue hk)))))
      (keeps_anchorSeal (keeps_tunBoundary (keeps_countParks (keeps_modeDecide (keeps_idleStep (keeps_islandsStep
      (keeps_windowStep (keeps_descsTake (keeps_deliveries hk)))))))))

/-- The boundary keeps what the advance to it keeps. -/
theorem keeps_epochStep {s : State} (hr : coreRuns s = true) : Keeps (epochAdvances s) (epochStep s) := by
  unfold epochStep
  rw [if_neg (by simp [hr])]
  exact Keeps.ite keeps_epochBegins (keeps_epochRuns keeps_epochBegins)

theorem keeps_execEpochBoundary {s t : State} (ht : execEpochBoundary s = .next t) : t = s ∨ Keeps (epochAdvances s) t := by
  obtain rfl := Host.Outcome.next.inj ht
  by_cases h : coreRuns s = true
  · exact .inr (keeps_epochStep h)
  · exact .inl (by simp [epochStep, h])

theorem keeps_execTunnelFragment {ses : Fin 4} {src : Fin 64} {sq : Fin 64} {bytes : List Byte} (hk : Keeps s₀ s) (ht :
    execTunnelFragment ses src sq bytes s = .next t) : Keeps s₀ t := by
  obtain rfl := Host.Outcome.next.inj ht
  refine Keeps.ite ?_ ?_
  · exact hk
  · refine Keeps.ite ?_ ?_
    · exact keeps_busUnused hk
    · try dsimp only
      split
      · exact keeps_tunCtl hk
      · exact Keeps.ite (keeps_tunBoundary (keeps_linesStep (keeps_fragTakes hk))) (keeps_fragTakes hk)

theorem keeps_idleTick : Keeps s (idleTick s) ∨ Keeps (epochAdvances s) (idleTick s) := by
  unfold idleTick
  split
  · next h => exact .inr (keeps_epochStep (by simp only [Bool.and_eq_true] at h; exact h.1))
  · exact .inl ⟨rfl, Nat.le_succ _, fun i => Nat.le_trans i (Nat.le_succ _), id, fun _ => id, id, rfl, rfl⟩

/-- `s` with the feeds of the list standing closed. -/
def feedsShut (s : State) (l : List Nat) : State :=
  { s with drv := { s.drv with feeds := l.foldl (fun t f => tset t f { closed := true }) s.drv.feeds } }

theorem tget_shut (f : Nat) : ∀ (l : List Nat) (t : Tbl Feed), (f ∈ l ∨ (tget {} t f).closed = true) →
    (tget {} (l.foldl (fun t f => tset t f { closed := true }) t) f).closed = true
  | [], _, h => h.elim (absurd · List.not_mem_nil) id
  | g :: l, t, h => by
    refine tget_shut f l _ ?_
    by_cases e : f = g
    · subst e; rw [tget_tset_self]; exact .inr rfl
    · rw [tget_tset_ne _ _ _ e]; exact h.imp (fun m => (List.mem_cons.1 m).resolve_left e) id

theorem keeps_feedsShut {l : List Nat} : Keeps (feedsShut s l) s :=
  ⟨rfl, Nat.le_refl _, id, id, fun f h => tget_shut f l _ (.inr h), id, rfl, rfl⟩

theorem keeps_feedCloses {f : Nat} (hc : (tget {} s₀.drv.feeds f).closed = true) (hk : Keeps s₀ s) : Keeps s₀ (feedCloses s f) := by
  have hs : ∀ x, Keeps s₀ (setFeed s f x) := fun x => ⟨hk.queue, hk.time, hk.clock, hk.lock, fun g h => by
    by_cases e : g = f
    · subst e; exact hc
    · exact hk.feeds g (by simpa [setFeed, tget_tset_ne _ _ _ e] using h), hk.ids, hk.era⟩
  unfold feedCloses
  dsimp only
  split
  · exact hk
  · refine Keeps.ite (Keeps.ite (hs _) hk) (Keeps.ite hk ?_)
    split
    · split
      · exact keeps_travelBegins (hs _)
      · exact hs _
    · exact hs _

/-- ZERO_CROSSING keeps all but the open feeds. -/
theorem keeps_zeroCrossing {raw : Nat} : Keeps (feedsShut s (List.range 8)) (zeroCrossing s raw) := by
  have h : ∀ (l : List Nat), (∀ f ∈ l, f ∈ List.range 8) → ∀ {x}, Keeps (feedsShut s (List.range 8)) x →
      Keeps (feedsShut s (List.range 8)) (l.foldl feedCloses x) := by
    intro l
    induction l with
    | nil => exact fun _ {_} h => h
    | cons f l ih => exact fun hl {_} h => ih (fun g m => hl g (List.mem_cons_of_mem _ m)) (keeps_feedCloses (tget_shut f _ _ (.inl (hl f List.mem_cons_self))) h)
  unfold zeroCrossing
  exact keeps_icCrossing (h _ (fun _ m => m) (Keeps.upd keeps_feedsShut rfl rfl))

theorem keeps_execZeroCrossing {raw : BitVec 20} (h : execZeroCrossing raw s = .next t) : Keeps (feedsShut s (List.range 8)) t := by
  cases h; exact keeps_zeroCrossing

end Sys2Proof.Laws
end

