-- ==== Sys2Proof/Laws/State.lean ====
section
/-!
SUPPORT. The small laws of State: for each shared update, one law for each field that it leaves alone, the field that it
writes, and what its reader reads after it.
-/
namespace Sys2Proof.Laws
open Sys2Proof Sys2Proof.Machine
variable (s : State)

/-! ### drawn -/

@[simp] theorem drawn_now : (drawn s).now = s.now := rfl
@[simp] theorem drawn_rel : (drawn s).rel = s.rel := rfl
@[simp] theorem drawn_epoch : (drawn s).epoch = s.epoch := rfl
@[simp] theorem drawn_ana : (drawn s).ana = s.ana := rfl
@[simp] theorem drawn_vil : (drawn s).vil = s.vil := rfl
@[simp] theorem drawn_sec : (drawn s).sec = s.sec := rfl
@[simp] theorem drawn_cfg : (drawn s).cfg = s.cfg := rfl
@[simp] theorem drawn_stored : (drawn s).stored = s.stored := rfl
@[simp] theorem drawn_pwr : (drawn s).pwr = s.pwr := rfl
@[simp] theorem drawn_lve : (drawn s).lve = s.lve := rfl
@[simp] theorem drawn_cnv : (drawn s).cnv = s.cnv := rfl
@[simp] theorem drawn_chn : (drawn s).chn = s.chn := rfl
@[simp] theorem drawn_cnt : (drawn s).cnt = s.cnt := rfl
@[simp] theorem drawn_drv : (drawn s).drv = s.drv := rfl
@[simp] theorem drawn_thm : (drawn s).thm = s.thm := rfl
@[simp] theorem drawn_clm : (drawn s).clm = s.clm := rfl
@[simp] theorem drawn_bus : (drawn s).bus = s.bus := rfl
@[simp] theorem drawn_tim : (drawn s).tim = s.tim := rfl
@[simp] theorem drawn_lan : (drawn s).lan = s.lan := rfl
@[simp] theorem drawn_jrn : (drawn s).jrn = s.jrn := rfl
@[simp] theorem drawn_tst : (drawn s).tst = s.tst := rfl
@[simp] theorem drawn_pending : (drawn s).pending = s.pending := rfl
@[simp] theorem drawn_fresh : (drawn s).fresh = s.fresh + 1 := rfl

/-! ### setXcell -/

@[simp] theorem setXcell_now (x : Nat) (c : XCell) : (setXcell s x c).now = s.now := rfl
@[simp] theorem setXcell_rel (x : Nat) (c : XCell) : (setXcell s x c).rel = s.rel := rfl
@[simp] theorem setXcell_epoch (x : Nat) (c : XCell) : (setXcell s x c).epoch = s.epoch := rfl
@[simp] theorem setXcell_fresh (x : Nat) (c : XCell) : (setXcell s x c).fresh = s.fresh := rfl
@[simp] theorem setXcell_vil (x : Nat) (c : XCell) : (setXcell s x c).vil = s.vil := rfl
@[simp] theorem setXcell_sec (x : Nat) (c : XCell) : (setXcell s x c).sec = s.sec := rfl
@[simp] theorem setXcell_cfg (x : Nat) (c : XCell) : (setXcell s x c).cfg = s.cfg := rfl
@[simp] theorem setXcell_stored (x : Nat) (c : XCell) : (setXcell s x c).stored = s.stored := rfl
@[simp] theorem setXcell_pwr (x : Nat) (c : XCell) : (setXcell s x c).pwr = s.pwr := rfl
@[simp] theorem setXcell_lve (x : Nat) (c : XCell) : (setXcell s x c).lve = s.lve := rfl
@[simp] theorem setXcell_cnv (x : Nat) (c : XCell) : (setXcell s x c).cnv = s.cnv := rfl
@[simp] theorem setXcell_chn (x : Nat) (c : XCell) : (setXcell s x c).chn = s.chn := rfl
@[simp] theorem setXcell_cnt (x : Nat) (c : XCell) : (setXcell s x c).cnt = s.cnt := rfl
@[simp] theorem setXcell_drv (x : Nat) (c : XCell) : (setXcell s x c).drv = s.drv := rfl
@[simp] theorem setXcell_thm (x : Nat) (c : XCell) : (setXcell s x c).thm = s.thm := rfl
@[simp] theorem setXcell_clm (x : Nat) (c : XCell) : (setXcell s x c).clm = s.clm := rfl
@[simp] theorem setXcell_bus (x : Nat) (c : XCell) : (setXcell s x c).bus = s.bus := rfl
@[simp] theorem setXcell_tim (x : Nat) (c : XCell) : (setXcell s x c).tim = s.tim := rfl
@[simp] theorem setXcell_lan (x : Nat) (c : XCell) : (setXcell s x c).lan = s.lan := rfl
@[simp] theorem setXcell_jrn (x : Nat) (c : XCell) : (setXcell s x c).jrn = s.jrn := rfl
@[simp] theorem setXcell_tst (x : Nat) (c : XCell) : (setXcell s x c).tst = s.tst := rfl
@[simp] theorem setXcell_pending (x : Nat) (c : XCell) : (setXcell s x c).pending = s.pending := rfl
@[simp] theorem setXcell_xcell_self (x : Nat) (c : XCell) : xcell (setXcell s x c) x = c := tget_tset_self _ _ _ _
theorem setXcell_xcell_ne (x : Nat) (c : XCell) (j : Nat) (h : j ≠ x) : xcell (setXcell s x c) j = xcell s j := tget_tset_ne _ _ _ h

/-! ### setSes -/

@[simp] theorem setSes_now (k : Sess) (x : Session) : (setSes s k x).now = s.now := by cases k <;> rfl
@[simp] theorem setSes_rel (k : Sess) (x : Session) : (setSes s k x).rel = s.rel := by cases k <;> rfl
@[simp] theorem setSes_epoch (k : Sess) (x : Session) : (setSes s k x).epoch = s.epoch := by cases k <;> rfl
@[simp] theorem setSes_fresh (k : Sess) (x : Session) : (setSes s k x).fresh = s.fresh := by cases k <;> rfl
@[simp] theorem setSes_ana (k : Sess) (x : Session) : (setSes s k x).ana = s.ana := by cases k <;> rfl
@[simp] theorem setSes_sec (k : Sess) (x : Session) : (setSes s k x).sec = s.sec := by cases k <;> rfl
@[simp] theorem setSes_cfg (k : Sess) (x : Session) : (setSes s k x).cfg = s.cfg := by cases k <;> rfl
@[simp] theorem setSes_stored (k : Sess) (x : Session) : (setSes s k x).stored = s.stored := by cases k <;> rfl
@[simp] theorem setSes_pwr (k : Sess) (x : Session) : (setSes s k x).pwr = s.pwr := by cases k <;> rfl
@[simp] theorem setSes_lve (k : Sess) (x : Session) : (setSes s k x).lve = s.lve := by cases k <;> rfl
@[simp] theorem setSes_cnv (k : Sess) (x : Session) : (setSes s k x).cnv = s.cnv := by cases k <;> rfl
@[simp] theorem setSes_chn (k : Sess) (x : Session) : (setSes s k x).chn = s.chn := by cases k <;> rfl
@[simp] theorem setSes_cnt (k : Sess) (x : Session) : (setSes s k x).cnt = s.cnt := by cases k <;> rfl
@[simp] theorem setSes_drv (k : Sess) (x : Session) : (setSes s k x).drv = s.drv := by cases k <;> rfl
@[simp] theorem setSes_thm (k : Sess) (x : Session) : (setSes s k x).thm = s.thm := by cases k <;> rfl
@[simp] theorem setSes_clm (k : Sess) (x : Session) : (setSes s k x).clm = s.clm := by cases k <;> rfl
@[simp] theorem setSes_bus (k : Sess) (x : Session) : (setSes s k x).bus = s.bus := by cases k <;> rfl
@[simp] theorem setSes_tim (k : Sess) (x : Session) : (setSes s k x).tim = s.tim := by cases k <;> rfl
@[simp] theorem setSes_lan (k : Sess) (x : Session) : (setSes s k x).lan = s.lan := by cases k <;> rfl
@[simp] theorem setSes_jrn (k : Sess) (x : Session) : (setSes s k x).jrn = s.jrn := by cases k <;> rfl
@[simp] theorem setSes_tst (k : Sess) (x : Session) : (setSes s k x).tst = s.tst := by cases k <;> rfl
@[simp] theorem setSes_pending (k : Sess) (x : Session) : (setSes s k x).pending = s.pending := by cases k <;> rfl
@[simp] theorem getSes_setSes_self (k : Sess) (x : Session) : getSes (setSes s k x) k = x := by cases k <;> rfl
theorem getSes_setSes_ne (k j : Sess) (x : Session) (h : j ≠ k) : getSes (setSes s k x) j = getSes s j := by
  cases k <;> cases j <;> first | rfl | exact absurd rfl h

/-! ### setWork -/

@[simp] theorem setWork_now (i : Nat) (w : Work) : (setWork s i w).now = s.now := rfl
@[simp] theorem setWork_rel (i : Nat) (w : Work) : (setWork s i w).rel = s.rel := rfl
@[simp] theorem setWork_epoch (i : Nat) (w : Work) : (setWork s i w).epoch = s.epoch := rfl
@[simp] theorem setWork_fresh (i : Nat) (w : Work) : (setWork s i w).fresh = s.fresh := rfl
@[simp] theorem setWork_ana (i : Nat) (w : Work) : (setWork s i w).ana = s.ana := rfl
@[simp] theorem setWork_sec (i : Nat) (w : Work) : (setWork s i w).sec = s.sec := rfl
@[simp] theorem setWork_cfg (i : Nat) (w : Work) : (setWork s i w).cfg = s.cfg := rfl
@[simp] theorem setWork_stored (i : Nat) (w : Work) : (setWork s i w).stored = s.stored := rfl
@[simp] theorem setWork_pwr (i : Nat) (w : Work) : (setWork s i w).pwr = s.pwr := rfl
@[simp] theorem setWork_lve (i : Nat) (w : Work) : (setWork s i w).lve = s.lve := rfl
@[simp] theorem setWork_cnv (i : Nat) (w : Work) : (setWork s i w).cnv = s.cnv := rfl
@[simp] theorem setWork_chn (i : Nat) (w : Work) : (setWork s i w).chn = s.chn := rfl
@[simp] theorem setWork_cnt (i : Nat) (w : Work) : (setWork s i w).cnt = s.cnt := rfl
@[simp] theorem setWork_drv (i : Nat) (w : Work) : (setWork s i w).drv = s.drv := rfl
@[simp] theorem setWork_thm (i : Nat) (w : Work) : (setWork s i w).thm = s.thm := rfl
@[simp] theorem setWork_clm (i : Nat) (w : Work) : (setWork s i w).clm = s.clm := rfl
@[simp] theorem setWork_bus (i : Nat) (w : Work) : (setWork s i w).bus = s.bus := rfl
@[simp] theorem setWork_tim (i : Nat) (w : Work) : (setWork s i w).tim = s.tim := rfl
@[simp] theorem setWork_lan (i : Nat) (w : Work) : (setWork s i w).lan = s.lan := rfl
@[simp] theorem setWork_jrn (i : Nat) (w : Work) : (setWork s i w).jrn = s.jrn := rfl
@[simp] theorem setWork_tst (i : Nat) (w : Work) : (setWork s i w).tst = s.tst := rfl
@[simp] theorem setWork_pending (i : Nat) (w : Work) : (setWork s i w).pending = s.pending := rfl

/-! ### setChan -/

@[simp] theorem setChan_now (u : Nat) (c : ChanSt) : (setChan s u c).now = s.now := rfl
@[simp] theorem setChan_rel (u : Nat) (c : ChanSt) : (setChan s u c).rel = s.rel := rfl
@[simp] theorem setChan_epoch (u : Nat) (c : ChanSt) : (setChan s u c).epoch = s.epoch := rfl
@[simp] theorem setChan_fresh (u : Nat) (c : ChanSt) : (setChan s u c).fresh = s.fresh := rfl
@[simp] theorem setChan_ana (u : Nat) (c : ChanSt) : (setChan s u c).ana = s.ana := rfl
@[simp] theorem setChan_vil (u : Nat) (c : ChanSt) : (setChan s u c).vil = s.vil := rfl
@[simp] theorem setChan_sec (u : Nat) (c : ChanSt) : (setChan s u c).sec = s.sec := rfl
@[simp] theorem setChan_cfg (u : Nat) (c : ChanSt) : (setChan s u c).cfg = s.cfg := rfl
@[simp] theorem setChan_stored (u : Nat) (c : ChanSt) : (setChan s u c).stored = s.stored := rfl
@[simp] theorem setChan_pwr (u : Nat) (c : ChanSt) : (setChan s u c).pwr = s.pwr := rfl
@[simp] theorem setChan_lve (u : Nat) (c : ChanSt) : (setChan s u c).lve = s.lve := rfl
@[simp] theorem setChan_chn (u : Nat) (c : ChanSt) : (setChan s u c).chn = s.chn := rfl
@[simp] theorem setChan_cnt (u : Nat) (c : ChanSt) : (setChan s u c).cnt = s.cnt := rfl
@[simp] theorem setChan_drv (u : Nat) (c : ChanSt) : (setChan s u c).drv = s.drv := rfl
@[simp] theorem setChan_thm (u : Nat) (c : ChanSt) : (setChan s u c).thm = s.thm := rfl
@[simp] theorem setChan_clm (u : Nat) (c : ChanSt) : (setChan s u c).clm = s.clm := rfl
@[simp] theorem setChan_bus (u : Nat) (c : ChanSt) : (setChan s u c).bus = s.bus := rfl
@[simp] theorem setChan_tim (u : Nat) (c : ChanSt) : (setChan s u c).tim = s.tim := rfl
@[simp] theorem setChan_lan (u : Nat) (c : ChanSt) : (setChan s u c).lan = s.lan := rfl
@[simp] theorem setChan_jrn (u : Nat) (c : ChanSt) : (setChan s u c).jrn = s.jrn := rfl
@[simp] theorem setChan_tst (u : Nat) (c : ChanSt) : (setChan s u c).tst = s.tst := rfl
@[simp] theorem setChan_pending (u : Nat) (c : ChanSt) : (setChan s u c).pending = s.pending := rfl
@[simp] theorem setChan_chanSt_self (u : Nat) (c : ChanSt) : chanSt (setChan s u c) u = c := tget_tset_self _ _ _ _
theorem setChan_chanSt_ne (u : Nat) (c : ChanSt) (j : Nat) (h : j ≠ u) : chanSt (setChan s u c) j = chanSt s j := tget_tset_ne _ _ _ h

/-! ### setGrp -/

@[simp] theorem setGrp_now (g : Nat) (x : GrpSt) : (setGrp s g x).now = s.now := rfl
@[simp] theorem setGrp_rel (g : Nat) (x : GrpSt) : (setGrp s g x).rel = s.rel := rfl
@[simp] theorem setGrp_epoch (g : Nat) (x : GrpSt) : (setGrp s g x).epoch = s.epoch := rfl
@[simp] theorem setGrp_fresh (g : Nat) (x : GrpSt) : (setGrp s g x).fresh = s.fresh := rfl
@[simp] theorem setGrp_ana (g : Nat) (x : GrpSt) : (setGrp s g x).ana = s.ana := rfl
@[simp] theorem setGrp_vil (g : Nat) (x : GrpSt) : (setGrp s g x).vil = s.vil := rfl
@[simp] theorem setGrp_sec (g : Nat) (x : GrpSt) : (setGrp s g x).sec = s.sec := rfl
@[simp] theorem setGrp_cfg (g : Nat) (x : GrpSt) : (setGrp s g x).cfg = s.cfg := rfl
@[simp] theorem setGrp_stored (g : Nat) (x : GrpSt) : (setGrp s g x).stored = s.stored := rfl
@[simp] theorem setGrp_pwr (g : Nat) (x : GrpSt) : (setGrp s g x).pwr = s.pwr := rfl
@[simp] theorem setGrp_lve (g : Nat) (x : GrpSt) : (setGrp s g x).lve = s.lve := rfl
@[simp] theorem setGrp_chn (g : Nat) (x : GrpSt) : (setGrp s g x).chn = s.chn := rfl
@[simp] theorem setGrp_cnt (g : Nat) (x : GrpSt) : (setGrp s g x).cnt = s.cnt := rfl
@[simp] theorem setGrp_drv (g : Nat) (x : GrpSt) : (setGrp s g x).drv = s.drv := rfl
@[simp] theorem setGrp_thm (g : Nat) (x : GrpSt) : (setGrp s g x).thm = s.thm := rfl
@[simp] theorem setGrp_clm (g : Nat) (x : GrpSt) : (setGrp s g x).clm = s.clm := rfl
@[simp] theorem setGrp_bus (g : Nat) (x : GrpSt) : (setGrp s g x).bus = s.bus := rfl
@[simp] theorem setGrp_tim (g : Nat) (x : GrpSt) : (setGrp s g x).tim = s.tim := rfl
@[simp] theorem setGrp_lan (g : Nat) (x : GrpSt) : (setGrp s g x).lan = s.lan := rfl
@[simp] theorem setGrp_jrn (g : Nat) (x : GrpSt) : (setGrp s g x).jrn = s.jrn := rfl
@[simp] theorem setGrp_tst (g : Nat) (x : GrpSt) : (setGrp s g x).tst = s.tst := rfl
@[simp] theorem setGrp_pending (g : Nat) (x : GrpSt) : (setGrp s g x).pending = s.pending := rfl
@[simp] theorem setGrp_grpSt_self (g : Nat) (x : GrpSt) : grpSt (setGrp s g x) g = x := tget_tset_self _ _ _ _
theorem setGrp_grpSt_ne (g : Nat) (x : GrpSt) (j : Nat) (h : j ≠ g) : grpSt (setGrp s g x) j = grpSt s j := tget_tset_ne _ _ _ h

/-! ### setCell -/

@[simp] theorem setCell_now (k : Nat) (c : Cell) : (setCell s k c).now = s.now := rfl
@[simp] theorem setCell_rel (k : Nat) (c : Cell) : (setCell s k c).rel = s.rel := rfl
@[simp] theorem setCell_epoch (k : Nat) (c : Cell) : (setCell s k c).epoch = s.epoch := rfl
@[simp] theorem setCell_fresh (k : Nat) (c : Cell) : (setCell s k c).fresh = s.fresh := rfl
@[simp] theorem setCell_ana (k : Nat) (c : Cell) : (setCell s k c).ana = s.ana := rfl
@[simp] theorem setCell_vil (k : Nat) (c : Cell) : (setCell s k c).vil = s.vil := rfl
@[simp] theorem setCell_sec (k : Nat) (c : Cell) : (setCell s k c).sec = s.sec := rfl
@[simp] theorem setCell_cfg (k : Nat) (c : Cell) : (setCell s k c).cfg = s.cfg := rfl
@[simp] theorem setCell_stored (k : Nat) (c : Cell) : (setCell s k c).stored = s.stored := rfl
@[simp] theorem setCell_pwr (k : Nat) (c : Cell) : (setCell s k c).pwr = s.pwr := rfl
@[simp] theorem setCell_lve (k : Nat) (c : Cell) : (setCell s k c).lve = s.lve := rfl
@[simp] theorem setCell_cnv (k : Nat) (c : Cell) : (setCell s k c).cnv = s.cnv := rfl
@[simp] theorem setCell_cnt (k : Nat) (c : Cell) : (setCell s k c).cnt = s.cnt := rfl
@[simp] theorem setCell_drv (k : Nat) (c : Cell) : (setCell s k c).drv = s.drv := rfl
@[simp] theorem setCell_thm (k : Nat) (c : Cell) : (setCell s k c).thm = s.thm := rfl
@[simp] theorem setCell_clm (k : Nat) (c : Cell) : (setCell s k c).clm = s.clm := rfl
@[simp] theorem setCell_bus (k : Nat) (c : Cell) : (setCell s k c).bus = s.bus := rfl
@[simp] theorem setCell_tim (k : Nat) (c : Cell) : (setCell s k c).tim = s.tim := rfl
@[simp] theorem setCell_lan (k : Nat) (c : Cell) : (setCell s k c).lan = s.lan := rfl
@[simp] theorem setCell_jrn (k : Nat) (c : Cell) : (setCell s k c).jrn = s.jrn := rfl
@[simp] theorem setCell_tst (k : Nat) (c : Cell) : (setCell s k c).tst = s.tst := rfl
@[simp] theorem setCell_pending (k : Nat) (c : Cell) : (setCell s k c).pending = s.pending := rfl
@[simp] theorem setCell_cellOf_self (k : Nat) (c : Cell) : cellOf (setCell s k c) k = c := tget_tset_self _ _ _ _
theorem setCell_cellOf_ne (k : Nat) (c : Cell) (j : Nat) (h : j ≠ k) : cellOf (setCell s k c) j = cellOf s j := tget_tset_ne _ _ _ h

/-! ### setCt -/

@[simp] theorem setCt_now (n : Nat) (c : CtSt) : (setCt s n c).now = s.now := rfl
@[simp] theorem setCt_rel (n : Nat) (c : CtSt) : (setCt s n c).rel = s.rel := rfl
@[simp] theorem setCt_epoch (n : Nat) (c : CtSt) : (setCt s n c).epoch = s.epoch := rfl
@[simp] theorem setCt_fresh (n : Nat) (c : CtSt) : (setCt s n c).fresh = s.fresh := rfl
@[simp] theorem setCt_ana (n : Nat) (c : CtSt) : (setCt s n c).ana = s.ana := rfl
@[simp] theorem setCt_vil (n : Nat) (c : CtSt) : (setCt s n c).vil = s.vil := rfl
@[simp] theorem setCt_sec (n : Nat) (c : CtSt) : (setCt s n c).sec = s.sec := rfl
@[simp] theorem setCt_cfg (n : Nat) (c : CtSt) : (setCt s n c).cfg = s.cfg := rfl
@[simp] theorem setCt_stored (n : Nat) (c : CtSt) : (setCt s n c).stored = s.stored := rfl
@[simp] theorem setCt_pwr (n : Nat) (c : CtSt) : (setCt s n c).pwr = s.pwr := rfl
@[simp] theorem setCt_lve (n : Nat) (c : CtSt) : (setCt s n c).lve = s.lve := rfl
@[simp] theorem setCt_cnv (n : Nat) (c : CtSt) : (setCt s n c).cnv = s.cnv := rfl
@[simp] theorem setCt_chn (n : Nat) (c : CtSt) : (setCt s n c).chn = s.chn := rfl
@[simp] theorem setCt_drv (n : Nat) (c : CtSt) : (setCt s n c).drv = s.drv := rfl
@[simp] theorem setCt_thm (n : Nat) (c : CtSt) : (setCt s n c).thm = s.thm := rfl
@[simp] theorem setCt_clm (n : Nat) (c : CtSt) : (setCt s n c).clm = s.clm := rfl
@[simp] theorem setCt_bus (n : Nat) (c : CtSt) : (setCt s n c).bus = s.bus := rfl
@[simp] theorem setCt_tim (n : Nat) (c : CtSt) : (setCt s n c).tim = s.tim := rfl
@[simp] theorem setCt_lan (n : Nat) (c : CtSt) : (setCt s n c).lan = s.lan := rfl
@[simp] theorem setCt_jrn (n : Nat) (c : CtSt) : (setCt s n c).jrn = s.jrn := rfl
@[simp] theorem setCt_tst (n : Nat) (c : CtSt) : (setCt s n c).tst = s.tst := rfl
@[simp] theorem setCt_pending (n : Nat) (c : CtSt) : (setCt s n c).pending = s.pending := rfl
@[simp] theorem setCt_ctSt_self (n : Nat) (c : CtSt) : ctSt (setCt s n c) n = c := tget_tset_self _ _ _ _
theorem setCt_ctSt_ne (n : Nat) (c : CtSt) (j : Nat) (h : j ≠ n) : ctSt (setCt s n c) j = ctSt s j := tget_tset_ne _ _ _ h

/-! ### setFeed -/

@[simp] theorem setFeed_now (f : Nat) (x : Feed) : (setFeed s f x).now = s.now := rfl
@[simp] theorem setFeed_rel (f : Nat) (x : Feed) : (setFeed s f x).rel = s.rel := rfl
@[simp] theorem setFeed_epoch (f : Nat) (x : Feed) : (setFeed s f x).epoch = s.epoch := rfl
@[simp] theorem setFeed_fresh (f : Nat) (x : Feed) : (setFeed s f x).fresh = s.fresh := rfl
@[simp] theorem setFeed_ana (f : Nat) (x : Feed) : (setFeed s f x).ana = s.ana := rfl
@[simp] theorem setFeed_vil (f : Nat) (x : Feed) : (setFeed s f x).vil = s.vil := rfl
@[simp] theorem setFeed_sec (f : Nat) (x : Feed) : (setFeed s f x).sec = s.sec := rfl
@[simp] theorem setFeed_cfg (f : Nat) (x : Feed) : (setFeed s f x).cfg = s.cfg := rfl
@[simp] theorem setFeed_stored (f : Nat) (x : Feed) : (setFeed s f x).stored = s.stored := rfl
@[simp] theorem setFeed_pwr (f : Nat) (x : Feed) : (setFeed s f x).pwr = s.pwr := rfl
@[simp] theorem setFeed_lve (f : Nat) (x : Feed) : (setFeed s f x).lve = s.lve := rfl
@[simp] theorem setFeed_cnv (f : Nat) (x : Feed) : (setFeed s f x).cnv = s.cnv := rfl
@[simp] theorem setFeed_chn (f : Nat) (x : Feed) : (setFeed s f x).chn = s.chn := rfl
@[simp] theorem setFeed_cnt (f : Nat) (x : Feed) : (setFeed s f x).cnt = s.cnt := rfl
@[simp] theorem setFeed_thm (f : Nat) (x : Feed) : (setFeed s f x).thm = s.thm := rfl
@[simp] theorem setFeed_clm (f : Nat) (x : Feed) : (setFeed s f x).clm = s.clm := rfl
@[simp] theorem setFeed_bus (f : Nat) (x : Feed) : (setFeed s f x).bus = s.bus := rfl
@[simp] theorem setFeed_tim (f : Nat) (x : Feed) : (setFeed s f x).tim = s.tim := rfl
@[simp] theorem setFeed_lan (f : Nat) (x : Feed) : (setFeed s f x).lan = s.lan := rfl
@[simp] theorem setFeed_jrn (f : Nat) (x : Feed) : (setFeed s f x).jrn = s.jrn := rfl
@[simp] theorem setFeed_tst (f : Nat) (x : Feed) : (setFeed s f x).tst = s.tst := rfl
@[simp] theorem setFeed_pending (f : Nat) (x : Feed) : (setFeed s f x).pending = s.pending := rfl
@[simp] theorem setFeed_feedOf_self (f : Nat) (x : Feed) : feedOf (setFeed s f x) f = x := tget_tset_self _ _ _ _
theorem setFeed_feedOf_ne (f : Nat) (x : Feed) (j : Nat) (h : j ≠ f) : feedOf (setFeed s f x) j = feedOf s j := tget_tset_ne _ _ _ h

/-! ### setPort -/

@[simp] theorem setPort_now (p : Nat) (x : Port) : (setPort s p x).now = s.now := rfl
@[simp] theorem setPort_rel (p : Nat) (x : Port) : (setPort s p x).rel = s.rel := rfl
@[simp] theorem setPort_epoch (p : Nat) (x : Port) : (setPort s p x).epoch = s.epoch := rfl
@[simp] theorem setPort_fresh (p : Nat) (x : Port) : (setPort s p x).fresh = s.fresh := rfl
@[simp] theorem setPort_ana (p : Nat) (x : Port) : (setPort s p x).ana = s.ana := rfl
@[simp] theorem setPort_vil (p : Nat) (x : Port) : (setPort s p x).vil = s.vil := rfl
@[simp] theorem setPort_sec (p : Nat) (x : Port) : (setPort s p x).sec = s.sec := rfl
@[simp] theorem setPort_cfg (p : Nat) (x : Port) : (setPort s p x).cfg = s.cfg := rfl
@[simp] theorem setPort_stored (p : Nat) (x : Port) : (setPort s p x).stored = s.stored := rfl
@[simp] theorem setPort_pwr (p : Nat) (x : Port) : (setPort s p x).pwr = s.pwr := rfl
@[simp] theorem setPort_lve (p : Nat) (x : Port) : (setPort s p x).lve = s.lve := rfl
@[simp] theorem setPort_cnv (p : Nat) (x : Port) : (setPort s p x).cnv = s.cnv := rfl
@[simp] theorem setPort_chn (p : Nat) (x : Port) : (setPort s p x).chn = s.chn := rfl
@[simp] theorem setPort_cnt (p : Nat) (x : Port) : (setPort s p x).cnt = s.cnt := rfl
@[simp] theorem setPort_thm (p : Nat) (x : Port) : (setPort s p x).thm = s.thm := rfl
@[simp] theorem setPort_clm (p : Nat) (x : Port) : (setPort s p x).clm = s.clm := rfl
@[simp] theorem setPort_bus (p : Nat) (x : Port) : (setPort s p x).bus = s.bus := rfl
@[simp] theorem setPort_tim (p : Nat) (x : Port) : (setPort s p x).tim = s.tim := rfl
@[simp] theorem setPort_lan (p : Nat) (x : Port) : (setPort s p x).lan = s.lan := rfl
@[simp] theorem setPort_jrn (p : Nat) (x : Port) : (setPort s p x).jrn = s.jrn := rfl
@[simp] theorem setPort_tst (p : Nat) (x : Port) : (setPort s p x).tst = s.tst := rfl
@[simp] theorem setPort_pending (p : Nat) (x : Port) : (setPort s p x).pending = s.pending := rfl
@[simp] theorem setPort_portOf_self (p : Nat) (x : Port) : portOf_ (setPort s p x) p = x := tget_tset_self _ _ _ _
theorem setPort_portOf_ne (p : Nat) (x : Port) (j : Nat) (h : j ≠ p) : portOf_ (setPort s p x) j = portOf_ s j := tget_tset_ne _ _ _ h

/-! ### setDr -/

@[simp] theorem setDr_now (d : Nat) (x : Dr) : (setDr s d x).now = s.now := rfl
@[simp] theorem setDr_rel (d : Nat) (x : Dr) : (setDr s d x).rel = s.rel := rfl
@[simp] theorem setDr_epoch (d : Nat) (x : Dr) : (setDr s d x).epoch = s.epoch := rfl
@[simp] theorem setDr_fresh (d : Nat) (x : Dr) : (setDr s d x).fresh = s.fresh := rfl
@[simp] theorem setDr_ana (d : Nat) (x : Dr) : (setDr s d x).ana = s.ana := rfl
@[simp] theorem setDr_vil (d : Nat) (x : Dr) : (setDr s d x).vil = s.vil := rfl
@[simp] theorem setDr_sec (d : Nat) (x : Dr) : (setDr s d x).sec = s.sec := rfl
@[simp] theorem setDr_cfg (d : Nat) (x : Dr) : (setDr s d x).cfg = s.cfg := rfl
@[simp] theorem setDr_stored (d : Nat) (x : Dr) : (setDr s d x).stored = s.stored := rfl
@[simp] theorem setDr_pwr (d : Nat) (x : Dr) : (setDr s d x).pwr = s.pwr := rfl
@[simp] theorem setDr_lve (d : Nat) (x : Dr) : (setDr s d x).lve = s.lve := rfl
@[simp] theorem setDr_cnv (d : Nat) (x : Dr) : (setDr s d x).cnv = s.cnv := rfl
@[simp] theorem setDr_chn (d : Nat) (x : Dr) : (setDr s d x).chn = s.chn := rfl
@[simp] theorem setDr_cnt (d : Nat) (x : Dr) : (setDr s d x).cnt = s.cnt := rfl
@[simp] theorem setDr_thm (d : Nat) (x : Dr) : (setDr s d x).thm = s.thm := rfl
@[simp] theorem setDr_clm (d : Nat) (x : Dr) : (setDr s d x).clm = s.clm := rfl
@[simp] theorem setDr_bus (d : Nat) (x : Dr) : (setDr s d x).bus = s.bus := rfl
@[simp] theorem setDr_tim (d : Nat) (x : Dr) : (setDr s d x).tim = s.tim := rfl
@[simp] theorem setDr_lan (d : Nat) (x : Dr) : (setDr s d x).lan = s.lan := rfl
@[simp] theorem setDr_jrn (d : Nat) (x : Dr) : (setDr s d x).jrn = s.jrn := rfl
@[simp] theorem setDr_tst (d : Nat) (x : Dr) : (setDr s d x).tst = s.tst := rfl
@[simp] theorem setDr_pending (d : Nat) (x : Dr) : (setDr s d x).pending = s.pending := rfl
@[simp] theorem setDr_drOf_self (d : Nat) (x : Dr) : drOf (setDr s d x) d = x := tget_tset_self _ _ _ _
theorem setDr_drOf_ne (d : Nat) (x : Dr) (j : Nat) (h : j ≠ d) : drOf (setDr s d x) j = drOf s j := tget_tset_ne _ _ _ h

/-! ### setProt -/

@[simp] theorem setProt_now (p : Nat) (x : ProtSt) : (setProt s p x).now = s.now := rfl
@[simp] theorem setProt_rel (p : Nat) (x : ProtSt) : (setProt s p x).rel = s.rel := rfl
@[simp] theorem setProt_epoch (p : Nat) (x : ProtSt) : (setProt s p x).epoch = s.epoch := rfl
@[simp] theorem setProt_fresh (p : Nat) (x : ProtSt) : (setProt s p x).fresh = s.fresh := rfl
@[simp] theorem setProt_ana (p : Nat) (x : ProtSt) : (setProt s p x).ana = s.ana := rfl
@[simp] theorem setProt_vil (p : Nat) (x : ProtSt) : (setProt s p x).vil = s.vil := rfl
@[simp] theorem setProt_sec (p : Nat) (x : ProtSt) : (setProt s p x).sec = s.sec := rfl
@[simp] theorem setProt_cfg (p : Nat) (x : ProtSt) : (setProt s p x).cfg = s.cfg := rfl
@[simp] theorem setProt_stored (p : Nat) (x : ProtSt) : (setProt s p x).stored = s.stored := rfl
@[simp] theorem setProt_pwr (p : Nat) (x : ProtSt) : (setProt s p x).pwr = s.pwr := rfl
@[simp] theorem setProt_lve (p : Nat) (x : ProtSt) : (setProt s p x).lve = s.lve := rfl
@[simp] theorem setProt_cnv (p : Nat) (x : ProtSt) : (setProt s p x).cnv = s.cnv := rfl
@[simp] theorem setProt_chn (p : Nat) (x : ProtSt) : (setProt s p x).chn = s.chn := rfl
@[simp] theorem setProt_cnt (p : Nat) (x : ProtSt) : (setProt s p x).cnt = s.cnt := rfl
@[simp] theorem setProt_thm (p : Nat) (x : ProtSt) : (setProt s p x).thm = s.thm := rfl
@[simp] theorem setProt_clm (p : Nat) (x : ProtSt) : (setProt s p x).clm = s.clm := rfl
@[simp] theorem setProt_bus (p : Nat) (x : ProtSt) : (setProt s p x).bus = s.bus := rfl
@[simp] theorem setProt_tim (p : Nat) (x : ProtSt) : (setProt s p x).tim = s.tim := rfl
@[simp] theorem setProt_lan (p : Nat) (x : ProtSt) : (setProt s p x).lan = s.lan := rfl
@[simp] theorem setProt_jrn (p : Nat) (x : ProtSt) : (setProt s p x).jrn = s.jrn := rfl
@[simp] theorem setProt_tst (p : Nat) (x : ProtSt) : (setProt s p x).tst = s.tst := rfl
@[simp] theorem setProt_pending (p : Nat) (x : ProtSt) : (setProt s p x).pending = s.pending := rfl
@[simp] theorem setProt_protSt_self (p : Nat) (x : ProtSt) : protSt (setProt s p x) p = x := tget_tset_self _ _ _ _
theorem setProt_protSt_ne (p : Nat) (x : ProtSt) (j : Nat) (h : j ≠ p) : protSt (setProt s p x) j = protSt s j := tget_tset_ne _ _ _ h

/-! ### setTher -/

@[simp] theorem setTher_now (m : Nat) (x : TherM) : (setTher s m x).now = s.now := rfl
@[simp] theorem setTher_rel (m : Nat) (x : TherM) : (setTher s m x).rel = s.rel := rfl
@[simp] theorem setTher_epoch (m : Nat) (x : TherM) : (setTher s m x).epoch = s.epoch := rfl
@[simp] theorem setTher_fresh (m : Nat) (x : TherM) : (setTher s m x).fresh = s.fresh := rfl
@[simp] theorem setTher_ana (m : Nat) (x : TherM) : (setTher s m x).ana = s.ana := rfl
@[simp] theorem setTher_vil (m : Nat) (x : TherM) : (setTher s m x).vil = s.vil := rfl
@[simp] theorem setTher_sec (m : Nat) (x : TherM) : (setTher s m x).sec = s.sec := rfl
@[simp] theorem setTher_cfg (m : Nat) (x : TherM) : (setTher s m x).cfg = s.cfg := rfl
@[simp] theorem setTher_stored (m : Nat) (x : TherM) : (setTher s m x).stored = s.stored := rfl
@[simp] theorem setTher_pwr (m : Nat) (x : TherM) : (setTher s m x).pwr = s.pwr := rfl
@[simp] theorem setTher_lve (m : Nat) (x : TherM) : (setTher s m x).lve = s.lve := rfl
@[simp] theorem setTher_cnv (m : Nat) (x : TherM) : (setTher s m x).cnv = s.cnv := rfl
@[simp] theorem setTher_chn (m : Nat) (x : TherM) : (setTher s m x).chn = s.chn := rfl
@[simp] theorem setTher_cnt (m : Nat) (x : TherM) : (setTher s m x).cnt = s.cnt := rfl
@[simp] theorem setTher_drv (m : Nat) (x : TherM) : (setTher s m x).drv = s.drv := rfl
@[simp] theorem setTher_clm (m : Nat) (x : TherM) : (setTher s m x).clm = s.clm := rfl
@[simp] theorem setTher_bus (m : Nat) (x : TherM) : (setTher s m x).bus = s.bus := rfl
@[simp] theorem setTher_tim (m : Nat) (x : TherM) : (setTher s m x).tim = s.tim := rfl
@[simp] theorem setTher_lan (m : Nat) (x : TherM) : (setTher s m x).lan = s.lan := rfl
@[simp] theorem setTher_jrn (m : Nat) (x : TherM) : (setTher s m x).jrn = s.jrn := rfl
@[simp] theorem setTher_tst (m : Nat) (x : TherM) : (setTher s m x).tst = s.tst := rfl
@[simp] theorem setTher_pending (m : Nat) (x : TherM) : (setTher s m x).pending = s.pending := rfl
@[simp] theorem setTher_therOf_self (m : Nat) (x : TherM) : therOf (setTher s m x) m = x := tget_tset_self _ _ _ _
theorem setTher_therOf_ne (m : Nat) (x : TherM) (j : Nat) (h : j ≠ m) : therOf (setTher s m x) j = therOf s j := tget_tset_ne _ _ _ h

/-! ### setLoop -/

@[simp] theorem setLoop_now (l : Nat) (x : LoopSt) : (setLoop s l x).now = s.now := rfl
@[simp] theorem setLoop_rel (l : Nat) (x : LoopSt) : (setLoop s l x).rel = s.rel := rfl
@[simp] theorem setLoop_epoch (l : Nat) (x : LoopSt) : (setLoop s l x).epoch = s.epoch := rfl
@[simp] theorem setLoop_fresh (l : Nat) (x : LoopSt) : (setLoop s l x).fresh = s.fresh := rfl
@[simp] theorem setLoop_ana (l : Nat) (x : LoopSt) : (setLoop s l x).ana = s.ana := rfl
@[simp] theorem setLoop_vil (l : Nat) (x : LoopSt) : (setLoop s l x).vil = s.vil := rfl
@[simp] theorem setLoop_sec (l : Nat) (x : LoopSt) : (setLoop s l x).sec = s.sec := rfl
@[simp] theorem setLoop_cfg (l : Nat) (x : LoopSt) : (setLoop s l x).cfg = s.cfg := rfl
@[simp] theorem setLoop_stored (l : Nat) (x : LoopSt) : (setLoop s l x).stored = s.stored := rfl
@[simp] theorem setLoop_pwr (l : Nat) (x : LoopSt) : (setLoop s l x).pwr = s.pwr := rfl
@[simp] theorem setLoop_lve (l : Nat) (x : LoopSt) : (setLoop s l x).lve = s.lve := rfl
@[simp] theorem setLoop_cnv (l : Nat) (x : LoopSt) : (setLoop s l x).cnv = s.cnv := rfl
@[simp] theorem setLoop_chn (l : Nat) (x : LoopSt) : (setLoop s l x).chn = s.chn := rfl
@[simp] theorem setLoop_cnt (l : Nat) (x : LoopSt) : (setLoop s l x).cnt = s.cnt := rfl
@[simp] theorem setLoop_drv (l : Nat) (x : LoopSt) : (setLoop s l x).drv = s.drv := rfl
@[simp] theorem setLoop_thm (l : Nat) (x : LoopSt) : (setLoop s l x).thm = s.thm := rfl
@[simp] theorem setLoop_bus (l : Nat) (x : LoopSt) : (setLoop s l x).bus = s.bus := rfl
@[simp] theorem setLoop_tim (l : Nat) (x : LoopSt) : (setLoop s l x).tim = s.tim := rfl
@[simp] theorem setLoop_lan (l : Nat) (x : LoopSt) : (setLoop s l x).lan = s.lan := rfl
@[simp] theorem setLoop_jrn (l : Nat) (x : LoopSt) : (setLoop s l x).jrn = s.jrn := rfl
@[simp] theorem setLoop_tst (l : Nat) (x : LoopSt) : (setLoop s l x).tst = s.tst := rfl
@[simp] theorem setLoop_pending (l : Nat) (x : LoopSt) : (setLoop s l x).pending = s.pending := rfl
@[simp] theorem setLoop_loopSt_self (l : Nat) (x : LoopSt) : loopSt (setLoop s l x) l = x := tget_tset_self _ _ _ _
theorem setLoop_loopSt_ne (l : Nat) (x : LoopSt) (j : Nat) (h : j ≠ l) : loopSt (setLoop s l x) j = loopSt s j := tget_tset_ne _ _ _ h

/-! ### setZone -/

@[simp] theorem setZone_now (z : Nat) (x : ZoneSt) : (setZone s z x).now = s.now := rfl
@[simp] theorem setZone_rel (z : Nat) (x : ZoneSt) : (setZone s z x).rel = s.rel := rfl
@[simp] theorem setZone_epoch (z : Nat) (x : ZoneSt) : (setZone s z x).epoch = s.epoch := rfl
@[simp] theorem setZone_fresh (z : Nat) (x : ZoneSt) : (setZone s z x).fresh = s.fresh := rfl
@[simp] theorem setZone_ana (z : Nat) (x : ZoneSt) : (setZone s z x).ana = s.ana := rfl
@[simp] theorem setZone_vil (z : Nat) (x : ZoneSt) : (setZone s z x).vil = s.vil := rfl
@[simp] theorem setZone_sec (z : Nat) (x : ZoneSt) : (setZone s z x).sec = s.sec := rfl
@[simp] theorem setZone_cfg (z : Nat) (x : ZoneSt) : (setZone s z x).cfg = s.cfg := rfl
@[simp] theorem setZone_stored (z : Nat) (x : ZoneSt) : (setZone s z x).stored = s.stored := rfl
@[simp] theorem setZone_pwr (z : Nat) (x : ZoneSt) : (setZone s z x).pwr = s.pwr := rfl
@[simp] theorem setZone_lve (z : Nat) (x : ZoneSt) : (setZone s z x).lve = s.lve := rfl
@[simp] theorem setZone_cnv (z : Nat) (x : ZoneSt) : (setZone s z x).cnv = s.cnv := rfl
@[simp] theorem setZone_chn (z : Nat) (x : ZoneSt) : (setZone s z x).chn = s.chn := rfl
@[simp] theorem setZone_cnt (z : Nat) (x : ZoneSt) : (setZone s z x).cnt = s.cnt := rfl
@[simp] theorem setZone_drv (z : Nat) (x : ZoneSt) : (setZone s z x).drv = s.drv := rfl
@[simp] theorem setZone_thm (z : Nat) (x : ZoneSt) : (setZone s z x).thm = s.thm := rfl
@[simp] theorem setZone_bus (z : Nat) (x : ZoneSt) : (setZone s z x).bus = s.bus := rfl
@[simp] theorem setZone_tim (z : Nat) (x : ZoneSt) : (setZone s z x).tim = s.tim := rfl
@[simp] theorem setZone_lan (z : Nat) (x : ZoneSt) : (setZone s z x).lan = s.lan := rfl
@[simp] theorem setZone_jrn (z : Nat) (x : ZoneSt) : (setZone s z x).jrn = s.jrn := rfl
@[simp] theorem setZone_tst (z : Nat) (x : ZoneSt) : (setZone s z x).tst = s.tst := rfl
@[simp] theorem setZone_pending (z : Nat) (x : ZoneSt) : (setZone s z x).pending = s.pending := rfl
@[simp] theorem setZone_zoneSt_self (z : Nat) (x : ZoneSt) : zoneSt (setZone s z x) z = x := tget_tset_self _ _ _ _
theorem setZone_zoneSt_ne (z : Nat) (x : ZoneSt) (j : Nat) (h : j ≠ z) : zoneSt (setZone s z x) j = zoneSt s j := tget_tset_ne _ _ _ h

/-! ### setSched -/

@[simp] theorem setSched_now (n : Nat) (x : SchedSt) : (setSched s n x).now = s.now := rfl
@[simp] theorem setSched_rel (n : Nat) (x : SchedSt) : (setSched s n x).rel = s.rel := rfl
@[simp] theorem setSched_epoch (n : Nat) (x : SchedSt) : (setSched s n x).epoch = s.epoch := rfl
@[simp] theorem setSched_fresh (n : Nat) (x : SchedSt) : (setSched s n x).fresh = s.fresh := rfl
@[simp] theorem setSched_ana (n : Nat) (x : SchedSt) : (setSched s n x).ana = s.ana := rfl
@[simp] theorem setSched_vil (n : Nat) (x : SchedSt) : (setSched s n x).vil = s.vil := rfl
@[simp] theorem setSched_sec (n : Nat) (x : SchedSt) : (setSched s n x).sec = s.sec := rfl
@[simp] theorem setSched_cfg (n : Nat) (x : SchedSt) : (setSched s n x).cfg = s.cfg := rfl
@[simp] theorem setSched_stored (n : Nat) (x : SchedSt) : (setSched s n x).stored = s.stored := rfl
@[simp] theorem setSched_pwr (n : Nat) (x : SchedSt) : (setSched s n x).pwr = s.pwr := rfl
@[simp] theorem setSched_lve (n : Nat) (x : SchedSt) : (setSched s n x).lve = s.lve := rfl
@[simp] theorem setSched_cnv (n : Nat) (x : SchedSt) : (setSched s n x).cnv = s.cnv := rfl
@[simp] theorem setSched_chn (n : Nat) (x : SchedSt) : (setSched s n x).chn = s.chn := rfl
@[simp] theorem setSched_cnt (n : Nat) (x : SchedSt) : (setSched s n x).cnt = s.cnt := rfl
@[simp] theorem setSched_drv (n : Nat) (x : SchedSt) : (setSched s n x).drv = s.drv := rfl
@[simp] theorem setSched_thm (n : Nat) (x : SchedSt) : (setSched s n x).thm = s.thm := rfl
@[simp] theorem setSched_bus (n : Nat) (x : SchedSt) : (setSched s n x).bus = s.bus := rfl
@[simp] theorem setSched_tim (n : Nat) (x : SchedSt) : (setSched s n x).tim = s.tim := rfl
@[simp] theorem setSched_lan (n : Nat) (x : SchedSt) : (setSched s n x).lan = s.lan := rfl
@[simp] theorem setSched_jrn (n : Nat) (x : SchedSt) : (setSched s n x).jrn = s.jrn := rfl
@[simp] theorem setSched_tst (n : Nat) (x : SchedSt) : (setSched s n x).tst = s.tst := rfl
@[simp] theorem setSched_pending (n : Nat) (x : SchedSt) : (setSched s n x).pending = s.pending := rfl
@[simp] theorem setSched_schedSt_self (n : Nat) (x : SchedSt) : schedSt (setSched s n x) n = x := tget_tset_self _ _ _ _
theorem setSched_schedSt_ne (n : Nat) (x : SchedSt) (j : Nat) (h : j ≠ n) : schedSt (setSched s n x) j = schedSt s j := tget_tset_ne _ _ _ h

/-! ### setBus -/

@[simp] theorem setBus_now (f : Bus → Bus) : (setBus s f).now = s.now := rfl
@[simp] theorem setBus_rel (f : Bus → Bus) : (setBus s f).rel = s.rel := rfl
@[simp] theorem setBus_epoch (f : Bus → Bus) : (setBus s f).epoch = s.epoch := rfl
@[simp] theorem setBus_fresh (f : Bus → Bus) : (setBus s f).fresh = s.fresh := rfl
@[simp] theorem setBus_ana (f : Bus → Bus) : (setBus s f).ana = s.ana := rfl
@[simp] theorem setBus_vil (f : Bus → Bus) : (setBus s f).vil = s.vil := rfl
@[simp] theorem setBus_sec (f : Bus → Bus) : (setBus s f).sec = s.sec := rfl
@[simp] theorem setBus_cfg (f : Bus → Bus) : (setBus s f).cfg = s.cfg := rfl
@[simp] theorem setBus_stored (f : Bus → Bus) : (setBus s f).stored = s.stored := rfl
@[simp] theorem setBus_pwr (f : Bus → Bus) : (setBus s f).pwr = s.pwr := rfl
@[simp] theorem setBus_lve (f : Bus → Bus) : (setBus s f).lve = s.lve := rfl
@[simp] theorem setBus_cnv (f : Bus → Bus) : (setBus s f).cnv = s.cnv := rfl
@[simp] theorem setBus_chn (f : Bus → Bus) : (setBus s f).chn = s.chn := rfl
@[simp] theorem setBus_cnt (f : Bus → Bus) : (setBus s f).cnt = s.cnt := rfl
@[simp] theorem setBus_drv (f : Bus → Bus) : (setBus s f).drv = s.drv := rfl
@[simp] theorem setBus_thm (f : Bus → Bus) : (setBus s f).thm = s.thm := rfl
@[simp] theorem setBus_clm (f : Bus → Bus) : (setBus s f).clm = s.clm := rfl
@[simp] theorem setBus_tim (f : Bus → Bus) : (setBus s f).tim = s.tim := rfl
@[simp] theorem setBus_lan (f : Bus → Bus) : (setBus s f).lan = s.lan := rfl
@[simp] theorem setBus_jrn (f : Bus → Bus) : (setBus s f).jrn = s.jrn := rfl
@[simp] theorem setBus_tst (f : Bus → Bus) : (setBus s f).tst = s.tst := rfl
@[simp] theorem setBus_pending (f : Bus → Bus) : (setBus s f).pending = s.pending := rfl
@[simp] theorem setBus_bus (f : Bus → Bus) : (setBus s f).bus = f s.bus := rfl

/-! ### setLan -/

@[simp] theorem setLan_now (f : Lan → Lan) : (setLan s f).now = s.now := rfl
@[simp] theorem setLan_rel (f : Lan → Lan) : (setLan s f).rel = s.rel := rfl
@[simp] theorem setLan_epoch (f : Lan → Lan) : (setLan s f).epoch = s.epoch := rfl
@[simp] theorem setLan_fresh (f : Lan → Lan) : (setLan s f).fresh = s.fresh := rfl
@[simp] theorem setLan_ana (f : Lan → Lan) : (setLan s f).ana = s.ana := rfl
@[simp] theorem setLan_vil (f : Lan → Lan) : (setLan s f).vil = s.vil := rfl
@[simp] theorem setLan_sec (f : Lan → Lan) : (setLan s f).sec = s.sec := rfl
@[simp] theorem setLan_cfg (f : Lan → Lan) : (setLan s f).cfg = s.cfg := rfl
@[simp] theorem setLan_stored (f : Lan → Lan) : (setLan s f).stored = s.stored := rfl
@[simp] theorem setLan_pwr (f : Lan → Lan) : (setLan s f).pwr = s.pwr := rfl
@[simp] theorem setLan_lve (f : Lan → Lan) : (setLan s f).lve = s.lve := rfl
@[simp] theorem setLan_cnv (f : Lan → Lan) : (setLan s f).cnv = s.cnv := rfl
@[simp] theorem setLan_chn (f : Lan → Lan) : (setLan s f).chn = s.chn := rfl
@[simp] theorem setLan_cnt (f : Lan → Lan) : (setLan s f).cnt = s.cnt := rfl
@[simp] theorem setLan_drv (f : Lan → Lan) : (setLan s f).drv = s.drv := rfl
@[simp] theorem setLan_thm (f : Lan → Lan) : (setLan s f).thm = s.thm := rfl
@[simp] theorem setLan_clm (f : Lan → Lan) : (setLan s f).clm = s.clm := rfl
@[simp] theorem setLan_bus (f : Lan → Lan) : (setLan s f).bus = s.bus := rfl
@[simp] theorem setLan_tim (f : Lan → Lan) : (setLan s f).tim = s.tim := rfl
@[simp] theorem setLan_jrn (f : Lan → Lan) : (setLan s f).jrn = s.jrn := rfl
@[simp] theorem setLan_tst (f : Lan → Lan) : (setLan s f).tst = s.tst := rfl
@[simp] theorem setLan_pending (f : Lan → Lan) : (setLan s f).pending = s.pending := rfl
@[simp] theorem setLan_lan (f : Lan → Lan) : (setLan s f).lan = f s.lan := rfl

/-! ### setJrn -/

@[simp] theorem setJrn_now (f : Jrn → Jrn) : (setJrn s f).now = s.now := rfl
@[simp] theorem setJrn_rel (f : Jrn → Jrn) : (setJrn s f).rel = s.rel := rfl
@[simp] theorem setJrn_epoch (f : Jrn → Jrn) : (setJrn s f).epoch = s.epoch := rfl
@[simp] theorem setJrn_fresh (f : Jrn → Jrn) : (setJrn s f).fresh = s.fresh := rfl
@[simp] theorem setJrn_ana (f : Jrn → Jrn) : (setJrn s f).ana = s.ana := rfl
@[simp] theorem setJrn_vil (f : Jrn → Jrn) : (setJrn s f).vil = s.vil := rfl
@[simp] theorem setJrn_sec (f : Jrn → Jrn) : (setJrn s f).sec = s.sec := rfl
@[simp] theorem setJrn_cfg (f : Jrn → Jrn) : (setJrn s f).cfg = s.cfg := rfl
@[simp] theorem setJrn_stored (f : Jrn → Jrn) : (setJrn s f).stored = s.stored := rfl
@[simp] theorem setJrn_pwr (f : Jrn → Jrn) : (setJrn s f).pwr = s.pwr := rfl
@[simp] theorem setJrn_lve (f : Jrn → Jrn) : (setJrn s f).lve = s.lve := rfl
@[simp] theorem setJrn_cnv (f : Jrn → Jrn) : (setJrn s f).cnv = s.cnv := rfl
@[simp] theorem setJrn_chn (f : Jrn → Jrn) : (setJrn s f).chn = s.chn := rfl
@[simp] theorem setJrn_cnt (f : Jrn → Jrn) : (setJrn s f).cnt = s.cnt := rfl
@[simp] theorem setJrn_drv (f : Jrn → Jrn) : (setJrn s f).drv = s.drv := rfl
@[simp] theorem setJrn_thm (f : Jrn → Jrn) : (setJrn s f).thm = s.thm := rfl
@[simp] theorem setJrn_clm (f : Jrn → Jrn) : (setJrn s f).clm = s.clm := rfl
@[simp] theorem setJrn_bus (f : Jrn → Jrn) : (setJrn s f).bus = s.bus := rfl
@[simp] theorem setJrn_tim (f : Jrn → Jrn) : (setJrn s f).tim = s.tim := rfl
@[simp] theorem setJrn_lan (f : Jrn → Jrn) : (setJrn s f).lan = s.lan := rfl
@[simp] theorem setJrn_tst (f : Jrn → Jrn) : (setJrn s f).tst = s.tst := rfl
@[simp] theorem setJrn_pending (f : Jrn → Jrn) : (setJrn s f).pending = s.pending := rfl
@[simp] theorem setJrn_jrn (f : Jrn → Jrn) : (setJrn s f).jrn = f s.jrn := rfl

/-! ### setTst -/

@[simp] theorem setTst_now (f : Tst → Tst) : (setTst s f).now = s.now := rfl
@[simp] theorem setTst_rel (f : Tst → Tst) : (setTst s f).rel = s.rel := rfl
@[simp] theorem setTst_epoch (f : Tst → Tst) : (setTst s f).epoch = s.epoch := rfl
@[simp] theorem setTst_fresh (f : Tst → Tst) : (setTst s f).fresh = s.fresh := rfl
@[simp] theorem setTst_ana (f : Tst → Tst) : (setTst s f).ana = s.ana := rfl
@[simp] theorem setTst_vil (f : Tst → Tst) : (setTst s f).vil = s.vil := rfl
@[simp] theorem setTst_sec (f : Tst → Tst) : (setTst s f).sec = s.sec := rfl
@[simp] theorem setTst_cfg (f : Tst → Tst) : (setTst s f).cfg = s.cfg := rfl
@[simp] theorem setTst_stored (f : Tst → Tst) : (setTst s f).stored = s.stored := rfl
@[simp] theorem setTst_pwr (f : Tst → Tst) : (setTst s f).pwr = s.pwr := rfl
@[simp] theorem setTst_lve (f : Tst → Tst) : (setTst s f).lve = s.lve := rfl
@[simp] theorem setTst_cnv (f : Tst → Tst) : (setTst s f).cnv = s.cnv := rfl
@[simp] theorem setTst_chn (f : Tst → Tst) : (setTst s f).chn = s.chn := rfl
@[simp] theorem setTst_cnt (f : Tst → Tst) : (setTst s f).cnt = s.cnt := rfl
@[simp] theorem setTst_drv (f : Tst → Tst) : (setTst s f).drv = s.drv := rfl
@[simp] theorem setTst_thm (f : Tst → Tst) : (setTst s f).thm = s.thm := rfl
@[simp] theorem setTst_clm (f : Tst → Tst) : (setTst s f).clm = s.clm := rfl
@[simp] theorem setTst_bus (f : Tst → Tst) : (setTst s f).bus = s.bus := rfl
@[simp] theorem setTst_tim (f : Tst → Tst) : (setTst s f).tim = s.tim := rfl
@[simp] theorem setTst_lan (f : Tst → Tst) : (setTst s f).lan = s.lan := rfl
@[simp] theorem setTst_jrn (f : Tst → Tst) : (setTst s f).jrn = s.jrn := rfl
@[simp] theorem setTst_pending (f : Tst → Tst) : (setTst s f).pending = s.pending := rfl
@[simp] theorem setTst_tst (f : Tst → Tst) : (setTst s f).tst = f s.tst := rfl

/-! ### setSlotAt -/

@[simp] theorem setSlotAt_now (n : Nat) (x : Slot) : (setSlotAt s n x).now = s.now := rfl
@[simp] theorem setSlotAt_rel (n : Nat) (x : Slot) : (setSlotAt s n x).rel = s.rel := rfl
@[simp] theorem setSlotAt_epoch (n : Nat) (x : Slot) : (setSlotAt s n x).epoch = s.epoch := rfl
@[simp] theorem setSlotAt_fresh (n : Nat) (x : Slot) : (setSlotAt s n x).fresh = s.fresh := rfl
@[simp] theorem setSlotAt_ana (n : Nat) (x : Slot) : (setSlotAt s n x).ana = s.ana := rfl
@[simp] theorem setSlotAt_vil (n : Nat) (x : Slot) : (setSlotAt s n x).vil = s.vil := rfl
@[simp] theorem setSlotAt_sec (n : Nat) (x : Slot) : (setSlotAt s n x).sec = s.sec := rfl
@[simp] theorem setSlotAt_cfg (n : Nat) (x : Slot) : (setSlotAt s n x).cfg = s.cfg := rfl
@[simp] theorem setSlotAt_stored (n : Nat) (x : Slot) : (setSlotAt s n x).stored = s.stored := rfl
@[simp] theorem setSlotAt_pwr (n : Nat) (x : Slot) : (setSlotAt s n x).pwr = s.pwr := rfl
@[simp] theorem setSlotAt_lve (n : Nat) (x : Slot) : (setSlotAt s n x).lve = s.lve := rfl
@[simp] theorem setSlotAt_cnv (n : Nat) (x : Slot) : (setSlotAt s n x).cnv = s.cnv := rfl
@[simp] theorem setSlotAt_chn (n : Nat) (x : Slot) : (setSlotAt s n x).chn = s.chn := rfl
@[simp] theorem setSlotAt_cnt (n : Nat) (x : Slot) : (setSlotAt s n x).cnt = s.cnt := rfl
@[simp] theorem setSlotAt_drv (n : Nat) (x : Slot) : (setSlotAt s n x).drv = s.drv := rfl
@[simp] theorem setSlotAt_thm (n : Nat) (x : Slot) : (setSlotAt s n x).thm = s.thm := rfl
@[simp] theorem setSlotAt_clm (n : Nat) (x : Slot) : (setSlotAt s n x).clm = s.clm := rfl
@[simp] theorem setSlotAt_bus (n : Nat) (x : Slot) : (setSlotAt s n x).bus = s.bus := rfl
@[simp] theorem setSlotAt_tim (n : Nat) (x : Slot) : (setSlotAt s n x).tim = s.tim := rfl
@[simp] theorem setSlotAt_lan (n : Nat) (x : Slot) : (setSlotAt s n x).lan = s.lan := rfl
@[simp] theorem setSlotAt_tst (n : Nat) (x : Slot) : (setSlotAt s n x).tst = s.tst := rfl
@[simp] theorem setSlotAt_pending (n : Nat) (x : Slot) : (setSlotAt s n x).pending = s.pending := rfl
@[simp] theorem setSlotAt_slotAt_self (n : Nat) (x : Slot) : slotAt (setSlotAt s n x) n = x := tget_tset_self _ _ _ _
theorem setSlotAt_slotAt_ne (n : Nat) (x : Slot) (j : Nat) (h : j ≠ n) : slotAt (setSlotAt s n x) j = slotAt s j := tget_tset_ne _ _ _ h

end Sys2Proof.Laws
end

