-- ==== Sys2Proof/Laws/Ops.lean ====
section
/-!
SUPPORT. What the shared operations can do, said once for each: the coming of an instant, arrivals at crossings, records, causes,
requests for leave, lines and the end of commands.
-/
namespace Sys2Proof.Laws
open Sys2Proof Sys2Proof.Machine
variable {s t : State}

/-! ### Counts -/

theorem satInc_le (m n : Nat) : satInc m n ≤ m := by unfold satInc; split <;> omega

theorem satInc_of_lt {m n : Nat} (h : n < m) : satInc m n = n + 1 := if_pos h

/-- Clearing counts that have been put aside leaves the counts since reset. -/
theorem sinceReset_cleared (c : Nat) (a b : List Nat) : sinceReset c (a.map fun _ => 0) (sinceReset c a b) = sinceReset c a b := by
  apply List.ext_getElem?
  intro i
  simp only [sinceReset, List.getElem?_map, List.getElem?_zipIdx]
  cases h : a[i]? <;> simp [h]

/-! ### Instants -/

/-- An instant comes at once where it has passed, and by the clock where no boundary comes first; nothing else changes. -/
theorem comesAt_cases {n : Nat} (h : comesAt s n = some t) :
    (n ≤ s.now ∧ t = s) ∨ (s.now < n ∧ (coreRuns s = false ∨ n < epochTick s (s.epoch + 1)) ∧ t = { s with now := n }) := by
  unfold comesAt at h
  split at h
  · exact .inl ⟨‹_›, (Option.some.inj h).symm⟩
  · split at h
    · rename_i a b
      refine .inr ⟨by omega, ?_, (Option.some.inj h).symm⟩
      simpa using b
    · cases h

theorem comesAt_now {n : Nat} (h : comesAt s n = some t) : t = { s with now := max s.now n } := by
  obtain ⟨a, rfl⟩ | ⟨a, -, rfl⟩ := comesAt_cases h
  · simp [Nat.max_eq_left a]
  · simp [Nat.max_eq_right (Nat.le_of_lt a)]

theorem comesAt_past {n : Nat} (h : n ≤ s.now) : comesAt s n = some s := if_pos h

/-- A deadline is a deadline that is set, and its instant comes. -/
theorem comesAt?_cases {o : Option Nat} (h : comesAt? s o = some t) : ∃ n, o = some n ∧ comesAt s n = some t := by
  cases o with
  | none => cases h
  | some n => exact ⟨n, rfl, h⟩

/-- What stands at an instant happens where the instant comes, and nothing happens elsewhere. -/
theorem atTick_some {o : Option Nat} {f : State → State} (h : comesAt? s o = some t) : atTick s o f = f t := by
  unfold atTick; rw [h]

theorem atTick_none {o : Option Nat} {f : State → State} (h : comesAt? s o = none) : atTick s o f = s := by
  unfold atTick; rw [h]

/-! ### Crossings -/

/-- A handshake is dropped, held back, or passes. -/
theorem arrive_cases (s : State) (x : Nat) (v : XWord) (p : Option Nat) (pay : Pay) :
    ((xUsed x = false ∨ guardOn s = false) ∧ arrive s x v p pay = s) ∨
      (xUsed x = true ∧ guardOn s = true ∧ (bufFull s x = true ∨ waitsBehind s x = true) ∧
        arrive s x v p pay = stallCount { s with ana := { s.ana with held := s.ana.held ++ [⟨x, v, p, pay⟩] } }) ∨
      (xUsed x = true ∧ guardOn s = true ∧ bufFull s x = false ∧ waitsBehind s x = false ∧ arrive s x v p pay = passes s x v p pay) := by
  unfold arrive
  cases a : xUsed x <;> cases b : guardOn s <;> cases c : bufFull s x <;> cases d : waitsBehind s x <;> simp

/-- A record in the buffers changes nothing but the buffers. -/
theorem postRec_frame (s : State) (r : Rec) :
    postRec s r = { s with ana := { s.ana with bufK := (postRec s r).ana.bufK, bufW0 := (postRec s r).ana.bufW0, bufW1 := (postRec s r).ana.bufW1 } } := by
  unfold postRec
  dsimp only
  split <;> split <;> split <;> rfl

/-! ### Causes, leave, the journal -/

/-- A cause that has been added stands. -/
theorem addCause_stands (s : State) (row : Nat) (m : Mode) : ⟨row, m⟩ ∈ (addCause s row m).ana.causes := by
  unfold addCause
  split
  · rename_i h
    obtain ⟨c, hc, h1⟩ := List.any_eq_true.mp h
    simp at h1
    obtain ⟨a, b⟩ := h1
    cases c
    dsimp only at a b
    subst a; subst b
    exact hc
  · exact List.mem_append_right _ (List.mem_singleton.mpr rfl)

/-- Adding a cause changes the causes alone. -/
theorem addCause_frame (s : State) (row : Nat) (m : Mode) :
    addCause s row m = { s with ana := { s.ana with causes := (addCause s row m).ana.causes } } := by
  unfold addCause; split <;> rfl

/-- A request for leave is posted behind the others, and nothing else changes. -/
theorem askLeave_posts (s : State) (e : Nat) (r : LReq) : (askLeave s e r).lve.posted = s.lve.posted ++ [(e, r)] := rfl

/-- Nothing is journaled where the journal is off. -/
theorem jrnPut_off {k b : Nat} {w : List Nat} (h : jrnOn s = false) : jrnPut s k b w = s := by simp [jrnPut, h]

theorem jrnPut_on {k b : Nat} {w : List Nat} (h : jrnOn s = true) :
    jrnPut s k b w = { s with jrn := { s.jrn with cur := .item k b w :: s.jrn.cur } } := by simp [jrnPut, h]

end Sys2Proof.Laws
end

