-- ==== Sys2Proof/Tests/Slice0.lean ====
section
/-!
SUPPORT. Tests of the model's own: the checks of well-formedness refuse ill-formed commands, single steps have the effect that the
spec gives them, and for each clause of each statement a state and operands that meet its hypotheses (hyps_ and the statement's
name; NOTES.md names the clauses that have none).
-/
namespace Sys2Proof.Tests
open Sys2Proof Sys2Proof.Machine

/-! ### Well-formedness -/

theorem test_wf_tag_zero : (Instr.version ⟨.link0, some 0, false⟩).wf = false := by decide
theorem test_wf_framed_untagged : (Instr.logout ⟨.link0, none, true⟩).wf = false := by decide
theorem test_wf_range_descends : (Instr.stop ⟨.link0, none, false⟩ (some ⟨.drive, 3, 2, true⟩)).wf = false := by decide
theorem test_wf_classic_nine_bytes :
    (Instr.canFrameValid ⟨0x10, false, false, false, false, false, List.replicate 9 0, 0, 0⟩).wf = false := by decide
theorem test_wf_standard_identifier :
    (Instr.canFrameValid ⟨0x800, false, false, false, false, false, [], 0, 0⟩).wf = false := by decide
theorem test_wf_remote_with_data :
    (Instr.canFrameValid ⟨0x10, false, false, false, false, true, [1], 0, 0⟩).wf = false := by decide
theorem test_wf_uart_code : (Instr.uartByte 0 0x102).wf = false := by decide
theorem test_wf_thermal_models : (Instr.thermalStep [1, 2]).wf = false := by decide
theorem test_wf_line_feeds : (Instr.lcSampleSet 0 0 []).wf = false := by decide
theorem test_wf_get_nothing : (Instr.getAttr ⟨.link0, none, false⟩ ⟨.pwr, 0, 0, false⟩ []).wf = false := by decide
theorem test_wf_read_nothing : (Instr.regRead ⟨.link0, none, false⟩ 0 0).wf = false := by decide
theorem test_wf_fragment_length : (Instr.tunnelFragment 0 0 0 (List.replicate 64 0)).wf = false := by decide

/-! ### Small states -/

/-- A device that has run for 1000 s, in RUN. -/
def dev : State := { State.reset with now := 8000000000, epoch := 1000000, ana.mode := .run, pwr.xtal := true, pwr.linkUp := true }

/-- The same with a MAKER on LINK0. -/
def mk : State := { dev with vil.link0.role := some .maker }

/-- A tagged line of LINK0. -/
def q5 : Hdr := ⟨.link0, some 5, true⟩

/-- With values of its configuration. -/
def conf (s : State) (l : Cfg) : State := { s with cfg := l }

/-- The next state of a command that has one. -/
def execNext (c : Instr) (s : State) : State := match exec c s with | .next t => t | _ => s

/-! ### Single steps -/

/-- The check value of ch. *The Vilpi command language*: the body `123456789`. -/
theorem test_crc_of_digits : crc16 "123456789".toList = 0x29B1 := by decide +kernel

/-- The accept line of tag 1, framed as in the same chapter. -/
theorem test_crc_of_accept : crc16 "1 OK".toList = 0xBC06 := by decide +kernel

/-- Table CHN-12. -/
theorem test_churn_mean : meanWord false { sum := 221350, count := 80 } = 2767 := by decide
theorem test_churn_extended_mean : meanWord true { sum := 1584906, count := 3 } = 33019 := by decide
theorem test_churn_rms : rmsWord false { sq := 819200000, count := 80 } = 3200 := by decide

/-- Example ANA-a in mV: the fourth arrival at 0 V after one at 4 V gives 1 V, below LO, and the substitute is HI; the first two
at 4 V after the repair give 1 V and 2 V, the second of which passes. -/
def wind : XDesc := { filt := 2, fpar := 4, subk := 3, lo := 1600, hi := 10200 }
def windAt (hist : List Int) : State := { dev with ana.xings := [(40, { desc := some wind, hist := hist, filtered := some 0, lastPass := some 2000 })] }
theorem test_guard_cut_cable :
    (guardArrival (windAt [0, 0, 4000]) 40 0 none .none).2.val = 10200 ∧ (guardArrival (windAt [0, 0, 4000]) 40 0 none .none).1.filtered = some 1000 := by decide
theorem test_guard_second_repaired :
    (guardArrival (windAt [4000, 0, 0, 0]) 40 4000 none .none).1.episode = none ∧ (guardArrival (windAt [4000, 0, 0, 0]) 40 4000 none .none).2.val = 2000 := by decide

/-- Example THM-a: the coefficients, the first step from cold, and the idle step of the stopped motor. -/
def idleMotor : TherM := { tw := 126 * 65536, tb := 80 * 65536, ta := 20 * 65536 }
theorem test_thermal_coefficients :
    (coefA dev (therObj 4), coefB dev (therObj 4), coefC dev (therObj 4), coefG dev (therObj 4)) = (2237, 280, 117, 73301) := by decide
theorem test_thermal_first_step : term (73301 * 137200) = 599 := by decide
theorem test_thermal_idle_step :
    (nodeStep dev 4 0 idleMotor).tw = 126 * 65536 - 402 ∧ (nodeStep dev 4 0 idleMotor).tb = 80 * 65536 + 23 := by decide

/-- Example PWR-a: main good in CUTOFF-PENDING returns to NORMAL with the cell exhausted, and the time stays. -/
theorem test_pilot_returns_from_cutoff :
    (pilotReturns { pilot := .cutoff, lostNotice := false } 0).pilot = .normal ∧ (pilotReturns { pilot := .cutoff, lostNotice := false } 0).exhNotice = true ∧
      (pilotReturns { pilot := .cutoff, lostNotice := false } 0).lostNotice = false := by decide

/-- Example DRV-a: at 50 % with SAFEPOS 0 %, LINK0's UP wins over BUS2's 10 %, the wall switch's DOWN and the loop's 60 %. -/
def awning : State :=
  { dev with drv.drives := [(3, { pos := 5000 })], cfg := [((drvObj 3, "KIND"), [.word "PAIR"]), ((drvObj 3, "SAFEPOS"), [.num 0])] }
def orderUp : Order := { src := 1, rank := 1, target := 0, sq := 0 }
theorem test_orders_compete :
    bestOrder awning 3 { src := 4, rank := 1, target := 1000, sq := 1 }
      [{ src := 8, rank := 1, target := 10000, sq := 2 }, { src := 16, rank := 0, target := 6000, sq := 3 }, orderUp] = orderUp := by decide

/-! ### States and operands that meet the hypotheses of the statements -/

theorem hyps_EmptyQueueLetsOneTickPass :
    (∃ (s : State), s.pending = [] ∧ (coreRuns s = false ∨ s.now + 1 < epochTick s (s.epoch + 1))) ∧
    (∃ (s : State), s.pending = [] ∧ coreRuns s = true ∧ epochTick s (s.epoch + 1) ≤ s.now + 1) ∧
    (∃ (s : State), s.pending = [] ∧ s.now < epochTick s (s.epoch + 1)) :=
  ⟨⟨State.reset, by
      decide⟩,
   ⟨{ State.reset with now := 7999 }, by
      decide⟩,
   ⟨State.reset, by
      decide⟩⟩

theorem hyps_EveryStepKeepsTheClockPastItsEpoch :
    ∃ (s : State) (t : State), s.clockOk ∧ step s = .next t :=
  ⟨State.reset, { State.reset with now := 1 }, by
      and_intros <;> first | rfl | (simp only [State.clockOk]; decide) | decide⟩

theorem hyps_NoCommandTurnsTheClockBack :
    ∃ (c : Instr) (s : State) (t : State), exec c s = .next t :=
  ⟨.chanClr 0, State.reset, State.reset, by
      and_intros <;> first | rfl | decide⟩

theorem hyps_OnlyBoundariesCountEpochs :
    (∃ (c : Instr) (s : State) (t : State), exec c s = .next t ∧ c ≠ .epochBoundary ∧ c ≠ .coreResetRelease) ∧
    (∃ (c : Instr) (s : State) (t : State), exec c s = .next t ∧ c = .epochBoundary ∧ coreRuns s = true) ∧
    (∃ (c : Instr) (s : State) (t : State), exec c s = .next t ∧ c = .coreResetRelease) :=
  ⟨⟨.chanClr 0, State.reset, State.reset, by
      and_intros <;> first | rfl | decide⟩,
   ⟨.epochBoundary, { State.reset with pwr.committed := true }, epochStep { State.reset with pwr.committed := true }, by
      and_intros <;> first | rfl | decide⟩,
   ⟨.coreResetRelease, State.reset, State.reset, by
      and_intros <;> first | rfl | decide⟩⟩

theorem hyps_NoStepClearsTheConfigurationLock :
    ∃ (s : State) (t : State), step s = .next t ∧ s.sec.locked = true :=
  ⟨{ State.reset with sec.locked := true, pending := [.chanClr 0] }, { State.reset with sec.locked := true }, by
      and_intros <;> first | rfl | decide⟩

theorem hyps_OnlyAZeroCrossingClosesAFeed :
    ∃ (c : Instr) (s : State) (t : State) (f : Nat), (∀ raw, c ≠ .zeroCrossing raw) ∧ exec c s = .next t ∧ t.feedClosed f :=
  ⟨.chanClr 0, { State.reset with drv.feeds := [(0, { closed := true })] }, { State.reset with drv.feeds := [(0, { closed := true })] }, 0, by
      and_intros <;> first | (intro _ h; cases h) | rfl | (simp only [State.feedClosed]; decide) | decide⟩

theorem hyps_ClearRegistersClearTheirCounts :
    (∃ (v : Word), v.getLsbD 0 = true) ∧
    (∃ (v : Word), v.getLsbD 0 = false) :=
  ⟨⟨1, by
      decide⟩,
   ⟨0, by
      decide⟩⟩

theorem hyps_CrossingControlWrites :
    (∃ (v : Word), v.getLsbD 1 = true) ∧
    (∃ (v : Word), v.getLsbD 1 = false) :=
  ⟨⟨2, by
      decide⟩,
   ⟨1, by
      decide⟩⟩

theorem hyps_CellVoltageBeyondTheAbsoluteMaximumStops :
    (∃ (mv : Int), (mv < -300 ∨ 3600 < mv)) ∧
    (∃ (mv : Int) (s : State), -300 ≤ mv ∧ mv ≤ 3600 ∧ s.pwr.pilot ≠ .normal) ∧
    (∃ (mv : Int) (s : State), -300 ≤ mv ∧ mv ≤ 3600 ∧ s.pwr.pilot = .normal) :=
  ⟨⟨3601, by
      decide⟩,
   ⟨3600, { State.reset with pwr.pilot := .backup }, by
      decide⟩,
   ⟨-300, { State.reset with pwr.pilot := .normal }, by
      decide⟩⟩

theorem hyps_GuardsPassOrSubstitute :
    ∃ (s : State) (x : Fin 240), xUsed x = true ∧ guardOn s = true ∧ bufFull s x = false ∧ waitsBehind s x = false :=
  ⟨dev, 0, by
      decide⟩

theorem hyps_ArrivalsTouchTheirCrossingAlone :
    (∃ (s : State) (t : State) (x : Fin 240) (v : XWord) (p : Option Nat) (y : _), exec (.guardedArrival x v p) s = .next t ∧ y ≠ x.val) ∧
    (∃ (s : State) (t : State) (x : Fin 240) (v : XWord) (p : Option Nat), exec (.guardedArrival x v p) s = .next t ∧ (x.val < 176 ∨ 180 ≤ x.val)) ∧
    (∃ (s : State) (t : State) (x : Fin 240) (v : XWord) (p : Option Nat), exec (.guardedArrival x v p) s = .next t) ∧
    (∃ (s : State) (t : State) (x : Fin 240) (v : XWord) (p : Option Nat), exec (.guardedArrival x v p) s = .next t) :=
  ⟨⟨{ State.reset with ana.mode := .quiet }, { State.reset with ana.mode := .quiet }, 175, 0, none, 0, by
      and_intros <;> first | rfl | decide⟩,
   ⟨{ State.reset with ana.mode := .quiet }, { State.reset with ana.mode := .quiet }, 175, 0, none, by
      and_intros <;> first | rfl | decide⟩,
   ⟨{ State.reset with ana.mode := .quiet }, { State.reset with ana.mode := .quiet }, 175, 0, none, by
      and_intros <;> first | rfl | decide⟩,
   ⟨{ State.reset with ana.mode := .quiet }, { State.reset with ana.mode := .quiet }, 175, 0, none, by
      and_intros <;> first | rfl | decide⟩⟩

theorem hyps_CrossingRowsComplete :
    (∃ (s : State) (x : Fin 240), xUsed x = true ∧ guardOn s = true ∧ bufFull s x = false ∧ waitsBehind s x = false) ∧
    (∃ (s : State) (x : Fin 240), xUsed x = true ∧ guardOn s = true ∧ (bufFull s x = true ∨ waitsBehind s x = true)) ∧
    (∃ (s : State) (h : _) (l : _), s.ana.held = h :: l ∧ guardOn s = true ∧ bufFull s h.x = false) ∧
    (∃ (s : State), (s.ana.held = [] ∨ guardOn s = false)) ∧
    (∃ (s : State) (x : Fin 240) (d : _) (s' : _), guardOn s = true ∧ bufFull s x = false ∧ silenceDue s x = some d ∧ comesAt s d = some s') ∧
    (∃ (s : State) (x : Fin 240) (r : Fin 4) (w : _) (m : _), xConfigurable x = true ∧ descOk (xSigned s x) x (descWrite s x r w m) = true) :=
  ⟨⟨dev, 0, by
      decide⟩,
   ⟨{ dev with ana.held := [⟨0, 1, none, .none⟩] }, 0, by
      decide⟩,
   ⟨{ dev with ana.held := [⟨5, 1, none, .none⟩] }, ⟨5, 1, none, .none⟩, [], by
      decide⟩,
   ⟨dev, by
      decide⟩,
   ⟨dev, 180, 80000, dev, by
      decide⟩,
   ⟨dev, 0, 0, 0, 0, by
      decide⟩⟩

theorem hyps_BoundariesBeginTheNextEpoch :
    (∃ (s : State), coreRuns s = true) ∧
    (∃ (s : State), coreRuns s = true ∧ s.pwr.committed = true) ∧
    (∃ (s : State), coreRuns s = true ∧ s.pwr.committed = false ∧ s.ana.mode ≠ .quiet) ∧
    (∃ (s : State), coreRuns s = false) :=
  ⟨⟨dev, by
      decide⟩,
   ⟨{ dev with pwr.committed := true }, by
      decide⟩,
   ⟨dev, by
      decide⟩,
   ⟨{ dev with pwr.core := .off }, by
      decide⟩⟩

theorem hyps_WorkerRowsComplete_1 :
    (∃ (s : State), supervised s = true ∧ s.epoch < 10 * (s.ana.window + 1)) ∧
    (∃ (s : State), supervised s = false) ∧
    (∃ (s : State), supervised s = true ∧ 10 * (s.ana.window + 1) ≤ s.epoch ∧ s.ana.beat0 = true ∧ s.ana.beat1 = true) ∧
    (∃ (s : State), supervised s = true ∧ 10 * (s.ana.window + 1) ≤ s.epoch ∧ s.ana.beat0 = false ∧ s.ana.seen0 = true ∧ 2 ≤ s.ana.miss0) ∧
    (∃ (s : State), windowOver s = false) ∧
    (∃ (s : State) (s' : _), coreRuns s = true ∧ comesAt? s s.ana.workersReset = some s') :=
  ⟨⟨{ dev with ana.window := 100000 }, by
      decide⟩,
   ⟨{ dev with ana.mode := .quiet }, by
      decide⟩,
   ⟨{ dev with ana.beat0 := true, ana.beat1 := true }, by
      decide⟩,
   ⟨{ dev with ana.seen0 := true, ana.miss0 := 2 }, by
      decide⟩,
   ⟨{ dev with ana.window := 100000 }, by
      decide⟩,
   ⟨{ dev with ana.workersReset := some 7999999999 }, { dev with ana.workersReset := some 7999999999 }, by
      decide⟩⟩

theorem hyps_WorkerRowsComplete_2 :
    (∃ (s : State), coreRuns s = true ∧ autoReturns s = true) ∧
    (∃ (s : State), coreRuns s = true ∧ s.pwr.committed = false ∧ s.ana.mode ≠ .quiet) ∧
    (∃ (s : State), coreRuns s = true ∧ s.pwr.committed = false ∧ s.ana.mode ≠ .off) :=
  ⟨⟨{ dev with ana.mode := .safe, ana.byTakeover := true, ana.goodWindows := 100 }, by
      decide⟩,
   ⟨dev, by
      decide⟩,
   ⟨dev, by
      decide⟩⟩

theorem hyps_SupplyRowsComplete_1 :
    (∃ (s : State), s.pwr.mainGood = false) ∧
    (∃ (s : State) (a : _) (s' : _), s.pwr.mainGood = false ∧ s.pwr.mgSince = some a ∧ comesAt s (ptoEdge s (a + 2 * tickMs)) = some s') ∧
    (∃ (s : State), s.pwr.mainGood = true ∧ s.pwr.pilot = .normal) ∧
    (∃ (s : State), coreRuns s = true ∧ s.pwr.committed = false) ∧
    (∃ (s : State), coreRuns s = true ∧ s.pwr.committed = true) ∧
    (∃ (s : State) (s' : _), s.pwr.mains = true ∧ comesAt s ((s.pwr.lastCross.getD s.rel) + 15 * tickMs) = some s' ∧ s'.pwr.mains = true) :=
  ⟨⟨{ dev with pwr.mainGood := false }, by
      decide⟩,
   ⟨{ dev with pwr.mainGood := false, pwr.mgSince := some 0 }, 0, { dev with pwr.mainGood := false, pwr.mgSince := some 0 }, by
      decide⟩,
   ⟨{ dev with pwr.pilot := .normal }, by
      decide⟩,
   ⟨dev, by
      decide⟩,
   ⟨{ dev with pwr.committed := true }, by
      decide⟩,
   ⟨dev, dev, by
      decide⟩⟩

theorem hyps_SupplyRowsComplete_2 :
    (∃ (s : State), s.pwr.mains = false) ∧
    (∃ (s : State), s.pwr.mains = true) ∧
    (∃ (v : BitVec 16), 300 < v.toNat) ∧
    (∃ (v : BitVec 16), v.toNat ≤ 300) :=
  ⟨⟨{ dev with pwr.mains := false }, by
      decide⟩,
   ⟨dev, by
      decide⟩,
   ⟨301, by
      decide⟩,
   ⟨300, by
      decide⟩⟩

theorem hyps_PilotAndAuxiliaryRowsComplete_1 :
    (∃ (s : State) (s' : State), s.pwr.pilot = .backup ∧ comesAt s ((s.pwr.vbatBelow.getD s.now) + 100 * ptoClock) = some s') ∧
    (∃ (s : State) (s' : State), s.pwr.pilot = .cutoff ∧ comesAt s ((s.pwr.cutoffAt.getD s.now) + 400 * ptoClock) = some s') ∧
    (∃ (s : State), s.pwr.pilot = .backup) ∧
    (∃ (s : State) (s' : State), comesAt s (if s.pwr.pilot = s.pwr.pilotPostVal then s.pwr.pilotPosted + 100 * tickMs else s.now) = some s') ∧
    (∃ (s : State) (ma : BitVec 16), s.pwr.auxOn = true ∧ 1300 < ma.toNat) ∧
    (∃ (s : State) (ma : BitVec 16), s.pwr.auxOn = true ∧ 800 < ma.toNat ∧ auxGrant s = false) :=
  ⟨⟨{ dev with pwr.pilot := .backup, pwr.vbatBelow := some 0 }, { dev with pwr.pilot := .backup, pwr.vbatBelow := some 0 }, by
      decide⟩,
   ⟨{ dev with pwr.pilot := .cutoff, pwr.cutoffAt := some 0 }, { dev with pwr.pilot := .cutoff, pwr.cutoffAt := some 0 }, by
      decide⟩,
   ⟨{ dev with pwr.pilot := .backup }, by
      decide⟩,
   ⟨dev, dev, by
      decide⟩,
   ⟨{ dev with pwr.auxOn := true }, 1301, by
      decide⟩,
   ⟨{ dev with pwr.auxOn := true }, 801, by
      decide⟩⟩

theorem hyps_PilotAndAuxiliaryRowsComplete_2 :
    (∃ (s : State) (ma : BitVec 16) (b : Bool), (ma.toNat ≤ 800 ∨ (ma.toNat ≤ 1300 ∧ (b = false ∨ auxGrant s = true)))) ∧
    (∃ (s : State) (s' : State), cfgOn s pwrObj "AUX" = true ∧ s.pwr.auxOn = false ∧ comesAt? s (auxRetryDue s) = some s') ∧
    (∃ (s : State) (mv : Int), s.pwr.fast = true ∧ (chgMv s : Int) ≤ mv + 20) :=
  ⟨⟨dev, 800, true, by
      decide⟩,
   ⟨conf { dev with pwr.auxRetry := some 0 } [((pwrObj, "AUX"), [.word "on"]), ((pwrObj, "AUXRETRY"), [.num 1000000000])], conf { dev with pwr.auxRetry := some 0 } [((pwrObj, "AUX"), [.word "on"]), ((pwrObj, "AUXRETRY"), [.num 1000000000])], by
      decide⟩,
   ⟨{ dev with pwr.fast := true }, 4000, by
      decide⟩⟩

theorem hyps_StartupRowsComplete_1 :
    (∃ (s : State) (s' : State) (due : _), s.pwr.core = .reset due ∧ s.pwr.mainGood = true ∧ comesAt s due = some s') ∧
    (∃ (s : State), coreRuns s = true) ∧
    (∃ (s : State) (s' : State), coreRuns s = true ∧ s.pwr.linkUp = false ∧ comesAt s (s.rel + 6 * tickMs) = some s') ∧
    (∃ (s : State) (s' : State), coreRuns s = true ∧ s.ana.mode = .start ∧ s.pwr.versions = false ∧ comesAt s (s.rel + 8 * tickMs) = some s') ∧
    (∃ (s : State) (s' : State), coreRuns s = true ∧ s.ana.mode = .start ∧ s.pwr.versions = true ∧ s.pwr.selfTested = false ∧
      comesAt s (s.rel + 33 * tickMs) = some s') ∧
    (∃ (s : State) (s' : State), sensing s = true ∧ s.cnv.ref = .settling ∧ s.ana.mode ≠ .start ∧ comesAt s (s.cnv.refAt + 5 * tickMs) = some s') :=
  ⟨⟨{ dev with pwr.core := .reset 0 }, { dev with pwr.core := .reset 0 }, 0, by
      decide⟩,
   ⟨dev, by
      decide⟩,
   ⟨{ dev with pwr.linkUp := false }, { dev with pwr.linkUp := false }, by
      decide⟩,
   ⟨{ dev with ana.mode := .start }, { dev with ana.mode := .start }, by
      decide⟩,
   ⟨{ dev with ana.mode := .start, pwr.versions := true }, { dev with ana.mode := .start, pwr.versions := true }, by
      decide⟩,
   ⟨{ dev with cnv.ref := .settling }, { dev with cnv.ref := .settling }, by
      decide⟩⟩

theorem hyps_StartupRowsComplete_2 :
    (∃ (s : State) (low : _), 80 ≤ low ∧ coreRuns s = true ∧ s.pwr.committed = false ∧ s.pwr.mains = true) ∧
    (∃ (low : _), low < 8) ∧
    (∃ (s : State) (low : _), 40 ≤ low ∧ coreRuns s = true ∧ s.pwr.committed = false ∧ s.pwr.mainGood = true) ∧
    (∃ (low : _), low < 40) ∧
    (∃ (s : State) (s' : State) (e : _) (due : _), coreRuns s = true ∧ s.pwr.committed = false ∧ s.vil.softReset = some (e, due) ∧
      (restartSent s e = true ∨ comesAt s due = some s')) :=
  ⟨⟨dev, 80, by
      decide⟩,
   ⟨7, by
      decide⟩,
   ⟨dev, 40, by
      decide⟩,
   ⟨39, by
      decide⟩,
   ⟨{ dev with vil.softReset := some (0, 0) }, { dev with vil.softReset := some (0, 0) }, 0, 0, by
      decide⟩⟩

theorem hyps_QuietRowsComplete :
    (∃ (s : State) (s' : State), s.ana.mode = .run ∧ quietBarred s = false ∧ comesAt? s ((idleTicks s).map (s.pwr.idleSince + ·)) = some s') ∧
    (∃ (s : State) (src : WakeSrc), s.ana.mode = .quiet ∧ src ≠ .reset ∧ s.pwr.waking = none) ∧
    (∃ (s : State) (lv : BitVec 96) (u : Nat), s.ana.mode = .quiet ∧ s.pwr.waking = none ∧ u ∈ wakeChans s ∧ lv.getLsbD u ≠ s.pwr.wakeLevels.getLsbD u) ∧
    (∃ (s : State) (s' : State) (p : Int), s.ana.mode = .quiet ∧ nextSwitch s = some p ∧ s.pwr.waking = none ∧
      comesAt s (tickOf s (p * netSec)) = some s') :=
  ⟨⟨conf dev [((pwrObj, "QUIETIDLE"), [.num 60000000000])], conf dev [((pwrObj, "QUIETIDLE"), [.num 60000000000])], by
      decide⟩,
   ⟨{ dev with ana.mode := .quiet }, .can, by
      decide⟩,
   ⟨conf { dev with ana.mode := .quiet } [((⟨.chan, 3⟩, "MODE"), [.word "DRY"]), ((⟨.chan, 3⟩, "WAKE"), [.word "on"])], 8, 3, by
      decide⟩,
   ⟨{ dev with ana.mode := .quiet, tim.quality := 1, clm.scheds := [(0, { upTo := some 0 })], cfg := [((⟨.sched, 0⟩, "SAT"), [.tod 60]), ((⟨.sched, 0⟩, "SATV"), [.word "COMFORT"])] }, { dev with ana.mode := .quiet, tim.quality := 1, clm.scheds := [(0, { upTo := some 0 })], cfg := [((⟨.sched, 0⟩, "SAT"), [.tod 60]), ((⟨.sched, 0⟩, "SATV"), [.word "COMFORT"])] }, 60, by
      decide⟩⟩

theorem hyps_LeaveRowsComplete_1 :
    (∃ (s : State) (h : Holder) (cls : LClass) (dur : Nat) (r : _), coreRuns s = true ∧ leaveReq s h cls dur none = some r ∧ overCost s r = false ∧
      s.lve.queue.find? (·.h = h) = none ∧ s.lve.queue.length < 64) ∧
    (∃ (s : State) (h : Holder) (cls : LClass) (dur : Nat) (r : _), coreRuns s = true ∧ leaveReq s h cls dur none = some r ∧ overCost s r = true) ∧
    (∃ (s : State) (h : Holder) (cls : LClass) (dur : Nat), leaveReq s h cls dur none = none) ∧
    (∃ (s : State) (h : Holder) (r : _) (n : _), s.lve.queue.find? (·.h = h) = some r ∧ waitLimit s r.cls = some n ∧ n ≤ r.waited) ∧
    (∃ (s : State) (h : Holder) (g : _), s.lve.grants.find? (·.h = h) = some g ∧ grantEnd g ≤ epochTick s (s.epoch + 1)) ∧
    (∃ (s : State) (h : Holder) (cls : LClass) (dur : Nat) (r : _) (q : _), coreRuns s = true ∧ leaveReq s h cls dur none = some r ∧ overCost s r = false ∧
      s.lve.queue.find? (·.h = h) = some q) :=
  ⟨⟨dev, .freeze, .routine, 100, { h := .freeze, op := 8, cls := .routine, line := 0, power := 800, aux := 0, inrush := false, calm := false, dur := 100, arrival := 8000000000, serial := 0, cmd := none }, by
      decide⟩,
   ⟨conf dev [((drvObj 0, "KIND"), [.word "PAIR"]), ((leaveObj, "LINEMAX"), [.num 1000000000])], .drive 0, .urgent, 0, { h := .drive 0, op := 1, cls := .urgent, line := 1500, power := 300, aux := 0, inrush := true, calm := false, dur := 500, arrival := 8000000000, serial := 0, cmd := none }, by
      decide⟩,
   ⟨dev, .drive 0, .urgent, 0, by
      decide⟩,
   ⟨{ dev with lve.queue := [{ h := .freeze, op := 8, cls := .routine, line := 0, power := 800, aux := 0, inrush := false, calm := false, dur := 100, arrival := 0, serial := 0, cmd := none, waited := 1000000 }] }, .freeze, { h := .freeze, op := 8, cls := .routine, line := 0, power := 800, aux := 0, inrush := false, calm := false, dur := 100, arrival := 0, serial := 0, cmd := none, waited := 1000000 }, 60000, by
      decide⟩,
   ⟨{ dev with lve.grants := [{ h := .freeze, op := 8, cls := .routine, line := 0, power := 800, aux := 0, inrush := false, calm := false, start := 0, dur := 100, cmd := none }] }, .freeze, { h := .freeze, op := 8, cls := .routine, line := 0, power := 800, aux := 0, inrush := false, calm := false, start := 0, dur := 100, cmd := none }, by
      decide⟩,
   ⟨{ dev with lve.queue := [{ h := .freeze, op := 8, cls := .routine, line := 0, power := 800, aux := 0, inrush := false, calm := false, dur := 100, arrival := 0, serial := 0, cmd := none, waited := 1000000 }] }, .freeze, .routine, 100, { h := .freeze, op := 8, cls := .routine, line := 0, power := 800, aux := 0, inrush := false, calm := false, dur := 100, arrival := 8000000000, serial := 0, cmd := none }, { h := .freeze, op := 8, cls := .routine, line := 0, power := 800, aux := 0, inrush := false, calm := false, dur := 100, arrival := 0, serial := 0, cmd := none, waited := 1000000 }, by
      decide⟩⟩

theorem hyps_LeaveRowsComplete_2 :
    (∃ (s : State) (h : Holder) (g : _), isDriveHolder h = false ∧ s.lve.grants.find? (·.h = h) = some g ∧ g.orphan = false ∧ g.returned = false) ∧
    (∃ (h : Holder), isDriveHolder h = true) ∧
    (∃ (s : State) (a : _), s.lve.lastInrush = some a) :=
  ⟨⟨{ dev with lve.grants := [{ h := .freeze, op := 8, cls := .routine, line := 0, power := 800, aux := 0, inrush := false, calm := false, start := 0, dur := 100, cmd := none }] }, .freeze, { h := .freeze, op := 8, cls := .routine, line := 0, power := 800, aux := 0, inrush := false, calm := false, start := 0, dur := 100, cmd := none }, by
      decide⟩,
   ⟨.drive 3, by
      decide⟩,
   ⟨{ dev with lve.lastInrush := some 0 }, 0, by
      decide⟩⟩

theorem hyps_LineRowsComplete_1 :
    (∃ (s : State) (p : Fin 2), served s (portOf p) = true ∧ unheard s (portOf p) = false ∧ s.ana.mode = .quiet) ∧
    (∃ (s : State) (p : Fin 2), served s (portOf p) = true ∧ unheard s (portOf p) = false ∧ s.ana.mode ≠ .quiet ∧ bufFull s (194 + p.val) = false ∧
      waitsBehind s (194 + p.val) = false) ∧
    (∃ (s : State) (code : BitVec 9), unheard s .link1 = true ∧ code ≠ 0x101 ∧ s.ana.mode ≠ .quiet) ∧
    (∃ (s : State) (k : Sess), k ≠ .mac ∧ served s k = true ∧ s.ana.mode ≠ .quiet) ∧
    (∃ (s : State) (p : Fin 2), served s (portOf p) = true) ∧
    (∃ (s : State) (k : Sess) (text : String), isBus k = true ∧ served s k = true ∧ s.ana.mode ≠ .quiet ∧ untaggedOut s k = false ∧
      (getSes s k).waiting.length + text.toList.length < 1024) :=
  ⟨⟨{ dev with ana.mode := .quiet }, 0, by
      decide⟩,
   ⟨dev, 0, by
      decide⟩,
   ⟨conf dev [((sesObj .link1, "RATE"), [.word "AUTO"])], 0x41, by
      decide⟩,
   ⟨dev, .link0, by
      decide⟩,
   ⟨dev, 1, by
      decide⟩,
   ⟨{ dev with vil.bus1.isOpen := true }, .bus1, "STATUS", by
      decide⟩⟩

theorem hyps_LineRowsComplete_2 :
    (∃ (s : State) (s' : State) (k : Sess) (a : _) (l : _), s.ana.mode ≠ .quiet ∧ coreRuns s = true ∧ partialLine s k = some (a, l) ∧
      comesAt s (a + partialLimit l) = some s') ∧
    (∃ (s : State) (k : Sess), isLink k = true ∧ served s k = true ∧ (getSes s k).mode = .typed ∧ s.ana.mode ≠ .quiet ∧ untaggedOut s k = false) ∧
    (∃ (s : State) (k : Sess) (o : _) (w : _), isLink k = true ∧ served s k = true ∧ (getSes s k).mode = .typed ∧ s.ana.mode ≠ .quiet ∧
      (outsOf s k).find? (·.tag = none) = some o ∧ o.work = .wait w) ∧
    (∃ (s : State) (rate : _) (r : _), autoRate s = true ∧ s.vil.rate1 = 0 ∧ coreRuns s = true ∧
      autoRates.find? (fun r => decide (rate * 100 ≤ 103 * r) && decide (97 * r ≤ rate * 100)) = some r) ∧
    (∃ (s : State) (low : _), autoRate s = true ∧ 10 * tickMs ≤ low ∧ coreRuns s = true) ∧
    (∃ (s : State) (r : _), s.vil.ratePend0 = some r) :=
  ⟨⟨{ dev with vil.link0.rx := ['A'], vil.link0.rxStart := some 0 }, { dev with vil.link0.rx := ['A'], vil.link0.rxStart := some 0 }, .link0, 0, ['A'], by
      decide⟩,
   ⟨dev, .link0, by
      decide⟩,
   ⟨{ dev with vil.outs := [{ id := 7, ses := .link0, tag := none, framed := false, shared := false, verb := "WAIT", role := none, epoch := 0, body := "", audits := [], work := .wait 0 }] }, .link0, { id := 7, ses := .link0, tag := none, framed := false, shared := false, verb := "WAIT", role := none, epoch := 0, body := "", audits := [], work := .wait 0 }, 0, by
      decide⟩,
   ⟨conf dev [((sesObj .link1, "RATE"), [.word "AUTO"])], 9600, 9600, by
      decide⟩,
   ⟨conf dev [((sesObj .link1, "RATE"), [.word "AUTO"])], 80000, by
      decide⟩,
   ⟨{ dev with vil.ratePend0 := some 9600 }, 9600, by
      decide⟩⟩

theorem hyps_LineRowsComplete_3 :
    (∃ (s : State) (r : _), s.vil.ratePend1 = some (r + 1)) ∧
    (∃ (s : State), s.vil.ratePend1 = some 0) ∧
    (∃ (s : State) (k : Sess) (n : _) (l : _), maySend s k = true ∧ isBus k = false ∧ (getSes s k).nq = n :: l) ∧
    (∃ (s : State) (k : Sess) (n : _) (l : _), maySend s k = true ∧ isBus k = true ∧ (getSes s k).nq = n :: l ∧ n.handed = true ∧ tunWaits s k = [] ∧
      tunFrags s k = []) :=
  ⟨⟨{ dev with vil.ratePend1 := some 9600 }, 9599, by
      decide⟩,
   ⟨{ dev with vil.ratePend1 := some 0 }, by
      decide⟩,
   ⟨{ dev with vil.cts := true, vil.link0.nq := [{ seq := 0, name := "SYS.MODE", obj := none, args := "" }] }, .link0, { seq := 0, name := "SYS.MODE", obj := none, args := "" }, [], by
      decide⟩,
   ⟨{ dev with vil.bus1.isOpen := true, vil.bus1.nq := [{ seq := 0, name := "SYS.MODE", obj := none, args := "", handed := true }] }, .bus1, { seq := 0, name := "SYS.MODE", obj := none, args := "", handed := true }, [], by
      decide⟩⟩

theorem hyps_SessionTimerRowsComplete_1 :
    (∃ (s : State) (k : Sess) (r : Role) (n : _), k ≠ .mac ∧ (getSes s k).role = some r ∧ outsOf s k = [] ∧ idleLimit s r = some n ∧
      (getSes s k).active + n ≤ epochTick s s.epoch) ∧
    (∃ (s : State) (k : Sess) (r : Role) (n : _), k ≠ .mac ∧ (getSes s k).role = some r ∧ outsOf s k = [] ∧ idleLimit s r = some n ∧
      epochTick s s.epoch < (getSes s k).active + n) ∧
    (∃ (s : State) (s' : State) (k : Sess) (p : Nat × Challenge), s.sec.chal.find? (·.1 = sesIdx k) = some p ∧ comesAt s p.2.until_ = some s' ∧
      responseRuns s k p.2 = false) ∧
    (∃ (s : State) (s' : State) (bus : _) (r : Role), comesAt? s (tget {} s.sec.fails (failIdx bus r)).until_ = some s') ∧
    (∃ (s : State) (s' : State) (k : Sess) (tag : _) (o : _) (w : _), s.vil.outs.find? (fun o => o.ses = k && o.tag = tag && o.verb = "WAIT") = some o ∧
      o.work = .wait w ∧ findOut s o.id = some o ∧ comesAt s w = some s') ∧
    (∃ (s : State) (w : _) (l : _), coreRuns s = true ∧ s.pwr.committed = false ∧ s.vil.writes = w :: l ∧ w.ok = none ∧ (∀ x ∈ l, x.ok = none) ∧
      s.now ≠ epochTick s s.epoch) :=
  ⟨⟨{ dev with vil.link0.role := some .operator }, .link0, .operator, 7200000000, by
      decide⟩,
   ⟨{ dev with vil.link0.role := some .operator, vil.link0.active := 8000000000 }, .link0, .operator, 7200000000, by
      decide⟩,
   ⟨{ dev with sec.chal := [(0, ⟨.maker, 0, 0⟩)] }, { dev with sec.chal := [(0, ⟨.maker, 0, 0⟩)] }, .link0, (0, ⟨.maker, 0, 0⟩), by
      decide⟩,
   ⟨{ dev with sec.fails := [(failIdx false .maker, { until_ := some 0 })] }, { dev with sec.fails := [(failIdx false .maker, { until_ := some 0 })] }, false, .maker, by
      decide⟩,
   ⟨{ dev with vil.outs := [{ id := 7, ses := .link0, tag := some 5, framed := false, shared := false, verb := "WAIT", role := none, epoch := 0, body := "", audits := [], work := .wait 0 }] }, { dev with vil.outs := [{ id := 7, ses := .link0, tag := some 5, framed := false, shared := false, verb := "WAIT", role := none, epoch := 0, body := "", audits := [], work := .wait 0 }] }, .link0, some 5, { id := 7, ses := .link0, tag := some 5, framed := false, shared := false, verb := "WAIT", role := none, epoch := 0, body := "", audits := [], work := .wait 0 }, 0, by
      decide⟩,
   ⟨{ dev with now := 8000000001, vil.writes := [{ id := 7, eff := .lock, due := 0 }] }, { id := 7, eff := .lock, due := 0 }, [], by
      decide⟩⟩

theorem hyps_SessionTimerRowsComplete_2 :
    (∃ (s : State) (w : _) (l : _), coreRuns s = true ∧ s.pwr.committed = false ∧ s.vil.writes = w :: l ∧ w.ok = none ∧ (∀ x ∈ l, x.ok = none) ∧
      s.now = epochTick s s.epoch) ∧
    (∃ (s : State) (w : _) (l : _), coreRuns s = true ∧ s.pwr.committed = false ∧ s.vil.writes = w :: l ∧ w.ok = none ∧ (∀ x ∈ l, x.ok = none) ∧
      s.now = epochTick s s.epoch ∧ findOut s w.id = none ∧ w.eff = .lock) ∧
    (∃ (s : State) (w : _) (l : _) (r : Role) (codes : List Word), coreRuns s = true ∧ s.pwr.committed = false ∧ s.vil.writes = w :: l ∧ w.ok = none ∧
      (∀ x ∈ l, x.ok = none) ∧ s.now = epochTick s s.epoch ∧ findOut s w.id = none ∧ w.eff = .key r codes) ∧
    (∃ (s : State) (m : Fin 64) (tr : _), s.vil.triggers.find? (fun t => t.m = m.val && t.epoch ≤ s.epoch) = some tr ∧ (macroSt s m).running = false ∧
      (macroSt s m).pend = false ∧ runningMacros s < 8 ∧ macroText s m ≠ []) ∧
    (∃ (s : State) (m : Fin 64) (text : String) (i : _) (w : _), let u := setMacro s m { macroSt s m with awaiting := true }; coreRuns s = true ∧
      s.ana.workersReset = none ∧ s.pwr.committed = false ∧ (macroSt s m).running = true ∧ (macroSt s m).awaiting = false ∧
      (macroText s m)[(macroSt s m).line - 1]? = some text ∧
      readVerb u ⟨.mac, some (1000 * (m.val + 1) + (macroSt s m).line), true⟩ true (getSes u .mac).level (lineTokens text.toList 1).1 (endCol text.toList 1) = .ok (w, i)) ∧
    (∃ (s : State) (m : Fin 64), coreRuns s = true ∧ s.ana.workersReset = none ∧ s.pwr.committed = false ∧ (macroSt s m).running = true ∧
      (macroSt s m).awaiting = false ∧ (macroText s m)[(macroSt s m).line - 1]? = none) :=
  ⟨⟨{ dev with vil.writes := [{ id := 7, eff := .lock, due := 0 }] }, { id := 7, eff := .lock, due := 0 }, [], by
      decide⟩,
   ⟨{ dev with vil.writes := [{ id := 7, eff := .lock, due := 0 }] }, { id := 7, eff := .lock, due := 0 }, [], by
      decide⟩,
   ⟨{ dev with vil.writes := [{ id := 7, eff := .key .maker [1], due := 0 }] }, { id := 7, eff := .key .maker [1], due := 0 }, [], .maker, [1], by
      decide⟩,
   ⟨{ dev with vil.triggers := [⟨1, 0⟩], vil.macros := [(1, { lines := some ["WAIT 1s"], running := false, line := 1 })] }, 1, ⟨1, 0⟩, by
      decide⟩,
   ⟨{ dev with vil.macros := [(1, { lines := some ["WAIT 1s"], running := true, line := 1 })] }, 1, "WAIT 1s", .wait ⟨.mac, some 2001, true⟩ 1000, "WAIT", by
      decide⟩,
   ⟨{ dev with vil.macros := [(1, { lines := some ["WAIT 1s"], running := true, line := 2 })] }, 1, by
      decide⟩⟩

theorem hyps_RefusedCommandsChangeNothing :
    ∃ (s : State) (q : Hdr) (c : CmdSpec) (e : String), s.hears q.ses ∧ q.ses ≠ .mac ∧ mute s q.ses = false ∧ firstFail s q c = some e :=
  ⟨dev, ⟨.link0, none, false⟩, logoutSpec, "ROLE NEED=OPERATOR", by
      simp only [State.hears, State.idsOk]; decide⟩

theorem hyps_SessionVerbsComplete_1 :
    (∃ (s : State) (q : Hdr) (mode : _) (level : _), s.hears q.ses ∧ q.ses ≠ .mac ∧ firstFail s q (helloSpec q mode level) = none) ∧
    (∃ (s : State) (q : Hdr) (r : Role), s.takes q (authSpec s q r ("AUTH " ++ roleWord r) false)) ∧
    (∃ (s : State) (q : Hdr) (r : Role) (codes : List Word), s.takes q (authSpec s q r ("AUTH " ++ roleWord r ++ " RESPONSE=" ++ codesStr (codes.map BitVec.toNat)) (codes.length != 8))) ∧
    (∃ (s : State) (q : Hdr), s.takes q logoutSpec) ∧
    (∃ (s : State) (q : Hdr) (r : Role) (codes : List Word), s.takes q (keySpec q r codes s)) ∧
    (∃ (s : State) (q : Hdr), s.takes q (lockConfigSpec q s)) :=
  ⟨⟨mk, q5, none, none, by
      simp only [State.hears, State.idsOk]; decide⟩,
   ⟨mk, q5, .maker, by
      simp only [State.takes, State.hears, State.idsOk]; decide⟩,
   ⟨mk, q5, .maker, List.replicate 8 1, by
      simp only [State.takes, State.hears, State.idsOk]; decide⟩,
   ⟨mk, q5, by
      simp only [State.takes, State.hears, State.idsOk]; decide⟩,
   ⟨mk, q5, .maker, List.replicate 8 1, by
      simp only [State.takes, State.hears, State.idsOk]; decide⟩,
   ⟨{ mk with ana.mode := .bench, thm.winPanel := true, thm.winJournal := true, cnv.ref := .ok, bus.joined := true, sec.keys := [(1, 1), (2, 1), (3, 1)] }, q5, by
      simp only [State.takes, State.hears, State.idsOk]; decide⟩⟩

theorem hyps_SessionVerbsComplete_2 :
    (∃ (s : State) (q : Hdr) (tag : _), s.takes q (cancelSpec tag) ∧ (outsOf s q.ses).find? (·.tag = some tag) = none) ∧
    (∃ (s : State) (q : Hdr) (tag : _) (o : _) (w : _), s.takes q (cancelSpec tag) ∧ q.ses ≠ .mac ∧ (outsOf s q.ses).find? (·.tag = some tag) = some o ∧
      findOut s o.id = some o ∧ o.work = .wait w) ∧
    (∃ (s : State) (q : Hdr) (ms : _), s.takes q (waitSpec ms)) :=
  ⟨⟨mk, q5, 6, by
      simp only [State.takes, State.hears, State.idsOk]; decide⟩,
   ⟨{ mk with vil.outs := [{ id := 7, ses := .link0, tag := some 9, framed := false, shared := false, verb := "WAIT", role := none, epoch := 0, body := "", audits := [], work := .wait 0 }], vil.nextId := 8 }, q5, 9, { id := 7, ses := .link0, tag := some 9, framed := false, shared := false, verb := "WAIT", role := none, epoch := 0, body := "", audits := [], work := .wait 0 }, 0, by
      simp only [State.takes, State.hears, State.idsOk]; decide⟩,
   ⟨mk, q5, 1000, by
      simp only [State.takes, State.hears, State.idsOk]; decide⟩⟩

theorem hyps_ReportVerbsComplete_1 :
    (∃ (s : State) (q : Hdr), s.takes q versionSpec) ∧
    (∃ (s : State) (q : Hdr), s.takes q statusSpec) ∧
    (∃ (s : State) (q : Hdr) (word : _), s.takes q (helpSpec q word s)) ∧
    (∃ (s : State) (q : Hdr) (m : Fin 64), s.takes q (macroListSpec m)) ∧
    (∃ (s : State) (q : Hdr), s.takes q onListSpec) ∧
    (∃ (s : State) (q : Hdr) (o : _) (attrs : _), s.takes q (getAttrSpec o attrs) ∧ inWork0 o.kind = false) :=
  ⟨⟨mk, q5, by
      simp only [State.takes, State.hears, State.idsOk]; decide⟩,
   ⟨mk, q5, by
      simp only [State.takes, State.hears, State.idsOk]; decide⟩,
   ⟨mk, q5, none, by
      simp only [State.takes, State.hears, State.idsOk]; decide⟩,
   ⟨mk, q5, 1, by
      simp only [State.takes, State.hears, State.idsOk]; decide⟩,
   ⟨mk, q5, by
      simp only [State.takes, State.hears, State.idsOk]; decide⟩,
   ⟨mk, q5, ⟨.pwr, 0, 0, false⟩, ["AUX"], by
      simp only [State.takes, State.hears, State.idsOk]; decide⟩⟩

theorem hyps_ReportVerbsComplete_2 :
    (∃ (s : State) (q : Hdr) (o : _) (attrs : _), s.takes q (getAttrSpec o attrs) ∧ inWork0 o.kind = true) ∧
    (∃ (s : State) (q : Hdr) (o : _) (aspect : _), s.takes q (showObjSpec o aspect) ∧ inWork0 o.kind = false) ∧
    (∃ (s : State) (q : Hdr) (o : _) (aspect : _), s.takes q (showObjSpec o aspect) ∧ inWork0 o.kind = true) ∧
    (∃ (s : State) (q : Hdr) (addr : _) (count : _), s.takes q (regReadSpec q addr count s)) ∧
    (∃ (s : State) (q : Hdr) (what : _), s.takes q (exportDataSpec q what s)) :=
  ⟨⟨mk, q5, ⟨.session, 0, 0, false⟩, ["LEVEL"], by
      simp only [State.takes, State.hears, State.idsOk]; decide⟩,
   ⟨mk, q5, ⟨.pwr, 0⟩, none, by
      simp only [State.takes, State.hears, State.idsOk]; decide⟩,
   ⟨mk, q5, ⟨.session, 0⟩, none, by
      simp only [State.takes, State.hears, State.idsOk]; decide⟩,
   ⟨mk, q5, 0x40000000, 1, by
      simp only [State.takes, State.hears, State.idsOk]; decide⟩,
   ⟨{ mk with vil.link0.mode := .framed }, q5, .ring, by
      simp only [State.takes, State.hears, State.idsOk]; decide⟩⟩

theorem hyps_ChangeVerbsComplete_1 :
    (∃ (s : State) (q : Hdr) (o : _) (pairs : _) (l : _), let a := accept s q (setSpec q o pairs s); chkOk (readPairs s (rangeObjs o) pairs) = some l ∧
      s.takes q (setSpec q o pairs s) ∧ ackAlone o pairs l = none ∧ setHeavy a l = true) ∧
    (∃ (s : State) (q : Hdr) (o : _) (pairs : _) (l : _), let a := accept s q (setSpec q o pairs s); chkOk (readPairs s (rangeObjs o) pairs) = some l ∧
      s.takes q (setSpec q o pairs s) ∧ ackAlone o pairs l = none ∧ setHeavy a l = false ∧ (l.any fun p => attrPersists p.1.1 p.1.2) = true) ∧
    (∃ (s : State) (q : Hdr) (o : _) (pairs : _) (l : _), let a := accept s q (setSpec q o pairs s); chkOk (readPairs s (rangeObjs o) pairs) = some l ∧
      s.takes q (setSpec q o pairs s) ∧ ackAlone o pairs l = none ∧ setHeavy a l = false ∧ (l.any fun p => attrPersists p.1.1 p.1.2) = false ∧
      (l.all fun p => p.1.1.kind = .counter) = true) ∧
    (∃ (s : State) (q : Hdr) (o : _) (pairs : _) (l : _), let a := accept s q (setSpec q o pairs s); chkOk (readPairs s (rangeObjs o) pairs) = some l ∧
      s.takes q (setSpec q o pairs s) ∧ ackAlone o pairs l = none ∧ setHeavy a l = false ∧ (l.any fun p => attrPersists p.1.1 p.1.2) = false ∧
      (l.all fun p => p.1.1.kind = .counter) = false ∧ setHere a l = false) ∧
    (∃ (s : State) (q : Hdr) (o : _) (pairs : _) (l : _), let a := accept s q (setSpec q o pairs s); chkOk (readPairs s (rangeObjs o) pairs) = some l ∧
      s.takes q (setSpec q o pairs s) ∧ ackAlone o pairs l = none ∧ setHeavy a l = false ∧ (l.any fun p => attrPersists p.1.1 p.1.2) = false ∧
      (l.all fun p => p.1.1.kind = .counter) = false ∧ setHere a l = true ∧ tripBlocks a l s.epoch = true) ∧
    (∃ (s : State) (q : Hdr) (o : _) (pairs : _) (l : _), let a := accept s q (setSpec q o pairs s); chkOk (readPairs s (rangeObjs o) pairs) = some l ∧
      s.takes q (setSpec q o pairs s) ∧ ackAlone o pairs l = none ∧ setHeavy a l = false ∧ (l.any fun p => attrPersists p.1.1 p.1.2) = false ∧
      (l.all fun p => p.1.1.kind = .counter) = false ∧ setHere a l = true ∧ tripBlocks a l s.epoch = false) :=
  ⟨⟨mk, q5, ⟨.pwr, 0, 0, false⟩, [("AUX", [.word "on"])], [((pwrObj, "AUX"), [.word "on"])], by
      simp only [State.takes, State.hears, State.idsOk]; decide⟩,
   ⟨mk, q5, ⟨.pwr, 0, 0, false⟩, [("AUX", [.word "off"])], [((pwrObj, "AUX"), [.word "off"])], by
      simp only [State.takes, State.hears, State.idsOk]; decide⟩,
   ⟨mk, q5, ⟨.counter, 0, 0, false⟩, [("CMP", [.num false 5 0 ""])], [((⟨.counter, 0⟩, "CMP"), [.num 5000000000])], by
      simp only [State.takes, State.hears, State.idsOk]; decide⟩,
   ⟨{ conf mk [((⟨.chan, 3⟩, "MODE"), [.word "ODOUT"])] with sec.worlds := 0x400 }, q5, ⟨.chan, 3, 3, false⟩, [("OUT", [.word "on"])], [((⟨.chan, 3⟩, "OUT"), [.word "on"])], by
      simp only [State.takes, State.hears, State.idsOk]; decide⟩,
   ⟨{ conf mk [((⟨.chan, 3⟩, "MODE"), [.word "ODOUT"])] with cnv.grps := [(0, { tripEpoch := some 2000000 })] }, q5, ⟨.chan, 3, 3, false⟩, [("OUT", [.word "on"])], [((⟨.chan, 3⟩, "OUT"), [.word "on"])], by
      simp only [State.takes, State.hears, State.idsOk]; decide⟩,
   ⟨conf mk [((⟨.chan, 3⟩, "MODE"), [.word "ODOUT"])], q5, ⟨.chan, 3, 3, false⟩, [("OUT", [.word "on"])], [((⟨.chan, 3⟩, "OUT"), [.word "on"])], by
      simp only [State.takes, State.hears, State.idsOk]; decide⟩⟩

theorem hyps_ChangeVerbsComplete_2 :
    (∃ (s : State) (q : Hdr) (o : _) (pairs : _) (n : _), s.hears q.ses ∧ ackAlone o pairs ((chkOk (readPairs s (rangeObjs o) pairs)).getD []) = some n) ∧
    (∃ (s : State) (q : Hdr) (o : _), s.takes q (defaultObjSpec q o s)) ∧
    (∃ (s : State) (q : Hdr), s.takes q (defaultAllSpec q s)) ∧
    (∃ (s : State) (q : Hdr) (addr : _) (value : _) (mask : _) (m : _), s.takes q (regWriteSpec q addr value mask s) ∧ regWritable s addr.toNat = some m) ∧
    (∃ (s : State) (q : Hdr) (n : Fin 4), s.takes q (slotFreeSpec q n s)) ∧
    (∃ (s : State) (q : Hdr) (n : _), s.takes q (auditAckSpec q n s)) :=
  ⟨⟨mk, q5, ⟨.sec, 0, 0, false⟩, [("AUDITACK", [.num false 0 0 ""])], 0, by
      simp only [State.hears, State.idsOk]; decide⟩,
   ⟨mk, q5, ⟨.pwr, 0⟩, by
      simp only [State.takes, State.hears, State.idsOk]; decide⟩,
   ⟨mk, q5, by
      simp only [State.takes, State.hears, State.idsOk]; decide⟩,
   ⟨mk, q5, 0x40002000, 1, none, (0x7F, 0), by
      simp only [State.takes, State.hears, State.idsOk]; decide⟩,
   ⟨mk, q5, 0, by
      simp only [State.takes, State.hears, State.idsOk]; decide⟩,
   ⟨{ mk with sec.exported := [(0, 0)] }, q5, 0, by
      simp only [State.takes, State.hears, State.idsOk]; decide⟩⟩

theorem hyps_ChangeVerbsComplete_3 :
    (∃ (s : State) (q : Hdr) (o : _) (f : _), s.takes q (ackSpec q o f s) ∧ inWork0 o.kind = false) ∧
    (∃ (s : State) (q : Hdr) (o : _) (f : _), s.takes q (ackSpec q o f s) ∧ inWork0 o.kind = true) ∧
    (∃ (s : State) (q : Hdr), s.takes q (repairFuseSpec q s)) ∧
    (∃ (s : State) (q : Hdr) (y : _) (mo : _) (d : _) (h : _) (mi : _) (sec : _) (u : _), s.takes q (timeSetSpec q y mo d h mi sec u s)) ∧
    (∃ (s : State) (q : Hdr) (m : Fin 64) (line : _), s.takes q (macroAddSpec q m line s)) ∧
    (∃ (s : State) (q : Hdr) (m : Fin 64), s.takes q (macroClearSpec m s)) :=
  ⟨⟨{ mk with ana.mode := .run, thm.winPanel := true, thm.winJournal := true, cnv.ref := .ok, bus.joined := true, sec.keys := [(1, 1), (2, 1), (3, 1)], thm.cdLatch := true }, q5, ⟨.tmod, 0⟩, none, by
      simp only [State.takes, State.hears, State.idsOk]; decide⟩,
   ⟨{ mk with ana.mode := .run, thm.winPanel := true, thm.winJournal := true, cnv.ref := .ok, bus.joined := true, sec.keys := [(1, 1), (2, 1), (3, 1)], lan.fault := true }, q5, ⟨.lan, 0⟩, none, by
      simp only [State.takes, State.hears, State.idsOk]; decide⟩,
   ⟨{ mk with tst.mendable := true }, q5, by
      simp only [State.takes, State.hears, State.idsOk]; decide⟩,
   ⟨mk, q5, 2030, 1, 2, 3, 4, 5, none, by
      simp only [State.takes, State.hears, State.idsOk]; decide⟩,
   ⟨mk, q5, 1, "STATUS", by
      simp only [State.takes, State.hears, State.idsOk]; decide⟩,
   ⟨mk, q5, 1, by
      simp only [State.takes, State.hears, State.idsOk]; decide⟩⟩

theorem hyps_ChangeVerbsComplete_4 :
    (∃ (s : State) (q : Hdr) (ev : _) (ob : _) (m : Fin 64), s.takes q (onBindSpec ev ob m s)) ∧
    (∃ (s : State) (q : Hdr) (ev : _) (ob : _), s.takes q (onOffSpec ev ob s)) ∧
    (∃ (s : State) (q : Hdr) (m : Fin 64), s.takes q (macroRunSpec m) ∧ (macroSt s m).running = false ∧ (macroSt s m).pend = false ∧ runningMacros s < 8 ∧
      macroText s m ≠ []) :=
  ⟨⟨mk, q5, "START", none, 1, by
      simp only [State.takes, State.hears, State.idsOk]; decide⟩,
   ⟨mk, q5, "START", none, by
      simp only [State.takes, State.hears, State.idsOk]; decide⟩,
   ⟨{ mk with vil.macros := [(1, { lines := some ["WAIT 1s"], running := false, line := 1 })] }, q5, 1, by
      simp only [State.takes, State.hears, State.idsOk]; decide⟩⟩

theorem hyps_ModeVerbsComplete :
    (∃ (s : State) (q : Hdr) (c : Instr) (m : Mode), ((c = .modeRun q ∧ m = .run) ∨ (c = .modeSafe q ∧ m = .safe) ∨ (c = .modeQuiet q ∧
      m = .quiet) ∨ (c = .modeBench q ∧ m = .bench)) ∧ s.takes q (modeSpec q m s) ∧ s.ana.mode ≠ m) ∧
    (∃ (s : State) (q : Hdr) (c : Instr) (m : Mode), ((c = .modeRun q ∧ m = .run) ∨ (c = .modeSafe q ∧ m = .safe) ∨ (c = .modeQuiet q ∧
      m = .quiet) ∨ (c = .modeBench q ∧ m = .bench)) ∧ s.takes q (modeSpec q m s) ∧ s.ana.mode = m) ∧
    (∃ (s : State) (q : Hdr) (c : Instr) (m : Mode), ((c = .modeRun q ∧ m = .run) ∨ (c = .modeSafe q ∧ m = .safe) ∨ (c = .modeQuiet q ∧
      m = .quiet) ∨ (c = .modeBench q ∧ m = .bench)) ∧ s.takes q (modeRestartSpec q s)) :=
  ⟨⟨mk, q5, .modeSafe q5, .safe, by
      simp only [State.takes, State.hears, State.idsOk]; decide⟩,
   ⟨mk, q5, .modeRun q5, .run, by
      simp only [State.takes, State.hears, State.idsOk]; decide⟩,
   ⟨mk, q5, .modeRun q5, .run, by
      simp only [State.takes, State.hears, State.idsOk]; decide⟩⟩

theorem hyps_DriveVerbsComplete_1 :
    (∃ (s : State) (q : Hdr) (o : _) (dest : _) (tilt : _), s.takes q (moveSpec o dest tilt s)) ∧
    (∃ (s : State) (q : Hdr) (o : _), s.takes q (stopSpec (some o) s) ∧ rangeDrives o ≠ [] ∧ halted s = false) ∧
    (∃ (s : State) (q : Hdr) (o : _), s.takes q (stopSpec o s) ∧ halted s = true) ∧
    (∃ (s : State) (q : Hdr), s.takes q (stopSpec none s) ∧ halted s = false ∧ usedDrives s = []) ∧
    (∃ (s : State) (q : Hdr), s.takes q (stopSpec none s) ∧ halted s = false ∧ usedDrives s ≠ []) ∧
    (∃ (s : State) (q : Hdr) (o : _), s.takes q (releaseSpec q o s)) :=
  ⟨⟨conf mk [((drvObj 0, "KIND"), [.word "PAIR"]), ((drvObj 0, "POSMODEL"), [.word "ENDSTOP"])], q5, ⟨.drive, 0, 0, false⟩, .up, none, by
      simp only [State.takes, State.hears, State.idsOk]; decide⟩,
   ⟨conf mk [((drvObj 0, "KIND"), [.word "PAIR"]), ((drvObj 0, "POSMODEL"), [.word "ENDSTOP"])], q5, ⟨.drive, 0, 0, false⟩, by
      simp only [State.takes, State.hears, State.idsOk]; decide⟩,
   ⟨{ mk with ana.mode := .safe }, q5, none, by
      simp only [State.takes, State.hears, State.idsOk]; decide⟩,
   ⟨mk, q5, by
      simp only [State.takes, State.hears, State.idsOk]; decide⟩,
   ⟨conf mk [((drvObj 0, "KIND"), [.word "PAIR"]), ((drvObj 0, "POSMODEL"), [.word "ENDSTOP"])], q5, by
      simp only [State.takes, State.hears, State.idsOk]; decide⟩,
   ⟨{ conf mk [((drvObj 0, "KIND"), [.word "PAIR"]), ((drvObj 0, "POSMODEL"), [.word "ENDSTOP"])] with drv.drives := [(0, { hold := some (1, 9000000000) })] }, q5, some ⟨.drive, 0, 0, false⟩, by
      simp only [State.takes, State.hears, State.idsOk]; decide⟩⟩

theorem hyps_DriveVerbsComplete_2 :
    ∃ (s : State) (q : Hdr) (d : Fin 32), s.takes q (learnSpec d s) :=
  ⟨conf mk [((drvObj 0, "KIND"), [.word "PAIR"]), ((drvObj 0, "POSMODEL"), [.word "ENDSTOP"])], q5, 0, by
      simp only [State.takes, State.hears, State.idsOk]; decide⟩

theorem hyps_WorkVerbsComplete_1 :
    (∃ (s : State) (q : Hdr), s.takes q (calConvertersSpec q s) ∧ calActive s = false) ∧
    (∃ (s : State) (q : Hdr) (ident : _) (len : _) (data : _) (fd : _) (brs : _) (one : _), s.takes q (sendSpec q ident len data fd brs one s) ∧
      s.bus.busOff = false) ∧
    (∃ (s : State) (q : Hdr) (ident : _) (len : _) (data : _) (fd : _) (brs : _) (one : _), s.takes q (sendSpec q ident len data fd brs one s) ∧
      s.bus.busOff = true) ∧
    (∃ (s : State) (q : Hdr) (full : _) (fill : _) (pairs : _), s.takes q (drawSpec q full fill pairs s)) ∧
    (∃ (s : State) (q : Hdr) (seg : Fin 129) (period : _) (a : _) (b : _) (k : Nat), s.takes q (blinkSpec q seg period a b s) ∧ slotOf s seg = none ∧
      freeSlot s = some k) ∧
    (∃ (s : State) (q : Hdr) (seg : Fin 129) (period : _) (a : _) (b : _) (k : Nat) (c : BlinkSt), s.takes q (blinkSpec q seg period a b s) ∧
      slotOf s seg = some (k, c) ∧ c.armed = true) :=
  ⟨⟨{ mk with thm.winPanel := true, thm.winJournal := true, cnv.ref := .ok, bus.joined := true }, q5, by
      simp only [State.takes, State.hears, State.idsOk]; decide⟩,
   ⟨{ mk with thm.winPanel := true, thm.winJournal := true, cnv.ref := .ok, bus.joined := true }, q5, 0x10, 0, [], false, false, false, by
      simp only [State.takes, State.hears, State.idsOk]; decide⟩,
   ⟨{ mk with thm.winPanel := true, thm.winJournal := true, cnv.ref := .ok, bus.joined := true, bus.busOff := true }, q5, 0x10, 0, [], false, false, false, by
      simp only [State.takes, State.hears, State.idsOk]; decide⟩,
   ⟨{ mk with thm.winPanel := true, thm.winJournal := true, cnv.ref := .ok, bus.joined := true }, q5, true, some 0, [], by
      simp only [State.takes, State.hears, State.idsOk]; decide⟩,
   ⟨{ mk with thm.winPanel := true, thm.winJournal := true, cnv.ref := .ok, bus.joined := true }, q5, 1, 1000, 0, 3, 0, by
      simp only [State.takes, State.hears, State.idsOk]; decide⟩,
   ⟨{ mk with thm.winPanel := true, thm.winJournal := true, cnv.ref := .ok, bus.joined := true, lan.slots := [(0, { seg := 1, period := 1000, a := 0, b := 3, armed := true })] }, q5, 1, 1000, 0, 3, 0, { seg := 1, period := 1000, a := 0, b := 3, armed := true }, by
      simp only [State.takes, State.hears, State.idsOk]; decide⟩⟩

theorem hyps_WorkVerbsComplete_2 :
    (∃ (s : State) (q : Hdr) (seg : Fin 129) (period : _) (a : _) (b : _) (k : Nat) (c : BlinkSt), s.takes q (blinkSpec q seg period a b s) ∧
      slotOf s seg = some (k, c) ∧ c.armed = false) ∧
    (∃ (s : State) (q : Hdr) (seg : Fin 129) (k : Nat) (c : BlinkSt), s.takes q (blinkOffSpec q seg s) ∧ slotOf s seg = some (k, c) ∧
      (∀ u ∈ s.lan.upds, u.cmd ≠ some s.vil.nextId)) ∧
    (∃ (s : State) (q : Hdr) (slot : _) (note : _), s.takes q (freezeSpec q slot note s)) ∧
    (∃ (s : State) (q : Hdr) (slot : Fin 4) (sq : _) (data : _), s.takes q (loadSpec q slot sq data s)) ∧
    (∃ (s : State) (q : Hdr) (slot : Fin 4), s.takes q (loadEndSpec q slot s) ∧ ((loadNext s slot).bind fun p => parseSlot p.2) = none) ∧
    (∃ (s : State) (q : Hdr) (r : _), s.takes q (replayStopSpec q s) ∧ s.jrn.rpl = some r) :=
  ⟨⟨{ mk with thm.winPanel := true, thm.winJournal := true, cnv.ref := .ok, bus.joined := true, lan.slots := [(0, { seg := 1, period := 1000, a := 0, b := 3, armed := false })] }, q5, 1, 1000, 0, 3, 0, { seg := 1, period := 1000, a := 0, b := 3, armed := false }, by
      simp only [State.takes, State.hears, State.idsOk]; decide⟩,
   ⟨{ mk with thm.winPanel := true, thm.winJournal := true, cnv.ref := .ok, bus.joined := true, lan.slots := [(0, { seg := 1, period := 1000, a := 0, b := 3, armed := true })] }, q5, 1, 0, { seg := 1, period := 1000, a := 0, b := 3, armed := true }, by
      simp only [State.takes, State.hears, State.idsOk]; decide⟩,
   ⟨{ mk with thm.winPanel := true, thm.winJournal := true, cnv.ref := .ok, bus.joined := true }, q5, none, none, by
      simp only [State.takes, State.hears, State.idsOk]; decide⟩,
   ⟨{ mk with thm.winPanel := true, thm.winJournal := true, cnv.ref := .ok, bus.joined := true, ana.mode := .bench }, q5, 0, 0, [1], by
      simp only [State.takes, State.hears, State.idsOk]; decide⟩,
   ⟨{ mk with thm.winPanel := true, thm.winJournal := true, cnv.ref := .ok, bus.joined := true, ana.mode := .bench, jrn.slots := [(0, .loading 1 [1])] }, q5, 0, by
      simp only [State.takes, State.hears, State.idsOk]; decide⟩,
   ⟨{ mk with ana.mode := .bench, thm.winPanel := true, thm.winJournal := true, cnv.ref := .ok, bus.joined := true, sec.keys := [(1, 1), (2, 1), (3, 1)], jrn.rpl := some { slot := 0, recs := [], epoch := 0, last := 0, cmd := some 7, bench := {}, foreign := false }, vil.outs := [{ id := 7, ses := .link0, tag := some 9, framed := false, shared := false, verb := "WAIT", role := none, epoch := 0, body := "", audits := [], work := .replay }], vil.nextId := 8 }, q5, { slot := 0, recs := [], epoch := 0, last := 0, cmd := some 7, bench := {}, foreign := false }, by
      simp only [State.takes, State.hears, State.idsOk]; decide⟩⟩

theorem hyps_ScanRowsComplete :
    (∃ (s : State) (s' : State) (w : _), s.cnv.win = some w ∧ w.sync = false ∧ w.void = false ∧ sensing s = true ∧
      comesAt s (w.start + 20 * tickMs) = some s') ∧
    (∃ (s : State) (r : _) (l : _), s.cnv.held = r :: l ∧ sensing s = true) ∧
    (∃ (s : State) (s' : State) (r : _) (l : _), s.cnv.held = r :: l ∧ sensing s = true ∧ comesAt s (r.stop + 2 * tickMs) = some s') :=
  ⟨⟨{ dev with cnv.win := some { ch := 0, start := 0, sync := false, crossings := 0, probe := false, unset := false, calib := false, void := false } }, { dev with cnv.win := some { ch := 0, start := 0, sync := false, crossings := 0, probe := false, unset := false, calib := false, void := false } }, { ch := 0, start := 0, sync := false, crossings := 0, probe := false, unset := false, calib := false, void := false }, by
      decide⟩,
   ⟨{ dev with cnv.held := [{ w := { ch := 0, start := 0, sync := false, crossings := 0, probe := false, unset := false, calib := false, void := false }, stop := 0, raw := 0, nosync := true }] }, { w := { ch := 0, start := 0, sync := false, crossings := 0, probe := false, unset := false, calib := false, void := false }, stop := 0, raw := 0, nosync := true }, [], by
      decide⟩,
   ⟨{ dev with cnv.held := [{ w := { ch := 0, start := 0, sync := false, crossings := 0, probe := false, unset := false, calib := false, void := false }, stop := 0, raw := 0, nosync := true }] }, { dev with cnv.held := [{ w := { ch := 0, start := 0, sync := false, crossings := 0, probe := false, unset := false, calib := false, void := false }, stop := 0, raw := 0, nosync := true }] }, { w := { ch := 0, start := 0, sync := false, crossings := 0, probe := false, unset := false, calib := false, void := false }, stop := 0, raw := 0, nosync := true }, [], by
      decide⟩⟩

theorem hyps_ChannelRowsComplete :
    (∃ (s : State), sensing s = true) ∧
    (∃ (s : State) (c : Fin 96) (ma : BitVec 12), chanMode s c = "ODOUT" ∧ (chanSt s c).out ≠ 0 ∧ 130 < ma.toNat) ∧
    (∃ (ma : BitVec 12), ma.toNat ≤ 130) ∧
    (∃ (ma : BitVec 12), 400 < ma.toNat) ∧
    (∃ (ma : BitVec 12), ma.toNat ≤ 400) :=
  ⟨⟨dev, by
      decide⟩,
   ⟨{ dev with cnv.chans := [(3, { out := 1 })], cfg := [((⟨.chan, 3⟩, "MODE"), [.word "ODOUT"])] }, 3, 131, by
      decide⟩,
   ⟨130, by
      decide⟩,
   ⟨401, by
      decide⟩,
   ⟨400, by
      decide⟩⟩

theorem hyps_BurstAndCalibrationRowsComplete_1 :
    (∃ (s : State) (s' : State) (fi : Fin 32), sensing s = true ∧ acqActive s (acqOf s fi) = true ∧ s.cnv.burst = none ∧ s.cnv.fcPend = [] ∧
      32 ≤ acqOf s fi ∧ comesAt s s.cnv.fcOwnFrom = some s') ∧
    (∃ (s : State) (fi : Fin 32), sensing s = true ∧ acqActive s (acqOf s fi) = true ∧ s.cnv.burst = none ∧ s.cnv.fcPend = [] ∧ acqOf s fi < 32 ∧
      s.cnv.phase ≠ 1 ∧ cfgIs s (fiObj (acqOf s fi)) "TRIG" "FREE" = true ∧ s.cnv.fcLast.find? (·.1 = acqOf s fi) = none) ∧
    (∃ (s : State) (fi : Fin 32) (c : Fin 16), sensing s = true ∧ acqActive s (acqOf s fi) = true ∧ s.cnv.burst = none ∧ s.cnv.fcPend = [] ∧
      acqOf s fi < 32 ∧ s.cnv.phase ≠ 1 ∧ s.cnv.fcDue.contains (acqOf s fi) = true ∧ cfgObj s (fiObj (acqOf s fi)) "TRIG" = some ⟨.counter, c.val⟩) ∧
    (∃ (s : State) (s' : State) (b : _) (codes : List Word), s.cnv.burst = some b ∧ sensing s = true ∧ burstFits b codes.length = true ∧
      s.cnv.fcPend = [] ∧ comesAt s (b.start + spanTicks (burstSpan (if b.simul then codes.length / 4 else codes.length) b.simul)) = some s') ∧
    (∃ (s : State), sensing s = true ∧ linkOk s = true) ∧
    (∃ (s : State) (s' : State) (vals : List Int), s.cnv.cal = 2 ∧ sensing s = true ∧ calFits s.cnv.phase vals.length = true ∧
      comesAt? s (phaseDue s) = some s') :=
  ⟨⟨conf dev [((drvObj 0, "KIND"), [.word "DC"]), ((drvObj 0, "OUTPUT"), [.obj ⟨.port, 0⟩])], conf dev [((drvObj 0, "KIND"), [.word "DC"]), ((drvObj 0, "OUTPUT"), [.obj ⟨.port, 0⟩])], 0, by
      decide⟩,
   ⟨conf dev [((fiObj 4, "ACQ"), [.word "SINGLE"]), ((fiObj 4, "TRIG"), [.word "FREE"])], 4, by
      decide⟩,
   ⟨{ dev with cnv.fcDue := [4], cfg := [((fiObj 4, "ACQ"), [.word "SINGLE"]), ((fiObj 4, "TRIG"), [.obj ⟨.counter, 2⟩])] }, 4, 2, by
      decide⟩,
   ⟨{ dev with cnv.burst := some { fi := 0, owned := false, simul := false, unset := false, n := 2, start := 0 } }, { dev with cnv.burst := some { fi := 0, owned := false, simul := false, unset := false, n := 2, start := 0 } }, { fi := 0, owned := false, simul := false, unset := false, n := 2, start := 0 }, [1, 2], by
      decide⟩,
   ⟨dev, by
      decide⟩,
   ⟨{ dev with cnv.cal := 2, cnv.phase := 2 }, { dev with cnv.cal := 2, cnv.phase := 2 }, [0, 0, 0, 0, 0, 0, 0, 0, 0], by
      decide⟩⟩

theorem hyps_BurstAndCalibrationRowsComplete_2 :
    (∃ (s : State), sensing s = true ∧ (s.cnv.ref = .ok ∨ s.cnv.ref = .settling)) ∧
    (∃ (s : State), sensing s = true ∧ s.cnv.ref = .fault) :=
  ⟨⟨{ dev with cnv.ref := .settling }, by
      decide⟩,
   ⟨{ dev with cnv.ref := .fault }, by
      decide⟩⟩

theorem hyps_CellsAccumulateOrDiscard :
    (∃ (s : State) (t : State) (k : Fin 160) (w : XWord) (e : BitVec 4) (f : WFlags), sensing s = true ∧ cellEnabled s k = true ∧
      exec (.churnWord k w e f) s = .next t ∧ f.unset = true) ∧
    (∃ (s : State) (t : State) (k : Fin 160) (w : XWord) (e : BitVec 4) (f : WFlags), sensing s = true ∧ cellEnabled s k = true ∧
      exec (.churnWord k w e f) s = .next t ∧ f.unset = false ∧ f.out = true) ∧
    (∃ (s : State) (t : State) (k : Fin 160) (w : XWord) (e : BitVec 4) (f : WFlags), sensing s = true ∧ cellEnabled s k = true ∧
      exec (.churnWord k w e f) s = .next t ∧ f.unset = false ∧ f.out = false ∧ f.sat = false ∧ (cellOf s k).count < maxCount ∧ 96 ≤ k.val ∧
      cellExt s k = false) ∧
    (∃ (s : State) (t : State) (k : Fin 160) (w : XWord) (e : BitVec 4) (f : WFlags) (n : _), sensing s = true ∧ cellEnabled s k = true ∧
      exec (.churnWord k w e f) s = .next t ∧ n ≠ k.val) :=
  ⟨⟨dev, execNext (.churnWord 130 5 0 { mark := false, unset := true, sat := false, nosync := false, out := false, trip := false }) dev, 130, 5, 0, { mark := false, unset := true, sat := false, nosync := false, out := false, trip := false }, by
      and_intros <;> first | rfl | decide⟩,
   ⟨dev, execNext (.churnWord 130 5 0 { mark := false, unset := false, sat := false, nosync := false, out := true, trip := false }) dev, 130, 5, 0, { mark := false, unset := false, sat := false, nosync := false, out := true, trip := false }, by
      and_intros <;> first | rfl | decide⟩,
   ⟨dev, execNext (.churnWord 130 5 0 { mark := false, unset := false, sat := false, nosync := false, out := false, trip := false }) dev, 130, 5, 0, { mark := false, unset := false, sat := false, nosync := false, out := false, trip := false }, by
      and_intros <;> first | rfl | decide⟩,
   ⟨dev, execNext (.churnWord 130 5 0 { mark := false, unset := false, sat := false, nosync := false, out := false, trip := false }) dev, 130, 5, 0, { mark := false, unset := false, sat := false, nosync := false, out := false, trip := false }, 131, by
      and_intros <;> first | rfl | decide⟩⟩

theorem hyps_ChurnRowsComplete :
    (∃ (s : State) (k : Fin 160) (f : WFlags), sensing s = true ∧ cellEnabled s k = true ∧ f.unset = true) ∧
    (∃ (s : State) (k : Fin 160) (f : WFlags), sensing s = true ∧ cellEnabled s k = true ∧ f.unset = false ∧ f.out = false ∧ f.sat = false ∧
      (cellOf s k).count < maxCount) ∧
    (∃ (s : State), sensing s = true) ∧
    (∃ (s : State), sensing s = true) ∧
    (∃ (s : State), coreRuns s = true) :=
  ⟨⟨dev, 130, { mark := false, unset := true, sat := false, nosync := false, out := false, trip := false }, by
      decide⟩,
   ⟨dev, 130, { mark := false, unset := false, sat := false, nosync := false, out := false, trip := false }, by
      decide⟩,
   ⟨dev, by
      decide⟩,
   ⟨dev, by
      decide⟩,
   ⟨dev, by
      decide⟩⟩

theorem hyps_CounterRowsComplete_1 :
    (∃ (s : State), counting s = true) ∧
    (∃ (s : State) (n : Fin 16) (u : State), counting s = true ∧ ctSource s n ≠ "OFF" ∧ isCascade s n = false ∧ ctNoInput s n = false ∧
      clkEvent (edgeBegins s) n = some u) ∧
    (∃ (s : State) (n : Fin 16), clkEvent (edgeBegins s) n = none) ∧
    (∃ (s : State) (n : Fin 16), counting s = true ∧ (ctSt s n).acts ≠ []) ∧
    (∃ (s : State) (n : Fin 16), counting s = true ∧ isCascade s n = false ∧ capsEdges s n = true ∧ ctFrozen s n = false ∧ capInput s n = true) ∧
    (∃ (s : State) (a : Nat) (m : Nat) (e : CtCap) (l : _) (v : BitVec 16), counting s = true ∧ nearTick s = false ∧ outFree s = true ∧
      nextCapture s = some (a, m) ∧ (ctSt s m).queue = e :: l ∧ e.vals = [v]) :=
  ⟨⟨dev, by
      decide⟩,
   ⟨{ conf dev [((⟨.counter, 2⟩, "SOURCE"), [.word "TICK"])] with cnt.cts := [(2, { running := true, phase := some 7999999999 })] }, 2, (clkEvent (edgeBegins { conf dev [((⟨.counter, 2⟩, "SOURCE"), [.word "TICK"])] with cnt.cts := [(2, { running := true, phase := some 7999999999 })] }) 2).get (by decide +kernel), by
      and_intros <;> first | exact (Option.some_get _).symm | exact Option.isNone_iff_eq_none.mp (by decide +kernel) | decide⟩,
   ⟨conf dev [((⟨.counter, 2⟩, "SOURCE"), [.word "TICK"])], 2, by
      exact Option.isNone_iff_eq_none.mp (by decide +kernel)⟩,
   ⟨{ dev with cnt.cts := [(2, { acts := [.reset] })] }, 2, by
      decide⟩,
   ⟨conf dev [((⟨.counter, 2⟩, "CAPMODE"), [.word "QUEUED"]), ((⟨.counter, 2⟩, "CAPCHAN"), [.obj ⟨.chan, 3⟩]), ((⟨.chan, 3⟩, "MODE"), [.word "PULSE"])], 2, by
      decide⟩,
   ⟨{ dev with cnt.cts := [(2, { queue := [{ vals := [7], kind := 0, tick := 0, overwr := 0, makeup := false, frozen := false }] })] }, 0, 2, { vals := [7], kind := 0, tick := 0, overwr := 0, makeup := false, frozen := false }, [], 7, by
      decide⟩⟩

theorem hyps_CounterRowsComplete_2 :
    (∃ (s : State) (n : Fin 16), counting s = true ∧ epochEdge s = true ∧ sampleDue s n = true) ∧
    (∃ (s : State) (n : Fin 16), counting s = true ∧ epochEdge s = true ∧ (ctSt s n).filt ≠ none) ∧
    (∃ (s : State) (n : Fin 16), (ctSt s n).filt = none ∧ sampleDue s n = true) ∧
    (∃ (s : State) (n : Fin 16) (e : CtCap) (v : BitVec 16), (ctSt s n).filt = some e ∧ e.vals = [v]) ∧
    (∃ (s : State) (n : Fin 16) (v : BitVec 16) (a : Nat) (k : Nat), coreRuns s = true ∧ ctSleeping s = false ∧ (ctSt s n).writes = [⟨.cmp v, a, k⟩] ∧
      a ≤ s.now) ∧
    (∃ (s : State), coreRuns s = true ∧ ctSleeping s = false) :=
  ⟨⟨conf dev [((⟨.counter, 2⟩, "CAPMODE"), [.word "SAMPLE"]), ((⟨.counter, 2⟩, "SAMPLE"), [.num 1000000000])], 2, by
      decide⟩,
   ⟨{ dev with cnt.cts := [(2, { filt := some { vals := [7], kind := 0, tick := 0, overwr := 0, makeup := false, frozen := false } })] }, 2, by
      decide⟩,
   ⟨conf dev [((⟨.counter, 2⟩, "CAPMODE"), [.word "SAMPLE"]), ((⟨.counter, 2⟩, "SAMPLE"), [.num 1000000000])], 2, by
      decide⟩,
   ⟨{ dev with cnt.cts := [(2, { filt := some { vals := [7], kind := 0, tick := 0, overwr := 0, makeup := false, frozen := false } })] }, 2, { vals := [7], kind := 0, tick := 0, overwr := 0, makeup := false, frozen := false }, 7, by
      decide⟩,
   ⟨{ dev with cnt.cts := [(2, { writes := [⟨.cmp 9, 0, 1⟩] })] }, 2, 9, 0, 1, by
      decide⟩,
   ⟨dev, by
      decide⟩⟩

theorem hyps_CounterRowsComplete_3 :
    (∃ (s : State) (n : Fin 16), coreRuns s = true ∧ ctOwner s n = none) ∧
    (∃ (s : State), coreRuns s = true) :=
  ⟨⟨dev, 2, by
      decide⟩,
   ⟨dev, by
      decide⟩⟩

theorem hyps_CountersWrapAndCountOverflows :
    (∃ (s : State) (n : Nat), (ctSt s n).count = 0xFFFF) ∧
    (∃ (s : State) (n : Nat), (ctSt s n).count ≠ 0xFFFF) ∧
    (∃ (n : Nat) (m : _), m ≠ n) :=
  ⟨⟨{ dev with cnt.cts := [(2, { count := 0xFFFF })] }, 2, by
      decide⟩,
   ⟨dev, 2, by
      decide⟩,
   ⟨1, 2, by
      decide⟩⟩

theorem hyps_ZeroCrossingClosesCommandedFeedsAlone :
    ∃ (s : State) (t : State) (raw : BitVec 20) (f : Nat), exec (.zeroCrossing raw) s = .next t ∧ t.feedClosed f ∧ ¬s.feedClosed f :=
  ⟨{ dev with drv.configured := true, drv.feeds := [(2, { closeCmd := some 0 })], pwr.nomKind := .learned }, execNext (.zeroCrossing 0) { dev with drv.configured := true, drv.feeds := [(2, { closeCmd := some 0 })], pwr.nomKind := .learned }, 0, 2, by
      and_intros <;> first | (intro _ h; cases h) | rfl | (simp only [State.feedClosed]; decide) | decide⟩

theorem hyps_FeedRowsComplete_1 :
    (∃ (s : State) (f : Fin 8) (a : Nat), (∀ g : Nat, g ≠ f.val → (feedOf s g).closeCmd = none) ∧ (feedOf s f).closeCmd = some a ∧ a + 400 ≤ s.now ∧
      (feedOf s f).closed = false ∧
      feedHeld { s with pwr := { s.pwr with lastCross := some s.now }, drv := { s.drv with cross2 := s.drv.cross1, cross1 := some s.now } } f = false) ∧
    (∃ (s : State), s.drv.configured = true ∧ untestedLine s = false) ∧
    (∃ (s : State) (f : Fin 8) (a : Nat), (feedOf s f).openCmd = some a) ∧
    (∃ (s : State) (s' : State) (f : Fin 8) (a : Nat), (feedOf s f).openCmd = some a ∧ comesAt s (a + 11 * tickMs) = some s') ∧
    (∃ (s : State) (f : Fin 8) (ma : Nat), (feedOf s f).closed = true ∧ 100 * (feedOf s f).lim < ma ∧ (feedOf s f).trip = false) ∧
    (∃ (s : State) (f : Fin 8) (ma : Nat), ma ≤ 100 * (feedOf s f).lim) :=
  ⟨⟨{ dev with drv.configured := true, drv.feeds := [(2, { closeCmd := some 0 })], pwr.nomKind := .learned }, 2, 0, by
      and_intros
      · intro g h
        have : ((2 : Nat) = g) = False := by simp only [eq_iff_iff, iff_false]; exact fun e => h e.symm
        simp [feedOf, tget, this]
      all_goals decide⟩,
   ⟨{ dev with drv.configured := true, drv.feeds := [(2, {  })] }, by
      decide⟩,
   ⟨{ dev with drv.configured := true, drv.feeds := [(2, { openCmd := some 0 })] }, 2, 0, by
      decide⟩,
   ⟨{ dev with drv.configured := true, drv.feeds := [(2, { openCmd := some 0 })] }, { dev with drv.configured := true, drv.feeds := [(2, { openCmd := some 0 })] }, 2, 0, by
      decide⟩,
   ⟨{ dev with drv.configured := true, drv.feeds := [(2, { closed := true })] }, 2, 5001, by
      decide⟩,
   ⟨dev, 0, 5000, by
      decide⟩⟩

theorem hyps_FeedRowsComplete_2 :
    (∃ (v : Word), 10 ≤ v.toNat % 128 ∧ v.toNat % 128 ≤ 80) ∧
    (∃ (v : Word), (v.toNat % 128 < 10 ∨ 80 < v.toNat % 128)) ∧
    (∃ (s : State) (s' : State) (f : Fin 8), comesAt? s (latchDue s (.feed f)) = some s') :=
  ⟨⟨10, by
      decide⟩,
   ⟨9, by
      decide⟩,
   ⟨{ dev with drv.configured := true, drv.feeds := [(2, { trip := true, tripAt := [0] })], cfg := [((drvObj 0, "KIND"), [.word "PAIR"]), ((drvObj 0, "OUTPUT"), [.obj ⟨.feed, 2⟩, .obj ⟨.feed, 3⟩])] }, { dev with drv.configured := true, drv.feeds := [(2, { trip := true, tripAt := [0] })], cfg := [((drvObj 0, "KIND"), [.word "PAIR"]), ((drvObj 0, "OUTPUT"), [.obj ⟨.feed, 2⟩, .obj ⟨.feed, 3⟩])] }, 2, by
      decide⟩⟩

theorem hyps_PortRowsComplete_1 :
    (∃ (s : State) (s' : State) (p : Fin 4) (a : Nat), (portOf_ s p).rampEnd = some a ∧ comesAt s a = some s') ∧
    (∃ (s : State) (p : Fin 4) (mv : Int), (portOf_ s p).lim < mv.natAbs ∧ (portOf_ s p).trip = false) ∧
    (∃ (s : State) (p : Fin 4) (mv : Int), mv.natAbs ≤ (portOf_ s p).lim) ∧
    (∃ (v : Word), 20 ≤ v.toNat % 256 ∧ v.toNat % 256 ≤ 250) ∧
    (∃ (s : State) (s' : State) (p : Fin 4), comesAt? s (latchDue s (.port p)) = some s') ∧
    (∃ (s : State) (s' : State) (p : Fin 4) (a : Nat), (portOf_ s p).deadUntil = some a ∧ (portOf_ s p).pend = none ∧ comesAt s a = some s') :=
  ⟨⟨{ dev with drv.ports := [(1, { rampEnd := some 0 })] }, { dev with drv.ports := [(1, { rampEnd := some 0 })] }, 1, 0, by
      decide⟩,
   ⟨dev, 1, -201, by
      decide⟩,
   ⟨dev, 1, 200, by
      decide⟩,
   ⟨20, by
      decide⟩,
   ⟨{ dev with drv.ports := [(1, { trip := true, tripAt := [0] })], cfg := [((drvObj 0, "KIND"), [.word "DC"]), ((drvObj 0, "OUTPUT"), [.obj ⟨.port, 1⟩])] }, { dev with drv.ports := [(1, { trip := true, tripAt := [0] })], cfg := [((drvObj 0, "KIND"), [.word "DC"]), ((drvObj 0, "OUTPUT"), [.obj ⟨.port, 1⟩])] }, 1, by
      decide⟩,
   ⟨{ dev with drv.ports := [(1, { deadUntil := some 0 })] }, { dev with drv.ports := [(1, { deadUntil := some 0 })] }, 1, 0, by
      decide⟩⟩

theorem hyps_PortRowsComplete_2 :
    (∃ (s : State) (s' : State) (q : Fin 4), comesAt? s (pairFirst s q) = some s') ∧
    (∃ (s : State) (p : Fin 4), portDrive s p = none) ∧
    (∃ (s : State) (p : Fin 4) (ea : Bool) (eb : Bool) (d : Nat) (n : Int), portDrive s p = some d ∧ headLeg s d = none ∧
      edgeStep (cfgIs s (drvObj d) "ENCTYPE" "PULSE") (portOf_ s p) ea eb = some n) :=
  ⟨⟨{ dev with drv.dead := [(2, some 0)] }, { dev with drv.dead := [(2, some 0)] }, 1, by
      decide⟩,
   ⟨dev, 1, by
      decide⟩,
   ⟨conf dev [((drvObj 0, "KIND"), [.word "DC"]), ((drvObj 0, "OUTPUT"), [.obj ⟨.port, 1⟩])], 1, true, false, 0, 1, by
      decide⟩⟩

theorem hyps_BarrierRowsComplete :
    (∃ (s : State), coreRuns s = true ∧ s.pwr.linkUp = true) ∧
    (∃ (s : State) (s' : State), s.drv.configured = true ∧ comesAt s (s.drv.lastHb + 5 * tickMs) = some s') ∧
    (∃ (s : State) (s' : State), coreRuns s = true ∧ s.pwr.linkUp = true ∧ s.drv.lost = false ∧ comesAt s (s.drv.lastWord + 5 * tickMs) = some s') ∧
    (∃ (s : State) (s' : State) (a : Nat), coreRuns s = true ∧ s.drv.lost = true ∧ s.drv.backSince = some a ∧ comesAt s (a + 100 * tickMs) = some s') :=
  ⟨⟨dev, by
      decide⟩,
   ⟨{ dev with drv.configured := true }, { dev with drv.configured := true }, by
      decide⟩,
   ⟨dev, dev, by
      decide⟩,
   ⟨{ dev with drv.lost := true, drv.backSince := some 0 }, { dev with drv.lost := true, drv.backSince := some 0 }, 0, by
      decide⟩⟩

theorem hyps_TravelRowsComplete_1 :
    (∃ (s : State) (s' : State) (d : Fin 32) (l : Leg), coreRuns s = true ∧ headLeg s d = some l ∧
      (endModel s d && isEnd l.target && l.tilt.isNone) = false ∧ (encModel s d && l.tilt.isNone) = false ∧ posModel s d ≠ "NONE" ∧
      (drOf s d).learnRun = 0 ∧ comesAt s (epochCeil s (modelEnds s d l)) = some s') ∧
    (∃ (s : State) (s' : State) (d : Fin 32) (l : Leg) (a : Nat), coreRuns s = true ∧ endModel s d = true ∧ headLeg s d = some l ∧
      (drOf s d).lowSince = some a ∧ (drOf s d).learnRun = 0 ∧ comesAt s (a + 200 * tickMs) = some s' ∧
      posGap (posNow s' d).1 (if (drOf s d).dir then 10000 else 0) ≤ 100 * cfgPct s' (drvObj d) "ENDWIN") ∧
    (∃ (s : State) (s' : State) (d : Fin 32) (l : Leg) (a : Nat), coreRuns s = true ∧ endModel s d = true ∧ headLeg s d = some l ∧
      (drOf s d).lowSince = some a ∧ (drOf s d).learnRun = 0 ∧ comesAt s (a + 200 * tickMs) = some s' ∧
      ¬posGap (posNow s' d).1 (if (drOf s d).dir then 10000 else 0) ≤ 100 * cfgPct s' (drvObj d) "ENDWIN") ∧
    (∃ (s : State) (s' : State) (d : Fin 32) (l : Leg), coreRuns s = true ∧ endModel s d = true ∧ (drOf s d).learnRun = 0 ∧ headLeg s d = some l ∧
      isEnd l.target = true ∧ l.tilt = none ∧ comesAt s (epochCeil s (modelEnds s d l)) = some s') ∧
    (∃ (s : State) (s' : State) (d : Fin 32), coreRuns s = true ∧ (drOf s d).learnRun ≠ 0 ∧ (drOf s d).running = true ∧
      comesAt s (epochCeil s ((drOf s d).t0 + 600000 * tickMs)) = some s') ∧
    (∃ (s : State) (s' : State) (d : Fin 32) (l : Leg), coreRuns s = true ∧ driveKind s d = "DC" ∧ encModel s d = true ∧ headLeg s d = some l ∧
      comesAt s (epochCeil s (max (drOf s d).lastCount ((drOf s d).t0 + cfgTicks s (drvObj d) "RAMP") + 300 * tickMs)) = some s') :=
  ⟨⟨{ dev with drv.drives := [(0, { running := true, phase := .moving, dir := true, legs := [{ target := 5000, dir := true }] })], cfg := [((drvObj 0, "KIND"), [.word "PAIR"]), ((drvObj 0, "OUTPUT"), [.obj ⟨.feed, 2⟩, .obj ⟨.feed, 3⟩])] }, { dev with drv.drives := [(0, { running := true, phase := .moving, dir := true, legs := [{ target := 5000, dir := true }] })], cfg := [((drvObj 0, "KIND"), [.word "PAIR"]), ((drvObj 0, "OUTPUT"), [.obj ⟨.feed, 2⟩, .obj ⟨.feed, 3⟩])] }, 0, { target := 5000, dir := true }, by
      decide⟩,
   ⟨{ dev with drv.drives := [(0, { running := true, phase := .moving, dir := true, legs := [{ target := 10000, dir := true }], lowSince := some 0, pos := 10000, pos0 := 10000 })], cfg := [((drvObj 0, "KIND"), [.word "PAIR"]), ((drvObj 0, "OUTPUT"), [.obj ⟨.feed, 2⟩, .obj ⟨.feed, 3⟩]), ((drvObj 0, "POSMODEL"), [.word "ENDSTOP"])] }, { dev with drv.drives := [(0, { running := true, phase := .moving, dir := true, legs := [{ target := 10000, dir := true }], lowSince := some 0, pos := 10000, pos0 := 10000 })], cfg := [((drvObj 0, "KIND"), [.word "PAIR"]), ((drvObj 0, "OUTPUT"), [.obj ⟨.feed, 2⟩, .obj ⟨.feed, 3⟩]), ((drvObj 0, "POSMODEL"), [.word "ENDSTOP"])] }, 0, { target := 10000, dir := true }, 0, by
      decide⟩,
   ⟨{ dev with drv.drives := [(0, { running := true, phase := .moving, dir := true, legs := [{ target := 10000, dir := true }], lowSince := some 0, t0 := 8000000000 })], cfg := [((drvObj 0, "KIND"), [.word "PAIR"]), ((drvObj 0, "OUTPUT"), [.obj ⟨.feed, 2⟩, .obj ⟨.feed, 3⟩]), ((drvObj 0, "POSMODEL"), [.word "ENDSTOP"])] }, { dev with drv.drives := [(0, { running := true, phase := .moving, dir := true, legs := [{ target := 10000, dir := true }], lowSince := some 0, t0 := 8000000000 })], cfg := [((drvObj 0, "KIND"), [.word "PAIR"]), ((drvObj 0, "OUTPUT"), [.obj ⟨.feed, 2⟩, .obj ⟨.feed, 3⟩]), ((drvObj 0, "POSMODEL"), [.word "ENDSTOP"])] }, 0, { target := 10000, dir := true }, 0, by
      decide⟩,
   ⟨{ dev with drv.drives := [(0, { running := true, phase := .moving, dir := true, legs := [{ target := 10000, dir := true }] })], cfg := [((drvObj 0, "KIND"), [.word "PAIR"]), ((drvObj 0, "OUTPUT"), [.obj ⟨.feed, 2⟩, .obj ⟨.feed, 3⟩]), ((drvObj 0, "POSMODEL"), [.word "ENDSTOP"])] }, { dev with drv.drives := [(0, { running := true, phase := .moving, dir := true, legs := [{ target := 10000, dir := true }] })], cfg := [((drvObj 0, "KIND"), [.word "PAIR"]), ((drvObj 0, "OUTPUT"), [.obj ⟨.feed, 2⟩, .obj ⟨.feed, 3⟩]), ((drvObj 0, "POSMODEL"), [.word "ENDSTOP"])] }, 0, { target := 10000, dir := true }, by
      decide⟩,
   ⟨{ dev with drv.drives := [(0, { running := true, learnRun := 1 })] }, { dev with drv.drives := [(0, { running := true, learnRun := 1 })] }, 0, by
      decide⟩,
   ⟨{ dev with drv.drives := [(0, { running := true, phase := .moving, dir := true, legs := [{ target := 10000, dir := true }] })], cfg := [((drvObj 0, "KIND"), [.word "DC"]), ((drvObj 0, "OUTPUT"), [.obj ⟨.port, 1⟩]), ((drvObj 0, "POSMODEL"), [.word "ENCODER"])] }, { dev with drv.drives := [(0, { running := true, phase := .moving, dir := true, legs := [{ target := 10000, dir := true }] })], cfg := [((drvObj 0, "KIND"), [.word "DC"]), ((drvObj 0, "OUTPUT"), [.obj ⟨.port, 1⟩]), ((drvObj 0, "POSMODEL"), [.word "ENCODER"])] }, 0, { target := 10000, dir := true }, by
      decide⟩⟩

theorem hyps_TravelRowsComplete_2 :
    (∃ (s : State) (s' : State) (d : Fin 32) (l : Leg), coreRuns s = true ∧ (driveKind s d = "PAIR" ∨ (driveKind s d = "DC" ∧ portMeas s d ≠ [])) ∧
      modelOnly s = false ∧ headLeg s d = some l ∧ comesAt s (epochCeil s ((drOf s d).evalAt + 10 * tickMs)) = some s') ∧
    (∃ (s : State), coreRuns s = true ∧ modeIs s [.quiet, .start, .off] = false ∧ modelOnly s = false ∧ sagKnown s = true) ∧
    (∃ (s : State) (s' : State) (q : Prot) (a : Nat), (protSt s (protIdx q)).state = 0 ∧ s.ana.mode ≠ .quiet ∧ (protSt s (protIdx q)).onSince = some a ∧
      comesAt s (a + cfgTicks s (protObj (protIdx q)) "ONDLY") = some s') ∧
    (∃ (s : State) (s' : State) (q : Prot) (a : Nat), (protSt s (protIdx q)).state = 1 ∧ s.ana.mode ≠ .quiet ∧ (protSt s (protIdx q)).offSince = some a ∧
      comesAt s (a + cfgTicks s (protObj (protIdx q)) "OFFDLY") = some s') ∧
    (∃ (s : State) (s' : State) (d : Fin 32) (r : Nat) (a : Nat), coreRuns s = true ∧ (drOf s d).hold = some (r, a) ∧ comesAt s a = some s') :=
  ⟨⟨{ dev with drv.drives := [(0, { running := true, phase := .moving, dir := true, legs := [{ target := 10000, dir := true }] })], cfg := [((drvObj 0, "KIND"), [.word "PAIR"]), ((drvObj 0, "OUTPUT"), [.obj ⟨.feed, 2⟩, .obj ⟨.feed, 3⟩]), ((drvObj 0, "POSMODEL"), [.word "ENDSTOP"])] }, { dev with drv.drives := [(0, { running := true, phase := .moving, dir := true, legs := [{ target := 10000, dir := true }] })], cfg := [((drvObj 0, "KIND"), [.word "PAIR"]), ((drvObj 0, "OUTPUT"), [.obj ⟨.feed, 2⟩, .obj ⟨.feed, 3⟩]), ((drvObj 0, "POSMODEL"), [.word "ENDSTOP"])] }, 0, { target := 10000, dir := true }, by
      decide⟩,
   ⟨{ dev with drv.sagRun := some 0, drv.sagTo := 8000000 }, by
      decide⟩,
   ⟨{ dev with drv.prots := [(0, { onSince := some 0 })] }, { dev with drv.prots := [(0, { onSince := some 0 })] }, .wind, 0, by
      decide⟩,
   ⟨{ dev with drv.prots := [(0, { state := 1, offSince := some 0 })] }, { dev with drv.prots := [(0, { state := 1, offSince := some 0 })] }, .wind, 0, by
      decide⟩,
   ⟨{ dev with drv.drives := [(0, { hold := some (1, 7) })] }, { dev with drv.drives := [(0, { hold := some (1, 7) })] }, 0, 1, 7, by
      decide⟩⟩

theorem hyps_ThermalRowsComplete_1 :
    (∃ (s : State) (s' : State), comesAt s (s.thm.stepAt + stepTicks) = some s') ∧
    (∃ (s : State) (s' : State), coreRuns s = true ∧ s.ana.mode ≠ .quiet ∧ s.pwr.linkUp = true ∧ s.drv.lost = false ∧
      comesAt s (s.thm.ambAt + 100 * tickMs) = some s') ∧
    (∃ (s : State) (s' : State), s.ana.mode ≠ .quiet ∧ comesAt s (s.thm.ambAt + 1000 * tickMs) = some s') ∧
    (∃ (s : State) (s' : State) (m : Fin 12) (a : Nat), coreRuns s = true ∧ s.thm.force.getLsbD m = true ∧ (therOf s m).closedSince = some a ∧
      comesAt s (a + 10000 * tickMs) = some s') ∧
    (∃ (s : State) (s' : State), coreRuns s = true ∧ comesAt s (s.thm.recAt + 60000 * tickMs) = some s') ∧
    (∃ (s : State) (m : Fin 13) (v : Word) (mask : Word), thrOk m (thrWritten s m v mask) = true ∧ m.val ≠ 12) :=
  ⟨⟨dev, dev, by
      decide⟩,
   ⟨dev, dev, by
      decide⟩,
   ⟨dev, dev, by
      decide⟩,
   ⟨{ dev with thm.force := 1, thm.models := [(0, { closedSince := some 0 })] }, { dev with thm.force := 1, thm.models := [(0, { closedSince := some 0 })] }, (0 : Fin 12), 0, by
      decide⟩,
   ⟨dev, dev, by
      decide⟩,
   ⟨dev, (3 : Fin 13), 0x785A3C, 0xFFFFFF, by
      decide⟩⟩

theorem hyps_ThermalRowsComplete_2 :
    (∃ (s : State) (v : Word) (mask : Word), thrOk 12 (thrWritten s 12 v mask) = true) ∧
    (∃ (s : State) (m : Fin 13) (v : Word) (mask : Word), thrOk m (thrWritten s m v mask) = false) :=
  ⟨⟨dev, 0x785A3C, 0xFFFFFF, by
      decide⟩,
   ⟨dev, (3 : Fin 13), 0, 0xFFFFFF, by
      decide⟩⟩

theorem hyps_ClimateRowsComplete :
    (∃ (s : State) (l : Fin 96), loopsCompute s = true ∧ loopKind s l ≠ "OFF" ∧ 0 < s.epoch ∧ (s.epoch - 1) % loopPeriod s l = 0 ∧
      (loopSt s l).released ≠ some s.epoch ∧ loopStarts s l = true) ∧
    (∃ (s : State) (l : Fin 96) (r : LoopRes), loopsCompute s = true ∧ modeIs s [.replay] = false ∧ (loopSt s l).pend = some r ∧ r.epoch ≤ s.epoch) ∧
    (∃ (s : State) (s' : State) (l : Fin 96), loopsCompute s = true ∧ comesAt? s (runonDue s l) = some s') ∧
    (∃ (s : State) (s' : State) (z : Fin 24) (a : Nat), coreRuns s = true ∧ (zoneSt s z).occUntil = some a ∧ comesAt s a = some s') ∧
    (∃ (s : State) (s' : State) (z : Fin 24) (a : Nat), coreRuns s = true ∧ (zoneSt s z).ovrEnd = some a ∧ comesAt s a = some s') ∧
    (∃ (s : State) (n : Fin 16), climRuns s = true ∧ schedFires s n = true) :=
  ⟨⟨{ dev with epoch := 1020001, cnv.calFirst := true, cfg := [((loopObj 3, "KIND"), [.word "SHADE"])] }, 3, by
      decide⟩,
   ⟨{ dev with clm.loops := [(3, { pend := some { epoch := 0, core := {}, outs := [], ran := false } })] }, 3, { epoch := 0, core := {}, outs := [], ran := false }, by
      decide⟩,
   ⟨{ dev with clm.loops := [(3, { fan := true, closedAt := some 0 })] }, { dev with clm.loops := [(3, { fan := true, closedAt := some 0 })] }, 3, by
      decide⟩,
   ⟨{ dev with clm.zones := [(3, { occUntil := some 7 })] }, { dev with clm.zones := [(3, { occUntil := some 7 })] }, 3, 7, by
      decide⟩,
   ⟨{ dev with clm.zones := [(3, { ovrEnd := some 7 })] }, { dev with clm.zones := [(3, { ovrEnd := some 7 })] }, 3, 7, by
      decide⟩,
   ⟨{ dev with tim.quality := 1, clm.scheds := [(3, { suspended := false })] }, 3, by
      decide⟩⟩

theorem hyps_ControllerRowsComplete_1 :
    (∃ (s : State) (f : CanFrame), busHears s = true ∧ (f.fdf = false ∨ cfgOn s busObj "FD" = true) ∧ f.remote = true) ∧
    (∃ (s : State) (f : CanFrame) (n : Nat), busHears s = true ∧ (f.fdf = false ∨ cfgOn s busObj "FD" = true) ∧ f.remote = false ∧ s.ana.mode ≠ .quiet ∧
      (List.range 48).find? (filterMatches s f) = some n ∧ (filterOf s n).2.2.2 = 1 ∧ s.bus.qA.length < 16) ∧
    (∃ (s : State) (f : CanFrame) (n : Nat), busHears s = true ∧ (f.fdf = false ∨ cfgOn s busObj "FD" = true) ∧ f.remote = false ∧ s.ana.mode ≠ .quiet ∧
      (List.range 48).find? (filterMatches s f) = some n ∧ (filterOf s n).2.2.2 = 2 ∧ s.bus.qB.length < 48) ∧
    (∃ (s : State) (q : QFrame) (l : _), s.bus.qB = q :: l ∧ coreRuns s = true ∧ s.ana.mode ≠ .quiet ∧ s.bus.passB < 8 ∧ bufFull s 192 = false) ∧
    (∃ (s : State) (q : QFrame) (l : _), s.bus.qA = q :: l ∧ coreRuns s = true ∧ s.ana.mode ≠ .quiet ∧ s.bus.passA < 4 ∧ bufFull s 191 = false) ∧
    (∃ (s : State) (bf : Fin 48), coreRuns s = true ∧ s.ana.workersReset = none ∧ modeIs s [.off, .quiet, .replay] = false ∧ filterOwned s bf = false ∧
      filterNotify s bf = true) :=
  ⟨⟨{ dev with bus.joined := true }, { ident := 0, ext := true, fdf := false, brs := false, esi := false, remote := true, data := [], sof := 0, sub := 0 }, by
      decide⟩,
   ⟨{ dev with bus.joined := true, cfg := [((busObj, "NODE"), [.num 5000000000])] }, { ident := 0x814000, ext := true, fdf := false, brs := false, esi := false, remote := false, data := [], sof := 0, sub := 0 }, 0, by
      decide⟩,
   ⟨{ dev with bus.joined := true, cfg := [((busObj, "NODE"), [.num 5000000000])] }, { ident := 0x214000, ext := true, fdf := false, brs := false, esi := false, remote := false, data := [], sof := 0, sub := 0 }, 3, by
      decide⟩,
   ⟨{ dev with bus.qB := [⟨{ ident := 0x214000, ext := true, fdf := false, brs := false, esi := false, remote := false, data := [], sof := 0, sub := 0 }, 3, 0⟩] }, ⟨{ ident := 0x214000, ext := true, fdf := false, brs := false, esi := false, remote := false, data := [], sof := 0, sub := 0 }, 3, 0⟩, [], by
      decide⟩,
   ⟨{ dev with bus.qA := [⟨{ ident := 0x214000, ext := true, fdf := false, brs := false, esi := false, remote := false, data := [], sof := 0, sub := 0 }, 3, 0⟩] }, ⟨{ ident := 0x214000, ext := true, fdf := false, brs := false, esi := false, remote := false, data := [], sof := 0, sub := 0 }, 3, 0⟩, [], by
      decide⟩,
   ⟨conf dev [((filterObj 9, "NOTIFY"), [.word "on"])], 9, by
      decide⟩⟩

theorem hyps_ControllerRowsComplete_2 :
    (∃ (s : State) (bf : Fin 48), coreRuns s = true ∧ s.ana.workersReset = none ∧ modeIs s [.off, .quiet, .replay] = false ∧ filterOwned s bf = false ∧
      filterNotify s bf = false) ∧
    (∃ (s : State) (tb : Fin 8) (b : TxBuf) (sof : Nat), tbOf s tb = some b ∧ txOffered s tb b sof = true) ∧
    (∃ (s : State) (tb : Fin 8) (b : TxBuf) (sof : Nat) (r : TxRes), tbOf s tb = some b ∧ txOffered s tb b sof = true ∧ (r = .lost ∨ r = .error)) ∧
    (∃ (s : State) (tec : Nat), busHears s = true ∧ tec < 256) ∧
    (∃ (s : State) (tec : Nat), busHears s = true ∧ 256 ≤ tec) ∧
    (∃ (s : State) (s' : State), s.bus.busOff = true ∧ s.bus.recovering = false ∧ s.bus.latch = false ∧ coreRuns s = true ∧
      comesAt s (s.bus.offAt + cfgTicks s busObj "BOFFDLY") = some s') :=
  ⟨⟨dev, 9, by
      decide⟩,
   ⟨{ dev with bus.tbs := [(3, { f := { ident := 0, data := [] }, what := .profile })] }, 3, { f := { ident := 0, data := [] }, what := .profile }, 0, by
      decide⟩,
   ⟨{ dev with bus.tbs := [(3, { f := { ident := 0, data := [] }, what := .profile })] }, 3, { f := { ident := 0, data := [] }, what := .profile }, 0, .lost, by
      decide⟩,
   ⟨{ dev with bus.joined := true }, 255, by
      decide⟩,
   ⟨{ dev with bus.joined := true }, 256, by
      decide⟩,
   ⟨{ dev with bus.busOff := true }, { dev with bus.busOff := true }, by
      decide⟩⟩

theorem hyps_ControllerRowsComplete_3 :
    (∃ (s : State), s.bus.busOff = true ∧ s.bus.recovering = true ∧ coreRuns s = true) ∧
    (∃ (s : State), s.bus.joining = true ∧ s.bus.asleep = false ∧ coreRuns s = true ∧ s.pwr.committed = false) ∧
    (∃ (s : State), s.ana.mode = .quiet ∧ s.bus.asleep = false ∧ s.bus.sleepBy.isSome = true) ∧
    (∃ (s : State), s.bus.asleep = true ∧ s.ana.mode = .quiet ∧ cfgWord s busObj "WAKEMODE" = "PATTERN") ∧
    (∃ (s : State), s.bus.asleep = true ∧ s.ana.mode = .quiet ∧ cfgWord s busObj "WAKEMODE" = "FRAME") ∧
    (∃ (s : State), s.bus.asleep = true ∧ s.ana.mode = .quiet ∧ cfgWord s busObj "WAKEMODE" = "FRAME") :=
  ⟨⟨{ dev with bus.busOff := true, bus.recovering := true }, by
      decide⟩,
   ⟨{ dev with bus.joining := true }, by
      decide⟩,
   ⟨{ dev with ana.mode := .quiet, bus.sleepBy := some 0 }, by
      decide⟩,
   ⟨{ dev with ana.mode := .quiet, bus.asleep := true, cfg := [((busObj, "WAKEMODE"), [.word "PATTERN"])] }, by
      decide⟩,
   ⟨{ dev with ana.mode := .quiet, bus.asleep := true, cfg := [((busObj, "WAKEMODE"), [.word "FRAME"])] }, by
      decide⟩,
   ⟨{ dev with ana.mode := .quiet, bus.asleep := true, cfg := [((busObj, "WAKEMODE"), [.word "FRAME"])] }, by
      decide⟩⟩

theorem hyps_ProfileRowsComplete_1 :
    (∃ (s : State) (s' : State) (v : _) (a : Nat), cfgNano s busObj "HBINT" = some v ∧ nodeAddr s ≠ 0 ∧ busSends s = true ∧ s.bus.conflict = false ∧
      coreRuns s = true ∧ s.ana.workersReset = none ∧ s.bus.hbDue = some a ∧ comesAt s a = some s') ∧
    (∃ (s : State) (src : Fin 64), busTakes s = true ∧ src.val = nodeAddr s) ∧
    (∃ (s : State) (src : Fin 64), src.val ≠ nodeAddr s) ∧
    (∃ (s : State) (p : Fin 32) (v : _), pointValue s p = some v ∧ busTakes s = true ∧ busSends s = true ∧ s.bus.conflict = false ∧
      s.now = epochTick s s.epoch ∧ pointDue s p v = true) ∧
    (∃ (s : State) (i : Byte) (p : Nat), busTakes s = true ∧
      (List.range 32).find? (fun p => cfgNat s (pointObj p) "INDEX" = i.toNat && (cfgObj s (pointObj p) "SOURCE").isSome) = some p) ∧
    (∃ (s : State) (src : Fin 64) (c : Nat), busTakes s = true ∧ cfgOn s busObj "LISTEN" = false ∧ cfgOn s busObj "TUNNEL" = true ∧
      s.bus.conflict = false ∧ s.bus.tuns.find? (·.2.node = src.val) = none ∧ (List.range 4).find? (fun c => (tunOf s c).isNone) = some c) :=
  ⟨⟨{ dev with bus.joined := true, bus.hbDue := some 0, cfg := [((busObj, "NODE"), [.num 5000000000]), ((busObj, "HBINT"), [.num 1000000000])] }, { dev with bus.joined := true, bus.hbDue := some 0, cfg := [((busObj, "NODE"), [.num 5000000000]), ((busObj, "HBINT"), [.num 1000000000])] }, 1000000000, 0, by
      decide⟩,
   ⟨{ dev with bus.joined := true, cfg := [((busObj, "NODE"), [.num 5000000000])] }, 5, by
      decide⟩,
   ⟨dev, 5, by
      decide⟩,
   ⟨{ dev with bus.joined := true, cfg := [((busObj, "NODE"), [.num 5000000000]), ((pointObj 3, "SOURCE"), [.obj (drvObj 0)])] }, 3, (0, 8), by
      decide⟩,
   ⟨{ dev with bus.joined := true, cfg := [((busObj, "NODE"), [.num 5000000000]), ((pointObj 3, "SOURCE"), [.obj (drvObj 0)]), ((pointObj 3, "INDEX"), [.num 7000000000])] }, 7, 3, by
      decide⟩,
   ⟨{ dev with bus.joined := true, cfg := [((busObj, "NODE"), [.num 5000000000]), ((busObj, "TUNNEL"), [.word "on"])] }, 9, 0, by
      decide⟩⟩

theorem hyps_ProfileRowsComplete_2 :
    (∃ (s : State) (ses : Fin 4) (src : Fin 64) (b : List Byte) (u : Tun), busTakes s = true ∧ b ≠ [] ∧ b.length ≤ 63 ∧ tunFor s ses src = some u ∧
      s.now = epochTick s s.epoch) ∧
    (∃ (s : State) (ses : Fin 4) (src : Fin 64) (sq : Fin 64) (b : List Byte) (u : Tun), busTakes s = true ∧ b ≠ [] ∧ b.length ≤ 63 ∧
      tunFor s ses src = some u ∧ s.now ≠ epochTick s s.epoch ∧ (sq.val ≠ u.inSeq ∨ rxFree s (tunSess ses) < b.length)) ∧
    (∃ (s : State) (ses : Fin 4) (src : Fin 64) (sq : Fin 64) (b : List Byte) (u : Tun), busTakes s = true ∧ b ≠ [] ∧ b.length ≤ 63 ∧
      tunFor s ses src = some u ∧ s.now ≠ epochTick s s.epoch ∧ sq.val = u.inSeq ∧ b.length ≤ rxFree s (tunSess ses)) ∧
    (∃ (s : State) (ses : Fin 4) (src : Fin 64) (next : Fin 64) (u : Tun) (l : _), busTakes s = true ∧ tunFor s ses src = some u ∧
      ackLeaves next u.unacked = some l) ∧
    (∃ (s : State) (s' : State) (ses : Fin 4) (u : Tun), tunOf s ses = some u ∧ u.unacked ≠ [] ∧ busTakes s = true ∧ s.bus.busOff = false ∧ u.resends < 5 ∧
      comesAt s (u.sentAt + 100 * tickMs) = some s') ∧
    (∃ (s : State) (s' : State) (ses : Fin 4) (u : Tun), tunOf s ses = some u ∧ u.unacked ≠ [] ∧ busTakes s = true ∧ s.bus.busOff = false ∧ 5 ≤ u.resends ∧
      comesAt s (u.sentAt + 100 * tickMs) = some s') :=
  ⟨⟨{ dev with bus.joined := true, bus.tuns := [(1, { node := 9 })], cfg := [((busObj, "NODE"), [.num 5000000000])] }, 1, 9, [65], { node := 9 }, by
      decide⟩,
   ⟨{ dev with bus.joined := true, bus.tuns := [(1, { node := 9 })], now := 8000000001, cfg := [((busObj, "NODE"), [.num 5000000000])] }, 1, 9, 5, [65], { node := 9 }, by
      decide⟩,
   ⟨{ dev with bus.joined := true, bus.tuns := [(1, { node := 9 })], now := 8000000001, cfg := [((busObj, "NODE"), [.num 5000000000])] }, 1, 9, 0, [65], { node := 9 }, by
      decide⟩,
   ⟨{ dev with bus.joined := true, bus.tuns := [(1, { node := 9, unacked := [{ sq := 3, bytes := [65] }] })], cfg := [((busObj, "NODE"), [.num 5000000000])] }, 1, 9, 4, { node := 9, unacked := [{ sq := 3, bytes := [65] }] }, [], by
      decide⟩,
   ⟨{ dev with bus.joined := true, bus.tuns := [(1, { node := 9, unacked := [{ sq := 3, bytes := [65] }] })], cfg := [((busObj, "NODE"), [.num 5000000000])] }, { dev with bus.joined := true, bus.tuns := [(1, { node := 9, unacked := [{ sq := 3, bytes := [65] }] })], cfg := [((busObj, "NODE"), [.num 5000000000])] }, 1, { node := 9, unacked := [{ sq := 3, bytes := [65] }] }, by
      decide⟩,
   ⟨{ dev with bus.joined := true, bus.tuns := [(1, { node := 9, unacked := [{ sq := 3, bytes := [65] }], resends := 5 })], cfg := [((busObj, "NODE"), [.num 5000000000])] }, { dev with bus.joined := true, bus.tuns := [(1, { node := 9, unacked := [{ sq := 3, bytes := [65] }], resends := 5 })], cfg := [((busObj, "NODE"), [.num 5000000000])] }, 1, { node := 9, unacked := [{ sq := 3, bytes := [65] }], resends := 5 }, by
      decide⟩⟩

theorem hyps_ProfileRowsComplete_3 :
    (∃ (s : State) (ses : Fin 4) (src : Fin 64) (u : Tun), busTakes s = true ∧ tunFor s ses src = some u) ∧
    (∃ (s : State) (s' : State) (ses : Fin 4) (u : Tun), tunOf s ses = some u ∧ busTakes s = true ∧ s.bus.busOff = false ∧
      comesAt s (u.heardAt + cfgTicks s busObj "TUNIDLE") = some s') ∧
    (∃ (s : State), busTakes s = true ∧ (cfgOn s busObj "SEAL" = false ∨ cfgOn s busObj "LISTEN" = true)) ∧
    (∃ (s : State) (id : BitVec 29) (d : List Byte), let n (k : Nat) : Nat := (d.getD k 0).toNat; let src := id.toNat / 256 % 64; let counter := natBE ((d.drop 4).take 4); busTakes s = true ∧
      cfgOn s busObj "SEAL" = true ∧ cfgOn s busObj "LISTEN" = false ∧ id.toNat / 1048576 % 64 = 0x10 ∧ id.toNat / 16384 % 64 = nodeAddr s ∧
      d.length = 16 ∧ sealMacOk s id d = true ∧ tget 0 s.bus.seals src < counter ∧ (cfgObjs s busObj "SEALDRIVES").contains (drvObj (n 0)) = true ∧
      sealValues s (n 0) (n 1) (n 2) (n 3) = true) :=
  ⟨⟨{ dev with bus.joined := true, bus.tuns := [(1, { node := 9 })], cfg := [((busObj, "NODE"), [.num 5000000000])] }, 1, 9, { node := 9 }, by
      decide⟩,
   ⟨{ dev with bus.joined := true, bus.tuns := [(1, { node := 9 })], cfg := [((busObj, "NODE"), [.num 5000000000])] }, { dev with bus.joined := true, bus.tuns := [(1, { node := 9 })], cfg := [((busObj, "NODE"), [.num 5000000000])] }, 1, { node := 9 }, by
      decide⟩,
   ⟨{ dev with bus.joined := true, cfg := [((busObj, "NODE"), [.num 5000000000])] }, by
      decide⟩,
   ⟨{ dev with bus.joined := true, cfg := [((busObj, "NODE"), [.num 5000000000]), ((busObj, "SEAL"), [.word "on"]), ((busObj, "SEALKEY"), [.code 0, .code 0, .code 0, .code 0]), ((busObj, "SEALDRIVES"), [.obj (drvObj 0)]), ((drvObj 0, "KIND"), [.word "PAIR"])] }, 16861440, [0, 1, 0, 0xFF, 0, 0, 0, 1, 145, 236, 121, 45, 227, 32, 112, 197], by
      decide +kernel⟩⟩

theorem hyps_SealedOrdersNeverRepeat :
    ∃ (s : State) (t : State) (id : BitVec 29) (d : List Byte) (src : Nat) (counter : Nat), src = id.toNat / 256 % 64 ∧
      counter = natBE ((d.drop 4).take 4) ∧ exec (.sealedOrder id true d) s = .next t ∧ t.bus.sealNo ≠ s.bus.sealNo :=
  ⟨{ dev with bus.joined := true, cfg := [((busObj, "NODE"), [.num 5000000000]), ((busObj, "SEAL"), [.word "on"]), ((busObj, "SEALKEY"), [.code 0, .code 0, .code 0, .code 0]), ((busObj, "SEALDRIVES"), [.obj (drvObj 0)]), ((drvObj 0, "KIND"), [.word "PAIR"])] }, execNext (.sealedOrder 16861440 true [0, 1, 0, 0xFF, 0, 0, 0, 1, 145, 236, 121, 45, 227, 32, 112, 197]) { dev with bus.joined := true, cfg := [((busObj, "NODE"), [.num 5000000000]), ((busObj, "SEAL"), [.word "on"]), ((busObj, "SEALKEY"), [.code 0, .code 0, .code 0, .code 0]), ((busObj, "SEALDRIVES"), [.obj (drvObj 0)]), ((drvObj 0, "KIND"), [.word "PAIR"])] }, 16861440, [0, 1, 0, 0xFF, 0, 0, 0, 1, 145, 236, 121, 45, 227, 32, 112, 197], 9, 1, by
      refine ⟨rfl, rfl, rfl, ?_⟩; decide +kernel⟩

theorem hyps_TimeExchangeRowsComplete :
    (∃ (s : State) (s' : State), s.tim.isMaster = true ∧ coreRuns s = true ∧ comesAt? s (s.tim.refDue.map (tickOf s)) = some s') ∧
    (∃ (s : State) (data : List Byte), timeHears s = true ∧ timerefOk data = true) ∧
    (∃ (s : State) (data : List Byte), timeHears s = true ∧ timerefOk data = false) ∧
    (∃ (s : State) (src : Fin 64) (data : List Byte) (r : TimeRef), timeHears s = true ∧ timefupOk data = true ∧
      s.tim.refs.find? (fun r => r.src = src.val && r.sq = byteAt data 0 % 16 && s.now ≤ r.at_ + 100 * tickMs) = some r) ∧
    (∃ (s : State) (src : Fin 64) (data : List Byte), timeHears s = true ∧
      (timefupOk data = false ∨ s.tim.refs.find? (fun r => r.src = src.val && r.sq = byteAt data 0 % 16 && s.now ≤ r.at_ + 100 * tickMs) = none)) ∧
    (∃ (s : State) (m : TimeSmp) (l : _), s.tim.samples = m :: l ∧ coreRuns s = true ∧ m.at_ < epochTick s s.epoch) :=
  ⟨⟨{ dev with tim.isMaster := true, tim.refDue := some 0 }, { dev with tim.isMaster := true, tim.refDue := some 0 }, by
      decide⟩,
   ⟨{ dev with bus.joined := true, cfg := [((busObj, "NODE"), [.num 5000000000])] }, [1, 0, 0, 1, 0, 0, 0, 0], by
      decide⟩,
   ⟨{ dev with bus.joined := true, cfg := [((busObj, "NODE"), [.num 5000000000])] }, [], by
      decide⟩,
   ⟨{ dev with bus.joined := true, tim.refs := [{ src := 9, sq := 1, at_ := 8000000000, sof := 0, net := 0 }], cfg := [((busObj, "NODE"), [.num 5000000000])] }, 9, [1, 0, 0, 0, 0, 0, 0, 0], { src := 9, sq := 1, at_ := 8000000000, sof := 0, net := 0 }, by
      decide⟩,
   ⟨{ dev with bus.joined := true, cfg := [((busObj, "NODE"), [.num 5000000000])] }, 9, [], by
      decide⟩,
   ⟨{ dev with tim.samples := [{ src := 9, theta := 0, unc := 0, refint := 4, at_ := 0 }] }, { src := 9, theta := 0, unc := 0, refint := 4, at_ := 0 }, [], by
      decide⟩⟩

theorem hyps_TimeElectionRowsComplete :
    (∃ (s : State) (s' : State), isCandidate s = true ∧ coreRuns s = true ∧ comesAt? s (claimAt s) = some s') ∧
    (∃ (s : State) (s' : State) (n : Nat) (c : TimeCand), s.tim.follow = some n ∧ s.tim.cands.find? (·.node = n) = some c ∧
      comesAt s (c.at_ + 3 * refintTicks c.refint) = some s') ∧
    (∃ (s : State) (s' : State), s.tim.bus = true ∧ coreRuns s = true ∧ comesAt? s (s.tim.acted.map (· + 5 * refintTicks s.tim.actedRef)) = some s') ∧
    (∃ (s : State) (s' : State), s.tim.quality = 2 ∧ coreRuns s = true ∧ comesAt s (tickOf s (s.tim.anchor + holdLim s)) = some s') :=
  ⟨⟨{ dev with bus.joined := true, tim.quality := 1, tim.candSince := some 0, cfg := [((busObj, "NODE"), [.num 5000000000])] }, { dev with bus.joined := true, tim.quality := 1, tim.candSince := some 0, cfg := [((busObj, "NODE"), [.num 5000000000])] }, by
      decide⟩,
   ⟨{ dev with tim.follow := some 9, tim.cands := [{ node := 9, master := true, prio := 0, refint := 4, qual := 3, unc := 0, at_ := 0 }] }, { dev with tim.follow := some 9, tim.cands := [{ node := 9, master := true, prio := 0, refint := 4, qual := 3, unc := 0, at_ := 0 }] }, 9, { node := 9, master := true, prio := 0, refint := 4, qual := 3, unc := 0, at_ := 0 }, by
      decide⟩,
   ⟨{ dev with tim.bus := true, tim.acted := some 0 }, { dev with tim.bus := true, tim.acted := some 0 }, by
      decide⟩,
   ⟨{ dev with tim.quality := 2, tim.anchor := -80000000000000 }, { dev with tim.quality := 2, tim.anchor := -80000000000000 }, by
      decide⟩⟩

theorem hyps_ClockRowsComplete :
    (∃ (s : State) (s' : State), comesAt? s s.tim.slewEnd = some s') ∧
    (∃ (s : State) (s' : State) (p : StepPend), coreRuns s = true ∧ s.tim.step = some p ∧ comesAt s (tickOf s (p.label * netSec)) = some s') ∧
    (∃ (s : State) (s' : State) (n : Int), coreRuns s = true ∧ s.pwr.committed = false ∧ s.tim.pulseDue = some n ∧
      comesAt s (tickOf s (n * netSec)) = some s') ∧
    (∃ (s : State) (s' : State), comesAt? s (s.tim.pulseEnd.map (tickOf s)) = some s') ∧
    (∃ (s : State) (s' : State), coreRuns s = true ∧ s.tim.quality ≠ 0 ∧ s.pwr.pilot = .normal ∧ xFailing s 196 = false ∧
      comesAt? s (s.tim.rtcDue.map (tickOf s)) = some s') :=
  ⟨⟨{ dev with tim.slewEnd := some 0 }, { dev with tim.slewEnd := some 0 }, by
      decide⟩,
   ⟨{ dev with tim.step := some { theta := 0, label := 0, anchor := 0 } }, { dev with tim.step := some { theta := 0, label := 0, anchor := 0 } }, { theta := 0, label := 0, anchor := 0 }, by
      and_intros <;> first | rfl | decide⟩,
   ⟨{ dev with tim.pulseDue := some 0 }, { dev with tim.pulseDue := some 0 }, 0, by
      decide⟩,
   ⟨{ dev with tim.pulseEnd := some 0 }, { dev with tim.pulseEnd := some 0 }, by
      decide⟩,
   ⟨{ dev with tim.quality := 1, pwr.pilot := .normal, tim.rtcDue := some 0 }, { dev with tim.quality := 1, pwr.pilot := .normal, tim.rtcDue := some 0 }, by
      decide⟩⟩

theorem hyps_LanternRowsComplete_1 :
    (∃ (s : State) (j : LanJob), s.lan.job = some j ∧ j.frameEnd = none ∧ s.now ≤ j.pumpAt + 2 * tickMs ∧ j.test = true) ∧
    (∃ (s : State) (j : LanJob), s.lan.job = some j ∧ j.frameEnd = none ∧ s.now ≤ j.pumpAt + 2 * tickMs ∧ j.test = false ∧ j.total ≠ 0) ∧
    (∃ (s : State) (s' : State) (j : LanJob), s.lan.job = some j ∧ j.frameEnd = none ∧ comesAt s (j.pumpAt + 2 * tickMs) = some s') ∧
    (∃ (s : State) (s' : State) (j : LanJob), s.lan.job = some j ∧ comesAt? s j.frameEnd = some s' ∧ s.pwr.committed = true) ∧
    (∃ (s : State) (s' : State) (j : LanJob), s.lan.job = some j ∧ comesAt? s j.frameEnd = some s' ∧ s.pwr.committed = false ∧ j.frame + 1 < j.total ∧
      s.lan.abort = none) ∧
    (∃ (s : State) (s' : State) (j : LanJob) (c : _), s.lan.job = some j ∧ comesAt? s j.frameEnd = some s' ∧ s.pwr.committed = false ∧
      j.frame + 1 < j.total ∧ s.lan.abort = some c) :=
  ⟨⟨{ dev with lan.job := some { pumpAt := 8000000000, test := true } }, { pumpAt := 8000000000, test := true }, by
      decide⟩,
   ⟨{ dev with lan.job := some { pumpAt := 8000000000, total := 2 } }, { pumpAt := 8000000000, total := 2 }, by
      decide⟩,
   ⟨{ dev with lan.job := some { pumpAt := 0 } }, { dev with lan.job := some { pumpAt := 0 } }, { pumpAt := 0 }, by
      decide⟩,
   ⟨{ dev with lan.job := some { pumpAt := 0, frameEnd := some 0, total := 2 }, pwr.committed := true }, { dev with lan.job := some { pumpAt := 0, frameEnd := some 0, total := 2 }, pwr.committed := true }, { pumpAt := 0, frameEnd := some 0, total := 2 }, by
      decide⟩,
   ⟨{ dev with lan.job := some { pumpAt := 0, frameEnd := some 0, total := 2 } }, { dev with lan.job := some { pumpAt := 0, frameEnd := some 0, total := 2 } }, { pumpAt := 0, frameEnd := some 0, total := 2 }, by
      decide⟩,
   ⟨{ dev with lan.job := some { pumpAt := 0, frameEnd := some 0, total := 2 }, lan.abort := some 1 }, { dev with lan.job := some { pumpAt := 0, frameEnd := some 0, total := 2 }, lan.abort := some 1 }, { pumpAt := 0, frameEnd := some 0, total := 2 }, 1, by
      decide⟩⟩

theorem hyps_LanternRowsComplete_2 :
    (∃ (s : State) (s' : State) (j : LanJob), s.lan.job = some j ∧ comesAt? s j.frameEnd = some s' ∧ s.pwr.committed = false ∧ j.total ≤ j.frame + 1) ∧
    (∃ (s : State) (j : LanJob), s.lan.job = some j ∧ j.frameEnd.isSome = true ∧ j.test = false) ∧
    (∃ (s : State) (s' : State), s.lan.recov = true ∧ s.lan.marks = [] ∧ s.lan.xfail = false ∧ s.lan.job = none ∧ coreRuns s = true ∧
      comesAt s (epochCeil s s.lan.recUntil) = some s' ∧ s.lan.pumpCause = true) ∧
    (∃ (s : State) (s' : State), s.lan.recov = true ∧ s.lan.marks = [] ∧ s.lan.xfail = false ∧ s.lan.job = none ∧ coreRuns s = true ∧
      comesAt s (epochCeil s s.lan.recUntil) = some s' ∧ s.lan.pumpCause = false) ∧
    (∃ (s : State) (s' : State) (c : _) (id : Nat), s.lan.cut = some c ∧ s.lan.recov = true ∧ c.slot = none ∧ c.cmd = some id ∧
      comesAt s (epochCeil s (s.lan.abortAt + 10000 * tickMs)) = some s') ∧
    (∃ (s : State) (s' : State) (k : Fin 8) (p : Nat × BlinkSt) (a : Nat), s.lan.slots.find? (·.1 = k.val) = some p ∧ p.2.next = some a ∧
      p.2.armed = true ∧ lanModeOk s = true ∧ coreRuns s = true ∧ comesAt s a = some s') :=
  ⟨⟨{ dev with lan.job := some { pumpAt := 0, frameEnd := some 0, total := 1 } }, { dev with lan.job := some { pumpAt := 0, frameEnd := some 0, total := 1 } }, { pumpAt := 0, frameEnd := some 0, total := 1 }, by
      decide⟩,
   ⟨{ dev with lan.job := some { pumpAt := 0, frameEnd := some 0, total := 2 } }, { pumpAt := 0, frameEnd := some 0, total := 2 }, by
      decide⟩,
   ⟨{ dev with lan.recov := true, lan.pumpCause := true }, { dev with lan.recov := true, lan.pumpCause := true }, by
      decide⟩,
   ⟨{ dev with lan.recov := true }, { dev with lan.recov := true }, by
      decide⟩,
   ⟨{ dev with lan.cut := some { cmd := some 3, frames := 0, slot := none }, lan.recov := true }, { dev with lan.cut := some { cmd := some 3, frames := 0, slot := none }, lan.recov := true }, { cmd := some 3, frames := 0, slot := none }, 3, by
      decide⟩,
   ⟨{ dev with lan.slots := [(2, { seg := 1, period := 1000, a := 0, b := 3, armed := true, next := some 0 })] }, { dev with lan.slots := [(2, { seg := 1, period := 1000, a := 0, b := 3, armed := true, next := some 0 })] }, 2, (2, { seg := 1, period := 1000, a := 0, b := 3, armed := true, next := some 0 }), 0, by
      decide⟩⟩

theorem hyps_LanternRowsComplete_3 :
    ∃ (s : State) (s' : State), coreRuns s = true ∧ s.ana.mode ≠ .quiet ∧ comesAt s (s.lan.postAt + 50 * tickMs) = some s' :=
  ⟨dev, dev, by
      decide⟩

theorem hyps_JournalAndTestRowsComplete_1 :
    (∃ (s : State), s.now = epochTick s s.epoch ∧ anchorDue s = true) ∧
    (∃ (s : State) (f : Frz) (l : _) (r : _), coreRuns s = true ∧ s.jrn.frz = f :: l ∧ frzDue s f = true ∧
      leaveReq s .freeze .routine 100 f.cmd = some r) ∧
    (∃ (s : State) (f : Frz) (l : _) (n : Nat) (i : SlotImg), s.jrn.frz = f :: l ∧ f.phase = 2 ∧ f.boundary < s.epoch ∧ coreRuns s = true ∧
      jrnHolds s = false ∧ s.jrn.holding = false ∧ (if f.auto then autoSlot s else f.slot.or (lowestEmpty s)) = some n ∧ slotImage s f = some i) ∧
    (∃ (s : State) (f : Frz) (l : _) (n : Nat) (i : SlotImg), s.jrn.frz = f :: l ∧ f.slot = some n ∧ f.img = some i ∧ f.phase = 3 ∧ coreRuns s = true) ∧
    (∃ (s : State) (s' : State), coreRuns s = true ∧ s.ana.mode ≠ .quiet ∧ comesAt s (s.jrn.postAt + 100 * tickMs) = some s') ∧
    (∃ (s : State) (s' : State) (r : _), s.tst.run = some r ∧ r.waits = false ∧ r.done = none ∧ coreRuns s = true ∧ s.ana.mode = .bist ∧
      comesAt s (r.stageAt + stageMs r.stage * tickMs) = some s' ∧ r.stage ≠ 2 ∧ r.stage < 7) :=
  ⟨⟨{ dev with epoch := 3600000, now := 28800000000 }, by
      decide⟩,
   ⟨{ dev with jrn.frz := [{ trig := 1, auto := false, boundary := 0, trigEpoch := 0 }] }, { trig := 1, auto := false, boundary := 0, trigEpoch := 0 }, [], (leaveReq dev .freeze .routine 100 none).get (by decide), by
      decide⟩,
   ⟨{ dev with thm.winJournal := true, jrn.frz := [{ trig := 1, auto := false, boundary := 0, trigEpoch := 0, phase := 2 }], jrn.anchors := [{ no := 1, epoch := 0, cause := 0, cfgNo := 0, off := some 0, image := {} }] }, { trig := 1, auto := false, boundary := 0, trigEpoch := 0, phase := 2 }, [], 0, (slotImage { dev with thm.winJournal := true, jrn.frz := [{ trig := 1, auto := false, boundary := 0, trigEpoch := 0, phase := 2 }], jrn.anchors := [{ no := 1, epoch := 0, cause := 0, cfgNo := 0, off := some 0, image := {} }] } { trig := 1, auto := false, boundary := 0, trigEpoch := 0, phase := 2 }).get (by decide +kernel), by
      and_intros <;> first | exact (Option.some_get _).symm | decide⟩,
   ⟨{ dev with jrn.frz := [{ trig := 1, auto := false, boundary := 0, trigEpoch := 0, slot := some 2, phase := 3, img := some { trig := 1, first := 0, last := 0, trigEpoch := 0, boot := [], worlds := 0, regions := 0, bytes := 0, recs := [] } }] }, { trig := 1, auto := false, boundary := 0, trigEpoch := 0, slot := some 2, phase := 3, img := some { trig := 1, first := 0, last := 0, trigEpoch := 0, boot := [], worlds := 0, regions := 0, bytes := 0, recs := [] } }, [], 2, { trig := 1, first := 0, last := 0, trigEpoch := 0, boot := [], worlds := 0, regions := 0, bytes := 0, recs := [] }, by
      decide⟩,
   ⟨dev, dev, by
      decide⟩,
   ⟨{ dev with ana.mode := .bist, tst.run := some { prev := .run, startAt := 0, stageAt := 0, stage := 1 } }, { dev with ana.mode := .bist, tst.run := some { prev := .run, startAt := 0, stageAt := 0, stage := 1 } }, { prev := .run, startAt := 0, stageAt := 0, stage := 1 }, by
      decide⟩⟩

theorem hyps_JournalAndTestRowsComplete_2 :
    (∃ (s : State) (s' : State) (r : _), s.tst.run = some r ∧ r.waits = false ∧ r.done = none ∧ coreRuns s = true ∧ s.ana.mode = .bist ∧
      comesAt s (r.stageAt + stageMs r.stage * tickMs) = some s' ∧ r.stage ≠ 2 ∧ r.stage = 7 ∧ (s.tst.armed = false ∨ r.rows = [])) ∧
    (∃ (s : State) (s' : State), coreRuns s = true ∧ s.ana.mode ≠ .quiet ∧ comesAt s (s.tst.postAt + 100 * tickMs) = some s') :=
  ⟨⟨{ dev with ana.mode := .bist, tst.run := some { prev := .run, startAt := 0, stageAt := 0, stage := 7 } }, { dev with ana.mode := .bist, tst.run := some { prev := .run, startAt := 0, stageAt := 0, stage := 7 } }, { prev := .run, startAt := 0, stageAt := 0, stage := 7 }, by
      decide⟩,
   ⟨dev, dev, by
      decide⟩⟩

theorem hyps_EveryStepKeepsTheNumberingOfCommands :
    ∃ (s : State) (t : State), s.idsOk ∧ step s = .next t :=
  ⟨dev, { dev with now := 8000000001 }, by
      exact ⟨by simp only [State.idsOk]; decide, rfl⟩⟩

theorem hyps_FilterHistoryHoldsArrivals :
    (∃ (s : State) (t : State) (x : Fin 240) (v : _) (p : _), exec (.guardedArrival x v p) s = .next t) ∧
    (∃ (s : State) (t : State) (x : Fin 240), exec (.silenceExpiry x) s = .next t) :=
  ⟨⟨{ State.reset with ana.mode := .quiet }, { State.reset with ana.mode := .quiet }, 175, 0, none, by
      and_intros <;> first | rfl | decide⟩,
   ⟨{ State.reset with ana.mode := .quiet }, { State.reset with ana.mode := .quiet }, 175, by
      and_intros <;> first | rfl | decide⟩⟩

theorem hyps_QualificationRestarts :
    ∃ (s : State) (c : Instr), s.pwr.mainGood = false ∧ (c = .mainLost ∨ c = .mainGoodQualification false) :=
  ⟨{ State.reset with pwr.mainGood := false }, .mainLost, by
      exact ⟨rfl, .inl rfl⟩⟩

theorem hyps_LineDieInterlocksThePair :
    (∃ (s : State) (t : State) (raw : BitVec 20) (f : Fin 8), paired s f = true ∧ exec (.zeroCrossing raw) s = .next t ∧ (¬(s.feedClosed f ∧
      s.feedClosed (partner f)))) ∧
    (∃ (s : State) (t : State) (raw : BitVec 20) (f : Fin 8), paired s f = true ∧ exec (.zeroCrossing raw) s = .next t ∧
      (s.feedClosed (partner f) ∨ pairDeadNow s f = true)) ∧
    (∃ (s : State) (t : State) (raw : BitVec 20) (f : Fin 8) (a : Nat), paired s f = true ∧ exec (.zeroCrossing raw) s = .next t ∧
      (feedOf s f).closeCmd = some a ∧ a + 400 ≤ s.now ∧ (feedOf s (partner f)).closeCmd = none ∧ ¬s.feedClosed (partner f) ∧ pairDeadNow s f = false ∧
      s.drv.configured = true ∧ untestedLine s = false ∧ s.pwr.nomKind ≠ .none ∧ (feedOf s f).trip = false ∧ (feedOf s (partner f)).trip = false ∧
      outHot s f = false ∧ s.pwr.hold = false ∧ s.pwr.committed = false) ∧
    (∃ (s : State) (t : State) (raw : BitVec 20) (f : Fin 8) (u : _) (g : Fin 8), paired s f = true ∧ exec (.zeroCrossing raw) s = .next t ∧
      exec (.feedOpen g) s = .next u ∧ s.feedClosed g ∧ (feedOf s g).openCmd.isSome = true ∧ g.val = partner f) :=
  ⟨⟨{ dev with drv.configured := true, pwr.nomKind := .learned, cfg := [((drvObj 0, "KIND"), [.word "PAIR"]), ((drvObj 0, "OUTPUT"), [.obj ⟨.feed, 2⟩, .obj ⟨.feed, 3⟩])] }, execNext (.zeroCrossing 0) { dev with drv.configured := true, pwr.nomKind := .learned, cfg := [((drvObj 0, "KIND"), [.word "PAIR"]), ((drvObj 0, "OUTPUT"), [.obj ⟨.feed, 2⟩, .obj ⟨.feed, 3⟩])] }, 0, 2, by
      and_intros <;> first | (intro _ h; cases h) | rfl | (simp only [State.feedClosed]; decide) | decide⟩,
   ⟨{ dev with drv.configured := true, pwr.nomKind := .learned, cfg := [((drvObj 0, "KIND"), [.word "PAIR"]), ((drvObj 0, "OUTPUT"), [.obj ⟨.feed, 2⟩, .obj ⟨.feed, 3⟩])], drv.feeds := [(3, { closed := true })] }, execNext (.zeroCrossing 0) { dev with drv.configured := true, pwr.nomKind := .learned, cfg := [((drvObj 0, "KIND"), [.word "PAIR"]), ((drvObj 0, "OUTPUT"), [.obj ⟨.feed, 2⟩, .obj ⟨.feed, 3⟩])], drv.feeds := [(3, { closed := true })] }, 0, 2, by
      and_intros <;> first | (intro _ h; cases h) | rfl | (simp only [State.feedClosed]; decide) | decide⟩,
   ⟨{ dev with drv.configured := true, pwr.nomKind := .learned, cfg := [((drvObj 0, "KIND"), [.word "PAIR"]), ((drvObj 0, "OUTPUT"), [.obj ⟨.feed, 2⟩, .obj ⟨.feed, 3⟩])], drv.feeds := [(2, { closeCmd := some 0 })] }, execNext (.zeroCrossing 0) { dev with drv.configured := true, pwr.nomKind := .learned, cfg := [((drvObj 0, "KIND"), [.word "PAIR"]), ((drvObj 0, "OUTPUT"), [.obj ⟨.feed, 2⟩, .obj ⟨.feed, 3⟩])], drv.feeds := [(2, { closeCmd := some 0 })] }, 0, 2, 0, by
      and_intros <;> first | (intro _ h; cases h) | rfl | (simp only [State.feedClosed]; decide) | decide⟩,
   ⟨{ dev with drv.configured := true, pwr.nomKind := .learned, cfg := [((drvObj 0, "KIND"), [.word "PAIR"]), ((drvObj 0, "OUTPUT"), [.obj ⟨.feed, 2⟩, .obj ⟨.feed, 3⟩])], drv.feeds := [(3, { closed := true, openCmd := some 0 })] }, execNext (.zeroCrossing 0) { dev with drv.configured := true, pwr.nomKind := .learned, cfg := [((drvObj 0, "KIND"), [.word "PAIR"]), ((drvObj 0, "OUTPUT"), [.obj ⟨.feed, 2⟩, .obj ⟨.feed, 3⟩])], drv.feeds := [(3, { closed := true, openCmd := some 0 })] }, 0, 2, execNext (.feedOpen 3) { dev with drv.configured := true, pwr.nomKind := .learned, cfg := [((drvObj 0, "KIND"), [.word "PAIR"]), ((drvObj 0, "OUTPUT"), [.obj ⟨.feed, 2⟩, .obj ⟨.feed, 3⟩])], drv.feeds := [(3, { closed := true, openCmd := some 0 })] }, 3, by
      and_intros <;> first | (intro _ h; cases h) | rfl | (simp only [State.feedClosed]; decide) | decide⟩⟩

/-- A kept slot whose image carries this device's versions (R635). -/
def keptHere : SlotImg :=
  { trig := 1, first := 0, last := 0, trigEpoch := 0, boot := [Config.romWord, 0], worlds := 0, regions := 0, bytes := 0, recs := [] }

/-- In BENCH, with that slot. -/
def benchKept : State := { mk with ana.mode := .bench, thm.winJournal := true, jrn.slots := [(0, .kept keptHere)] }

theorem replayStart_spec : replayStartSpec q5 0 benchKept =
    { verb := "REPLAY", body := "REPLAY START SLOT=0", need := verbNeed "REPLAY", audit := some 16, p9 := worldFail benchKept .link0 .jrn, p10 := none } := by
  have h : slotValid benchKept (0 : Fin 4).val = some keptHere := rfl
  have hp : benchKept.tst.patch = 0 := rfl
  simp only [replayStartSpec, h, hp, keptHere, List.take]
  simp
  and_intros <;> rfl

theorem hyps_WorkVerbsComplete_replay : ∃ (s : State) (q : Hdr) (slot : Fin 4), s.takes q (replayStartSpec q slot s) := by
  refine ⟨benchKept, q5, 0, ?_⟩
  rw [replayStart_spec]
  simp only [State.takes, State.hears, State.idsOk]; decide

def seenAs (n : Nat) (v : Int) : Nat × XCell := (n, { seen := some { stamp := 0, x := n, val := v } })

/-- In BENCH, with the rails and the temperature inside the windows of Table BST-3 that the crossings give. -/
def benchRails : State :=
  { mk with ana.mode := .bench, ana.xings := [seenAs 145 2500, seenAs 153 5000, seenAs 154 3300], lve.mainsK := true, pwr.mains := true }

theorem bist_spec (h1 : 950 ≤ Config.v1mV benchRails.now) (h2 : Config.v1mV benchRails.now ≤ 1050) (h3 : Config.trimOk benchRails.now = true) :
    bistSpec q5 none benchRails = { verb := "BIST", body := "BIST", need := verbNeed "BIST", audit := some 16, p9 := worldFail benchRails .link0 .bst } := by
  have k : bistCondRest benchRails = none := by
    have e1 : xWithin benchRails 153 4750 5250 = true := rfl
    have e2 : xWithin benchRails 154 3135 3465 = true := rfl
    have e3 : xWithin benchRails 145 (-4000) 9000 = true := rfl
    have e4 : benchRails.pwr.xtal = true := rfl
    simp [bistCondRest, firstOf, e1, e2, e3, e4, h1, h2, h3]
  have k2 : keeperMains benchRails = true := rfl
  have k3 : marked benchRails = false := rfl
  simp [bistSpec, bistCond, k, k2, k3, firstOf]
  and_intros <;> rfl

/-- The self-test starts where the two free values of Config lie in the windows of Table BST-3. -/
theorem hyps_WorkVerbsComplete_bist (h1 : 950 ≤ Config.v1mV benchRails.now) (h2 : Config.v1mV benchRails.now ≤ 1050)
    (h3 : Config.trimOk benchRails.now = true) : ∃ (s : State) (q : Hdr) (d : Option Nat), s.takes q (bistSpec q d s) ∧ bistActive s = false := by
  refine ⟨benchRails, q5, none, ?_⟩
  rw [bist_spec h1 h2 h3]
  simp only [State.takes, State.hears, State.idsOk]; decide

end Sys2Proof.Tests
end

section
/-!
What every command and every step keeps of the clock, the epoch and the queue, from the `Keeps` of each command's meaning
(R11, R18).
-/
namespace Sys2Proof.Laws
open Sys2Proof Sys2Proof.Machine
variable {s t : State}

/-! ### The clock and the epoch -/

/-- Every command but the boundary, the release of the core die and a zero crossing keeps all that `Keeps` names. -/
theorem keeps_exec {c : Instr} (hb : c ≠ .epochBoundary) (hr : c ≠ .coreResetRelease) (hz : ∀ raw, c ≠ .zeroCrossing raw)
    (h : exec c s = .next t) : Keeps s t := by
  cases c with
  | epochBoundary => exact absurd rfl hb
  | guardedArrival _ _ _ => exact keeps_execGuardedArrival (Keeps.refl s) h
  | silenceExpiry _ => exact keeps_execSilenceExpiry (Keeps.refl s) h
  | heldHandshake => exact keeps_execHeldHandshake (Keeps.refl s) h
  | workerHeartbeat _ => exact keeps_execWorkerHeartbeat (Keeps.refl s) h
  | heartbeatWindowClose => exact keeps_execHeartbeatWindowClose (Keeps.refl s) h
  | workerRelease _ => exact keeps_execWorkerRelease (Keeps.refl s) h
  | safeAutoReturn => exact keeps_execSafeAutoReturn (Keeps.refl s) h
  | keeperWatchdogExpiry => exact keeps_execKeeperWatchdogExpiry (Keeps.refl s) h
  | mainGood => exact keeps_execMainGood (Keeps.refl s) h
  | mainLost => exact keeps_execMainLost (Keeps.refl s) h
  | mainsAbsent => exact keeps_execMainsAbsent (Keeps.refl s) h
  | zeroCrossing raw => exact absurd rfl (hz raw)
  | halfCycleReport _ _ => exact keeps_execHalfCycleReport (Keeps.refl s) h
  | absentHealthReport => exact keeps_execAbsentHealthReport (Keeps.refl s) h
  | transientDetect _ => exact keeps_execTransientDetect (Keeps.refl s) h
  | coreResetRelease => exact absurd rfl hr
  | barrierLinkUp _ _ => exact keeps_execBarrierLinkUp (Keeps.refl s) h
  | versionCheck => exact keeps_execVersionCheck (Keeps.refl s) h
  | quickSelfTestComplete _ _ _ _ => exact keeps_execQuickSelfTestComplete (Keeps.refl s) h
  | refSettled => exact keeps_execRefSettled (Keeps.refl s) h
  | resetPin _ => exact keeps_execResetPin (Keeps.refl s) h
  | brownOut _ => exact keeps_execBrownOut (Keeps.refl s) h
  | holdAssert => exact keeps_execHoldAssert (Keeps.refl s) h
  | flushComplete => exact keeps_execFlushComplete (Keeps.refl s) h
  | quietidleExpiry => exact keeps_execQuietidleExpiry (Keeps.refl s) h
  | quietWake _ => exact keeps_execQuietWake (Keeps.refl s) h
  | wakeChannelSample _ => exact keeps_execWakeChannelSample (Keeps.refl s) h
  | rtcAlarm => exact keeps_execRtcAlarm (Keeps.refl s) h
  | auxTrip _ _ => exact keeps_execAuxTrip (Keeps.refl s) h
  | auxRetry => exact keeps_execAuxRetry (Keeps.refl s) h
  | vbatEvaluation _ => exact keeps_execVbatEvaluation (Keeps.refl s) h
  | fastChargeEnd _ => exact keeps_execFastChargeEnd (Keeps.refl s) h
  | pilotCutoffPending => exact keeps_execPilotCutoffPending (Keeps.refl s) h
  | pilotDead => exact keeps_execPilotDead (Keeps.refl s) h
  | vbatRecover => exact keeps_execVbatRecover (Keeps.refl s) h
  | pilotStatePost => exact keeps_execPilotStatePost (Keeps.refl s) h
  | leaveRequest _ _ _ => exact keeps_execLeaveRequest (Keeps.refl s) h
  | leaveTimeout _ => exact keeps_execLeaveTimeout (Keeps.refl s) h
  | grantExpiry _ => exact keeps_execGrantExpiry (Keeps.refl s) h
  | grantReturn _ => exact keeps_execGrantReturn (Keeps.refl s) h
  | leaveWithdraw _ => exact keeps_execLeaveWithdraw (Keeps.refl s) h
  | staggerElapsed => exact keeps_execStaggerElapsed (Keeps.refl s) h
  | uartByte _ _ => exact keeps_execUartByte (Keeps.refl s) h
  | commandLine _ _ => exact keeps_execCommandLine (Keeps.refl s) h
  | partialTimeout _ => exact keeps_execPartialTimeout (Keeps.refl s) h
  | ctrlC _ => exact keeps_execCtrlC (Keeps.refl s) h
  | autobaudDetect _ _ => exact keeps_execAutobaudDetect (Keeps.refl s) h
  | autobaudRearm _ => exact keeps_execAutobaudRearm (Keeps.refl s) h
  | rateChangeEffect _ => exact keeps_execRateChangeEffect (Keeps.refl s) h
  | ctsChange _ => exact keeps_execCtsChange (Keeps.refl s) h
  | noticeSent _ => exact keeps_execNoticeSent (Keeps.refl s) h
  | hello _ _ _ => exact keeps_execHello (Keeps.refl s) h
  | authChallenge _ _ => exact keeps_execAuthChallenge (Keeps.refl s) h
  | authResponse _ _ _ => exact keeps_execAuthResponse (Keeps.refl s) h
  | logout _ => exact keeps_execLogout (Keeps.refl s) h
  | key _ _ _ => exact keeps_execKey (Keeps.refl s) h
  | version _ => exact keeps_execVersion (Keeps.refl s) h
  | status _ => exact keeps_execStatus (Keeps.refl s) h
  | help _ _ => exact keeps_execHelp (Keeps.refl s) h
  | cancel _ _ => exact keeps_execCancel (Keeps.refl s) h
  | getAttr _ _ _ => exact keeps_execGetAttr (Keeps.refl s) h
  | setAttr _ _ _ => exact keeps_execSetAttr (Keeps.refl s) h
  | showObj _ _ _ => exact keeps_execShowObj (Keeps.refl s) h
  | defaultObj _ _ => exact keeps_execDefaultObj (Keeps.refl s) h
  | defaultAll _ => exact keeps_execDefaultAll (Keeps.refl s) h
  | lockConfig _ => exact keeps_execLockConfig (Keeps.refl s) h
  | modeRun _ => exact keeps_execModeRun (Keeps.refl s) h
  | modeSafe _ => exact keeps_execModeSafe (Keeps.refl s) h
  | modeQuiet _ => exact keeps_execModeQuiet (Keeps.refl s) h
  | modeBench _ => exact keeps_execModeBench (Keeps.refl s) h
  | modeRestart _ => exact keeps_execModeRestart (Keeps.refl s) h
  | restartReset => exact keeps_execRestartReset (Keeps.refl s) h
  | regRead _ _ _ => exact keeps_execRegRead (Keeps.refl s) h
  | regWrite _ _ _ _ => exact keeps_execRegWrite (Keeps.refl s) h
  | move _ _ _ _ => exact keeps_execMove (Keeps.refl s) h
  | stop _ _ => exact keeps_execStop (Keeps.refl s) h
  | release _ _ => exact keeps_execRelease (Keeps.refl s) h
  | learn _ _ => exact keeps_execLearn (Keeps.refl s) h
  | ack _ _ _ => exact keeps_execAck (Keeps.refl s) h
  | calConverters _ => exact keeps_execCalConverters (Keeps.refl s) h
  | bist _ _ => exact keeps_execBist (Keeps.refl s) h
  | repairFuse _ => exact keeps_execRepairFuse (Keeps.refl s) h
  | timeSet _ _ _ _ _ _ _ _ => exact keeps_execTimeSet (Keeps.refl s) h
  | send _ _ _ _ _ _ _ => exact keeps_execSend (Keeps.refl s) h
  | draw _ _ _ _ => exact keeps_execDraw (Keeps.refl s) h
  | blink _ _ _ _ _ => exact keeps_execBlink (Keeps.refl s) h
  | blinkOff _ _ => exact keeps_execBlinkOff (Keeps.refl s) h
  | freeze _ _ _ => exact keeps_execFreeze (Keeps.refl s) h
  | exportData _ _ => exact keeps_execExportData (Keeps.refl s) h
  | load _ _ _ _ => exact keeps_execLoad (Keeps.refl s) h
  | loadEnd _ _ => exact keeps_execLoadEnd (Keeps.refl s) h
  | replayStart _ _ => exact keeps_execReplayStart (Keeps.refl s) h
  | replayStop _ => exact keeps_execReplayStop (Keeps.refl s) h
  | macroAdd _ _ _ => exact keeps_execMacroAdd (Keeps.refl s) h
  | macroClear _ _ => exact keeps_execMacroClear (Keeps.refl s) h
  | macroList _ _ => exact keeps_execMacroList (Keeps.refl s) h
  | macroRun _ _ => exact keeps_execMacroRun (Keeps.refl s) h
  | onBind _ _ _ _ => exact keeps_execOnBind (Keeps.refl s) h
  | onOff _ _ _ => exact keeps_execOnOff (Keeps.refl s) h
  | onList _ => exact keeps_execOnList (Keeps.refl s) h
  | wait _ _ => exact keeps_execWait (Keeps.refl s) h
  | waitExpiry _ _ => exact keeps_execWaitExpiry (Keeps.refl s) h
  | auditAck _ _ => exact keeps_execAuditAck (Keeps.refl s) h
  | slotFree _ _ => exact keeps_execSlotFree (Keeps.refl s) h
  | storeWriteComplete _ => exact keeps_execStoreWriteComplete (Keeps.refl s) h
  | macroLine _ => exact keeps_execMacroLine (Keeps.refl s) h
  | macroTrigger _ => exact keeps_execMacroTrigger (Keeps.refl s) h
  | challengeExpiry _ => exact keeps_execChallengeExpiry (Keeps.refl s) h
  | roleInactivityExpiry _ => exact keeps_execRoleInactivityExpiry (Keeps.refl s) h
  | authBlockExpiry _ _ => exact keeps_execAuthBlockExpiry (Keeps.refl s) h
  | secViolation _ _ => exact keeps_execSecViolation (Keeps.refl s) h
  | icFreeWindowEnd _ => exact keeps_execIcFreeWindowEnd (Keeps.refl s) h
  | icResultRelease => exact keeps_execIcResultRelease (Keeps.refl s) h
  | icReleaseTimeout => exact keeps_execIcReleaseTimeout (Keeps.refl s) h
  | drySample _ => exact keeps_execDrySample (Keeps.refl s) h
  | odTrip _ _ => exact keeps_execOdTrip (Keeps.refl s) h
  | groupTrip _ _ => exact keeps_execGroupTrip (Keeps.refl s) h
  | fcTrigger _ _ => exact keeps_execFcTrigger (Keeps.refl s) h
  | fcBurstEnd _ => exact keeps_execFcBurstEnd (Keeps.refl s) h
  | lcSampleSet _ _ _ => exact keeps_execLcSampleSet (Keeps.refl s) h
  | refFault => exact keeps_execRefFault (Keeps.refl s) h
  | refRecover => exact keeps_execRefRecover (Keeps.refl s) h
  | calPhaseEnd _ => exact keeps_execCalPhaseEnd (Keeps.refl s) h
  | churnWord _ _ _ _ => exact keeps_execChurnWord (Keeps.refl s) h
  | snapshot => exact keeps_execSnapshot (Keeps.refl s) h
  | markReport _ _ _ => exact keeps_execMarkReport (Keeps.refl s) h
  | peekLatch _ => exact keeps_execPeekLatch (Keeps.refl s) h
  | pulseEdgeQualified _ _ => exact keeps_execPulseEdgeQualified (Keeps.refl s) h
  | counterAdvance n => exact keeps_execCounterAdvance (n := n) (Keeps.refl s) h
  | linkedAction _ => exact keeps_execLinkedAction (Keeps.refl s) h
  | captureEdge _ => exact keeps_execCaptureEdge (Keeps.refl s) h
  | captureRecordSend => exact keeps_execCaptureRecordSend (Keeps.refl s) h
  | sampleRecord _ => exact keeps_execSampleRecord (Keeps.refl s) h
  | filteredRecord _ => exact keeps_execFilteredRecord (Keeps.refl s) h
  | compareWriteEffect _ => exact keeps_execCompareWriteEffect (Keeps.refl s) h
  | counterClear _ => exact keeps_execCounterClear (Keeps.refl s) h
  | captureTickLatch _ => exact keeps_execCaptureTickLatch (Keeps.refl s) h
  | cntCmpWrite _ _ => exact keeps_execCntCmpWrite (Keeps.refl s) h
  | feedCloseCommand _ => exact keeps_execFeedCloseCommand (Keeps.refl s) h
  | feedOpen _ => exact keeps_execFeedOpen (Keeps.refl s) h
  | feedOpenTimeout _ => exact keeps_execFeedOpenTimeout (Keeps.refl s) h
  | deadTimeEnd _ => exact keeps_execDeadTimeEnd (Keeps.refl s) h
  | rampEnd _ => exact keeps_execRampEnd (Keeps.refl s) h
  | encoderEdge _ _ _ => exact keeps_execEncoderEdge (Keeps.refl s) h
  | feedTrip _ _ => exact keeps_execFeedTrip (Keeps.refl s) h
  | portTrip _ _ => exact keeps_execPortTrip (Keeps.refl s) h
  | tripLatchClear _ => exact keeps_execTripLatchClear (Keeps.refl s) h
  | barrierHeartbeat => exact keeps_execBarrierHeartbeat (Keeps.refl s) h
  | heartbeatLoss => exact keeps_execHeartbeatLoss (Keeps.refl s) h
  | barrierLinkLost => exact keeps_execBarrierLinkLost (Keeps.refl s) h
  | barrierLinkBack => exact keeps_execBarrierLinkBack (Keeps.refl s) h
  | travelEnd _ => exact keeps_execTravelEnd (Keeps.refl s) h
  | endstopCollapse _ => exact keeps_execEndstopCollapse (Keeps.refl s) h
  | endstopTimeout _ => exact keeps_execEndstopTimeout (Keeps.refl s) h
  | learnRunTimeout _ => exact keeps_execLearnRunTimeout (Keeps.refl s) h
  | obstacleEvaluation _ => exact keeps_execObstacleEvaluation (Keeps.refl s) h
  | stall _ => exact keeps_execStall (Keeps.refl s) h
  | sagStop => exact keeps_execSagStop (Keeps.refl s) h
  | protectionOnDelay _ => exact keeps_execProtectionOnDelay (Keeps.refl s) h
  | protectionOffDelay _ => exact keeps_execProtectionOffDelay (Keeps.refl s) h
  | holdExpiry _ => exact keeps_execHoldExpiry (Keeps.refl s) h
  | thermalStep _ => exact keeps_execThermalStep (Keeps.refl s) h
  | ambientWord => exact keeps_execAmbientWord (Keeps.refl s) h
  | ambientTimeout => exact keeps_execAmbientTimeout (Keeps.refl s) h
  | thermoClear _ => exact keeps_execThermoClear (Keeps.refl s) h
  | thermalStateRecord => exact keeps_execThermalStateRecord (Keeps.refl s) h
  | loopRelease _ => exact keeps_execLoopRelease (Keeps.refl s) h
  | loopOutput _ _ => exact keeps_execLoopOutput (Keeps.refl s) h
  | runonEnd _ => exact keeps_execRunonEnd (Keeps.refl s) h
  | occupancyExpiry _ => exact keeps_execOccupancyExpiry (Keeps.refl s) h
  | overrideExpiry _ => exact keeps_execOverrideExpiry (Keeps.refl s) h
  | switchPoint _ => exact keeps_execSwitchPoint (Keeps.refl s) h
  | canFrameValid _ => exact keeps_execCanFrameValid (Keeps.refl s) h
  | queueDrain _ => exact keeps_execQueueDrain (Keeps.refl s) h
  | userFrame _ _ => exact keeps_execUserFrame (Keeps.refl s) h
  | canTxComplete _ _ _ _ => exact keeps_execCanTxComplete (Keeps.refl s) h
  | busErrorState _ _ => exact keeps_execBusErrorState (Keeps.refl s) h
  | busOffDelayExpiry => exact keeps_execBusOffDelayExpiry (Keeps.refl s) h
  | busOffRecovered => exact keeps_execBusOffRecovered (Keeps.refl s) h
  | busSleep => exact keeps_execBusSleep (Keeps.refl s) h
  | canWake _ => exact keeps_execCanWake (Keeps.refl s) h
  | busHeartbeatSend => exact keeps_execBusHeartbeatSend (Keeps.refl s) h
  | heartbeatReceived _ => exact keeps_execHeartbeatReceived (Keeps.refl s) h
  | pointPublish _ => exact keeps_execPointPublish (Keeps.refl s) h
  | pointreq _ _ => exact keeps_execPointreq (Keeps.refl s) h
  | tunnelOpen _ => exact keeps_execTunnelOpen (Keeps.refl s) h
  | tunnelFragment _ _ _ _ => exact keeps_execTunnelFragment (Keeps.refl s) h
  | tunnelAck _ _ _ => exact keeps_execTunnelAck (Keeps.refl s) h
  | tunnelResend _ => exact keeps_execTunnelResend (Keeps.refl s) h
  | tunnelClose _ _ => exact keeps_execTunnelClose (Keeps.refl s) h
  | tunnelIdle _ => exact keeps_execTunnelIdle (Keeps.refl s) h
  | sealedOrder _ _ _ => exact keeps_execSealedOrder (Keeps.refl s) h
  | timerefSend => exact keeps_execTimerefSend (Keeps.refl s) h
  | timerefReceived _ _ _ _ => exact keeps_execTimerefReceived (Keeps.refl s) h
  | timefupReceived _ _ => exact keeps_execTimefupReceived (Keeps.refl s) h
  | timeSample => exact keeps_execTimeSample (Keeps.refl s) h
  | masterClaim => exact keeps_execMasterClaim (Keeps.refl s) h
  | timeSourceLost => exact keeps_execTimeSourceLost (Keeps.refl s) h
  | slewComplete => exact keeps_execSlewComplete (Keeps.refl s) h
  | timeStep => exact keeps_execTimeStep (Keeps.refl s) h
  | pulseStart => exact keeps_execPulseStart (Keeps.refl s) h
  | pulseEnd => exact keeps_execPulseEnd (Keeps.refl s) h
  | holdlimExpiry => exact keeps_execHoldlimExpiry (Keeps.refl s) h
  | rtcWrite => exact keeps_execRtcWrite (Keeps.refl s) h
  | pumpReady => exact keeps_execPumpReady (Keeps.refl s) h
  | pumpTimeout => exact keeps_execPumpTimeout (Keeps.refl s) h
  | lanFrameEnd => exact keeps_execLanFrameEnd (Keeps.refl s) h
  | pumpDip => exact keeps_execPumpDip (Keeps.refl s) h
  | recoveryEnd => exact keeps_execRecoveryEnd (Keeps.refl s) h
  | drawSupplyTimeout => exact keeps_execDrawSupplyTimeout (Keeps.refl s) h
  | blinkToggle _ => exact keeps_execBlinkToggle (Keeps.refl s) h
  | lanternStatusPost => exact keeps_execLanternStatusPost (Keeps.refl s) h
  | anchorInterval => exact keeps_execAnchorInterval (Keeps.refl s) h
  | freezeBoundary => exact keeps_execFreezeBoundary (Keeps.refl s) h
  | freezeCopyStart => exact keeps_execFreezeCopyStart (Keeps.refl s) h
  | freezeCopyComplete => exact keeps_execFreezeCopyComplete (Keeps.refl s) h
  | journalStatusPost => exact keeps_execJournalStatusPost (Keeps.refl s) h
  | bistStageEnd _ _ _ _ => exact keeps_execBistStageEnd (Keeps.refl s) h
  | testStatusPost => exact keeps_execTestStatusPost (Keeps.refl s) h
  | xingClrstat _ => exact keeps_execXingClrstat (Keeps.refl s) h
  | xingNotes _ => exact keeps_execXingNotes (Keeps.refl s) h
  | xingDescriptorWrite _ _ _ _ => exact keeps_execXingDescriptorWrite (Keeps.refl s) h
  | rstcauseClear _ => exact keeps_execRstcauseClear (Keeps.refl s) h
  | leaveClr _ => exact keeps_execLeaveClr (Keeps.refl s) h
  | linkClr _ => exact keeps_execLinkClr (Keeps.refl s) h
  | chanClr _ => exact keeps_execChanClr (Keeps.refl s) h
  | icClr _ => exact keeps_execIcClr (Keeps.refl s) h
  | fcClr _ => exact keeps_execFcClr (Keeps.refl s) h
  | probeClr _ => exact keeps_execProbeClr (Keeps.refl s) h
  | churnClr _ => exact keeps_execChurnClr (Keeps.refl s) h
  | cntClr _ => exact keeps_execCntClr (Keeps.refl s) h
  | motClr _ => exact keeps_execMotClr (Keeps.refl s) h
  | lineClr _ => exact keeps_execLineClr (Keeps.refl s) h
  | snufferLimitWrite _ _ => exact keeps_execSnufferLimitWrite (Keeps.refl s) h
  | thmThresholdWrite _ _ _ => exact keeps_execThmThresholdWrite (Keeps.refl s) h
  | thmClr _ => exact keeps_execThmClr (Keeps.refl s) h
  | busClr _ => exact keeps_execBusClr (Keeps.refl s) h
  | timeClr _ => exact keeps_execTimeClr (Keeps.refl s) h
  | lanClr _ => exact keeps_execLanClr (Keeps.refl s) h
  | jrnClr _ => exact keeps_execJrnClr (Keeps.refl s) h
  | tstClr _ => exact keeps_execTstClr (Keeps.refl s) h
  | monoLatch => exact keeps_execMonoLatch (Keeps.refl s) h
  | timeSecLatch => exact keeps_execTimeSecLatch (Keeps.refl s) h
  | mainGoodQualification _ => exact keeps_execMainGoodQualification (Keeps.refl s) h
  | lockedIslandsLock => exact keeps_execLockedIslandsLock (Keeps.refl s) h
  | busJoin => exact keeps_execBusJoin (Keeps.refl s) h
  | followedMasterUnheard => exact keeps_execFollowedMasterUnheard (Keeps.refl s) h

/-- The part of `Keeps` that every command keeps: the queue, the order of time, and the clock inside or past its epoch. -/
structure KeepsTime (s t : State) : Prop where
  queue : t.pending = s.pending
  time : s.now ≤ t.now
  clock : s.clockOk → t.clockOk

theorem Keeps.keepsTime (h : Keeps s t) : KeepsTime s t := ⟨h.queue, h.time, h.clock⟩

theorem KeepsTime.trans {u : State} (h : KeepsTime s t) (g : KeepsTime t u) : KeepsTime s u :=
  ⟨g.queue.trans h.queue, h.time.trans g.time, g.clock ∘ h.clock⟩

/-- The advance to the next boundary moves the clock forward, to the start of the epoch that begins or past it. -/
theorem keepsTime_epochAdvances : KeepsTime s (epochAdvances s) := ⟨rfl, Nat.le_max_left _ _, fun _ => epochAdvances_clock⟩

/-- At a release of the core die the clock stands at epoch 0. -/
theorem keepsTime_coreReleased : KeepsTime s (coreReleased s) :=
  ⟨rfl, Nat.le_refl _, fun _ => by simp [State.clockOk, coreReleased]⟩

/-- A zero crossing keeps the clock, the epoch, the zero of monotonic time and the queue. -/
theorem zeroCrossing_keepsTime {raw : BitVec 20} (h : exec (.zeroCrossing raw) s = .next t) :
    KeepsTime s t ∧ t.rel = s.rel ∧ t.epoch = s.epoch :=
  have k := keeps_execZeroCrossing h
  ⟨⟨k.queue, k.time, k.clock⟩, k.era⟩

theorem epochStep_keepsTime (h : coreRuns s = true) : KeepsTime s (epochStep s) :=
  keepsTime_epochAdvances.trans (keeps_epochStep h).keepsTime

/-- Every command keeps the queue, the order of time, and the clock inside or past its epoch. -/
theorem exec_keepsTime {c : Instr} (h : exec c s = .next t) : KeepsTime s t := by
  by_cases hb : c = .epochBoundary
  · subst hb
    obtain rfl | k := keeps_execEpochBoundary h
    · exact (Keeps.refl t).keepsTime
    · exact keepsTime_epochAdvances.trans k.keepsTime
  by_cases hr : c = .coreResetRelease
  · subst hr
    obtain k | ⟨u, k, l⟩ := keeps_execCoreResetRelease h
    · exact k.keepsTime
    · exact (k.keepsTime.trans keepsTime_coreReleased).trans l.keepsTime
  by_cases hz : ∃ raw, c = .zeroCrossing raw
  · obtain ⟨raw, rfl⟩ := hz
    exact (zeroCrossing_keepsTime h).1
  · exact (keeps_exec hb hr (not_exists.mp hz) h).keepsTime

/-- Every command but the boundary and the release keeps the zero of monotonic time and the epoch. -/
theorem exec_era {c : Instr} (hb : c ≠ .epochBoundary) (hr : c ≠ .coreResetRelease) (h : exec c s = .next t) :
    t.rel = s.rel ∧ t.epoch = s.epoch := by
  by_cases hz : ∃ raw, c = .zeroCrossing raw
  · obtain ⟨raw, rfl⟩ := hz
    exact (zeroCrossing_keepsTime h).2
  · exact (keeps_exec hb hr (not_exists.mp hz) h).era

/-- A boundary of a core die that runs begins the next epoch and keeps the zero of monotonic time. -/
theorem epochStep_era (h : coreRuns s = true) : (epochStep s).rel = s.rel ∧ (epochStep s).epoch = s.epoch + 1 :=
  (keeps_epochStep h).era

/-- A release of the core die begins epoch 0, where it comes. -/
theorem coreResetRelease_era (h : exec .coreResetRelease s = .next t) : (t.rel = s.rel ∧ t.epoch = s.epoch) ∨ t.epoch = 0 :=
  (keeps_execCoreResetRelease h).imp Keeps.era fun ⟨_, _, k⟩ => k.era.2

/-- A step is the command at the front, or an idle tick. -/
theorem step_cases (h : step s = .next t) :
    (s.pending = [] ∧ t = idleTick s) ∨ ∃ c l, s.pending = c :: l ∧ exec c { s with pending := l } = .next t := by
  unfold step at h
  split at h
  · next e => exact .inl ⟨e, (Host.Outcome.next.inj h).symm⟩
  · next c l e => exact .inr ⟨c, l, e, h⟩

theorem step_of_idle (h : s.pending = []) : step s = .next (idleTick s) := by
  unfold step; rw [h]

/-- An idle tick that begins no epoch moves the clock by one. -/
theorem idleTick_inside (h : coreRuns s = false ∨ s.now + 1 < epochTick s (s.epoch + 1)) : idleTick s = { s with now := s.now + 1 } :=
  if_neg fun e => by
    simp only [Bool.and_eq_true, decide_eq_true_eq] at e
    rcases h with h | h
    · rw [h] at e; exact Bool.false_ne_true e.1
    · omega

/-- An idle tick that begins an epoch is its boundary. -/
theorem idleTick_boundary (h : coreRuns s = true) (hn : epochTick s (s.epoch + 1) ≤ s.now + 1) : idleTick s = epochStep s :=
  if_pos (by simp [h, hn])

/-- Before a boundary, an idle tick moves the clock forward. -/
theorem idleTick_now_lt (h : s.now < epochTick s (s.epoch + 1)) : s.now < (idleTick s).now := by
  by_cases hi : coreRuns s = false ∨ s.now + 1 < epochTick s (s.epoch + 1)
  · rw [idleTick_inside hi]; exact Nat.lt_succ_self _
  · obtain ⟨hr, hn⟩ := not_or.mp hi
    rw [Bool.not_eq_false] at hr
    rw [idleTick_boundary hr (Nat.le_of_not_lt hn)]
    calc s.now < epochTick s (s.epoch + 1) := h
      _ ≤ (epochAdvances s).now := Nat.le_max_right _ _
      _ ≤ (epochStep s).now := (keeps_epochStep hr).time

theorem idleTick_clockOk (h : s.clockOk) : (idleTick s).clockOk :=
  keeps_idleTick.elim (fun k => k.clock h) fun k => k.clock epochAdvances_clock

theorem step_clockOk (hs : s.clockOk) (h : step s = .next t) : t.clockOk := by
  obtain ⟨-, rfl⟩ | ⟨c, l, -, hc⟩ := step_cases h
  · exact idleTick_clockOk hs
  · exact (exec_keepsTime hc).clock hs

end Sys2Proof.Laws

namespace Sys2Proof.Proofs
open Sys2Proof Sys2Proof.Machine Sys2Proof.Laws

/-- Settles O3: every command and the idle tick keep the clock inside or past its epoch. -/
theorem everyStepKeepsTheClockPastItsEpoch : Obligations.EveryStepKeepsTheClockPastItsEpoch :=
  fun _ _ => step_clockOk

/-- Settles O6, from what every command keeps of the epoch and the zero of monotonic time. -/
theorem onlyBoundariesCountEpochs : Obligations.OnlyBoundariesCountEpochs := by
  intro c s t h
  refine ⟨fun hb hr => exec_era hb hr h, ?_, ?_⟩
  · rintro rfl hr
    obtain rfl := Host.Outcome.next.inj h
    have hclock : (epochStep s).clockOk := (keeps_epochStep hr).clock epochAdvances_clock
    exact ⟨(epochStep_era hr).1, (epochStep_era hr).2, hclock⟩
  · rintro rfl
    exact coreResetRelease_era h

/-- Settles O5, from what every command keeps of the clock and the queue. -/
theorem noCommandTurnsTheClockBack : Obligations.NoCommandTurnsTheClockBack :=
  fun _ _ _ h => ⟨(exec_keepsTime h).time, (exec_keepsTime h).queue⟩

/-- Settles O2: the two branches of the idle tick. -/
theorem emptyQueueLetsOneTickPass : Obligations.EmptyQueueLetsOneTickPass := by
  intro s hs
  rw [step_of_idle hs]
  refine ⟨fun h => by rw [idleTick_inside h], fun hr hn => ?_, fun h => ⟨_, rfl, idleTick_now_lt h⟩⟩
  rw [idleTick_boundary hr hn]
  rfl

/-- Settles O4: the clock and the epoch of the reset state are 0. -/
theorem resetClockStandsAtItsEpoch : Obligations.ResetClockStandsAtItsEpoch := by
  simp [Obligations.ResetClockStandsAtItsEpoch, State.clockOk, State.reset]

/-- Settles O10: both rows write their bits and nothing else. -/
theorem crossingControlWrites : Obligations.CrossingControlWrites := by
  refine fun v s => ⟨rfl, fun h => ?_, fun h => ?_⟩
  · exact congrArg _ (if_pos h)
  · exact congrArg _ (if_neg (Bool.eq_false_iff.mp h))

end Sys2Proof.Proofs
end

section
/-!
What an arrival, a held handshake, a silent source and a descriptor write do at their crossing (R12 to R17, R21, R35, R36).
-/
namespace Sys2Proof.Laws
open Sys2Proof Sys2Proof.Machine
variable {s t : State} {x : Nat} {v : XWord} {p : Option Nat} {pay : Pay}

/-! ### The filter -/

/-- The cell of a crossing whose SILENT substitute has been taken back (R35). -/
def takenBack (c : XCell) (k : XPast) : XCell :=
  { c with cur := k.cur, range := k.range, stale := k.stale, silent := false, episode := k.episode, fails := k.fails, past := none }

theorem filterArrival_filtered (d : XDesc) (c : XCell) (w : Int) :
    (filterArrival d c w).filtered = some ((filterArrival d c w).filtered.getD 0) := by
  unfold filterArrival
  split
  · rfl
  · dsimp only
    split_ifs <;> rfl

/-- The filter touches nothing of the last value passed. -/
theorem filterArrival_lastPass (d : XDesc) (c : XCell) (w : Int) : (filterArrival d c w).lastPass = c.lastPass := by
  unfold filterArrival
  split
  · rfl
  · dsimp only
    split_ifs <;> rfl

/-- The filter neither reads nor writes what a substitute has touched. -/
theorem filterArrival_takenBack (d : XDesc) (c : XCell) (k : XPast) (w : Int) :
    filterArrival d (takenBack c k) w = takenBack (filterArrival d c w) k := by
  unfold filterArrival takenBack
  dsimp only
  cases c.filtered with
  | none => rfl
  | some f =>
    dsimp only
    split_ifs <;> rfl

/-- The history after an arrival holds what it held and the value that arrived (R15). -/
theorem mem_filterArrival_hist {d : XDesc} {c : XCell} {w h : Int} (hm : h ∈ (filterArrival d c w).hist) : h ∈ c.hist ∨ h = w := by
  have of_take : ∀ n, h ∈ (w :: c.hist).take n → h ∈ c.hist ∨ h = w := fun n m => (List.mem_cons.mp (List.mem_of_mem_take m)).symm
  unfold filterArrival at hm
  split at hm
  · exact .inr (List.mem_singleton.mp hm)
  · dsimp only at hm
    split_ifs at hm
    · exact of_take _ hm
    · exact of_take _ hm
    all_goals exact .inl hm

/-! ### The guard -/

/-- What an arrival leaves of its crossing's filter as the value that the guard judges. -/
def filteredIn (s : State) (x : Nat) (v : XWord) : Int :=
  (filterArrival (xDesc s x) (xcell s x) (wordVal (xSigned s x) v)).filtered.getD 0

/-- The filtered value lies inside LO to HI. -/
def inRange (s : State) (x : Nat) (v : XWord) : Prop :=
  wordVal (xSigned s x) (xDesc s x).lo ≤ filteredIn s x v ∧ filteredIn s x v ≤ wordVal (xSigned s x) (xDesc s x).hi

/-- The production tick lies further back than AGE. -/
def tooOld (s : State) (x : Nat) (p : Option Nat) : Prop :=
  ∃ q, p = some q ∧ (xDesc s x).age ≠ 0 ∧ (xDesc s x).age.toNat * tickMs < mono s - q

/-- The substitute reads the last value passed and nothing else of its cell. -/
theorem substitute_congr {b : Bool} {d : XDesc} {c c' : XCell} (h : c'.lastPass = c.lastPass) : substitute b d c' = substitute b d c := by
  unfold substitute; rw [h]

/-- The substitute by its code (Table ANA-4). -/
theorem substitute_by_code (b : Bool) (d : XDesc) (c : XCell) :
    (d.subk = 0 → substitute b d c = c.lastPass.getD (wordVal b d.subv)) ∧ (d.subk = 1 → substitute b d c = wordVal b d.subv) ∧
    (d.subk = 2 → substitute b d c = wordVal b d.lo) ∧ (d.subk = 3 → substitute b d c = wordVal b d.hi) := by
  unfold substitute
  refine ⟨fun h => ?_, fun h => ?_, fun h => ?_, fun h => ?_⟩ <;> rw [h] <;> rfl

/-- The cell after the guard stage: the two tests give the flags, and a value that fails one is replaced (R12, R13, R37). -/
theorem guardArrival_cell (s : State) (x : Nat) (v : XWord) (p : Option Nat) (pay : Pay) :
    ∃ r o : Bool, (r = true ↔ ¬inRange s x v) ∧ (o = true ↔ tooOld s x p) ∧
      (guardArrival s x v p pay).1 = { filterArrival (xDesc s x) (xcell s x) (wordVal (xSigned s x) v) with
        lastArrival := some s.now, range := r, stale := o, silent := false,
        lastPass := if r || o then (xcell s x).lastPass else some (filteredIn s x v),
        cur := some (if r || o then substitute (xSigned s x) (xDesc s x) (xcell s x) else filteredIn s x v),
        episode := if r then some .range else if o then some .stale else none,
        fails := (guardArrival s x v p pay).1.fails } := by
  obtain ⟨g, hg⟩ : ∃ g, g = guardArrival s x v p pay := ⟨_, rfl⟩
  rw [← hg]
  unfold guardArrival at hg
  extract_lets signed d c f outOfRange old c' r passed kind turned fails sub at hg
  have hr : outOfRange = true ↔ ¬inRange s x v := by
    simp only [outOfRange, inRange, Bool.or_eq_true, decide_eq_true_eq, ← Int.not_le, filteredIn, signed, d, c, f]
    tauto
  have ho : old = true ↔ tooOld s x p := by
    cases p <;> simp [old, tooOld, d]
  have hsub : sub = substitute signed d (xcell s x) := substitute_congr (filterArrival_lastPass _ _ _)
  refine ⟨outOfRange, old, hr, ho, ?_⟩
  have hpass : c'.lastPass = (xcell s x).lastPass := filterArrival_lastPass _ _ _
  clear_value outOfRange old fails sub
  subst hg hsub
  rw [← hpass]
  cases outOfRange with
  | true => rfl
  | false => cases old <;> rfl

/-- The record of the guard stage carries what the cell now holds (R13). -/
theorem guardArrival_rec (s : State) (x : Nat) (v : XWord) (p : Option Nat) (pay : Pay) :
    (guardArrival s x v p pay).2.x = x ∧ (guardArrival s x v p pay).2.stamp = mono s ∧ (guardArrival s x v p pay).2.ptick = p ∧
      (guardArrival s x v p pay).2.silent = false ∧ (guardArrival s x v p pay).1.cur = some (guardArrival s x v p pay).2.val ∧
      (guardArrival s x v p pay).1.range = (guardArrival s x v p pay).2.range ∧
      (guardArrival s x v p pay).1.stale = (guardArrival s x v p pay).2.stale := by
  unfold guardArrival
  extract_lets signed d c f outOfRange old c' r
  split
  · exact ⟨rfl, rfl, rfl, rfl, rfl, rfl, rfl⟩
  · exact ⟨rfl, rfl, rfl, rfl, rfl, rfl, rfl⟩

/-! ### Records and buffers -/

@[simp] theorem xcell_postRec (s : State) (r : Rec) (y : Nat) : xcell (postRec s r) y = xcell s y := by
  rw [postRec_frame]; rfl

@[simp] theorem held_postRec (s : State) (r : Rec) : (postRec s r).ana.held = s.ana.held := by
  rw [postRec_frame]

/-- The record stands in the buffer of each of its crossing's destinations (R16). -/
def inBuffers (t : State) (r : Rec) : Prop :=
  ((xDest r.x).testBit 0 = true → r ∈ t.ana.bufK) ∧ ((xDest r.x).testBit 1 = true → r ∈ t.ana.bufW0) ∧
    ((xDest r.x).testBit 2 = true → r ∈ t.ana.bufW1)

/-- Each buffer takes the record where its island is a destination. -/
theorem postRec_buffers (s : State) (r : Rec) :
    (postRec s r).ana.bufK = (if (xDest r.x).testBit 0 then s.ana.bufK ++ [r] else s.ana.bufK) ∧
    (postRec s r).ana.bufW0 = (if (xDest r.x).testBit 1 then s.ana.bufW0 ++ [r] else s.ana.bufW0) ∧
    (postRec s r).ana.bufW1 = (if (xDest r.x).testBit 2 then s.ana.bufW1 ++ [r] else s.ana.bufW1) := by
  unfold postRec
  dsimp only
  split <;> split <;> split <;> exact ⟨rfl, rfl, rfl⟩

theorem postRec_inBuffers (s : State) (r : Rec) : inBuffers (postRec s r) r := by
  obtain ⟨hk, h0, h1⟩ := postRec_buffers s r
  have mem : ∀ l : List Rec, r ∈ l ++ [r] := fun l => List.mem_append_right l (List.mem_singleton.mpr rfl)
  rw [inBuffers, hk, h0, h1]
  exact ⟨fun h => if_pos h ▸ mem _, fun h => if_pos h ▸ mem _, fun h => if_pos h ▸ mem _⟩

/-! ### A SILENT substitute taken back (R35) -/

/-- Taking a SILENT substitute back does nothing, or restores the cell and removes records of the crossing from the buffers. -/
theorem silentBack_cases (s : State) (x : Nat) :
    silentBack s x = s ∨ ∃ k bK b0 b1, silentBack s x =
      { setXcell s x (takenBack (xcell s x) k) with
        ana := { (setXcell s x (takenBack (xcell s x) k)).ana with bufK := bK, bufW0 := b0, bufW1 := b1 } } := by
  unfold silentBack
  dsimp only
  split
  · exact .inl rfl
  · split
    · exact .inl rfl
    · exact .inr ⟨_, _, _, _, rfl⟩

/-- It changes the cells and the buffers alone. -/
theorem silentBack_frame (s : State) (x : Nat) :
    silentBack s x = { s with ana := { s.ana with xings := (silentBack s x).ana.xings, bufK := (silentBack s x).ana.bufK,
                                                  bufW0 := (silentBack s x).ana.bufW0, bufW1 := (silentBack s x).ana.bufW1 } } := by
  obtain e | ⟨k, bK, b0, b1, e⟩ := silentBack_cases s x
  · rw [e]
  · rw [e]; rfl

theorem xcell_silentBack_self (s : State) (x : Nat) :
    xcell (silentBack s x) x = xcell s x ∨ ∃ k, xcell (silentBack s x) x = takenBack (xcell s x) k := by
  obtain e | ⟨k, bK, b0, b1, e⟩ := silentBack_cases s x <;> rw [e]
  · exact .inl rfl
  · exact .inr ⟨k, setXcell_xcell_self _ _ _⟩

theorem xcell_silentBack_ne (s : State) {x y : Nat} (h : y ≠ x) : xcell (silentBack s x) y = xcell s y := by
  obtain e | ⟨k, bK, b0, b1, e⟩ := silentBack_cases s x <;> rw [e]
  exact setXcell_xcell_ne _ _ _ _ h

@[simp] theorem xSigned_silentBack (s : State) (x y : Nat) : xSigned (silentBack s x) y = xSigned s y := by
  rw [silentBack_frame]; rfl

@[simp] theorem mono_silentBack (s : State) (x : Nat) : mono (silentBack s x) = mono s := by
  rw [silentBack_frame]; rfl

@[simp] theorem now_silentBack (s : State) (x : Nat) : (silentBack s x).now = s.now := by
  rw [silentBack_frame]

@[simp] theorem xDesc_silentBack (s : State) (x : Nat) : xDesc (silentBack s x) x = xDesc s x := by
  have h : (xcell (silentBack s x) x).desc = (xcell s x).desc := by
    obtain e | ⟨k, e⟩ := xcell_silentBack_self s x <;> rw [e]
    rfl
  unfold xDesc
  rw [h, xSigned_silentBack]

/-- What a substitute leaves alone is what it was once the substitute is taken back. -/
theorem xcell_silentBack_filter (s : State) (x : Nat) (d : XDesc) (w : Int) :
    (xcell (silentBack s x) x).lastPass = (xcell s x).lastPass ∧
    (filterArrival d (xcell (silentBack s x) x) w).filtered = (filterArrival d (xcell s x) w).filtered ∧
    (filterArrival d (xcell (silentBack s x) x) w).hist = (filterArrival d (xcell s x) w).hist := by
  obtain e | ⟨k, e⟩ := xcell_silentBack_self s x <;> rw [e]
  · exact ⟨rfl, rfl, rfl⟩
  · rw [filterArrival_takenBack]
    exact ⟨rfl, rfl, rfl⟩

@[simp] theorem filteredIn_silentBack (s : State) (x : Nat) (v : XWord) : filteredIn (silentBack s x) x v = filteredIn s x v := by
  unfold filteredIn
  rw [xDesc_silentBack, xSigned_silentBack, (xcell_silentBack_filter s x _ _).2.1]

@[simp] theorem inRange_silentBack (s : State) (x : Nat) (v : XWord) : inRange (silentBack s x) x v ↔ inRange s x v := by
  simp [inRange]

@[simp] theorem tooOld_silentBack (s : State) (x : Nat) (p : Option Nat) : tooOld (silentBack s x) x p ↔ tooOld s x p := by
  simp [tooOld]

/-! ### A handshake that completes -/

/-- A value passes the guard and is recorded. -/
theorem passes_of_value (h : payEmpty pay = false) : passes s x v p pay =
    postRec (setXcell (silentBack s x) x (guardArrival (silentBack s x) x v p pay).1) (guardArrival (silentBack s x) x v p pay).2 :=
  if_neg (by simp [h])

/-- A handshake that completes changes the cell of its crossing and posts one record. -/
theorem passes_eq (s : State) (x : Nat) (v : XWord) (p : Option Nat) (pay : Pay) :
    ∃ u c r, passes s x v p pay = postRec (setXcell u x c) r ∧ (u = s ∨ u = silentBack s x) ∧ r.x = x ∧ r.stamp = mono s := by
  cases h : payEmpty pay with
  | true => exact ⟨s, _, _, if_pos h, .inl rfl, rfl, rfl⟩
  | false =>
    obtain ⟨hx, hs, -⟩ := guardArrival_rec (silentBack s x) x v p pay
    exact ⟨_, _, _, passes_of_value h, .inr rfl, hx, hs.trans (mono_silentBack s x)⟩

/-- It changes the anatomy alone, and there neither the handshakes held nor another crossing. -/
theorem passes_frame (s : State) (x : Nat) (v : XWord) (p : Option Nat) (pay : Pay) :
    passes s x v p pay = { s with ana := (passes s x v p pay).ana } ∧ (passes s x v p pay).ana.held = s.ana.held ∧
      ∀ y, y ≠ x → xcell (passes s x v p pay) y = xcell s y := by
  obtain ⟨u, c, r, e, hu, -, -⟩ := passes_eq s x v p pay
  rw [e]
  have hf : u = { s with ana := u.ana } ∧ u.ana.held = s.ana.held ∧ ∀ y, y ≠ x → xcell u y = xcell s y := by
    obtain rfl | rfl := hu
    · exact ⟨rfl, rfl, fun _ _ => rfl⟩
    · exact ⟨by rw [silentBack_frame], by rw [silentBack_frame], fun _ => xcell_silentBack_ne s⟩
  obtain ⟨hu, hh, hy⟩ := hf
  refine ⟨?_, (held_postRec _ _).trans hh, fun y h => ?_⟩
  · rw [postRec_frame, hu]; rfl
  · rw [xcell_postRec, setXcell_xcell_ne _ _ _ _ h, hy y h]

/-- Its record stands in the buffers of the crossing's destinations. -/
theorem passes_posts (s : State) (x : Nat) (v : XWord) (p : Option Nat) (pay : Pay) :
    ∃ r, r.x = x ∧ r.stamp = mono s ∧ inBuffers (passes s x v p pay) r := by
  obtain ⟨u, c, r, e, -, hx, hs⟩ := passes_eq s x v p pay
  exact ⟨r, hx, hs, e ▸ postRec_inBuffers _ _⟩

/-- The cell after a value has passed the guard, from the cell before it arrived (R12, R13, R35, R37). -/
theorem xcell_passes (h : payEmpty pay = false) :
    ∃ r o : Bool, (r = true ↔ ¬inRange s x v) ∧ (o = true ↔ tooOld s x p) ∧
      (xcell (passes s x v p pay) x).lastArrival = some s.now ∧
      (xcell (passes s x v p pay) x).filtered = some (filteredIn s x v) ∧
      (xcell (passes s x v p pay) x).hist = (filterArrival (xDesc s x) (xcell s x) (wordVal (xSigned s x) v)).hist ∧
      (xcell (passes s x v p pay) x).silent = false ∧
      (xcell (passes s x v p pay) x).range = r ∧ (xcell (passes s x v p pay) x).stale = o ∧
      (xcell (passes s x v p pay) x).lastPass = (if r || o then (xcell s x).lastPass else some (filteredIn s x v)) ∧
      (xcell (passes s x v p pay) x).cur =
        some (if r || o then substitute (xSigned s x) (xDesc s x) (xcell s x) else filteredIn s x v) ∧
      (xcell (passes s x v p pay) x).episode = (if r then some .range else if o then some .stale else none) := by
  obtain ⟨r, o, hr, ho, e⟩ := guardArrival_cell (silentBack s x) x v p pay
  obtain ⟨hl, hf, hh⟩ := xcell_silentBack_filter s x (xDesc s x) (wordVal (xSigned s x) v)
  rw [inRange_silentBack] at hr
  rw [tooOld_silentBack] at ho
  simp only [xDesc_silentBack, xSigned_silentBack, filteredIn_silentBack, now_silentBack, hl, substitute_congr hl] at e
  rw [passes_of_value h, xcell_postRec, setXcell_xcell_self, e]
  exact ⟨r, o, hr, ho, rfl, hf.trans (filterArrival_filtered _ _ _), hh, rfl, rfl, rfl, rfl, rfl, rfl⟩

/-- The record of a value that has passed the guard carries what the cell now holds. -/
theorem passes_record (h : payEmpty pay = false) :
    ∃ r : Rec, r.x = x ∧ r.stamp = mono s ∧ r.ptick = p ∧ r.silent = false ∧ (xcell (passes s x v p pay) x).cur = some r.val ∧
      (xcell (passes s x v p pay) x).range = r.range ∧ (xcell (passes s x v p pay) x).stale = r.stale ∧
      inBuffers (passes s x v p pay) r := by
  obtain ⟨hx, hs, hp, hq, hc, hr, ho⟩ := guardArrival_rec (silentBack s x) x v p pay
  rw [mono_silentBack] at hs
  rw [passes_of_value h, xcell_postRec, setXcell_xcell_self]
  exact ⟨_, hx, hs, hp, hq, hc, hr, ho, postRec_inBuffers _ _⟩

/-! ### Arrivals -/

/-- An arrival changes the anatomy alone, and there no other crossing. -/
theorem arrive_frame (s : State) (x : Nat) (v : XWord) (p : Option Nat) (pay : Pay) :
    arrive s x v p pay = { s with ana := (arrive s x v p pay).ana } ∧ ∀ y, y ≠ x → xcell (arrive s x v p pay) y = xcell s y := by
  obtain ⟨-, e⟩ | ⟨-, -, -, e⟩ | ⟨-, -, -, -, e⟩ := arrive_cases s x v p pay <;> rw [e]
  · exact ⟨rfl, fun _ _ => rfl⟩
  · exact ⟨rfl, fun _ _ => rfl⟩
  · exact ⟨(passes_frame s x v p pay).1, (passes_frame s x v p pay).2.2⟩

theorem arrive_of_room (hx : xUsed x = true) (hg : guardOn s = true) (hb : bufFull s x = false) (hw : waitsBehind s x = false) :
    arrive s x v p pay = passes s x v p pay := by
  simp [arrive, hx, hg, hb, hw]

theorem arrive_of_full (hx : xUsed x = true) (hg : guardOn s = true) (hb : bufFull s x = true ∨ waitsBehind s x = true) :
    arrive s x v p pay = stallCount { s with ana := { s.ana with held := s.ana.held ++ [⟨x, v, p, pay⟩] } } := by
  simp [arrive, hx, hg, hb]

/-- A guarded arrival is an arrival at its crossing; with the status word of a port come its current and its bus voltage. -/
theorem exec_guardedArrival (s : State) (x : Fin 240) (v : XWord) (p : Option Nat) :
    ∃ f ports pay, payEmpty pay = false ∧
      exec (.guardedArrival x v p) s = .next (arrive { s with fresh := f, drv := { s.drv with ports := ports } } x v p pay) ∧
      (x.val < 176 ∨ 180 ≤ x.val → f = s.fresh ∧ ports = s.drv.ports) ∧
      ∀ q, (∃ ma busv, tget {} ports q = { tget {} s.drv.ports q with ma := ma, busv := busv }) ∧
        (q + 176 ≠ x.val → tget {} ports q = tget {} s.drv.ports q) := by
  by_cases h : (176 ≤ x.val && x.val < 180 && guardOn s) = true
  · have e : exec (.guardedArrival x v p) s = .next (arrive (portPay s (x.val - 176)).1 x v p (portPay s (x.val - 176)).2) :=
      congrArg Host.Outcome.next (if_pos h)
    simp only [Bool.and_eq_true, decide_eq_true_eq] at h
    refine ⟨_, _, _, rfl, e, by omega, fun q => ?_⟩
    by_cases hq : q = x.val - 176
    · rw [hq]
      exact ⟨⟨_, _, tget_tset_self _ _ _ _⟩, by omega⟩
    · rw [tget_tset_ne _ _ _ hq]
      exact ⟨⟨_, _, rfl⟩, fun _ => rfl⟩
  · exact ⟨s.fresh, s.drv.ports, .none, rfl, congrArg Host.Outcome.next (if_neg h), fun _ => ⟨rfl, rfl⟩, fun q => ⟨⟨_, _, rfl⟩, fun _ => rfl⟩⟩

/-- One that finds room passes at once. -/
theorem exec_guardedArrival_of_room (s : State) (x : Fin 240) (v : XWord) (p : Option Nat) (hx : xUsed x = true)
    (hg : guardOn s = true) (hb : bufFull s x = false) (hw : waitsBehind s x = false) :
    ∃ f ports pay, payEmpty pay = false ∧
      exec (.guardedArrival x v p) s = .next (passes { s with fresh := f, drv := { s.drv with ports := ports } } x v p pay) := by
  obtain ⟨f, ports, pay, hpay, e, -⟩ := exec_guardedArrival s x v p
  exact ⟨f, ports, pay, hpay, e.trans (congrArg Host.Outcome.next (arrive_of_room hx hg hb hw))⟩

/-! ### Held handshakes, silence and descriptors -/

/-- The first held handshake whose buffers have room completes. -/
theorem exec_heldHandshake_of_room {h : Held} {l : List Held} (hs : s.ana.held = h :: l) (hg : guardOn s = true)
    (hb : bufFull s h.x = false) :
    exec .heldHandshake s = .next (passes { s with ana := { s.ana with held := l } } h.x h.v h.ptick h.pay) := by
  show Host.Outcome.next (releaseHeld s) = _
  simp [releaseHeld, hs, hg, hb]

theorem exec_heldHandshake_of_none (h : s.ana.held = [] ∨ guardOn s = false) : exec .heldHandshake s = .next s :=
  congrArg Host.Outcome.next (if_pos (by simpa [or_comm] using h))

/-- A silence row does nothing, or the SILENT substitute of its instant comes. -/
theorem exec_silenceExpiry_cases {x : Fin 240} (h : exec (.silenceExpiry x) s = .next t) :
    t = s ∨ ∃ d s', comesAt s d = some s' ∧ t = silence x d s' := by
  obtain rfl := Host.Outcome.next.inj h
  split
  · exact .inl rfl
  · split
    · next d _ =>
      cases hc : comesAt s d with
      | none => exact .inl (atTick_none hc)
      | some s' => exact .inr ⟨d, s', hc, atTick_some hc⟩
    · exact .inl rfl

theorem exec_silenceExpiry_of_due {x : Fin 240} {d : Nat} {s' : State} (hg : guardOn s = true) (hd : silenceDue s x = some d)
    (hc : comesAt s d = some s') : exec (.silenceExpiry x) s = .next (silence x d s') := by
  show Host.Outcome.next _ = _
  rw [hg, hd]
  exact congrArg Host.Outcome.next (atTick_some hc)

/-- A substitute for a silent source leaves every filter history as it was (R15). -/
theorem silence_hist (x d : Nat) (s : State) (y : Nat) : (xcell (silence x d s) y).hist = (xcell s y).hist := by
  unfold silence
  split
  · rfl
  · dsimp only
    rw [xcell_postRec]
    by_cases h : y = x
    · subst h; rw [setXcell_xcell_self]
    · rw [setXcell_xcell_ne _ _ _ _ h]

/-- The SILENT substitute, where its buffers have room. -/
theorem xcell_silence {d : Nat} (h : bufFull s x = false) :
    (xcell (silence x d s) x).silent = true ∧ (xcell (silence x d s) x).episode = some .silent ∧
      (xcell (silence x d s) x).cur = some (substitute (xSigned s x) (xDesc s x) (xcell s x)) := by
  unfold silence
  rw [if_neg (by simp [h])]
  dsimp only
  rw [xcell_postRec, setXcell_xcell_self]
  exact ⟨rfl, rfl, rfl⟩

theorem writeDesc_of_ok {d : XDesc} (hx : xConfigurable x = true) (hd : descOk (xSigned s x) x d = true) :
    writeDesc s x d = setXcell s x { xcell s x with next := some d } :=
  if_pos (by simp [hx, hd])

end Sys2Proof.Laws

namespace Sys2Proof.Proofs
open Sys2Proof Sys2Proof.Machine Sys2Proof.Laws

/-- Settles O14: the cell after the guard stage, in its three cases. -/
theorem guardsPassOrSubstitute : Obligations.GuardsPassOrSubstitute := by
  intro s x v p hx hg hb hw
  obtain ⟨f, ports, pay, hpay, e⟩ := exec_guardedArrival_of_room s x v p hx hg hb hw
  obtain ⟨r, o, hr, ho, hl, hf, -, hq, hran, hsta, hlp, hcur, hep⟩ :=
    xcell_passes (s := { s with fresh := f, drv := { s.drv with ports := ports } }) (x := x) (v := v) (p := p) hpay
  obtain ⟨h0, h1, h2, h3⟩ := substitute_by_code (xSigned s x) (xDesc s x) (xcell s x)
  refine ⟨_, e, hl, hf, hq, fun ⟨hi, hn⟩ => ?_, fun hi => ?_, fun hi hn => ?_, fun hn => ?_⟩
  · obtain rfl : r = false := Bool.eq_false_iff.mpr fun h => hr.mp h hi
    obtain rfl : o = false := Bool.eq_false_iff.mpr fun h => hn (ho.mp h)
    exact ⟨hcur, hlp, hep, hran, hsta⟩
  · obtain rfl : r = true := hr.mpr hi
    exact ⟨hran, hep⟩
  · obtain rfl : r = false := Bool.eq_false_iff.mpr fun h => hr.mp h hi
    obtain rfl : o = true := ho.mpr hn
    exact ⟨hsta, hran, hep⟩
  · have hfails : (r || o) = true := by
      by_contra h
      simp only [Bool.or_eq_true, not_or] at h
      exact hn ⟨not_not.mp (mt hr.mpr h.1), mt ho.mpr h.2⟩
    rw [if_pos hfails] at hlp hcur
    exact ⟨hlp, fun h => h0 h ▸ hcur, fun h => h1 h ▸ hcur, fun h => h2 h ▸ hcur, fun h => h3 h ▸ hcur⟩

/-- Settles O15: an arrival changes the anatomy alone, and the values of a port come with it. -/
theorem arrivalsTouchTheirCrossingAlone : Obligations.ArrivalsTouchTheirCrossingAlone := by
  intro s t x v p h
  obtain ⟨f, ports, pay, -, e, hout, hports⟩ := exec_guardedArrival s x v p
  obtain rfl := Host.Outcome.next.inj (e.symm.trans h)
  obtain ⟨ha, hy⟩ := arrive_frame { s with fresh := f, drv := { s.drv with ports := ports } } x v p pay
  refine ⟨hy, fun hx => ?_, ?_, fun q => ?_⟩
  · obtain ⟨rfl, rfl⟩ := hout hx
    exact ha
  · rw [ha]
  · rw [ha]
    obtain ⟨⟨ma, busv, hq⟩, hne⟩ := hports q
    exact ⟨by simp only [portOf_, hq], hne⟩

/-- Settles O57: the filter takes the arriving value alone, and a substitute does not pass through it. -/
theorem filterHistoryHoldsArrivals : Obligations.FilterHistoryHoldsArrivals := by
  refine fun s t x => ⟨fun v p h k hk => ?_, fun h y => ?_⟩
  · obtain ⟨f, ports, pay, hpay, e, -⟩ := exec_guardedArrival s x v p
    obtain rfl := Host.Outcome.next.inj (e.symm.trans h)
    obtain ⟨-, ea⟩ | ⟨-, -, -, ea⟩ | ⟨-, -, -, -, ea⟩ :=
      arrive_cases { s with fresh := f, drv := { s.drv with ports := ports } } x v p pay <;> rw [ea] at hk
    · exact .inl hk
    · exact .inl hk
    · obtain ⟨-, -, -, -, -, -, hh, -⟩ := xcell_passes (s := { s with fresh := f, drv := { s.drv with ports := ports } })
        (x := x) (v := v) (p := p) hpay
      rw [hh] at hk
      exact mem_filterArrival_hist hk
  · obtain rfl | ⟨d, s', hc, rfl⟩ := exec_silenceExpiry_cases h
    · rfl
    · rw [silence_hist, comesAt_now hc]
      rfl

/-- Settles O16, row by row. -/
theorem crossingRowsComplete : Obligations.CrossingRowsComplete := by
  intro s x v p
  refine ⟨fun hx hg hb hw => ?_, fun hx hg hb => ?_, fun h l hs hg hb => ?_, exec_heldHandshake_of_none, fun d s' hg hb hd hc => ?_,
    fun r w m hx hd => ?_⟩
  · obtain ⟨f, ports, pay, hpay, e⟩ := exec_guardedArrival_of_room s x v p hx hg hb hw
    obtain ⟨r, hrx, hrs, hrp, hrq, hrc, hrr, hro, hbuf⟩ :=
      passes_record (s := { s with fresh := f, drv := { s.drv with ports := ports } }) (x := x) (v := v) (p := p) hpay
    rw [inBuffers, hrx] at hbuf
    exact ⟨_, r, e, hrx, hrs, hrp, hrq, hrc, hrr, hro, hbuf⟩
  · obtain ⟨f, ports, pay, -, e, -⟩ := exec_guardedArrival s x v p
    exact ⟨_, ⟨x, v, p, pay⟩, e.trans (congrArg Host.Outcome.next (arrive_of_full hx hg hb)), rfl, rfl, rfl, rfl, rfl, rfl, rfl, rfl⟩
  · obtain ⟨r, hrx, hrs, hbuf⟩ := passes_posts { s with ana := { s.ana with held := l } } h.x h.v h.ptick h.pay
    rw [inBuffers, hrx] at hbuf
    exact ⟨_, r, exec_heldHandshake_of_room hs hg hb, (passes_frame _ _ _ _ _).2.1, hrx, hrs, hbuf⟩
  · obtain rfl := comesAt_now hc
    exact ⟨_, exec_silenceExpiry_of_due hg hd hc, xcell_silence (s := { s with now := max s.now d }) hb⟩
  · refine ⟨_, congrArg Host.Outcome.next (writeDesc_of_ok hx hd), ?_, fun y hy => setXcell_xcell_ne _ _ _ _ hy⟩
    rw [setXcell_xcell_self]

end Sys2Proof.Proofs
end

section
/-!
What notices and audit records leave alone, and what the rows of the workers and of the keeper do (R23 to R27, R233).
-/
namespace Sys2Proof.Laws
open Sys2Proof Sys2Proof.Machine
variable {s t : State}

/-! ### What a notice and an audit record leave alone -/

/-- What every member of a fold leaves alone, the fold leaves alone. -/
theorem foldl_keeps {α β γ : Type} {f : α → β → α} (g : α → γ) (h : ∀ a b, g (f a b) = g a) (l : List β) (a : α) :
    g (l.foldl f a) = g a := by
  induction l generalizing a with
  | nil => rfl
  | cons b l ih => exact (ih _).trans (h a b)

/-- The state without what a notice can change: the sessions and the log of ALARM notices. -/
def untold (s : State) : State := { s with vil := {}, tst := {} }

/-- The state without what an audit record can change: what a notice can, and the secure core but for the violations. -/
def unaudited (s : State) : State := { s with vil := {}, tst := {}, sec := { viol := s.sec.viol } }

theorem unaudited_of_untold (h : untold t = untold s) : unaudited t = unaudited s :=
  (congrArg unaudited h :)

@[simp] theorem untold_setSes (s : State) (k : Sess) (x : Session) : untold (setSes s k x) = untold s := by
  cases k <;> rfl

@[simp] theorem untold_noticeQueue (s : State) (k : Sess) (n : String) (o : Option Obj) (a : String) :
    untold (noticeQueue s k n o a) = untold s :=
  untold_setSes _ _ _

@[simp] theorem untold_lostTold (s : State) (k : Sess) : untold (lostTold s k) = untold s := by
  unfold lostTold
  dsimp only
  split
  · exact (untold_noticeQueue _ _ _ _ _).trans (untold_setSes _ _ _)
  · rfl

@[simp] theorem untold_noticeTo (n : String) (o : Option Obj) (a : String) (e : Bool) (s : State) (k : Sess) :
    untold (noticeTo n o a e s k) = untold s := by
  unfold noticeTo noticePush modSes
  dsimp only
  split
  · split <;> simp
  · rfl

/-- A notice changes the sessions and the log of ALARM notices alone. -/
@[simp] theorem untold_notify (s : State) (n : String) (o : Option Obj) (a : String) : untold (notify s n o a) = untold s := by
  have hf := foldl_keeps untold (untold_noticeTo n o a (toEvery n)) portSess s
  unfold notify
  dsimp only
  split
  · rfl
  · split <;> exact hf

@[simp] theorem notify_ana (s : State) (n : String) (o : Option Obj) (a : String) : (notify s n o a).ana = s.ana :=
  (congrArg State.ana ((untold_notify s n o a)) :)

@[simp] theorem notify_sec (s : State) (n : String) (o : Option Obj) (a : String) : (notify s n o a).sec = s.sec :=
  (congrArg State.sec ((untold_notify s n o a)) :)

@[simp] theorem untold_lateNotices (s : State) : untold (lateNotices s) = untold s := by
  unfold lateNotices
  split
  · rfl
  · exact foldl_keeps untold (fun _ _ => untold_notify _ _ _ _) _ _

@[simp] theorem lateNotices_ana (s : State) : (lateNotices s).ana = s.ana :=
  (congrArg State.ana ((untold_lateNotices s)) :)

@[simp] theorem unaudited_notify (s : State) (n : String) (o : Option Obj) (a : String) : unaudited (notify s n o a) = unaudited s :=
  unaudited_of_untold (untold_notify s n o a)

@[simp] theorem unaudited_auditStore (s : State) (r : AuditRec) : unaudited (auditStore s r) = unaudited s := by
  unfold auditStore
  dsimp only
  split_ifs
  · exact unaudited_notify _ _ _ _
  · exact unaudited_notify _ _ _ _
  · rfl
  · rfl
  · exact unaudited_notify _ _ _ _
  · rfl

@[simp] theorem unaudited_auditMiss (s : State) : unaudited (auditMiss s) = unaudited s := rfl

@[simp] theorem unaudited_auditWrite (s : State) (r : AuditRec) : unaudited (auditWrite s r) = unaudited s := by
  unfold auditWrite
  dsimp only
  split
  · exact unaudited_auditStore _ _
  · exact (unaudited_auditStore _ _).trans (unaudited_auditStore _ _)

@[simp] theorem unaudited_auditHold (s : State) (r : AuditRec) : unaudited (auditHold s r) = unaudited s := by
  unfold auditHold
  dsimp only
  split
  · exact unaudited_notify _ _ _ _
  · split_ifs <;> rfl

@[simp] theorem unaudited_missedFirst (s : State) : unaudited (missedFirst s) = unaudited s := by
  unfold missedFirst
  split
  · rfl
  · dsimp only
    split
    · rfl
    · exact unaudited_auditStore _ _

@[simp] theorem unaudited_auditFlush (s : State) : unaudited (auditFlush s) = unaudited s := by
  unfold auditFlush
  split
  · exact (foldl_keeps unaudited unaudited_auditStore _ _).trans (unaudited_missedFirst s)
  · rfl

/-- An audit record of the device's own changes the secure core, its notices and no count of violations. -/
@[simp] theorem unaudited_auditInternal (s : State) (k : Nat) (x : String) : unaudited (auditInternal s k x) = unaudited s := by
  unfold auditInternal auditAdd
  dsimp only
  split
  · rfl
  · split
    · exact unaudited_auditHold _ _
    · split_ifs <;> simp

@[simp] theorem auditInternal_ana (s : State) (k : Nat) (x : String) : (auditInternal s k x).ana = s.ana :=
  (congrArg State.ana (unaudited_auditInternal s k x) :)

@[simp] theorem auditInternal_viol (s : State) (k : Nat) (x : String) : (auditInternal s k x).sec.viol = s.sec.viol :=
  (congrArg (fun t => t.sec.viol) (unaudited_auditInternal s k x) :)

/-! ### Supervision -/

theorem supervised_workersReset (h : supervised s = true) : s.ana.workersReset = none := by
  simp only [supervised, Bool.and_eq_true, Option.isNone_iff_eq_none] at h
  exact h.2

theorem windowOver_of_supervised (h : supervised s = true) : windowOver s = decide (10 * (s.ana.window + 1) ≤ s.epoch) := by
  simp [windowOver, h]

/-- What is told of a restart leaves all but its own mark. -/
theorem restartTold_ana (s : State) : (restartTold s).ana = { s.ana with restarted := (restartTold s).ana.restarted } := by
  unfold restartTold
  split
  · rw [lateNotices_ana, notify_ana]
  · rfl

/-- Inside its window, a heartbeat of a worker that is supervised is noted. -/
theorem exec_workerHeartbeat_inside (w : Fin 2) (hs : supervised s = true) (hw : s.epoch < 10 * (s.ana.window + 1)) :
    exec (.workerHeartbeat w) s = .next (restartTold (if w = 0 then { s with ana := { s.ana with beat0 := true, seen0 := true } }
      else { s with ana := { s.ana with beat1 := true, seen1 := true } })) := by
  have hover : windowOver s = false := by rw [windowOver_of_supervised hs]; exact decide_eq_false (Nat.not_le_of_lt hw)
  show Host.Outcome.next (if supervised s then beatsIn s w else s) = _
  simp [beatsIn, hs, hover, supervised_workersReset hs]

theorem exec_workerHeartbeat_unsupervised (w : Fin 2) (hs : supervised s = false) : exec (.workerHeartbeat w) s = .next s :=
  congrArg Host.Outcome.next (if_neg (by simp [hs]))

/-- The state with the window counted: its misses, and a good window where both heartbeats came. -/
def windowCounted (s : State) : State :=
  { s with ana := { s.ana with
      window := s.epoch / 10, beat0 := false, beat1 := false,
      miss0 := missStep s s.ana.beat0 s.ana.seen0 s.ana.miss0, miss1 := missStep s s.ana.beat1 s.ana.seen1 s.ana.miss1,
      goodWindows := if s.ana.beat0 && s.ana.beat1 then s.ana.goodWindows + 1 else 0 } }

/-- A window that closes is counted; at the third miss in a row the keeper takes over. -/
theorem windowCloses_eq (s : State) : windowCloses s =
    if 3 ≤ (windowCounted s).ana.miss0 || 3 ≤ (windowCounted s).ana.miss1 then takeover (windowCounted s) else windowCounted s :=
  rfl

theorem exec_heartbeatWindowClose_over (h : windowOver s = true) : exec .heartbeatWindowClose s = .next (windowCloses s) :=
  congrArg Host.Outcome.next (if_pos h)

theorem exec_heartbeatWindowClose_open (h : windowOver s = false) : exec .heartbeatWindowClose s = .next s :=
  congrArg Host.Outcome.next (if_neg (by simp [h]))

theorem windowCloses_of_beats (h0 : s.ana.beat0 = true) (h1 : s.ana.beat1 = true) : windowCloses s = windowCounted s := by
  simp [windowCloses_eq, windowCounted, missStep, h0, h1]

/-- A worker that has been heard since its release misses each window without a heartbeat. -/
theorem windowCounted_miss0 (h0 : s.ana.beat0 = false) (hs : s.ana.seen0 = true) : (windowCounted s).ana.miss0 = s.ana.miss0 + 1 := by
  simp [windowCounted, missStep, h0, hs]

/-! ### The release of the workers -/

theorem jrnAnchor_frame (s : State) (c : Nat) : jrnAnchor s c = { s with jrn := (jrnAnchor s c).jrn } := by
  unfold jrnAnchor
  split
  · rfl
  · split
    · split <;> rfl
    · rfl

theorem jrnTrigger_frame (s : State) (c : Nat) : jrnTrigger s c = { s with jrn := (jrnTrigger s c).jrn } := by
  unfold jrnTrigger jrnPut
  dsimp only
  split_ifs <;> rfl

/-- A protection that leaves CLEAR changes neither the anatomy nor the configuration. -/
theorem protState_keeps (s : State) (p : Nat) {n : Nat} (hn : n ≠ 0) :
    ((protState s p n).ana, (protState s p n).cfg) = (s.ana, s.cfg) := by
  unfold protState
  dsimp only
  split
  · rfl
  · rw [jrnTrigger_frame]
    rfl

theorem protWarm_keeps (s : State) (p : Nat) : ((protWarm s p).ana, (protWarm s p).cfg) = (s.ana, s.cfg) := by
  unfold protWarm
  split
  · split
    · exact protState_keeps s p (by decide)
    · rfl
  · rfl

/-- The stored configuration in force again where the copy is broken; the positions are then unknown (R24). -/
def configRestored (ok : Bool) (s : State) : State :=
  if ok then s
  else (usedDrives { s with cfg := s.stored }).foldl (fun s d => modDr s d fun r => { r with q := 2, pos := 0 }) { s with cfg := s.stored }

theorem configRestored_keeps (ok : Bool) (s : State) :
    (configRestored ok s).ana = s.ana ∧ (ok = false → (configRestored ok s).cfg = s.stored) := by
  cases ok with
  | true => exact ⟨rfl, nofun⟩
  | false =>
    have h := foldl_keeps (fun s : State => (s.ana, s.cfg)) (f := fun s d => modDr s d fun r => { r with q := 2, pos := 0 })
      (fun _ _ => rfl) (usedDrives { s with cfg := s.stored }) { s with cfg := s.stored }
    exact ⟨(Prod.mk.inj h).1, fun _ => (Prod.mk.inj h).2⟩

/-- Supervision of the workers just released. -/
def supervisionFresh (s : State) : State := superviseAnew { s with ana := { s.ana with workersReset := none, goodWindows := 0 } }

/-- The workers before the anchor of their release. -/
def workersFresh (ok : Bool) (s : State) : State := (List.range 4).foldl protWarm (configRestored ok (supervisionFresh s))

theorem workersFresh_keeps (ok : Bool) (s : State) :
    (workersFresh ok s).ana = (supervisionFresh s).ana ∧ (ok = false → (workersFresh ok s).cfg = s.stored) := by
  obtain ⟨hana, hcfg⟩ := configRestored_keeps ok (supervisionFresh s)
  unfold workersFresh
  generalize configRestored ok (supervisionFresh s) = u at *
  obtain ⟨hana', hcfg'⟩ := Prod.mk.inj (foldl_keeps (fun s : State => (s.ana, s.cfg)) protWarm_keeps (List.range 4) u)
  exact ⟨hana'.trans hana, fun h => hcfg'.trans (hcfg h)⟩

theorem workersStart_eq (ok : Bool) (s : State) : workersStart ok s =
    jrnAnchor { workersFresh ok s with ana := { (workersFresh ok s).ana with restarted := true } } 1 := by
  unfold workersStart workersFresh configRestored supervisionFresh
  rfl

/-- The workers are released: supervision starts afresh, and the stored configuration comes back where the copy is broken. -/
theorem workersStart_effect (ok : Bool) (s : State) :
    (workersStart ok s).ana.workersReset = none ∧ (workersStart ok s).ana.restarted = true ∧
      (workersStart ok s).ana.workerFrom = s.now ∧ (ok = false → (workersStart ok s).cfg = s.stored) := by
  obtain ⟨hana, hcfg⟩ := workersFresh_keeps ok s
  rw [workersStart_eq, jrnAnchor_frame]
  dsimp only
  rw [hana]
  exact ⟨rfl, rfl, rfl, hcfg⟩

/-! ### The watchdog and violations -/

/-- The instant at which 100 ms have passed without service. -/
def watchdogAt (s : State) : State := { s with now := max s.now (s.ana.watchdog + 100 * tickMs) }

theorem exec_keeperWatchdogExpiry (hr : coreRuns s = true) (hc : s.pwr.committed = false) (hm : s.ana.mode ≠ .quiet) :
    exec .keeperWatchdogExpiry s = .next (resetBegins (watchdogAt s) .wdog 0) :=
  congrArg Host.Outcome.next (if_neg (by simp [hr, hc, hm]))

/-- The violation counted, recorded and told (R233). -/
def violationTold (w : Fin 2) (addr : Word) (s : State) : State :=
  let s := auditInternal s 20 (joinStr " " ["VIOLATION", "WORK" ++ natStr w.val, codeStr addr.toNat])
  notify { s with sec := { s.sec with viol := satInc 65535 s.sec.viol, violBy := w.val + 1 } } "SEC.VIOLATION" none
    ("WORKER=" ++ ("WORK" ++ natStr w.val) ++ " ADDR=" ++ codeStr addr.toNat)

theorem violationTold_effect (w : Fin 2) (addr : Word) (s : State) :
    (violationTold w addr s).ana = s.ana ∧ (violationTold w addr s).sec.viol = satInc 65535 s.sec.viol ∧
      (violationTold w addr s).sec.violBy = w.val + 1 := by
  simp [violationTold]

theorem exec_secViolation (w : Fin 2) (addr : Word) (hr : coreRuns s = true) (hc : s.pwr.committed = false) (hm : s.ana.mode ≠ .off) :
    exec (.secViolation w addr) s = .next (if (violationTold w addr s).ana.workersReset.isSome then violationTold w addr s
      else takeover (violationTold w addr s)) :=
  congrArg Host.Outcome.next (if_neg (by simp [hr, hc, hm]))

end Sys2Proof.Laws

namespace Sys2Proof.Proofs
open Sys2Proof Sys2Proof.Machine Sys2Proof.Laws

/-- Settles O18, row by row. -/
theorem workerRowsComplete : Obligations.WorkerRowsComplete := by
  intro s
  refine ⟨fun hs hw => ⟨?_, ?_⟩, exec_workerHeartbeat_unsupervised, fun hs hw => ⟨fun h0 h1 => ?_, fun h0 hseen hmiss => ?_⟩,
    exec_heartbeatWindowClose_open, fun ok s' hr hc => ?_, fun hr ha => ?_, fun hr hc hm => ?_, fun w a hr hc hm => ?_⟩
  · refine ⟨_, exec_workerHeartbeat_inside 0 hs hw, ?_⟩
    rw [restartTold_ana]
    exact ⟨rfl, rfl, rfl, rfl⟩
  · refine ⟨_, exec_workerHeartbeat_inside 1 hs hw, ?_⟩
    rw [restartTold_ana]
    exact ⟨rfl, rfl, rfl, rfl⟩
  · have hover : windowOver s = true := by rw [windowOver_of_supervised hs]; exact decide_eq_true hw
    refine ⟨_, exec_heartbeatWindowClose_over hover, ?_⟩
    rw [windowCloses_of_beats h0 h1]
    simp [windowCounted, missStep, h0, h1]
  · have hover : windowOver s = true := by rw [windowOver_of_supervised hs]; exact decide_eq_true hw
    have hcount : (windowCounted s).ana.miss0 = s.ana.miss0 + 1 := windowCounted_miss0 h0 hseen
    refine ⟨_, windowCounted s, exec_heartbeatWindowClose_over hover, ?_, rfl, hcount⟩
    rw [windowCloses_eq, if_pos]
    simp only [hcount, Bool.or_eq_true, decide_eq_true_eq]
    omega
  · obtain ⟨n, hn, hcome⟩ := comesAt?_cases hc
    obtain ⟨hnone, hrest, hfrom, hcfg⟩ := workersStart_effect ok s'
    have e : exec (.workerRelease ok) s = .next (workersStart ok s') :=
      congrArg Host.Outcome.next ((if_pos hr).trans (atTick_some hc))
    refine ⟨_, e, hnone, hrest, hfrom, fun h => (hcfg h).trans ?_⟩
    rw [comesAt_now hcome]
  · exact ⟨_, congrArg Host.Outcome.next (if_pos (by simp [hr, ha])), addCause_stands s 10 .run⟩
  · exact ⟨_, exec_keeperWatchdogExpiry hr hc hm, rfl,
      (Nat.le_max_right s.now _).trans (keeps_resetBegins (Keeps.refl (watchdogAt s))).time⟩
  · obtain ⟨hana, hviol, hby⟩ := violationTold_effect w a s
    refine ⟨_, violationTold w a s, exec_secViolation w a hr hc hm, hviol, hby, hana, ?_⟩
    rw [hana]

end Sys2Proof.Proofs
end

section
/-!
What the rows of slew, step, pulse and RTC leave alone, and their effect at their instants (R43, R558 to R565).
-/
namespace Sys2Proof.Laws
open Sys2Proof Sys2Proof.Machine
variable {s t : State}

/-! ### The pulse -/

/-- A pulse takes its label and its pad, and its record arrives at X196. -/
theorem pulse_of_due {n : Int} (h : s.tim.pulseDue = some n) : ∃ e ana, pulse s =
    { s with ana := ana, tim := { s.tim with pulseHigh := cfgOn s timeObj "PULSE", label := n.toNat, pulseAt := some s.now,
                                             pulseEnd := e, pulseDue := some (n + 1) } } := by
  unfold pulse
  rw [h]
  dsimp only
  rw [(arrive_frame _ _ _ _ _).1]
  exact ⟨_, _, rfl⟩

/-- A pulse leaves the clock and the count of steps as they were. -/
theorem pulse_keeps (s : State) : (pulse s).now = s.now ∧ (pulse s).tim.nSteps = s.tim.nSteps := by
  cases h : s.tim.pulseDue with
  | none => unfold pulse; rw [h]; exact ⟨rfl, rfl⟩
  | some n =>
    obtain ⟨e, ana, hp⟩ := pulse_of_due h
    rw [hp]
    exact ⟨rfl, rfl⟩

/-! ### The step and the RTC -/

/-- The RTC is written, with the time beside it. -/
theorem rtcWrite_of_valid (hq : s.tim.quality ≠ 0) (hp : s.pwr.pilot = .normal) (hx : xFailing s 196 = false) : rtcWrite s =
    { s with tim := { s.tim with rtcBase := (timeNow s).toNat * 32768 / 80000000, rtcAt := s.now, tAlign := timeNow s,
                                 uAlign := timeUnc s, rtcAnchor := s.tim.anchor }, pwr := { s.pwr with rtcValid := true } } :=
  if_neg (by simp [hq, hp, hx])

/-- What TIME_STEP states of a state: no step is pending, the steps are counted, network time is referred to now and is no
longer lost. -/
def stepDone (n now : Nat) (s : State) : Prop :=
  s.tim.step = none ∧ s.tim.nSteps = n ∧ s.tim.refTick = now ∧ s.now = now ∧ s.pwr.timeLost = false

theorem rtcWrite_stepDone {n now : Nat} (h : stepDone n now s) : stepDone n now (rtcWrite s) := by
  unfold rtcWrite
  split
  · exact h
  · exact h

theorem qualRefresh_stepDone {n now : Nat} (h : stepDone n now s) : stepDone n now (qualRefresh s) := by
  obtain ⟨hs, hn, hr, hnow, hl⟩ := h
  unfold qualRefresh holdRefresh
  dsimp only
  split
  · exact ⟨hs, hn, hr, hnow, hl⟩
  · exact ⟨hs, hn, hnow, hnow, hl⟩

/-- A step applied is counted and done. -/
theorem stepApply_stepDone (p : StepPend) (s : State) : stepDone (satInc 0xFFFF s.tim.nSteps) s.now (stepApply p s) := by
  obtain ⟨u, hu, hn, hnow⟩ : ∃ u, u = (if s.tim.pulseDue = some p.label then pulse s else s) ∧ u.tim.nSteps = s.tim.nSteps ∧ u.now = s.now := by
    split
    · exact ⟨_, rfl, (pulse_keeps s).2, (pulse_keeps s).1⟩
    · exact ⟨_, rfl, rfl, rfl⟩
  unfold stepApply
  rw [← hu, ← hn, ← hnow]
  dsimp only
  apply rtcWrite_stepDone
  apply qualRefresh_stepDone
  split
  · exact ⟨rfl, rfl, rfl, rfl, rfl⟩
  · exact ⟨rfl, rfl, rfl, rfl, rfl⟩

/-! ### The rows at their instants -/

theorem exec_timeStep_of_due {p : StepPend} (hr : coreRuns s = true) (hp : s.tim.step = some p)
    (hc : comesAt s (tickOf s (p.label * netSec)) = some t) : exec .timeStep s = .next (stepApply p t) := by
  show Host.Outcome.next _ = _
  simp only [hr, hp]
  exact congrArg Host.Outcome.next (atTick_some hc)

theorem exec_pulseStart_of_due {n : Int} (hr : coreRuns s = true) (hk : s.pwr.committed = false) (hp : s.tim.pulseDue = some n)
    (hc : comesAt s (tickOf s (n * netSec)) = some t) : exec .pulseStart s = .next (pulse t) := by
  have hdue : comesAt? s (s.tim.pulseDue.map fun n => tickOf s (n * netSec)) = some t := by rw [hp]; exact hc
  exact congrArg Host.Outcome.next ((if_neg (by simp [hr, hk])).trans (atTick_some hdue))

theorem exec_rtcWrite_of_due (hr : coreRuns s = true) (hc : comesAt? s (s.tim.rtcDue.map (tickOf s)) = some t) :
    exec .rtcWrite s = .next { rtcWrite t with tim := { (rtcWrite t).tim with rtcDue := some (nextMinute t) } } :=
  congrArg Host.Outcome.next ((if_neg (by simp [hr])).trans (atTick_some hc))

end Sys2Proof.Laws

namespace Sys2Proof.Proofs
open Sys2Proof Sys2Proof.Machine Sys2Proof.Laws

/-- Settles O52, row by row. -/
theorem clockRowsComplete : Obligations.ClockRowsComplete := by
  refine fun s s' => ⟨fun hc => ?_, fun p hr hp hc => ?_, fun n hr hk hp hc => ?_, fun hc => ?_, fun hr hq hp hx hc => ?_, rfl, rfl⟩
  · exact ⟨_, congrArg Host.Outcome.next (atTick_some hc), rfl, rfl, rfl, rfl⟩
  · obtain ⟨hs, hn, hb, -, hl⟩ := stepApply_stepDone p s'
    refine ⟨_, exec_timeStep_of_due hr hp hc, hs, ?_, hb, hl⟩
    rw [hn, comesAt_now hc]
  · have hs := comesAt_now hc
    have hdue : s'.tim.pulseDue = some n := by rw [hs]; exact hp
    obtain ⟨e, ana, hpulse⟩ := pulse_of_due hdue
    refine ⟨_, exec_pulseStart_of_due hr hk hp hc, ?_⟩
    rw [hpulse, hs]
    exact ⟨rfl, rfl, rfl⟩
  · exact congrArg Host.Outcome.next (atTick_some hc)
  · obtain ⟨n, -, hcome⟩ := comesAt?_cases hc
    have hs := comesAt_now hcome
    have hw := rtcWrite_of_valid (s := s') (by rw [hs]; exact hq) (by rw [hs]; exact hp) (by rw [hs]; exact hx)
    refine ⟨_, exec_rtcWrite_of_due hr hc, ?_⟩
    rw [hw]
    exact ⟨rfl, rfl, rfl, rfl⟩

end Sys2Proof.Proofs
end

section
/-!
What notices and audit records leave of the sessions, how a command is accepted and how it ends (R140, R141, R172), for every verb.
-/
namespace Sys2Proof.Laws
open Sys2Proof Sys2Proof.Machine
variable {s t u : State}

/-! ### Audit records -/

section
variable {γ : Type} {g : State → γ} (hn : ∀ s n o a, g (notify s n o a) = g s) (hs : ∀ s c, g { s with sec := c } = g s)
include hn hs

theorem auditStore_keeps (s : State) (r : AuditRec) : g (auditStore s r) = g s := by
  unfold auditStore
  dsimp only
  split_ifs
  · exact (hn _ _ _ _).trans (hs _ _)
  · exact (hn _ _ _ _).trans (hs _ _)
  · exact hs _ _
  · exact hs _ _
  · exact (hn _ _ _ _).trans (hs _ _)
  · exact hs _ _

theorem auditWrite_keeps (s : State) (r : AuditRec) : g (auditWrite s r) = g s := by
  have put : ∀ s c r, g (auditStore { s with sec := c } r) = g s := fun s c r => (auditStore_keeps hn hs _ r).trans (hs s c)
  unfold auditWrite
  dsimp only
  split
  · exact put _ _ _
  · exact (put _ _ _).trans ((put _ _ _).trans (hs _ _))

theorem auditHold_keeps (s : State) (r : AuditRec) : g (auditHold s r) = g s := by
  unfold auditHold auditMiss
  dsimp only
  split
  · exact (hn _ _ _ _).trans (hs _ _)
  · split_ifs <;> exact hs _ _

theorem auditFlush_keeps (s : State) : g (auditFlush s) = g s := by
  have hmissed : g (missedFirst s) = g s := by
    unfold missedFirst
    split
    · rfl
    · split_ifs
      · rfl
      · exact (auditStore_keeps hn hs _ _).trans (hs _ _)
  unfold auditFlush
  split
  · exact (foldl_keeps g (auditStore_keeps hn hs) _ _).trans ((hs _ _).trans hmissed)
  · rfl

/-- What neither a notice nor the secure core bears on, an audit record leaves alone. -/
theorem auditAdd_keeps (s : State) (kind ses role tag result : Nat) (reach : Bool) (text : String) :
    g (auditAdd s kind ses role tag result reach text) = g s := by
  unfold auditAdd auditMiss
  dsimp only
  split_ifs
  · exact hs _ _
  · exact auditHold_keeps hn hs _ _
  · exact (auditWrite_keeps hn hs _ _).trans (auditFlush_keeps hn hs _)
  · exact (hs _ _).trans (auditFlush_keeps hn hs _)
  · exact (auditWrite_keeps hn hs _ _).trans (auditFlush_keeps hn hs _)
  · exact (hs _ _).trans (auditFlush_keeps hn hs _)

end

/-! ### What notices and audit records leave of the sessions -/

/-- A session without its notices and its echo. -/
def unnoticed (x : Session) : Session := { x with nq := [], nlost := 0, seq := 0, lostNotices := 0, echo := [] }

/-- The state without what notices and audit records can change: it keeps the lines, the tags and the commands of the sessions. -/
def unheard (s : State) : State :=
  { s with sec := {}, tst := {}, vil := { s.vil with
      triggers := [], link0 := unnoticed s.vil.link0, link1 := unnoticed s.vil.link1, bus1 := unnoticed s.vil.bus1,
      bus2 := unnoticed s.vil.bus2, bus3 := unnoticed s.vil.bus3, bus4 := unnoticed s.vil.bus4, mac := unnoticed s.vil.mac } }

theorem unheard_setSes {k : Sess} {x : Session} (h : unnoticed x = unnoticed (getSes s k)) : unheard (setSes s k x) = unheard s := by
  cases k <;> simp only [unheard, setSes, h] <;> rfl

theorem unheard_modSes {k : Sess} {f : Session → Session} (h : ∀ x, unnoticed (f x) = unnoticed x) : unheard (modSes s k f) = unheard s :=
  unheard_setSes (h _)

theorem getSes_unheard (s : State) (k : Sess) : getSes (unheard s) k = unnoticed (getSes s k) := by cases k <;> rfl

@[simp] theorem unheard_noticeQueue (s : State) (k : Sess) (n : String) (o : Option Obj) (a : String) :
    unheard (noticeQueue s k n o a) = unheard s :=
  unheard_setSes rfl

@[simp] theorem unheard_noticeTo (n : String) (o : Option Obj) (a : String) (e : Bool) (s : State) (k : Sess) :
    unheard (noticeTo n o a e s k) = unheard s := by
  have hlost : unheard (lostTold s k) = unheard s := by
    unfold lostTold
    dsimp only
    split
    · exact (unheard_noticeQueue _ _ _ _ _).trans (unheard_setSes rfl)
    · rfl
  have hpush : unheard (noticePush s k n o a) = unheard s := by
    refine Eq.trans ?_ hlost
    unfold noticePush
    dsimp only
    split
    · exact unheard_noticeQueue _ _ _ _ _
    · exact unheard_modSes fun _ => rfl
  unfold noticeTo
  split
  · exact hpush
  · rfl

@[simp] theorem unheard_notify (s : State) (n : String) (o : Option Obj) (a : String) : unheard (notify s n o a) = unheard s := by
  have hf := foldl_keeps unheard (unheard_noticeTo n o a (toEvery n)) portSess s
  unfold notify
  dsimp only
  split
  · rfl
  · split <;> exact hf

@[simp] theorem unheard_auditAdd (s : State) (kind ses role tag result : Nat) (reach : Bool) (text : String) :
    unheard (auditAdd s kind ses role tag result reach text) = unheard s :=
  auditAdd_keeps unheard_notify (fun _ _ => rfl) s kind ses role tag result reach text

theorem outs_of_unheard (h : unheard t = unheard s) : t.vil.outs = s.vil.outs := (congrArg (fun u => u.vil.outs) h :)

theorem findOut_of_unheard (h : unheard t = unheard s) (id : Nat) : findOut t id = findOut s id := by
  unfold findOut; rw [outs_of_unheard h]

/-! ### Lines that are only added, commands that only end -/

/-- From `s` to `t` the sessions lose no line that they have to send and no tag that is free, no command is accepted, and the
clock and the anatomy stand as they were. -/
structure LinesKept (s t : State) : Prop where
  ana : t.ana = s.ana
  now : t.now = s.now
  epoch : t.epoch = s.epoch
  rate : t.vil.rate1 = s.vil.rate1
  isOpen : ∀ k, (getSes t k).isOpen = (getSes s k).isOpen
  out : ∀ k, (getSes s k).out ⊆ (getSes t k).out
  freed : ∀ k, (getSes s k).freed ⊆ (getSes t k).freed
  ids : t.vil.outs.map (·.id) ⊆ s.vil.outs.map (·.id)

theorem LinesKept.refl (s : State) : LinesKept s s :=
  ⟨rfl, rfl, rfl, rfl, fun _ => rfl, fun _ => List.Subset.refl _, fun _ => List.Subset.refl _, List.Subset.refl _⟩

theorem LinesKept.trans (h : LinesKept s t) (g : LinesKept t u) : LinesKept s u :=
  ⟨g.ana.trans h.ana, g.now.trans h.now, g.epoch.trans h.epoch, g.rate.trans h.rate, fun k => (g.isOpen k).trans (h.isOpen k),
    fun k => List.Subset.trans (h.out k) (g.out k), fun k => List.Subset.trans (h.freed k) (g.freed k), List.Subset.trans g.ids h.ids⟩

theorem linesKept_of_unheard (h : unheard t = unheard s) : LinesKept s t := by
  have hses : ∀ k, unnoticed (getSes t k) = unnoticed (getSes s k) := fun k => by rw [← getSes_unheard, h, getSes_unheard]
  refine ⟨(congrArg State.ana h :), (congrArg State.now h :), (congrArg State.epoch h :), (congrArg (fun u => u.vil.rate1) h :), fun k => (congrArg Session.isOpen (hses k) :),
    fun k => ?_, fun k => ?_, ?_⟩
  · rw [show (getSes t k).out = (getSes s k).out from (congrArg Session.out (hses k) :)]
    exact List.Subset.refl _
  · rw [show (getSes t k).freed = (getSes s k).freed from (congrArg Session.freed (hses k) :)]
    exact List.Subset.refl _
  · rw [outs_of_unheard h]
    exact List.Subset.refl _

theorem linesKept_foldl {α : Type} {f : State → α → State} (h : ∀ s a, LinesKept s (f s a)) (l : List α) (s : State) : LinesKept s (l.foldl f s) := by
  induction l generalizing s with
  | nil => exact .refl s
  | cons a l ih => exact (h s a).trans (ih _)

/-- A session changed by lines and tags that are only added. -/
theorem linesKept_setSes {k : Sess} {x : Session} (hi : x.isOpen = (getSes s k).isOpen) (ho : (getSes s k).out ⊆ x.out)
    (hf : (getSes s k).freed ⊆ x.freed) : LinesKept s (setSes s k x) := by
  have hvil : (setSes s k x).vil.rate1 = s.vil.rate1 ∧ (setSes s k x).vil.outs = s.vil.outs := by cases k <;> exact ⟨rfl, rfl⟩
  have hses : ∀ j, (getSes (setSes s k x) j).isOpen = (getSes s j).isOpen ∧ (getSes s j).out ⊆ (getSes (setSes s k x) j).out ∧
      (getSes s j).freed ⊆ (getSes (setSes s k x) j).freed := fun j => by
    by_cases h : j = k
    · subst h
      rw [getSes_setSes_self]
      exact ⟨hi, ho, hf⟩
    · rw [getSes_setSes_ne _ _ _ _ h]
      exact ⟨rfl, List.Subset.refl _, List.Subset.refl _⟩
  exact ⟨setSes_ana s k x, setSes_now s k x, setSes_epoch s k x, hvil.1, fun j => (hses j).1, fun j => (hses j).2.1, fun j => (hses j).2.2,
    hvil.2 ▸ List.Subset.refl _⟩

/-- A change beside the sessions that accepts no command. -/
theorem linesKept_vil {v : Vil} (hses : ∀ k, getSes { s with vil := v } k = getSes s k) (hr : v.rate1 = s.vil.rate1)
    (hids : v.outs.map (·.id) ⊆ s.vil.outs.map (·.id)) : LinesKept s { s with vil := v } :=
  ⟨rfl, rfl, rfl, hr, fun k => congrArg _ (hses k), fun k => hses k ▸ List.Subset.refl _, fun k => hses k ▸ List.Subset.refl _, hids⟩

/-- Commands changed or taken away, none new. -/
theorem linesKept_outs {l : List Out} (h : l.map (·.id) ⊆ s.vil.outs.map (·.id)) : LinesKept s { s with vil := { s.vil with outs := l } } :=
  linesKept_vil (fun k => by cases k <;> rfl) rfl h

/-! ### Sending -/

theorem mem_outInsert {a l : OutLine} {t : List OutLine} : a ∈ outInsert l t ↔ a = l ∨ a ∈ t := by
  induction t with
  | nil => simp [outInsert]
  | cons b t ih =>
    unfold outInsert
    split
    · simp
    · simp only [List.mem_cons, ih]; tauto

/-- A line sent takes its place among those that wait, and nothing else of the sessions changes. -/
theorem linesKept_sendLine (s : State) (k : Sess) (tag : Option Nat) (framed : Bool) (cls : Nat) (body : String) :
    LinesKept s (sendLine s k tag framed cls body) := by
  unfold sendLine sendOut
  dsimp only
  split
  · exact .refl s
  · exact linesKept_setSes rfl (fun _ h => mem_outInsert.mpr (.inr h)) (List.Subset.refl _)

theorem mem_sendLine {k : Sess} (hi : (getSes s k).isOpen = true) (hm : mute s k = false) (hk : k ≠ .mac) (tag : Option Nat) (framed : Bool)
    (cls : Nat) (body : String) : ∃ l ∈ (getSes (sendLine s k tag framed cls body) k).out, l.cls = cls ∧ l.tag = tag ∧ l.body = body := by
  unfold sendLine sendOut
  dsimp only
  rw [if_neg (by simp [hi, hm, hk]), getSes_setSes_self]
  exact ⟨_, mem_outInsert.mpr (.inl rfl), rfl, rfl, rfl⟩

theorem mute_congr (h : t.vil.rate1 = s.vil.rate1) (k : Sess) : mute t k = mute s k := by unfold mute; rw [h]

theorem LinesKept.sends {q : Hdr} {n : Nat} {b : String} {v : State} (h : LinesKept u v) (hs : s.sends u q n b) : s.sends v q n b := fun hk hm =>
  have ⟨l, hl, e⟩ := hs hk hm
  ⟨l, h.out _ hl, e⟩

theorem sends_sendLine {q : Hdr} (hi : (getSes u q.ses).isOpen = true) (hr : u.vil.rate1 = s.vil.rate1) (framed : Bool) (cls : Nat) (body : String) :
    s.sends (sendLine u q.ses q.tag framed cls body) q cls body := fun hk hm =>
  mem_sendLine hi ((mute_congr hr _).trans hm) hk _ _ _ _

/-! ### The end of a command -/

theorem linesKept_setWork (s : State) (id : Nat) (w : Work) : LinesKept s (setWork s id w) := by
  refine linesKept_outs fun n h => ?_
  simp only [List.map_map, List.mem_map, Function.comp_apply] at h ⊢
  obtain ⟨o, ho, rfl⟩ := h
  exact ⟨o, ho, by split <;> rfl⟩

/-- The audit records of a command written: its entry holds none any more. -/
def auditsWritten (id : Nat) (o : Out) : Out := if o.id = id then { o with audits := [] } else o

theorem auditsWritten_id (id : Nat) (o : Out) : (auditsWritten id o).id = o.id := by unfold auditsWritten; split <;> rfl

/-- Writing the records of a command leaves the sessions alone but for its entry. -/
theorem auditOut_unheard (s : State) (o : Out) (r : Nat) :
    unheard (auditOut s o r) = { unheard s with vil := { (unheard s).vil with outs := s.vil.outs.map (auditsWritten o.id) } } := by
  have h : unheard (o.audits.foldl (fun s k => auditAdd s k (sesIdx o.ses) (roleNum o.role) (auditTag o.tag) r (sReach s o.ses) o.body) s) = unheard s :=
    foldl_keeps unheard (fun _ _ => unheard_auditAdd _ _ _ _ _ _ _ _) _ _
  unfold auditOut
  generalize List.foldl _ s o.audits = t at h ⊢
  dsimp only
  rw [← h, ← outs_of_unheard h]
  rfl

theorem auditOut_outs (s : State) (o : Out) (r : Nat) : (auditOut s o r).vil.outs = s.vil.outs.map (auditsWritten o.id) :=
  (congrArg (fun u => u.vil.outs) (auditOut_unheard s o r) :)

theorem linesKept_auditOut (s : State) (o : Out) (r : Nat) : LinesKept s (auditOut s o r) := by
  have hids : (s.vil.outs.map (auditsWritten o.id)).map (·.id) ⊆ s.vil.outs.map (·.id) := by
    rw [List.map_map, show ((·.id) ∘ auditsWritten o.id) = (·.id) from funext fun p => auditsWritten_id _ p]
    exact List.Subset.refl _
  exact (linesKept_outs hids).trans (linesKept_of_unheard (auditOut_unheard s o r))

/-- A command taken from those outstanding, its records written where it fails. -/
def outDropped (s : State) (o : Out) (body : String) : State :=
  let s := if failNum body = 0 then s else auditOut s { o with audits := o.audits.filter (· != 9) } (failNum body)
  { s with vil := { s.vil with outs := s.vil.outs.filter fun p => p.id != o.id } }

theorem linesKept_outDropped (s : State) (o : Out) (body : String) : LinesKept s (outDropped s o body) := by
  unfold outDropped
  extract_lets u
  have hu : LinesKept s u := by
    unfold u
    split
    · exact .refl s
    · exact linesKept_auditOut _ _ _
  exact hu.trans (linesKept_outs (List.map_subset _ (List.filter_subset_self _)))

theorem outDropped_gone (s : State) (o : Out) (body : String) : ∀ p ∈ (outDropped s o body).vil.outs, p.id ≠ o.id := fun p hp => by
  simpa using (List.mem_filter.mp hp).2

theorem finishOut_orphan {o : Out} (h : o.orphan = true) (body : String) : finishOut s o body = outDropped s o body :=
  if_pos h

theorem finishOut_heard {o : Out} (h : o.orphan = false) (body : String) : finishOut s o body =
    modSes (sendLine (outDropped s o body) o.ses o.tag o.framed 1 body) o.ses fun x =>
      { x with freed := (o.tag, (sendLine (outDropped s o body) o.ses o.tag o.framed 1 body).epoch) :: x.freed,
               active := (sendLine (outDropped s o body) o.ses o.tag o.framed 1 body).now } :=
  if_neg (by simp [h])

/-- The tag of a command that ends is free again. -/
theorem linesKept_freed (s : State) (k : Sess) (f : Option Nat × Nat) (n : Nat) :
    LinesKept s (modSes s k fun x => { x with freed := f :: x.freed, active := n }) :=
  linesKept_setSes rfl (List.Subset.refl _) (List.subset_cons_self _ _)

theorem linesKept_finishOut (s : State) (o : Out) (body : String) : LinesKept s (finishOut s o body) := by
  cases h : o.orphan with
  | true => rw [finishOut_orphan h]; exact linesKept_outDropped _ _ _
  | false =>
    rw [finishOut_heard h]
    exact ((linesKept_outDropped s o body).trans (linesKept_sendLine _ _ _ _ _ _)).trans (linesKept_freed _ _ _ _)

theorem modSes_outs (s : State) (k : Sess) (f : Session → Session) : (modSes s k f).vil.outs = s.vil.outs := by cases k <;> rfl

theorem sendLine_outs (s : State) (k : Sess) (tag : Option Nat) (framed : Bool) (cls : Nat) (body : String) :
    (sendLine s k tag framed cls body).vil.outs = s.vil.outs := by
  unfold sendLine sendOut
  dsimp only
  split
  · rfl
  · cases k <;> rfl

/-- A command that has ended is outstanding no more. -/
theorem finishOut_gone (s : State) (o : Out) (body : String) : ∀ p ∈ (finishOut s o body).vil.outs, p.id ≠ o.id := by
  cases h : o.orphan with
  | true => rw [finishOut_orphan h]; exact outDropped_gone _ _ _
  | false =>
    rw [finishOut_heard h, modSes_outs, sendLine_outs]
    exact outDropped_gone _ _ _

/-- A session that is heard has the final line, and the tag is free again (R141). -/
theorem finishOut_ends {o : Out} {q : Hdr} (h : o.orphan = false) (hses : o.ses = q.ses) (htag : o.tag = q.tag) (hi : (getSes u q.ses).isOpen = true)
    (hr : u.vil.rate1 = s.vil.rate1) (body : String) :
    s.sends (finishOut u o body) q 1 body ∧ (q.tag, u.epoch) ∈ (getSes (finishOut u o body) q.ses).freed := by
  have hd := linesKept_outDropped u o body
  have hl := linesKept_sendLine (outDropped u o body) o.ses o.tag o.framed 1 body
  have hsent : s.sends (sendLine (outDropped u o body) o.ses o.tag o.framed 1 body) q 1 body := by
    rw [hses, htag]
    exact sends_sendLine ((hd.isOpen _).trans hi) (hd.rate.trans hr) _ _ _
  rw [finishOut_heard h]
  refine ⟨(linesKept_freed _ _ _ _).sends hsent, ?_⟩
  rw [hses, htag, modSes, getSes_setSes_self, (linesKept_sendLine _ _ _ _ _ _).epoch, hd.epoch]
  exact List.mem_cons_self

theorem linesKept_macroLineDone (s : State) (m : Nat) (body : String) : LinesKept s (macroLineDone s m body) := by
  have hset : ∀ s m x, LinesKept s (setMacro s m x) := fun s m x =>
    linesKept_vil (fun k => by cases k <;> rfl) rfl (List.Subset.refl _)
  have hstart : ∀ s, LinesKept s (startPending s) := fun s => by
    unfold startPending
    split
    · split
      · exact hset _ _ _
      · exact .refl s
    · exact .refl s
  have hend : ∀ body, LinesKept s (macroEnd s m body) := fun body => by
    unfold macroEnd
    dsimp only
    split
    · exact ((hset _ _ _).trans (linesKept_finishOut _ _ _)).trans (hstart _)
    · exact (hset _ _ _).trans (hstart _)
  unfold macroLineDone
  dsimp only
  split_ifs
  · exact .refl s
  · exact hend _
  · exact hend _
  · exact hset _ _ _

/-- A command that is outstanding ends by its entry; what a line of MACRO sets going takes nothing back. -/
theorem finish_of_found {id : Nat} {o : Out} (h : findOut s id = some o) (body : String) : LinesKept (finishOut s o body) (finish s id body) := by
  unfold finish
  rw [h]
  dsimp only
  split
  · exact linesKept_macroLineDone _ _ _
  · exact .refl _

theorem finish_of_none {id : Nat} (h : findOut s id = none) (body : String) : finish s id body = s := by
  unfold finish; rw [h]

theorem linesKept_finish (s : State) (id : Nat) (body : String) : LinesKept s (finish s id body) := by
  cases h : findOut s id with
  | none => rw [finish_of_none h]; exact .refl s
  | some o => exact (linesKept_finishOut s o body).trans (finish_of_found h body)

theorem findOut_id {id : Nat} {o : Out} (h : findOut s id = some o) : o ∈ s.vil.outs ∧ o.id = id :=
  ⟨List.mem_of_find?_eq_some h, by simpa using List.find?_some h⟩

theorem findOut_none {id : Nat} (h : ∀ o ∈ s.vil.outs, o.id ≠ id) : findOut s id = none :=
  List.find?_eq_none.mpr (by simpa using h)

theorem LinesKept.none_of_id {id : Nat} (h : LinesKept s t) (hs : ∀ o ∈ s.vil.outs, o.id ≠ id) : ∀ o ∈ t.vil.outs, o.id ≠ id := by
  intro o ho e
  obtain ⟨p, hp, hpo⟩ := List.mem_map.mp (h.ids (List.mem_map_of_mem ho))
  exact hs p hp (hpo.trans e)

/-- Commands that end one after the other are outstanding no more. -/
theorem foldl_finishOut_gone (l : List Out) (body : String) (s : State) :
    ∀ o ∈ l, ∀ p ∈ (l.foldl (fun s o => finishOut s o body) s).vil.outs, p.id ≠ o.id := by
  induction l generalizing s with
  | nil => exact fun o ho => absurd ho List.not_mem_nil
  | cons a l ih =>
    intro o ho
    obtain rfl | ho := List.mem_cons.mp ho
    · exact (linesKept_foldl (fun s o => linesKept_finishOut s o body) l _).none_of_id (finishOut_gone s o body)
    · exact ih _ o ho

/-- The commands that a restart ends. -/
def othersEnded (s : State) (id : Nat) : State :=
  (s.vil.outs.filter fun o => o.id != id).foldl (fun s o => finishOut s o "FAIL ABORTED") s

theorem restartOrder_eq (s : State) (id : Nat) : restartOrder s id =
    { othersEnded s id with vil := { (othersEnded s id).vil with softReset := some ((othersEnded s id).epoch, (othersEnded s id).now + 100 * tickMs) } } :=
  rfl

theorem linesKept_othersEnded (s : State) (id : Nat) : LinesKept s (othersEnded s id) :=
  linesKept_foldl (fun s o => linesKept_finishOut s o _) _ s

/-- A restart asks for the reset within 100 ms, and takes no line back (R193). -/
theorem restartOrder_effect (s : State) (id : Nat) :
    LinesKept s (restartOrder s id) ∧ (restartOrder s id).vil.softReset = some (s.epoch, s.now + 100 * tickMs) := by
  have h := linesKept_othersEnded s id
  rw [restartOrder_eq]
  refine ⟨h.trans (linesKept_vil (fun k => by cases k <;> rfl) rfl (List.Subset.refl _)), ?_⟩
  rw [← h.epoch, ← h.now]

/-- Where the command that orders it has ended, a restart leaves no command outstanding (R193). -/
theorem restartOrder_outs {id : Nat} (hs : ∀ o ∈ s.vil.outs, o.id ≠ id) : (restartOrder s id).vil.outs = [] := by
  rw [List.eq_nil_iff_forall_not_mem]
  intro p hp
  obtain ⟨o, ho, hid⟩ := List.mem_map.mp ((linesKept_othersEnded s id).ids (List.mem_map_of_mem hp))
  have hmem : o ∈ s.vil.outs.filter fun o => o.id != id := List.mem_filter.mpr ⟨ho, by simpa using hs o ho⟩
  exact foldl_finishOut_gone _ _ s o hmem p hp hid.symm

/-! ### An accepted command -/

/-- From `s` to `u` the command of `q` has been accepted: OK is sent, and it is outstanding under the next number. -/
structure Accepted (s u : State) (q : Hdr) : Prop where
  ok : s.sends u q 0 "OK"
  isOpen : (getSes u q.ses).isOpen = true
  rate : u.vil.rate1 = s.vil.rate1
  epoch : u.epoch = s.epoch
  out : ∃ o, findOut u s.vil.nextId = some o ∧ o.ses = q.ses ∧ o.tag = q.tag ∧ o.orphan = false

/-- A change that keeps the sessions' lines and the command's entry keeps it accepted. -/
theorem Accepted.onward {q : Hdr} {v : State} (h : Accepted s u q) (hk : LinesKept u v)
    (ho : ∀ o, findOut u s.vil.nextId = some o → ∃ p, findOut v s.vil.nextId = some p ∧ p.ses = o.ses ∧ p.tag = o.tag ∧ p.orphan = o.orphan) :
    Accepted s v q := by
  obtain ⟨o, hf, hses, htag, horp⟩ := h.out
  obtain ⟨p, hp, e1, e2, e3⟩ := ho o hf
  exact ⟨hk.sends h.ok, (hk.isOpen _).trans h.isOpen, hk.rate.trans h.rate, hk.epoch.trans h.epoch,
    p, hp, e1.trans hses, e2.trans htag, e3.trans horp⟩

/-- What lies beside the sessions bears on no command. -/
theorem Accepted.of_vil {q : Hdr} {v : State} (h : Accepted s u q) (hv : v.vil = u.vil) (he : v.epoch = u.epoch) : Accepted s v q := by
  have hses : ∀ k, getSes v k = getSes u k := fun k => by cases k <;> simp only [getSes, hv]
  obtain ⟨o, hf, ho⟩ := h.out
  refine ⟨fun hm hmute => ?_, (hses _).symm ▸ h.isOpen, hv.symm ▸ h.rate, he.trans h.epoch, o, ?_, ho⟩
  · rw [hses]; exact h.ok hm hmute
  · unfold findOut; rw [hv]; exact hf

theorem Accepted.of_unheard {q : Hdr} {v : State} (h : Accepted s u q) (hv : unheard v = unheard u) : Accepted s v q :=
  h.onward (linesKept_of_unheard hv) fun o ho => ⟨o, (findOut_of_unheard hv _).trans ho, rfl, rfl, rfl⟩

/-- The number of a command found stands where the entries are changed but for their numbers. -/
theorem findOut_map {f : Out → Out} (hf : ∀ o, (f o).id = o.id) (ht : t.vil.outs = s.vil.outs.map f) (id : Nat) :
    findOut t id = (findOut s id).map f := by
  unfold findOut
  rw [ht, List.find?_map]
  simp only [Function.comp_def, hf]

theorem Accepted.auditOut {q : Hdr} (h : Accepted s u q) (o : Out) (r : Nat) : Accepted s (auditOut u o r) q :=
  h.onward (linesKept_auditOut u o r) fun p hp => by
    rw [findOut_map (auditsWritten_id o.id) (auditOut_outs u o r), hp]
    exact ⟨_, rfl, by unfold auditsWritten; split <;> exact ⟨rfl, rfl, rfl⟩⟩

/-- A command's work as it is set. -/
def workSet (id : Nat) (w : Work) (o : Out) : Out := if o.id = id then { o with work := w } else o

theorem findOut_setWork (s : State) (id : Nat) (w : Work) (n : Nat) : findOut (setWork s id w) n = (findOut s n).map (workSet id w) :=
  findOut_map (fun o => by unfold workSet; split <;> rfl) rfl n

theorem Accepted.setWork {q : Hdr} (h : Accepted s u q) (w : Work) : Accepted s (setWork u s.vil.nextId w) q :=
  h.onward (linesKept_setWork _ _ _) fun p hp => by
    rw [findOut_setWork, hp]
    exact ⟨_, rfl, by unfold workSet; split <;> exact ⟨rfl, rfl, rfl⟩⟩

/-- The work set is that of the command found. -/
theorem findOut_setWork_self {id : Nat} {o : Out} (h : findOut s id = some o) (w : Work) : findOut (setWork s id w) id = some { o with work := w } := by
  rw [findOut_setWork, h, Option.map_some, workSet, if_pos (findOut_id h).2]

/-- A command that is accepted and keeps its work is outstanding with it. -/
theorem Accepted.holdsCmd {q : Hdr} (h : Accepted s u q) (w : Work) : s.holdsCmd (Machine.setWork u s.vil.nextId w) q w := by
  obtain ⟨o, hf, hses, htag, -⟩ := h.out
  obtain ⟨hmem, hid⟩ := findOut_id (findOut_setWork_self hf w)
  exact ⟨(h.setWork w).ok, _, hmem, hid, hses, htag, rfl⟩

/-- A command that ends without MORE lines has its final line, its slot and its tag are free. -/
theorem Accepted.endsCmd {q : Hdr} (h : Accepted s u q) (body : String) : s.endsCmd (finish u s.vil.nextId body) q [] body := by
  obtain ⟨o, hf, hses, htag, horp⟩ := h.out
  have hk := finish_of_found hf body
  obtain ⟨hsent, hfreed⟩ := finishOut_ends horp hses htag h.isOpen h.rate body
  refine ⟨(linesKept_finish _ _ _).sends h.ok, nofun, hk.sends hsent, ?_, h.epoch ▸ hk.freed _ hfreed⟩
  exact hk.none_of_id ((findOut_id hf).2 ▸ finishOut_gone u o body)

/-- Once a command has ended, nothing that keeps the sessions' lines takes its end back. -/
theorem LinesKept.endsCmd {q : Hdr} {v : State} {body : String} (h : LinesKept u v) (he : s.endsCmd u q [] body) : s.endsCmd v q [] body :=
  have ⟨hok, _, hfin, hgone, hfreed⟩ := he
  ⟨h.sends hok, nofun, h.sends hfin, h.none_of_id hgone, h.freed _ hfreed⟩

/-- A restart that an accepted command orders ends it and every other, and asks for the reset (R193). -/
theorem Accepted.restarts {q : Hdr} (h : Accepted s u q) (hnow : u.now = s.now) (body : String) :
    (restartOrder (finish u s.vil.nextId body) s.vil.nextId).vil.outs = [] ∧
      (restartOrder (finish u s.vil.nextId body) s.vil.nextId).vil.softReset = some (s.epoch, s.now + 100 * tickMs) ∧
      s.endsCmd (restartOrder (finish u s.vil.nextId body) s.vil.nextId) q [] body := by
  have hends := h.endsCmd body
  have hk := linesKept_finish u s.vil.nextId body
  have ⟨_, _, _, hgone, _⟩ := hends
  obtain ⟨hlines, hreset⟩ := restartOrder_effect (finish u s.vil.nextId body) s.vil.nextId
  refine ⟨restartOrder_outs hgone, hreset.trans ?_, hlines.endsCmd hends⟩
  rw [hk.epoch, hk.now, h.epoch, hnow]

/-! ### Acceptance -/

/-- The state without what acceptance can change. -/
def unaccepted (s : State) : State := { s with vil := {}, sec := {}, tst := {}, pwr := { s.pwr with idleSince := 0 } }

theorem unaccepted_of_untold (h : untold t = untold s) : unaccepted t = unaccepted s := by
  have e : unaccepted (untold t) = unaccepted (untold s) := congrArg unaccepted h
  exact e

theorem unaccepted_auditAdd (s : State) (kind ses role tag result : Nat) (reach : Bool) (text : String) :
    unaccepted (auditAdd s kind ses role tag result reach text) = unaccepted s :=
  auditAdd_keeps (g := unaccepted) (fun s n o a => unaccepted_of_untold (untold_notify s n o a)) (fun _ _ => rfl) s kind ses role tag result reach text

theorem untold_sendLine (s : State) (k : Sess) (tag : Option Nat) (framed : Bool) (cls : Nat) (body : String) :
    untold (sendLine s k tag framed cls body) = untold s := by
  unfold sendLine sendOut
  dsimp only
  split
  · rfl
  · exact untold_setSes _ _ _

/-- The line OK, and the idle time of a link afresh. -/
def okSent (s : State) (q : Hdr) : State :=
  modSes (sendLine (lineHeard s q.ses s.now) q.ses q.tag q.framed 0 "OK") q.ses fun x =>
    { x with active := (sendLine (lineHeard s q.ses s.now) q.ses q.tag q.framed 0 "OK").now }

/-- The entry of a command accepted. -/
def outOf (s : State) (q : Hdr) (c : CmdSpec) : Out :=
  let v := lineHeard s q.ses s.now
  let body := saidBody v q c
  { id := s.vil.nextId, ses := q.ses, tag := q.tag, framed := q.framed, shared := !slotReserved v q.ses, verb := c.verb, role := roleFor s q,
    epoch := v.epoch, body := body, audits := if c.auditLate then c.audit.toList ++ c.auditMore else [], work := .reply v.epoch [] "DONE" }

/-- The entry of a command placed among those outstanding. -/
def outPlaced (s : State) (q : Hdr) (c : CmdSpec) : State :=
  { okSent s q with vil := { (okSent s q).vil with
      nextId := s.vil.nextId + 1, outs := (okSent s q).vil.outs ++ [outOf s q c],
      peakSlots := max (okSent s q).vil.peakSlots ((okSent s q).vil.outs ++ [outOf s q c]).length } }

theorem accept_eq (s : State) (q : Hdr) (c : CmdSpec) : accept s q c =
    if c.auditLate then outPlaced s q c
    else (c.audit.toList ++ c.auditMore).foldl (fun u k => auditAdd u k (sesIdx q.ses) (roleNum (roleFor s q)) (auditTag q.tag) 0 (sReach u q.ses) (outOf s q c).body)
      (outPlaced s q c) := rfl

/-- What neither a notice nor the secure core bears on is after acceptance as after the entry. -/
theorem accept_keeps {γ : Type} {g : State → γ} (hg : ∀ s kind ses role tag result reach text, g (auditAdd s kind ses role tag result reach text) = g s)
    (s : State) (q : Hdr) (c : CmdSpec) : g (accept s q c) = g (outPlaced s q c) := by
  rw [accept_eq]
  split
  · rfl
  · exact foldl_keeps g (fun _ _ => hg _ _ _ _ _ _ _ _) _ _

theorem unheard_accept (s : State) (q : Hdr) (c : CmdSpec) : unheard (accept s q c) = unheard (outPlaced s q c) :=
  accept_keeps unheard_auditAdd s q c

theorem unaccepted_lineHeard (s : State) (k : Sess) (n : Nat) : unaccepted (lineHeard s k n) = unaccepted s := by
  unfold lineHeard
  split <;> rfl

theorem lineHeard_vil (s : State) (k : Sess) (n : Nat) : (lineHeard s k n).vil = s.vil := by
  unfold lineHeard
  split <;> rfl

/-- Acceptance changes the sessions, the secure core, the log of ALARM notices and the idle time alone. -/
theorem unaccepted_accept (s : State) (q : Hdr) (c : CmdSpec) : unaccepted (accept s q c) = unaccepted s := by
  rw [accept_keeps (g := unaccepted) unaccepted_auditAdd]
  have h : unaccepted (okSent s q) = unaccepted s :=
    (unaccepted_of_untold ((untold_setSes _ _ _).trans (untold_sendLine _ _ _ _ _ _))).trans (unaccepted_lineHeard s _ _)
  exact h

theorem accept_ana (s : State) (q : Hdr) (c : CmdSpec) : (accept s q c).ana = s.ana := (congrArg State.ana (unaccepted_accept s q c) :)
theorem accept_now (s : State) (q : Hdr) (c : CmdSpec) : (accept s q c).now = s.now := (congrArg State.now (unaccepted_accept s q c) :)

theorem served_isOpen {k : Sess} (h : served s k = true) : (getSes s k).isOpen = true := by
  simp only [served, Bool.and_eq_true] at h
  tauto

/-- A command that is taken is accepted. -/
theorem accepted_accept {q : Hdr} {c : CmdSpec} (h : s.takes q c) : Accepted s (accept s q c) q := by
  obtain ⟨⟨hserved, -⟩, hids, -⟩ := h
  suffices hp : Accepted s (outPlaced s q c) q from hp.of_unheard (unheard_accept s q c)
  have hvil := lineHeard_vil s q.ses s.now
  have hses : ∀ k, getSes (lineHeard s q.ses s.now) k = getSes s k := fun k => by cases k <;> simp only [getSes, hvil]
  have hepoch : (lineHeard s q.ses s.now).epoch = s.epoch := (congrArg State.epoch (unaccepted_lineHeard s q.ses s.now) :)
  have hi : (getSes (lineHeard s q.ses s.now) q.ses).isOpen = true := by rw [hses]; exact served_isOpen hserved
  have hline := linesKept_sendLine (lineHeard s q.ses s.now) q.ses q.tag q.framed 0 "OK"
  have hmod : LinesKept (sendLine (lineHeard s q.ses s.now) q.ses q.tag q.framed 0 "OK") (okSent s q) :=
    linesKept_setSes rfl (List.Subset.refl _) (List.Subset.refl _)
  have hok : s.sends (okSent s q) q 0 "OK" := hmod.sends (sends_sendLine hi (congrArg Vil.rate1 hvil) _ _ _)
  have hk := hline.trans hmod
  have houts : (okSent s q).vil.outs = s.vil.outs := by
    rw [okSent, modSes_outs, sendLine_outs, hvil]
  have hplaced : ∀ k, getSes (outPlaced s q c) k = getSes (okSent s q) k := fun k => by cases k <;> rfl
  refine ⟨fun hm hmute => ?_, ?_, hk.rate.trans (congrArg Vil.rate1 hvil), hk.epoch.trans hepoch, outOf s q c, ?_, rfl, rfl, rfl⟩
  · rw [hplaced]; exact hok hm hmute
  · rw [hplaced, hk.isOpen, hi]
  · have hnew : findOut s s.vil.nextId = none := findOut_none fun o ho => Nat.ne_of_lt (hids o ho)
    unfold findOut at hnew ⊢
    show ((okSent s q).vil.outs ++ [outOf s q c]).find? _ = _
    rw [houts, List.find?_append, hnew, Option.none_or, List.find?_cons_of_pos]
    exact decide_eq_true rfl

/-- A line that is heard is read. -/
theorem lineIn_of_hears {i : Instr} {q : Hdr} {f : State → State} (h : s.hears q.ses) : lineIn i q s f = f s := by
  obtain ⟨hserved, hmode, huntag⟩ := h
  unfold lineIn
  dsimp only
  rw [if_neg (by simp [hserved]), if_neg hmode, if_neg]
  rintro h
  rw [Bool.and_eq_true, bne_iff_ne] at h
  exact Bool.false_ne_true ((huntag h.1).symm.trans h.2)

/-- A command that is taken takes the work of its verb. -/
theorem submit_of_takes {q : Hdr} {c : CmdSpec} {f : State → Nat → State × Work} (h : s.takes q c) : submit s q c f =
    settle (setWork (f (accept s q c) s.vil.nextId).1 s.vil.nextId (f (accept s q c) s.vil.nextId).2) s.vil.nextId := by
  obtain ⟨⟨hserved, -⟩, -, hfail⟩ := h
  unfold submit
  rw [if_neg (by simp [hserved]), hfail]

/-- A line whose command is taken. -/
theorem line_of_takes {i : Instr} {q : Hdr} {c : State → CmdSpec} {f : State → Nat → State × Work} (h : s.takes q (c s)) :
    lineIn i q s (fun s => submit s q (c s) f) =
      settle (setWork (f (accept s q (c s)) s.vil.nextId).1 s.vil.nextId (f (accept s q (c s)) s.vil.nextId).2) s.vil.nextId :=
  (lineIn_of_hears h.1).trans (submit_of_takes h)

/-- A command whose reply is ready ends with it. -/
theorem settle_of_reply {id : Nat} {o : Out} {fin : String} (h : findOut s id = some o) (hw : o.work = .reply s.epoch [] fin) :
    settle s id = finish s id fin := by
  unfold settle
  rw [h]
  dsimp only
  rw [hw]
  exact if_pos (Nat.le_refl _)

/-- A command whose work goes on stays. -/
theorem settle_of_work {id : Nat} {o : Out} (h : findOut s id = some o) (hw : ∀ e ms fin, o.work ≠ .reply e ms fin) : settle s id = s := by
  unfold settle
  rw [h]
  dsimp only
  split
  · next e ms fin hr => exact absurd hr (hw e ms fin)
  · rfl

theorem settle_of_none {id : Nat} (h : findOut s id = none) : settle s id = s := by
  unfold settle; rw [h]

/-- A command that passes every check passes step 10. -/
theorem takes_p10 {q : Hdr} {c : CmdSpec} (h : s.takes q c) : c.p10 = none := by
  obtain ⟨-, -, hfail⟩ := h
  cases hp : c.p10 with
  | none => rfl
  | some e =>
    simp only [firstFail, hp] at hfail
    repeat' split at hfail
    all_goals cases hfail

/-! ### MODE (R192, R193) -/

/-- What a MODE order does once it is accepted. -/
def orderTaken (m : Mode) (s : State) (id : Nat) : State × Work :=
  if s.ana.mode = m then
    let s := match findOut s id with | some o => auditOut s o 0 | none => s
    (s, doneNow ("DONE MODE=" ++ modeName m) s)
  else
    let s := if m = .run then { s with ana := { s.ana with stay := false } } else s
    (match orderRow s m with | some r => addCause s r m | none => s, .mode m)

theorem exec_modeOrder {q : Hdr} {c : Instr} {m : Mode}
    (hc : (c = .modeRun q ∧ m = .run) ∨ (c = .modeSafe q ∧ m = .safe) ∨ (c = .modeQuiet q ∧ m = .quiet) ∨ (c = .modeBench q ∧ m = .bench))
    (h : s.takes q (modeSpec q m s)) : exec c s = .next
      (settle (setWork (orderTaken m (accept s q (modeSpec q m s)) s.vil.nextId).1 s.vil.nextId
        (orderTaken m (accept s q (modeSpec q m s)) s.vil.nextId).2) s.vil.nextId) := by
  obtain ⟨rfl, rfl⟩ | ⟨rfl, rfl⟩ | ⟨rfl, rfl⟩ | ⟨rfl, rfl⟩ := hc <;>
    exact congrArg Host.Outcome.next (line_of_takes (c := modeSpec q _) h)

theorem addCause_vil (s : State) (r : Nat) (m : Mode) : (addCause s r m).vil = s.vil := by rw [addCause_frame]

/-- The row of an order reads the mode alone. -/
theorem orderRow_congr (h : t.ana.mode = s.ana.mode) (m : Mode) : orderRow t m = orderRow s m := by
  unfold orderRow modeIs; rw [h]

/-- An order for another mode makes the transition of its row fall due and waits for it. -/
theorem orderTaken_of_other {m : Mode} {r : Nat} (hm : s.ana.mode ≠ m) (hr : orderRow s m = some r) (id : Nat) :
    ∃ a : Ana, a.mode = s.ana.mode ∧ orderTaken m s id = (addCause { s with ana := a } r m, .mode m) := by
  have hrow : ∀ a : Ana, a.mode = s.ana.mode → orderRow { s with ana := a } m = some r := fun a ha => (orderRow_congr ha m).trans hr
  unfold orderTaken
  rw [if_neg hm]
  by_cases h : m = .run
  · rw [if_pos h]
    dsimp only
    rw [hrow]
    · exact ⟨{ s.ana with stay := false }, rfl, rfl⟩
    · rfl
  · rw [if_neg h]
    dsimp only
    rw [hr]
    exact ⟨s.ana, rfl, rfl⟩

theorem orderTaken_of_same {m : Mode} {id : Nat} {o : Out} (hm : s.ana.mode = m) (hf : findOut s id = some o) :
    orderTaken m s id = (auditOut s o 0, .reply (auditOut s o 0).epoch [] ("DONE MODE=" ++ modeName m)) := by
  unfold orderTaken doneNow
  rw [if_pos hm, hf]

/-- An order that is not refused has its row of Table ANA-7. -/
theorem orderRow_of_admitted {m : Mode} (hm : s.ana.mode ≠ m) (h : modeRefused s m = none) : ∃ r, orderRow s m = some r := by
  unfold modeRefused at h
  rw [if_neg hm] at h
  split at h
  · cases h
  · next hr => exact Option.ne_none_iff_exists'.mp (by simpa using hr)

end Sys2Proof.Laws

namespace Sys2Proof.Proofs
open Sys2Proof Sys2Proof.Machine Sys2Proof.Laws

/-- Settles O30: an order of another mode keeps its work, one of the present mode and RESTART end. -/
theorem modeVerbsComplete : Obligations.ModeVerbsComplete := by
  intro s q c m hc
  refine ⟨fun h hm => ?_, fun h hm => ?_, fun h => ?_⟩
  · obtain ⟨r, hr⟩ := orderRow_of_admitted hm (takes_p10 h)
    have hana := accept_ana s q (modeSpec q m s)
    have hrow : orderRow (accept s q (modeSpec q m s)) m = some r :=
      (orderRow_congr (congrArg Ana.mode hana) m).trans hr
    obtain ⟨a, ha, htaken⟩ := orderTaken_of_other (hana ▸ hm) hrow s.vil.nextId
    have hacc : Accepted s (addCause { accept s q (modeSpec q m s) with ana := a } r m) q :=
      (accepted_accept h).of_vil (addCause_vil _ _ _) (by rw [addCause_frame])
    obtain ⟨o, ho, -⟩ := hacc.out
    rw [exec_modeOrder hc h, htaken, settle_of_work (findOut_setWork_self ho _) fun _ _ _ => Work.noConfusion]
    refine ⟨_, r, rfl, hr, addCause_stands _ _ _, ?_, hacc.holdsCmd _⟩
    rw [setWork_ana, addCause_frame]
    exact ha.trans (congrArg Ana.mode hana)
  · have hana := accept_ana s q (modeSpec q m s)
    have hacc := accepted_accept h
    obtain ⟨o, ho, -⟩ := hacc.out
    have hwritten := hacc.auditOut o 0
    obtain ⟨p, hp, -⟩ := hwritten.out
    rw [exec_modeOrder hc h, orderTaken_of_same (hana ▸ hm) ho, settle_of_reply (findOut_setWork_self hp _) rfl]
    refine ⟨_, rfl, ?_, (hwritten.setWork _).endsCmd _⟩
    rw [(linesKept_finish _ _ _).ana, setWork_ana, (linesKept_auditOut _ _ _).ana, hana]
  · have hacc := accepted_accept h
    obtain ⟨hnone, hreset, hends⟩ := hacc.restarts (accept_now _ _ _) ("DONE MODE=" ++ modeName (accept s q (modeRestartSpec q s)).ana.mode)
    have e := (congrArg Host.Outcome.next (line_of_takes (c := modeRestartSpec q) h) : exec (.modeRestart q) s = _)
    generalize restartOrder _ _ = v at hnone hreset hends e
    have hset : (setWork v s.vil.nextId .cancel).vil.outs = [] := List.map_eq_nil_iff.mpr hnone
    rw [settle_of_none (findOut_none (by simp [hset]))] at e
    rw [accept_ana] at hends
    exact ⟨_, e, hset, hreset, (linesKept_setWork _ _ _).endsCmd hends⟩

end Sys2Proof.Proofs
end

section
/-!
What the rows of the supply, the Pilot domain, the auxiliary output, of resets, start-up and QUIET leave alone, and their effect
(R47 to R79, R481, R653, R668, R690).
-/
namespace Sys2Proof.Laws
open Sys2Proof Sys2Proof.Machine
variable {s t : State}

/-! ### What notices, arrivals and the converters leave of power -/

@[simp] theorem notify_pwr (s : State) (n : String) (o : Option Obj) (a : String) : (notify s n o a).pwr = s.pwr :=
  (congrArg State.pwr (untold_notify s n o a) :)

@[simp] theorem arrive_pwr (s : State) (x : Nat) (v : XWord) (p : Option Nat) (pay : Pay) : (arrive s x v p pay).pwr = s.pwr := by
  rw [(arrive_frame s x v p pay).1]

@[simp] theorem winEnd_pwr (s : State) (raw : Nat) (nosync : Bool) (n : Nat) : (winEnd s raw nosync n).pwr = s.pwr := by
  unfold winEnd
  split
  · rfl
  · dsimp only
    split <;> rfl

@[simp] theorem icFree_pwr (s : State) : (icFree s).pwr = s.pwr := by
  have hstart : (winStart s false s.now).pwr = s.pwr := by
    unfold winStart
    dsimp only
    split_ifs
    · rfl
    · rfl
    · rfl
    · rfl
    · split <;> rfl
  unfold icFree
  split
  · exact hstart
  · rfl

/-- The end of a synchronised window changes nothing of power. -/
@[simp] theorem icCut_pwr (s : State) : (icCut s).pwr = s.pwr := by
  unfold icCut
  split
  · dsimp only
    split
    · simp
    · rfl
  · exact icFree_pwr s

/-! ### Marks (R71, R72) -/

/-- The state without what marks and their reports can change. -/
def unmarked (s : State) : State :=
  { s with ana := {}, chn := {}, tst := {},
           pwr := { s.pwr with sag := none, swell := none, trans := none, freqM := none, marks := [], pastMarks := [] } }

theorem unmarked_setMark (s : State) (k : MarkKind) (m : Option Mark) : unmarked (setMark s k m) = unmarked s := by cases k <;> rfl

theorem unmarked_reportMark (s : State) (k : MarkKind) (start : Nat) (stop : Option Nat) (depth : Nat) :
    unmarked (reportMark s k start stop depth) = unmarked s := by
  have harrive : ∀ s x v p pay, unmarked (arrive s x v p pay) = unmarked s := fun s x v p pay => by
    rw [(arrive_frame s x v p pay).1]; rfl
  unfold reportMark
  dsimp only
  rw [harrive]
  split <;> split <;> rfl

theorem bistHit_frame (s : State) (n : Nat) : bistHit s n = { s with tst := (bistHit s n).tst } := by
  unfold bistHit
  split
  · split_ifs <;> rfl
  · rfl

theorem unmarked_markBegins (s : State) (k : MarkKind) (m : Mark) : unmarked (markBegins s k m) = unmarked s := by
  unfold markBegins
  dsimp only
  rw [bistHit_frame]
  exact unmarked_setMark s k (some m)

theorem unmarked_markOpens (s : State) (k : MarkKind) (m : Mark) : unmarked (markOpens s k m) = unmarked s :=
  (unmarked_reportMark _ _ _ _ _).trans (unmarked_markBegins s k m)

theorem unmarked_markCloses (s : State) (k : MarkKind) (m : Mark) : unmarked (markCloses s k m) = unmarked s :=
  (unmarked_reportMark _ _ _ _ _).trans (unmarked_setMark s k none)

theorem unmarked_transTold (s : State) : unmarked (transTold s) = unmarked s := by
  unfold transTold
  split
  · split
    · rfl
    · exact (unmarked_reportMark _ _ _ _ _).trans (unmarked_setMark s _ _)
  · rfl

theorem unmarked_markStep (s : State) (k : MarkKind) (opens closes : Bool) (start depth : Nat) (worst : Nat → Nat → Nat) :
    unmarked (markStep s k opens closes start depth worst) = unmarked s := by
  unfold markStep
  split
  · split
    · exact unmarked_markOpens _ _ _
    · rfl
  · dsimp only
    split
    · exact unmarked_markCloses _ _ _
    · exact unmarked_setMark _ _ _

/-- The marks at the end of a half-cycle change the marks and their reports alone. -/
theorem unmarked_marksStep (s : State) (start rms freq : Nat) : unmarked (marksStep s start rms freq) = unmarked s := by
  unfold marksStep
  extract_lets n set a b fOut c d
  have hd : unmarked d = unmarked s :=
    calc unmarked d = unmarked c := unmarked_transTold c
      _ = unmarked b := unmarked_markStep _ _ _ _ _ _ _
      _ = unmarked a := unmarked_markStep _ _ _ _ _ _ _
      _ = unmarked s := unmarked_markStep _ _ _ _ _ _ _
  split
  · split
    · exact (unmarked_markCloses _ _ _).trans hd
    · exact hd
  · exact hd

/-- A transient opens a TRANS mark, or deepens the open one (R72). -/
theorem execTransientDetect_effect {v : BitVec 16} (h : 300 < v.toNat) : ∃ t, exec (.transientDetect v) s = .next t ∧
    t.pwr.lastTrans = s.now ∧ ∃ m, t.pwr.trans = some m ∧ v.toNat ≤ m.depth ∧ (s.pwr.trans = none → m.start = s.now) := by
  have e : exec (.transientDetect v) s = .next _ := congrArg Host.Outcome.next (if_neg (Nat.not_le_of_lt h))
  refine ⟨_, e, ?_⟩
  dsimp only
  split
  · unfold markBegins
    dsimp only
    rw [bistHit_frame]
    exact ⟨rfl, _, rfl, Nat.le_refl _, fun _ => rfl⟩
  · next m hm => exact ⟨rfl, _, rfl, Nat.le_max_right _ _, fun hn => absurd hm (by rw [hn]; nofun)⟩

/-! ### Half-cycles and the presence of mains (R49, R52, R55) -/

/-- What the line die has last reported: voltage, frequency and when. -/
def lineHealth (p : Pwr) : Nat × Nat × Nat := (p.rms, p.freq, p.halfStart)

theorem lineHealth_of_unmarked (h : unmarked t = unmarked s) : lineHealth t.pwr = lineHealth s.pwr :=
  (congrArg (fun u => lineHealth u.pwr) h :)

/-- The state as the mains becomes absent, with its SAG mark open. -/
def sagOpened (s : State) (start : Nat) (depth : Option Nat) : State :=
  let s := { s with pwr := { s.pwr with mains := false, lineRan := false } }
  if s.pwr.sag = none then markOpens s .sag ⟨start, depth.getD 0, depth.isNone, true⟩ else s

theorem unmarked_sagOpened (s : State) (start : Nat) (depth : Option Nat) :
    unmarked (sagOpened s start depth) = unmarked { s with pwr := { s.pwr with mains := false, lineRan := false } } := by
  unfold sagOpened
  dsimp only
  split
  · exact unmarked_markOpens _ _ _
  · rfl

theorem mainsGone_of_present (h : s.pwr.mains = true) (start : Nat) (depth : Option Nat) :
    mainsGone s start depth = notify (icCut (stopCharging (sagOpened s start depth))) "PWR.MAINS-ABSENT" :=
  if_neg (by simp [h])

theorem mainsGone_pwr (h : s.pwr.mains = true) (start : Nat) (depth : Option Nat) :
    (mainsGone s start depth).pwr = { (sagOpened s start depth).pwr with trickle := false, fast := false, chargeSince := none } := by
  rw [mainsGone_of_present h, notify_pwr, icCut_pwr]
  rfl

/-- The mains is absent, and charging stops (R55). -/
theorem mainsGone_effect (h : s.pwr.mains = true) (start : Nat) (depth : Option Nat) : (mainsGone s start depth).pwr.mains = false ∧
    (mainsGone s start depth).pwr.trickle = false ∧ (mainsGone s start depth).pwr.fast = false := by
  rw [mainsGone_pwr h]
  exact ⟨(congrArg (fun u => u.pwr.mains) (unmarked_sagOpened s start depth) :), rfl, rfl⟩

theorem lineHealth_mainsGone (s : State) (start : Nat) (depth : Option Nat) : lineHealth (mainsGone s start depth).pwr = lineHealth s.pwr := by
  cases h : s.pwr.mains with
  | false => unfold mainsGone; simp [h]
  | true =>
    rw [mainsGone_pwr h]
    exact (lineHealth_of_unmarked (unmarked_sagOpened s start depth) :)

theorem lineHealth_mainsReturns (s : State) : lineHealth (mainsReturns s).pwr = lineHealth s.pwr := by
  have hn : ∀ u n o a, lineHealth (notify u n o a).pwr = lineHealth u.pwr := fun u n o a => by rw [notify_pwr]
  unfold mainsReturns
  dsimp only
  split
  · rfl
  · split
    · exact hn _ _ _ _
    · exact hn _ _ _ _

theorem lineHealth_nominalStep (p : Pwr) (rms : Nat) (marked : Bool) : lineHealth (nominalStep p rms marked) = lineHealth p := by
  have hprov : lineHealth (provStep p rms) = lineHealth p := by unfold provStep; dsimp only; split <;> rfl
  have hlearn : lineHealth (learnStep p rms marked) = lineHealth p := by unfold learnStep; split_ifs <;> rfl
  have htrack : lineHealth (trackStep p rms marked) = lineHealth p := by unfold trackStep; split <;> rfl
  unfold nominalStep
  split
  · split
    · exact hprov
    · rfl
  · split
    · exact hlearn
    · exact htrack
    · rfl

/-- The report of a half-cycle stands as given. -/
theorem lineHealth_halfCycle (s : State) (rms freq : Nat) : lineHealth (halfCycle s rms freq).pwr = (rms, freq, s.now) := by
  unfold halfCycle
  extract_lets start before p a b c kind d e
  have hb : lineHealth b.pwr = (rms, freq, s.now) := by
    unfold b
    split
    · exact lineHealth_mainsGone a _ _
    · exact lineHealth_mainsReturns a
  have he : lineHealth e.pwr = lineHealth d.pwr := by
    unfold e
    split
    · rw [notify_pwr]
    · rfl
  calc lineHealth (arrive e 188 _ _ _).pwr = lineHealth e.pwr := by rw [arrive_pwr]
    _ = lineHealth (nominalStep c.pwr rms (before || marked c)) := he
    _ = lineHealth c.pwr := lineHealth_nominalStep _ _ _
    _ = lineHealth b.pwr := lineHealth_of_unmarked (unmarked_marksStep b start rms freq)
    _ = (rms, freq, s.now) := hb

theorem lineHealth_transTold (s : State) : lineHealth (transTold s).pwr = lineHealth s.pwr := lineHealth_of_unmarked (unmarked_transTold s)

theorem exec_absentHealthReport (h : s.pwr.mains = false) : ∃ t, exec .absentHealthReport s = .next t ∧ t.pwr.rms = 0 ∧ t.pwr.freq = 0 := by
  have e : exec .absentHealthReport s = .next _ := congrArg Host.Outcome.next (if_neg (by simp [h]))
  have hl := lineHealth_transTold { s with pwr := { s.pwr with rms := 0, freq := 0 } }
  refine ⟨_, e, ?_⟩
  dsimp only
  rw [arrive_pwr]
  exact ⟨(Prod.mk.inj hl).1, (Prod.mk.inj (Prod.mk.inj hl).2).1⟩

/-! ### Main good and the Pilot domain (R48, R67, R77) -/

theorem pilotReturns_pilot (p : Pwr) (n : Nat) : (pilotReturns p n).pilot = .normal := by
  unfold pilotReturns
  dsimp only
  split
  · assumption
  all_goals rfl

/-- Main good returns the Pilot domain to NORMAL. -/
theorem mainGood_effect (s : State) : (mainGood s).pwr.mainGood = true ∧ (mainGood s).pwr.pilot = .normal ∧ (mainGood s).pwr.mgSince = none := by
  unfold mainGood
  extract_lets dies a dead p b
  have hb : b.pwr.mainGood = true ∧ b.pwr.pilot = .normal ∧ b.pwr.mgSince = none := ⟨rfl, pilotReturns_pilot _ _, rfl⟩
  split
  · exact hb
  · exact hb

theorem exec_mainGood_of_risen {a : Nat} (hg : s.pwr.mainGood = false) (ha : s.pwr.mgSince = some a) :
    exec .mainGood s = .next (atTick s (some (ptoEdge s (a + 2 * tickMs))) mainGood) := by
  show Host.Outcome.next (if s.pwr.mainGood then s else _) = _
  simp only [hg, ha]
  rfl

theorem exec_mainGood_of_due {a : Nat} (hg : s.pwr.mainGood = false) (ha : s.pwr.mgSince = some a)
    (hc : comesAt s (ptoEdge s (a + 2 * tickMs)) = some t) : exec .mainGood s = .next (mainGood t) :=
  (exec_mainGood_of_risen hg ha).trans (congrArg Host.Outcome.next (atTick_some hc))

theorem exec_mainGood_of_unqualified (hg : s.pwr.mainGood = false) (ha : s.pwr.mgSince = none) : exec .mainGood s = .next s := by
  show Host.Outcome.next (if s.pwr.mainGood then s else _) = _
  simp only [hg, ha]
  rfl

/-- An edge of the PTO comes no earlier than the tick it is asked for. -/
theorem le_ptoEdge (s : State) (n : Nat) : n ≤ ptoEdge s n := by
  unfold ptoEdge
  split
  · exact Nat.le_refl _
  · unfold ptoClock; omega
  · exact Nat.le_refl _

/-- A qualification takes its 2 ms from its rise (R48). -/
theorem mainGood_after_qualification {a : Nat} (hg : s.pwr.mainGood = false) (ha : s.pwr.mgSince = some a) (h : exec .mainGood s = .next t)
    (ht : t.pwr.mainGood = true) : a + 2 * tickMs ≤ t.now := by
  cases hc : comesAt s (ptoEdge s (a + 2 * tickMs)) with
  | none =>
    have e : exec .mainGood s = .next s := (exec_mainGood_of_risen hg ha).trans (congrArg Host.Outcome.next (atTick_none hc))
    obtain rfl := Host.Outcome.next.inj (e.symm.trans h)
    exact absurd ht (by simp [hg])
  | some u =>
    obtain rfl := Host.Outcome.next.inj ((exec_mainGood_of_due hg ha hc).symm.trans h)
    calc a + 2 * tickMs ≤ ptoEdge s (a + 2 * tickMs) := le_ptoEdge _ _
      _ ≤ u.now := by rw [comesAt_now hc]; exact Nat.le_max_right _ _
      _ ≤ (mainGood u).now := (keeps_mainGood (Keeps.refl u)).time

theorem exec_mainGoodQualification (r : Bool) (h : s.pwr.mainGood = false) : exec (.mainGoodQualification r) s =
    .next { s with pwr := { s.pwr with mgSince := if r then some s.now else none } } :=
  congrArg Host.Outcome.next (if_neg (by simp [h]))

theorem pilotLost_of_normal (h : s.pwr.pilot = .normal) : (pilotLost s).pwr.pilot = .backup ∧ (pilotLost s).pwr.mainGood = false ∧
    (pilotLost s).pwr.trickle = false ∧ (pilotLost s).pwr.fast = false := by
  simp [pilotLost, stopCharging, h]

theorem holdAsserted_of_running (hr : coreRuns s = true) (hc : s.pwr.committed = false) : holdAsserted s = commit s := by
  unfold coreRuns at hr
  unfold holdAsserted
  split at hr
  · next h => rw [h]; exact if_neg (by simp [hc])
  · cases hr

end Sys2Proof.Laws

namespace Sys2Proof.Proofs
open Sys2Proof Sys2Proof.Machine Sys2Proof.Laws

/-- Settles O19, row by row. -/
theorem supplyRowsComplete : Obligations.SupplyRowsComplete := by
  intro s
  refine ⟨fun r hg => ⟨_, exec_mainGoodQualification r hg, rfl⟩, fun a s' hg ha hc => ?_, fun hg hp => ?_, fun hr hc => ?_, fun hr hc => ?_,
    fun s' hm hc hm' => ?_, fun rms f => ?_, exec_absentHealthReport, fun hm => ?_, fun v hv => execTransientDetect_effect hv, fun v hv => ?_⟩
  · exact ⟨_, exec_mainGood_of_due hg ha hc, mainGood_effect s'⟩
  · exact ⟨_, congrArg Host.Outcome.next (if_pos hg), rfl, pilotLost_of_normal hp⟩
  · exact ⟨_, rfl, holdAsserted_of_running hr hc⟩
  · exact ⟨_, congrArg Host.Outcome.next (if_pos (by simp [hr, hc])), rfl⟩
  · exact ⟨_, congrArg Host.Outcome.next ((if_neg (by simp [hm])).trans (atTick_some hc)), mainsGone_effect hm' _ _⟩
  · obtain ⟨hrms, hrest⟩ := Prod.mk.inj (lineHealth_halfCycle s rms.toNat f.toNat)
    exact ⟨_, rfl, hrms, Prod.mk.inj hrest⟩
  · exact congrArg Host.Outcome.next (if_pos hm)
  · exact congrArg Host.Outcome.next (if_pos hv)

/-- Settles O58: without a rise since the last fall main good does not come, and from a rise its 2 ms must pass. -/
theorem qualificationRestarts : Obligations.QualificationRestarts := by
  intro s hg c hc
  have e : exec c s = .next { s with pwr := { s.pwr with mgSince := none } } := by
    obtain rfl | rfl := hc
    · exact congrArg Host.Outcome.next (if_neg (by simp [hg]))
    · exact exec_mainGoodQualification false hg
  refine ⟨_, e, rfl, rfl, exec_mainGood_of_unqualified hg rfl, _, exec_mainGoodQualification true hg, rfl, rfl, fun v hv hgood => ?_⟩
  refine mainGood_after_qualification ?_ ?_ hv hgood
  · exact hg
  · rfl

end Sys2Proof.Proofs
end

section
/-!
What the rows of the Pilot domain, the auxiliary output, the cell, of resets, start-up and QUIET leave alone, and their effect
(R46, R47, R50, R53, R60 to R68, R75, R285, R481, R653, R668, R690).
-/
namespace Sys2Proof.Laws
open Sys2Proof Sys2Proof.Machine
variable {s t : State}

/-! ### The Pilot domain -/

theorem exec_pilotStatePost_of_due (h : comesAt s (if s.pwr.pilot = s.pwr.pilotPostVal then s.pwr.pilotPosted + 100 * tickMs else s.now) = some t) :
    ∃ u, exec .pilotStatePost s = .next u ∧ u.pwr = { t.pwr with pilotPosted := t.now, pilotPostVal := t.pwr.pilot } := by
  refine ⟨_, congrArg Host.Outcome.next (atTick_some h), ?_⟩
  rw [arrive_pwr]

/-! ### The auxiliary output (R46, R47) -/

/-- The output is switched off above 1.30 A, and above 0.80 A for 50 ms without a grant. -/
theorem exec_auxTrip {ma : BitVec 16} {b : Bool} (ho : s.pwr.auxOn = true) (h : 1300 < ma.toNat ∨ (800 < ma.toNat ∧ b = true ∧ auxGrant s = false)) :
    ∃ t, exec (.auxTrip ma b) s = .next t ∧ t.pwr.auxOn = false ∧ t.pwr.auxTrip = true ∧ t.pwr.auxRetry = some s.now := by
  refine ⟨auxTripped s, congrArg Host.Outcome.next (if_pos ?_), ?_⟩
  · simp only [ho, Bool.true_and, Bool.or_eq_true, Bool.and_eq_true, decide_eq_true_eq, Bool.not_eq_true']
    tauto
  · unfold auxTripped
    dsimp only
    rw [notify_pwr]
    exact ⟨rfl, rfl, rfl⟩

theorem exec_auxTrip_below {ma : BitVec 16} {b : Bool} (h : ma.toNat ≤ 800 ∨ (ma.toNat ≤ 1300 ∧ (b = false ∨ auxGrant s = true))) :
    exec (.auxTrip ma b) s = .next s := by
  refine congrArg Host.Outcome.next (if_neg ?_)
  simp only [Bool.and_eq_true, Bool.or_eq_true, decide_eq_true_eq, Bool.not_eq_true', not_and, not_or, and_imp]
  intro _
  obtain h | ⟨h, rfl | hg⟩ := h
  · exact ⟨by omega, fun hm => by omega⟩
  · exact ⟨by omega, fun _ hb => absurd hb Bool.false_ne_true⟩
  · exact ⟨by omega, fun _ _ hn => Bool.false_ne_true (hn.symm.trans hg)⟩

theorem exec_auxRetry_of_due (ha : cfgOn s pwrObj "AUX" = true) (ho : s.pwr.auxOn = false) (hc : comesAt? s (auxRetryDue s) = some t) :
    exec .auxRetry s = .next (auxRequest { t with pwr := { t.pwr with auxRetry := none } } .routine none) :=
  congrArg Host.Outcome.next ((if_neg (by simp [ha, ho])).trans (atTick_some hc))

/-! ### The cell (R64 to R66) -/

theorem leaveLog_frame (s : State) (h : Holder) (op ev : Nat) :
    leaveLog s h op ev = { s with fresh := (leaveLog s h op ev).fresh, jrn := (leaveLog s h op ev).jrn } := by
  unfold leaveLog jrnPut
  dsimp only
  split_ifs <;> rfl

/-- A grant given back changes neither power nor another part of Lamplighter. -/
@[simp] theorem grantBack_pwr (s : State) (h : Holder) : (grantBack s h).pwr = s.pwr := by
  unfold grantBack
  split
  · split
    · rfl
    · unfold grantMark
      rw [leaveLog_frame]
  · rfl

/-- A grant that its holder has not lost is over once it is given back. -/
theorem grantBack_returned {h : Holder} {g : LGrant} (hf : s.lve.grants.find? (·.h = h) = some g) (ho : g.orphan = false) :
    ∃ g' ∈ (grantBack s h).lve.grants, g'.h = h ∧ g'.returned = true := by
  have hmem : g ∈ s.lve.grants := List.mem_of_find?_eq_some hf
  have hh : g.h = h := by simpa using List.find?_some hf
  unfold grantBack
  rw [hf]
  dsimp only
  split
  · next hr => exact ⟨g, hmem, hh, by simpa [ho] using hr⟩
  · rw [leaveLog_frame]
    refine ⟨_, List.mem_map_of_mem hmem, ?_⟩
    dsimp only
    rw [if_pos hh]
    exact ⟨hh, rfl⟩

theorem exec_fastChargeEnd {mv : Int} (hf : s.pwr.fast = true) (hm : (chgMv s : Int) ≤ mv + 20) : exec (.fastChargeEnd mv) s =
    .next (grantBack { s with pwr := { s.pwr with fast := false, trickle := mayCharge s, vbat := mv.toNat } } .charge) :=
  congrArg Host.Outcome.next (if_pos (by simp [hf, hm]))

/-- The evaluation takes the voltage. -/
theorem vbatEvaluate_vbat (s : State) (mv : Nat) : (vbatEvaluate s mv).pwr.vbat = mv := by
  unfold vbatEvaluate
  extract_lets src blk may since absent charged low newAbsent newLow p a b c asked r
  have hb : b.pwr.vbat = mv := by
    unfold b
    split
    · rw [notify_pwr]
    · rfl
  have hc : c.pwr.vbat = mv := by
    unfold c
    split
    · rw [notify_pwr]; exact hb
    · exact hb
  split
  · exact hc
  · exact hc

/-! ### Outputs that stop -/

/-- The state without the drives. -/
def undriven (s : State) : State := { s with drv := {} }

theorem pwr_of_undriven (h : undriven t = undriven s) : t.pwr = s.pwr := (congrArg State.pwr h :)

theorem undriven_feedStop (s : State) (f : Nat) : undriven (feedStop s f) = undriven s := rfl

theorem undriven_modDr (s : State) (d : Nat) (f : Dr → Dr) : undriven (modDr s d f) = undriven s := rfl

theorem undriven_travelFreezes (s : State) (d : Nat) : undriven (travelFreezes s d) = undriven s := by
  unfold travelFreezes writeRec
  split
  · rfl
  · exact (undriven_modDr _ _ _).trans (undriven_modDr _ _ _)

theorem undriven_setPort (s : State) (p : Nat) (x : Port) : undriven (setPort s p x) = undriven s := rfl

theorem undriven_portStop (s : State) (p : Nat) : undriven (portStop s p) = undriven s := by
  unfold portStop
  extract_lets x d brake u
  have hu : undriven u = undriven s := undriven_setPort s p _
  clear_value u brake d
  split
  · split
    · exact (undriven_travelFreezes u _).trans hu
    · exact hu
  · exact hu

theorem undriven_gatesOff (s : State) (p : Nat) : undriven (gatesOff s p) = undriven s :=
  (undriven_setPort _ _ _).trans (undriven_portStop s p)

theorem undriven_feedsStop (s : State) : undriven ((List.range 8).foldl feedStop s) = undriven s :=
  foldl_keeps undriven undriven_feedStop _ _

theorem undriven_portsLow (s : State) : undriven (portsLow s) = undriven s :=
  foldl_keeps undriven undriven_gatesOff _ _

/-! ### Resets of the core die (R53, R54, R690) -/

/-- A core die that goes down keeps of power what the Pilot domain and the power stage hold. -/
theorem coreDown_pwr (s : State) : (coreDown s).pwr = pwrFresh s.pwr := by
  have h : (portsLow ((List.range 8).foldl feedStop s)).pwr = s.pwr :=
    pwr_of_undriven ((undriven_portsLow _).trans (undriven_feedsStop s))
  unfold coreDown
  generalize portsLow ((List.range 8).foldl feedStop s) = u at h ⊢
  rw [← h]
  rfl

/-- A reset holds the core die, with its kind. -/
theorem resetBegins_effect (s : State) (k : ResetKind) (extra : Nat) :
    coreRuns (resetBegins s k extra) = false ∧ (resetBegins s k extra).pwr.rstKind = k := by
  unfold resetBegins
  dsimp only
  refine ⟨rfl, ?_⟩
  rw [coreDown_pwr]
  rfl

theorem running_of_coreRuns (h : coreRuns s = true) : s.pwr.core = .running := by
  unfold coreRuns at h
  split at h
  · assumption
  · cases h

theorem exec_resetPin {low : Nat} (hl : 80 ≤ low) (hr : coreRuns s = true) (hc : s.pwr.committed = false) (hm : s.pwr.mains = true) :
    exec (.resetPin low) s =
      .next (resetBegins { s with pwr := { s.pwr with pinUntil := max s.pwr.pinUntil (s.now + (low - 80)) } } .pin (low - 80)) := by
  show Host.Outcome.next (if low < 8 then s else if low < 80 then _ else pinReset s low) = _
  rw [if_neg (by omega), if_neg (by omega)]
  simp only [pinReset, hc, running_of_coreRuns hr, hm]
  rfl

theorem exec_brownOut {low : Nat} (hl : 40 ≤ low) (hr : coreRuns s = true) (hc : s.pwr.committed = false) (hm : s.pwr.mainGood = true) :
    exec (.brownOut low) s = .next (resetBegins s .brown (low - 40)) := by
  show Host.Outcome.next (if low < 40 then s else brownReset s low) = _
  rw [if_neg (by omega)]
  simp only [brownReset, running_of_coreRuns hr, hc, hm]
  rfl

/-- A restart resets once its lines have been sent, or at its time (R193). -/
theorem exec_restartReset {e due : Nat} (hr : coreRuns s = true) (hc : s.pwr.committed = false) (hs : s.vil.softReset = some (e, due))
    (h : restartSent s e = true ∨ comesAt s due = some t) : ∃ u, exec .restartReset s = .next (resetBegins u .soft 0) := by
  show ∃ u, Host.Outcome.next _ = _
  simp only [hs, hr, hc]
  by_cases hsent : restartSent s e = true
  · exact ⟨s, by rw [hsent]; rfl⟩
  · have hdue : comesAt s due = some t := h.resolve_left hsent
    obtain rfl := comesAt_now hdue
    refine ⟨_, congrArg Host.Outcome.next ((if_neg (by simp)).trans ((if_neg hsent).trans ((atTick_some (o := some due) hdue).trans (if_pos ?_))))⟩
    have hrun : coreRuns { s with now := max s.now due } = true := hr
    simp [hrun, hs, hc]

/-! ### Start-up (R50, R193, R285, R653, R668) -/

theorem timeRestart_frame (s : State) : timeRestart s = { s with tim := (timeRestart s).tim } := by
  unfold timeRestart
  dsimp only
  split <;> rfl

/-- The release of the core die: START at monotonic time 0 with the next boot count. -/
theorem coreStarts_effect (s : State) : coreRuns (coreStarts s) = true ∧ (coreStarts s).ana.mode = .start ∧ (coreStarts s).rel = s.now ∧
    (coreStarts s).epoch = 0 ∧ (coreStarts s).pwr.committed = false ∧ (coreStarts s).sec.boot = s.sec.boot + 1 := by
  unfold coreStarts
  dsimp only
  rw [timeRestart_frame]
  split <;> exact ⟨rfl, rfl, rfl, rfl, rfl, rfl⟩

theorem exec_coreResetRelease_of_due {due : Nat} (hd : s.pwr.core = .reset due) (hm : s.pwr.mainGood = true) (hc : comesAt s due = some t) :
    exec .coreResetRelease s = .next (coreStarts t) := by
  show Host.Outcome.next _ = _
  rw [hd]
  exact congrArg Host.Outcome.next ((if_pos hm).trans (atTick_some hc))

theorem rtsFollows_pwr (s : State) : (rtsFollows s).pwr = s.pwr := by
  unfold rtsFollows
  split_ifs <;> rfl

/-- The check of the versions changes what the self-test holds, and the sessions by its notices. -/
theorem untold_versionCheck (s : State) : untold (versionCheck s) = untold s := by
  have hnote : ∀ s was is n, untold (heldNotice s was is n) = untold s := fun s was is n => by
    unfold heldNotice
    split
    · exact untold_notify _ _ _ _
    · rfl
  unfold versionCheck
  dsimp only
  rw [hnote, hnote, hnote]
  rfl

@[simp] theorem versionCheck_pwr (s : State) : (versionCheck s).pwr = s.pwr := (congrArg State.pwr (untold_versionCheck s) :)
@[simp] theorem versionCheck_ana (s : State) : (versionCheck s).ana = s.ana := (congrArg State.ana (untold_versionCheck s) :)

theorem lineConfigured_keeps (s : State) : (lineConfigured s).pwr = s.pwr ∧ (lineConfigured s).ana = s.ana := by
  unfold lineConfigured
  split
  · have h := undriven_feedsStop { s with drv := { s.drv with configured := true } }
    rw [versionCheck_pwr, versionCheck_ana]
    exact ⟨(congrArg State.pwr h :), (congrArg State.ana h :)⟩
  · exact ⟨rfl, rfl⟩

/-- The barrier link is up, with the revisions that it brings. -/
theorem linkUp_effect (l j : Byte) (s : State) :
    (linkUp l j s).pwr.linkUp = true ∧ (linkUp l j s).ana.lrev = l ∧ (linkUp l j s).ana.jrev = j := by
  unfold linkUp
  dsimp only
  split
  · rw [(lineConfigured_keeps _).1, (lineConfigured_keeps _).2]
    exact ⟨rfl, rfl, rfl⟩
  · split
    · rw [versionCheck_pwr, versionCheck_ana]
      exact ⟨rfl, rfl, rfl⟩
    · exact ⟨rfl, rfl, rfl⟩

/-- Latching faults changes neither power nor the result of the quick self-test. -/
theorem latchFaults_keeps (s : State) (bits found : BitVec 10) (holds : Tbl (BitVec 12)) :
    (latchFaults s bits found holds).pwr = s.pwr ∧ (latchFaults s bits found holds).tst.qfail = s.tst.qfail := by
  have hfeed : ∀ (s : State) (f : Nat), undriven (if (bstHeld s).getLsbD f then feedStop s f else s) = undriven s := fun s f => by
    split <;> rfl
  have hport : ∀ (s : State) (p : Nat), undriven (if (bstHeld s).getLsbD (8 + p) then portStop s p else s) = undriven s := fun s p => by
    split
    · exact undriven_portStop s p
    · rfl
  unfold latchFaults setFaults
  extract_lets u v
  have h : undriven ((List.range 4).foldl (fun s p => if (bstHeld s).getLsbD (8 + p) then portStop s p else s) v) = undriven u :=
    (foldl_keeps undriven hport _ v).trans (foldl_keeps undriven hfeed _ u)
  clear_value v
  exact ⟨(pwr_of_undriven h :), (congrArg (fun u => u.tst.qfail) h :)⟩

/-- The result of the quick self-test is latched (R653). -/
theorem quickResult_effect (s : State) (f : BitVec 10) (fe : BitVec 8) (po : BitVec 4) :
    (quickResult s f fe po).pwr = s.pwr ∧ (quickResult s f fe po).tst.qfail = (f &&& quickItems != 0) := by
  have hnotes : ∀ (s : State) (g : BitVec 10), (faultNotes s g).pwr = s.pwr ∧ (faultNotes s g).tst = s.tst := fun s g => by
    unfold faultNotes
    refine ⟨foldl_keeps State.pwr ?_ _ _, foldl_keeps State.tst ?_ _ _⟩ <;> exact fun _ _ => rfl
  unfold quickResult
  dsimp only
  rw [(hnotes _ _).1, (hnotes _ _).2, (latchFaults_keeps _ _ _ _).1, (latchFaults_keeps _ _ _ _).2]
  exact ⟨rfl, rfl⟩

/-- The reference is good, and the mode stands. -/
theorem refOk_effect (s : State) : (refOk s).cnv.ref = .ok ∧ (refOk s).ana.mode = s.ana.mode := by
  unfold refOk calOwn calStart calAsk
  dsimp only
  split
  · split
    · split <;> exact ⟨rfl, rfl⟩
    · exact ⟨rfl, rfl⟩
  · exact ⟨rfl, rfl⟩

/-- Outside START the reference settles alone. -/
theorem exec_refSettled_of_due (hs : sensing s = true) (hr : s.cnv.ref = .settling) (hm : s.ana.mode ≠ .start)
    (hc : comesAt s (s.cnv.refAt + 5 * tickMs) = some t) : exec .refSettled s = .next (refOk t) := by
  have htm : t.ana.mode ≠ .start := by rw [comesAt_now hc]; exact hm
  have hmode : (refOk t).ana.mode ≠ .start := (refOk_effect t).2 ▸ htm
  have hstart : startTarget (refOk t) = refOk t := if_pos (by simpa using hmode)
  refine congrArg Host.Outcome.next ((if_pos (by simp [hs, hr])).trans ((atTick_some (o := some _) hc).trans ?_))
  dsimp only
  rw [hstart]
  exact if_neg (by simp [hmode])

end Sys2Proof.Laws

namespace Sys2Proof.Proofs
open Sys2Proof Sys2Proof.Machine Sys2Proof.Laws

/-- Settles O20, row by row. -/
theorem pilotAndAuxiliaryRowsComplete : Obligations.PilotAndAuxiliaryRowsComplete := by
  intro s s'
  refine ⟨fun hp hc => ?_, fun hp hc => ?_, fun hp => congrArg Host.Outcome.next (if_pos hp), fun hc => ?_, fun ma b ho hm => ?_,
    fun ma ho hm hg => ?_, fun ma b h => exec_auxTrip_below h, fun ha ho hc => ?_, fun mv hf hm => ?_⟩
  · exact ⟨_, congrArg Host.Outcome.next ((if_neg (by simp [hp])).trans (atTick_some hc)), rfl, rfl⟩
  · exact ⟨_, congrArg Host.Outcome.next ((if_neg (by simp [hp])).trans (atTick_some hc)), rfl, rfl, rfl⟩
  · obtain ⟨u, he, hu⟩ := exec_pilotStatePost_of_due hc
    refine ⟨u, he, ?_⟩
    rw [hu, comesAt_now hc]
    exact ⟨rfl, rfl⟩
  · exact exec_auxTrip ho (.inl hm)
  · obtain ⟨t, he, hoff, htrip, -⟩ := exec_auxTrip (b := true) ho (.inr ⟨hm, rfl, hg⟩)
    exact ⟨t, he, hoff, htrip⟩
  · obtain ⟨n, -, hcome⟩ := comesAt?_cases hc
    refine ⟨_, exec_auxRetry_of_due ha ho hc, rfl, rfl, ?_⟩
    rw [comesAt_now hcome]
    exact List.length_append
  · exact ⟨_, exec_fastChargeEnd hf hm, by rw [grantBack_pwr], by rw [grantBack_pwr], fun g hg horp => grantBack_returned hg horp⟩

/-- Settles O21, row by row. -/
theorem startupRowsComplete : Obligations.StartupRowsComplete := by
  intro s s'
  refine ⟨fun due hd hm hc => ?_, fun hr => ?_, fun l j hr hl hc => ?_, fun hr hm hv hc => ?_, fun f fe po ok hr hm hv ht hc => ?_,
    fun hs hr hm hc => ?_, fun low hl hr hc hm => ?_, fun low hl => ?_, fun low hl hr hc hm => ?_, fun low hl => ?_,
    fun e due hr hc hs h => ?_⟩
  · obtain ⟨hrun, hmode, hrel, hepoch, hcom, hboot⟩ := coreStarts_effect s'
    refine ⟨_, exec_coreResetRelease_of_due hd hm hc, hrun, hmode, hrel, hepoch, hcom, hboot.trans ?_⟩
    rw [comesAt_now hc]
  · refine ⟨_, congrArg Host.Outcome.next (if_pos hr), ?_⟩
    rw [rtsFollows_pwr]
  · exact ⟨_, congrArg Host.Outcome.next ((if_pos (by simp [hr, hl])).trans (atTick_some hc)), linkUp_effect l j s'⟩
  · refine ⟨_, congrArg Host.Outcome.next ((if_pos (by simp [hr, hm, hv])).trans (atTick_some hc)), ?_⟩
    rw [versionCheck_pwr]
  · obtain ⟨hpwr, hfail⟩ := quickResult_effect
      { s' with pwr := { s'.pwr with selfTested := true, cfgOk := ok, loadAt := some (s'.now + 10 * tickMs) } } f fe po
    refine ⟨_, congrArg Host.Outcome.next ((if_pos (by simp [hr, hm, hv, ht])).trans (atTick_some hc)), ?_, ?_, ?_, hfail⟩ <;> rw [hpwr]
  · exact ⟨_, exec_refSettled_of_due hs hr hm hc, (refOk_effect s').1⟩
  · exact ⟨_, exec_resetPin hl hr hc hm, resetBegins_effect _ _ _⟩
  · exact congrArg Host.Outcome.next (if_pos hl)
  · exact ⟨_, exec_brownOut hl hr hc hm, resetBegins_effect _ _ _⟩
  · exact congrArg Host.Outcome.next (if_pos hl)
  · obtain ⟨u, he⟩ := exec_restartReset hr hc hs h
    exact ⟨_, he, resetBegins_effect _ _ _⟩

/-- Settles O22, row by row. -/
theorem quietRowsComplete : Obligations.QuietRowsComplete := by
  intro s s'
  refine ⟨fun hm hb hc => ?_, fun src hm hs hw => ?_, fun lv u hm hw hu hne => ?_, fun p hm hp hw hc => ?_⟩
  · exact ⟨_, congrArg Host.Outcome.next ((if_neg (by simp [hm, hb])).trans (atTick_some hc)), addCause_stands s' 5 .quiet⟩
  · refine congrArg Host.Outcome.next ((if_pos (by simp [hm, hs])).trans ?_)
    rw [hw]
    rfl
  · have hany : ((wakeChans s).any fun u => lv.getLsbD u != s.pwr.wakeLevels.getLsbD u) = true :=
      List.any_eq_true.mpr ⟨u, hu, by simpa using hne⟩
    refine ⟨_, congrArg Host.Outcome.next (if_neg (by simp [hm])), ?_⟩
    dsimp only
    rw [if_pos hany, hw]
    exact ⟨rfl, rfl⟩
  · have e : exec .rtcAlarm s = .next { s' with pwr := { s'.pwr with waking := some (s'.pwr.waking.getD .rtc) } } := by
      show Host.Outcome.next (if s.ana.mode != .quiet then s else _) = _
      rw [if_neg (by simp [hm]), hp]
      exact congrArg Host.Outcome.next (atTick_some hc)
    refine ⟨_, e, ?_⟩
    dsimp only
    rw [comesAt_now hc, hw]
    rfl

/-- Settles O11: the bits are those of the conjunction with the complement. -/
theorem resetCauseBitsClearByWritingOne : Obligations.ResetCauseBitsClearByWritingOne := by
  refine fun v s => ⟨_, rfl, rfl, fun b hb => ?_⟩
  simp [hb]

/-- Settles O12: the stop outside the limits, and the evaluation inside them in NORMAL alone. -/
theorem cellVoltageBeyondTheAbsoluteMaximumStops : Obligations.CellVoltageBeyondTheAbsoluteMaximumStops := by
  intro mv s
  have inside : -300 ≤ mv → mv ≤ 3600 → ¬(decide (mv < -300) || decide (3600 < mv)) = true := fun hlo hhi => by
    simp only [Bool.or_eq_true, decide_eq_true_eq]; omega
  refine ⟨fun h => if_pos (by simpa using h), fun hlo hhi hp => ?_, fun hlo hhi hp => ?_⟩
  · exact (if_neg (inside hlo hhi)).trans (if_pos (by simpa using hp))
  · exact ⟨_, (if_neg (inside hlo hhi)).trans (if_neg (by simp [hp])), vbatEvaluate_vbat s mv.toNat⟩

end Sys2Proof.Proofs
end

section
/-!
What each row of Lamplighter does to its queue, its grants and its answers (R93 to R101), and what the clear registers leave of
the counts since reset (R113, R114).
-/
namespace Sys2Proof.Laws
open Sys2Proof Sys2Proof.Machine
variable {s : State} {h : Holder} {r : LReq}

/-! ### What notices and the journal leave of Lamplighter -/

@[simp] theorem notify_lve (s : State) (n : String) (o : Option Obj) (a : String) : (notify s n o a).lve = s.lve :=
  (congrArg State.lve (untold_notify s n o a) :)

@[simp] theorem notify_epoch (s : State) (n : String) (o : Option Obj) (a : String) : (notify s n o a).epoch = s.epoch :=
  (congrArg State.epoch (untold_notify s n o a) :)

@[simp] theorem leaveLog_lve (s : State) (h : Holder) (op ev : Nat) : (leaveLog s h op ev).lve = s.lve := by
  rw [leaveLog_frame]

@[simp] theorem leaveLog_epoch (s : State) (h : Holder) (op ev : Nat) : (leaveLog s h op ev).epoch = s.epoch := by
  rw [leaveLog_frame]

/-! ### Requests (R93, R95, R97) -/

/-- A request stands for the holder and the command that it was made for. -/
theorem leaveReq_holder {cls : LClass} {dur : Nat} {cmd : Option Nat} (hq : leaveReq s h cls dur cmd = some r) :
    r.h = h ∧ r.cmd = cmd := by
  cases h with
  | drive d =>
    simp only [leaveReq] at hq
    split_ifs at hq <;> cases hq <;> exact ⟨rfl, rfl⟩
  | _ => cases hq; exact ⟨rfl, rfl⟩

theorem mem_reqInsert (r : LReq) (l : List LReq) : r ∈ reqInsert r l := by
  induction l with
  | nil => exact List.mem_singleton.mpr rfl
  | cons a l ih =>
    unfold reqInsert
    split
    · exact List.mem_cons_self
    · exact List.mem_cons_of_mem _ ih

/-- A refusal is counted and answered at the next boundary (R95). -/
theorem leaveRefuse_lve (s : State) (r : LReq) (why : String) : (leaveRefuse s r why).lve =
    { s.lve with nRefused := satInc 65535 s.lve.nRefused
                 answers := s.lve.answers ++ [⟨r.h, .refused why, s.epoch + 1, r.cmd⟩] } := by
  unfold leaveRefuse leaveAnswer
  dsimp only
  split <;> simp

theorem leaveArrive_of_overCost (hc : overCost s r = true) : leaveArrive s r = leaveRefuse s r "COST" := if_pos hc

/-- A request of a holder that has none queued joins a queue that is not full (R93). -/
theorem leaveArrive_joins (hc : overCost s r = false) (hf : s.lve.queue.find? (·.h = r.h) = none) (hl : s.lve.queue.length < 64) :
    leaveArrive s r = { s with lve := { s.lve with
      queue := reqInsert { r with serial := s.lve.serial, arrival := s.now } s.lve.queue, serial := s.lve.serial + 1 } } := by
  unfold leaveArrive
  rw [if_neg (by simp [hc]), hf]
  exact if_neg (by omega)

/-- A request of a holder that has one queued replaces it in its place (R97). -/
theorem leaveArrive_replaces {q : LReq} (hc : overCost s r = false) (hf : s.lve.queue.find? (·.h = r.h) = some q) :
    leaveArrive s r = { s with lve := { s.lve with
      queue := reqInsert { r with cls := higherClass q.cls r.cls, serial := q.serial, arrival := q.arrival, waited := q.waited,
                                  defers := q.defers, why := q.why } (s.lve.queue.filter (·.h != r.h)) } } := by
  unfold leaveArrive
  rw [if_neg (by simp [hc]), hf]

theorem exec_leaveRequest {cls : LClass} {dur : Nat} (hr : coreRuns s = true) (hq : leaveReq s h cls dur none = some r) :
    exec (.leaveRequest h cls dur) s = .next (leaveArrive s r) := by
  show execLeaveRequest h cls dur s = _
  simp only [execLeaveRequest, hr, hq, Bool.not_true, Bool.false_eq_true, if_false]

/-- Nothing is requested for a start that is not heavy (R87). -/
theorem exec_leaveRequest_of_none {cls : LClass} {dur : Nat} (hq : leaveReq s h cls dur none = none) :
    exec (.leaveRequest h cls dur) s = .next s := by
  show execLeaveRequest h cls dur s = _
  simp only [execLeaveRequest, hq, ite_self]

/-! ### Timeouts and withdrawals (R96, R97) -/

/-- A request that times out leaves the queue, is counted, and is answered at the next boundary. -/
theorem leaveTimesOut_lve (s : State) (r : LReq) : (leaveTimesOut s r).lve =
    { s.lve with queue := s.lve.queue.filter (·.h != r.h), nTimeout := satInc 65535 s.lve.nTimeout
                 answers := s.lve.answers ++ [⟨r.h, .timeout, s.epoch + 1, r.cmd⟩] } := by
  unfold leaveTimesOut leaveAnswer
  dsimp only
  split <;> simp

theorem exec_leaveTimeout {n : Nat} (hf : s.lve.queue.find? (·.h = h) = some r) (hw : waitLimit s r.cls = some n)
    (hn : n ≤ r.waited) : exec (.leaveTimeout h) s = .next (leaveTimesOut s r) := by
  show execLeaveTimeout h s = _
  simp only [execLeaveTimeout, hf, hw, if_pos hn]

/-- A grant given back changes the grants of Lamplighter alone. -/
theorem grantBack_lve (s : State) (h : Holder) : (grantBack s h).lve = { s.lve with grants := (grantBack s h).lve.grants } := by
  unfold grantBack
  split
  · split
    · rfl
    · simp [grantMark]
  · rfl

/-- A withdrawal leaves neither a queued nor a posted request of the holder for the commands that it names. -/
theorem withdrawOf_requests (s : State) (h : Holder) (p : Option Nat → Bool) :
    (withdrawOf s h p).lve.queue = s.lve.queue.filter (fun r => !(r.h = h && p r.cmd)) ∧
      (withdrawOf s h p).lve.posted = s.lve.posted.filter (fun x => !(x.2.h = h && p x.2.cmd)) := by
  have hlog : ∀ l : List LReq, (l.foldl (fun s r => leaveLog s h r.op 7) s).lve = s.lve :=
    fun l => foldl_keeps State.lve (fun s r => leaveLog_lve s h r.op 7) l s
  unfold withdrawOf
  dsimp only
  split
  · rw [grantBack_lve]
    simp [hlog]
  · simp [hlog]

/-- A holder that withdraws has no request left, queued or posted. -/
theorem leaveWithdraw_requests (s : State) (h : Holder) :
    (∀ q ∈ (leaveWithdraw s h).lve.queue, q.h ≠ h) ∧ ∀ p ∈ (leaveWithdraw s h).lve.posted, p.2.h ≠ h := by
  obtain ⟨hqueue, hposted⟩ := withdrawOf_requests s h fun _ => true
  unfold leaveWithdraw
  rw [hqueue, hposted]
  exact ⟨fun q hq => by simpa using (List.mem_filter.mp hq).2, fun p hp => by simpa using (List.mem_filter.mp hp).2⟩

/-! ### The ends of grants (R100, R101) -/

theorem grantMark_returned (s : State) (h : Holder) : ∀ x ∈ (grantMark s h).lve.grants, x.h = h → x.returned = true := by
  intro x hx hh
  obtain ⟨g, -, rfl⟩ := List.mem_map.mp hx
  by_cases hg : g.h = h
  · simp [hg]
  · simp [hg] at hh

theorem grantMark_length (s : State) (h : Holder) : (grantMark s h).lve.grants.length = s.lve.grants.length := List.length_map _

/-- A grant that its holder has and has not returned is journaled and marked. -/
theorem grantBack_marks {g : LGrant} (hf : s.lve.grants.find? (·.h = h) = some g) (ho : g.orphan = false)
    (hr : g.returned = false) : grantBack s h = grantMark (leaveLog s h g.op 5) h := by
  unfold grantBack
  rw [hf]
  exact if_neg (by simp [ho, hr])

theorem exec_grantExpiry {g : LGrant} (hf : s.lve.grants.find? (·.h = h) = some g)
    (he : grantEnd g ≤ epochTick s (s.epoch + 1)) : exec (.grantExpiry h) s = .next (grantMark s h) := by
  show execGrantExpiry h s = _
  simp only [execGrantExpiry, hf, if_pos he]

/-- A drive's grant is its inrush window and is never returned (R101). -/
theorem exec_grantReturn_drive (hd : isDriveHolder h = true) : exec (.grantReturn h) s = .next s :=
  congrArg Host.Outcome.next (if_pos hd)

theorem exec_grantReturn (hd : isDriveHolder h = false) : exec (.grantReturn h) s = .next (grantBack s h) :=
  congrArg Host.Outcome.next (if_neg (by simp [hd]))

/-! ### The stagger (R98) -/

/-- The stagger of each class is taken as elapsed where it has by the boundary that ends the epoch. -/
theorem exec_staggerElapsed {a : Nat} (hl : s.lve.lastInrush = some a) : exec .staggerElapsed s = .next { s with lve := { s.lve with
      stagDone := s.lve.stagDone || a + cfgTicks s leaveObj "STAGGER" ≤ epochTick s (s.epoch + 1)
      stagUDone := s.lve.stagUDone || a + cfgTicks s leaveObj "STAGGERU" ≤ epochTick s (s.epoch + 1) } } := by
  show execStaggerElapsed s = _
  simp only [execStaggerElapsed, hl]

/-! ### Clear registers -/

/-- Where the default is related to itself and every entry to its image, each entry of a table is related to that of the image. -/
theorem tget_map_rel {α : Type} {d : α} {f : α → α} {R : α → α → Prop} (hd : R d d) (hf : ∀ a, R a (f a)) (t : Tbl α) (n : Nat) :
    R (tget d t n) (tget d (t.map fun p => (p.1, f p.2)) n) := by
  induction t with
  | nil => exact hd
  | cons p t ih =>
    simp only [List.map_cons, tget]
    split
    · exact hf _
    · exact ih

/-- The counts of a cell are cleared, its discards since reset stand, and nothing else of it changes. -/
def CellCleared (c c' : Cell) : Prop :=
  c' = { c with past := c'.past, dUnset := 0, dRange := 0, dSat := 0, dOver := 0, dLost := 0, dMarked := 0 } ∧
    cellDiscards c' = cellDiscards c

theorem cellCleared_past (c : Cell) : CellCleared c
    { c with past := cellDiscards c, dUnset := 0, dRange := 0, dSat := 0, dOver := 0, dLost := 0, dMarked := 0 } :=
  ⟨rfl, sinceReset_cleared 0xFFFFFFFF [c.dUnset, c.dRange, c.dSat, c.dOver, c.dLost, c.dMarked] c.past⟩

/-- The counts of a counter are cleared, its events since reset stand, and nothing else of it changes. -/
def CtCleared (c c' : CtSt) : Prop :=
  c' = { c with past := c'.past, matches_ := 0, ovfs := 0, capLost := 0, overwr := 0 } ∧ ctEvents c' = ctEvents c

theorem ctCleared_past (c : CtSt) :
    CtCleared c { c with past := ctEvents c, matches_ := 0, ovfs := 0, capLost := 0, overwr := 0 } :=
  ⟨rfl, sinceReset_cleared 65535 [c.matches_, c.ovfs, c.capLost, c.overwr] c.past⟩

/-- Clearing the counts of Lamplighter leaves its counts since reset. -/
theorem leaveCounts_cleared (l : Lve) :
    leaveCounts { l with past := leaveCounts l, nGrant := 0, nRefused := 0, nTimeout := 0, nCalm := 0, nOver := 0 } = leaveCounts l :=
  sinceReset_cleared 0xFFFFFFFF [l.nGrant, l.nRefused, l.nTimeout, l.nCalm] l.past

/-- A register that acts where bit 0 is written as 1 does so. -/
theorem next_of_bit_set {b : Bool} (hb : b = true) {t : State} :
    (Host.Outcome.next (if b then t else s) : Host.Outcome State Fault Refusal) = .next t := congrArg _ (if_pos hb)

/-- A register that acts where bit 0 is written as 1 does nothing where it is written as 0. -/
theorem next_of_bit_unset {b : Bool} (hb : b = false) {t : State} :
    (Host.Outcome.next (if b then t else s) : Host.Outcome State Fault Refusal) = .next s :=
  congrArg _ (if_neg (Bool.eq_false_iff.mp hb))

end Sys2Proof.Laws

namespace Sys2Proof.Proofs
open Sys2Proof Sys2Proof.Machine Sys2Proof.Laws

/-- Settles O23, row by row. -/
theorem leaveRowsComplete : Obligations.LeaveRowsComplete := by
  intro s h
  refine ⟨fun cls dur r hr hq hc hf hl => ?_, fun cls dur r hr hq hc => ?_, fun cls dur hq => exec_leaveRequest_of_none hq,
    fun r n hf hw hn => ?_, fun g hf he => ?_, fun cls dur r q hr hq hc hf => ?_, fun g hd hf ho hg => ?_,
    exec_grantReturn_drive, ⟨_, rfl, leaveWithdraw_requests s h⟩, fun a hl => ?_⟩
  · obtain ⟨rfl, -⟩ := leaveReq_holder hq
    exact ⟨_, (exec_leaveRequest hr hq).trans (congrArg _ (leaveArrive_joins hc hf hl)), ⟨_, mem_reqInsert _ _, rfl, rfl⟩, rfl, rfl⟩
  · obtain ⟨rfl, hcmd⟩ := leaveReq_holder hq
    refine ⟨_, exec_leaveRequest hr hq, ?_⟩
    rw [leaveArrive_of_overCost hc, leaveRefuse_lve, hcmd]
    exact ⟨rfl, rfl, rfl⟩
  · obtain rfl : r.h = h := by simpa using List.find?_some hf
    refine ⟨_, exec_leaveTimeout hf hw hn, ?_⟩
    rw [leaveTimesOut_lve]
    exact ⟨rfl, rfl, rfl⟩
  · exact ⟨_, exec_grantExpiry hf he, rfl, grantMark_returned s h, grantMark_length s h⟩
  · obtain ⟨rfl, -⟩ := leaveReq_holder hq
    exact ⟨_, _, (exec_leaveRequest hr hq).trans (congrArg _ (leaveArrive_replaces hc hf)), mem_reqInsert _ _,
      rfl, rfl, rfl, rfl, rfl, rfl, rfl⟩
  · refine ⟨_, exec_grantReturn hd, ?_⟩
    rw [grantBack_marks hf ho hg]
    exact grantMark_returned _ h
  · refine ⟨_, exec_staggerElapsed hl, rfl, fun hb => ?_, fun hb => ?_⟩ <;> simp [hb]

/-- Settles O9: each register with the table or the counts that it clears, and none of them where bit 0 is 0. -/
theorem clearRegistersClearTheirCounts : Obligations.ClearRegistersClearTheirCounts := by
  refine fun v s => ⟨fun hv => ⟨?leave, ?link, ?ic, ?fc, ?probe, ?chan, ?churn, ?cnt, ?mot, ?line, ?thm, ?bus, ?time, ?lan, ?jrn,
    ?tst⟩, fun hv i hi => ?zero⟩
  case leave => exact ⟨_, next_of_bit_set hv, rfl, leaveCounts_cleared s.lve, rfl⟩
  case churn => exact ⟨_, next_of_bit_set hv, rfl, tget_map_rel (R := CellCleared) ⟨rfl, rfl⟩ cellCleared_past s.chn.cells⟩
  case cnt => exact ⟨_, next_of_bit_set hv, rfl, tget_map_rel (R := CtCleared) ⟨rfl, rfl⟩ ctCleared_past s.cnt.cts⟩
  case chan => exact ⟨_, next_of_bit_set hv, rfl, tget_map (α := GrpSt) {} (fun g => { g with trips := 0 }) rfl s.cnv.grps⟩
  case mot => exact ⟨_, next_of_bit_set hv, rfl, tget_map (α := Port) {} (fun p => { p with trips := 0 }) rfl s.drv.ports⟩
  case line => exact ⟨_, next_of_bit_set hv, rfl, tget_map (α := Feed) {} (fun f => { f with trips := 0 }) rfl s.drv.feeds⟩
  case thm => exact ⟨_, next_of_bit_set hv, rfl, tget_map (α := TherM) {} (fun m => { m with shuts := 0 }) rfl s.thm.models⟩
  case bus | lan => exact ⟨_, next_of_bit_set hv, rfl, rfl⟩
  case jrn => exact ⟨_, next_of_bit_set hv, rfl, rfl, Nat.zero_add _, Nat.zero_add _⟩
  case link | ic | fc | probe | time | tst => exact next_of_bit_set hv
  case zero => fin_cases hi <;> exact next_of_bit_unset hv

end Sys2Proof.Proofs
end

section
/-!
What every step keeps of the numbers of commands, and what a refusal sends and leaves alone (R140 to R142).
-/
namespace Sys2Proof.Laws
open Sys2Proof Sys2Proof.Machine
variable {s t : State}

/-! ### The numbers of commands -/

/-- Every command keeps the numbers of the accepted commands below the next. -/
theorem exec_idsOk {c : Instr} (hs : s.idsOk) (h : exec c s = .next t) : t.idsOk := by
  by_cases hb : c = .epochBoundary
  · subst hb
    obtain rfl | k := keeps_execEpochBoundary h
    · exact hs
    · exact k.ids hs
  by_cases hr : c = .coreResetRelease
  · subst hr
    obtain k | ⟨u, k, l⟩ := keeps_execCoreResetRelease h
    · exact k.ids hs
    · exact l.ids (k.ids hs)
  by_cases hz : ∃ raw, c = .zeroCrossing raw
  · obtain ⟨raw, rfl⟩ := hz
    exact (keeps_execZeroCrossing h).ids hs
  · exact (keeps_exec hb hr (not_exists.mp hz) h).ids hs

theorem idleTick_idsOk (h : s.idsOk) : (idleTick s).idsOk :=
  keeps_idleTick.elim (fun k => k.ids h) fun k => k.ids h

theorem step_idsOk (hs : s.idsOk) (h : step s = .next t) : t.idsOk := by
  obtain ⟨-, rfl⟩ | ⟨c, l, -, hc⟩ := step_cases h
  · exact idleTick_idsOk hs
  · exact exec_idsOk (s := { s with pending := l }) hs hc

/-! ### A refusal -/

theorem outInsert_length (a : OutLine) (l : List OutLine) : (outInsert a l).length = l.length + 1 := by
  induction l with
  | nil => rfl
  | cons b l ih =>
    unfold outInsert
    split
    · rfl
    · rw [List.length_cons, ih, List.length_cons]

/-- A session that can send has one line more. -/
theorem sendLine_out_length {k : Sess} (hi : (getSes s k).isOpen = true) (hm : mute s k = false) (hk : k ≠ .mac) (tag : Option Nat)
    (framed : Bool) (cls : Nat) (body : String) :
    (getSes (sendLine s k tag framed cls body) k).out.length = (getSes s k).out.length + 1 := by
  unfold sendLine sendOut
  dsimp only
  rw [if_neg (by simp [hi, hm, hk]), getSes_setSes_self]
  exact outInsert_length _ _

theorem out_of_unheard (h : unheard t = unheard s) (k : Sess) : (getSes t k).out = (getSes s k).out := by
  have hses : unnoticed (getSes t k) = unnoticed (getSes s k) := by rw [← getSes_unheard, h, getSes_unheard]
  exact (congrArg Session.out hses :)

/-- After its line a refusal on a port writes an audit record at most. -/
theorem refuse_keeps {γ : Type} {g : State → γ} (hg : ∀ s kind ses role tag result reach text, g (auditAdd s kind ses role tag result reach text) = g s)
    (s : State) {q : Hdr} (hq : q.ses ≠ .mac) (verb e body : String) :
    g (refuse s q verb e body) = g (sendLine s q.ses q.tag q.framed 0 ("FAIL " ++ e)) := by
  unfold refuse
  dsimp only
  rw [if_neg (by simp [hq])]
  split
  · exact hg _ _ _ _ _ _ _ _
  · rfl

theorem unheard_refuse (s : State) {q : Hdr} (hq : q.ses ≠ .mac) (verb e body : String) :
    unheard (refuse s q verb e body) = unheard (sendLine s q.ses q.tag q.framed 0 ("FAIL " ++ e)) :=
  refuse_keeps unheard_auditAdd s hq verb e body

/-- A refusal changes the sessions, the secure core and the log of ALARM notices alone. -/
theorem refuse_frame (s : State) {q : Hdr} (hq : q.ses ≠ .mac) (verb e body : String) : refuse s q verb e body =
    { s with vil := (refuse s q verb e body).vil, sec := (refuse s q verb e body).sec, tst := (refuse s q verb e body).tst } := by
  have hline := untold_sendLine s q.ses q.tag q.framed 0 ("FAIL " ++ e)
  have hpwr : (refuse s q verb e body).pwr = s.pwr :=
    (refuse_keeps (g := State.pwr) (auditAdd_keeps notify_pwr fun _ _ => rfl) s hq verb e body).trans (congrArg State.pwr hline :)
  have hrest : unaccepted (refuse s q verb e body) = unaccepted s :=
    (refuse_keeps unaccepted_auditAdd s hq verb e body).trans (unaccepted_of_untold hline)
  generalize refuse s q verb e body = t at hpwr hrest ⊢
  cases t
  simp only [unaccepted, State.mk.injEq] at hpwr hrest ⊢
  tauto

/-- A command that fails a check is refused with that check's code. -/
theorem submit_of_fails {q : Hdr} {c : CmdSpec} {e : String} (hs : served s q.ses = true) (he : firstFail s q c = some e)
    (f : State → Nat → State × Work) : submit s q c f = refuse s q c.verb e (saidBody s q c) := by
  unfold submit
  rw [if_neg (by simp [hs]), he]

end Sys2Proof.Laws

namespace Sys2Proof.Proofs
open Sys2Proof Sys2Proof.Machine Sys2Proof.Laws

/-- Settles O55: every command and the idle tick keep the numbers below the next. -/
theorem everyStepKeepsTheNumberingOfCommands : Obligations.EveryStepKeepsTheNumberingOfCommands :=
  fun _ _ => step_idsOk

/-- Settles O26, from what a refusal sends and leaves alone. -/
theorem refusedCommandsChangeNothing : Obligations.RefusedCommandsChangeNothing := by
  intro s q c f e ⟨hserved, _⟩ hq hmute hfail
  have hi := served_isOpen hserved
  have hu := unheard_refuse s hq c.verb e (saidBody s q c)
  have hsent : s.sends (sendLine s q.ses q.tag q.framed 0 ("FAIL " ++ e)) q 0 ("FAIL " ++ e) := sends_sendLine hi rfl _ _ _
  refine ⟨_, submit_of_fails hserved hfail f, ?_, (linesKept_of_unheard hu).sends hsent, (outs_of_unheard hu).trans (sendLine_outs _ _ _ _ _ _), ?_⟩
  · rw [out_of_unheard hu, sendLine_out_length hi hmute hq]
  · rw [refuse_frame s hq]
    and_intros <;> rfl

/-- Settles O13: the row writes the level and nothing else. -/
theorem ctsTakesItsLevel : Obligations.CtsTakesItsLevel := fun _ _ => rfl

end Sys2Proof.Proofs
end

section
/-!
What the rows of the UARTs, of a session's line and of its notices do and leave alone (R117 to R124, R133, R142, R148, R151, R711).
-/
namespace Sys2Proof.Laws
open Sys2Proof Sys2Proof.Machine
variable {s t : State} {k : Sess}

/-! ### What lies beside a session's line -/

theorem untold_modSes (s : State) (k : Sess) (f : Session → Session) : untold (modSes s k f) = untold s := untold_setSes _ _ _

@[simp] theorem getSes_modSes_self (s : State) (k : Sess) (f : Session → Session) : getSes (modSes s k f) k = f (getSes s k) :=
  getSes_setSes_self _ _ _

theorem untaggedOut_congr (h : t.vil.outs = s.vil.outs) (k : Sess) : untaggedOut t k = untaggedOut s k := by
  unfold untaggedOut outsOf; rw [h]

/-- The flow of L0RTS writes its own level alone. -/
theorem rtsFollows_frame (s : State) : rtsFollows s = { s with vil := { s.vil with rts := (rtsFollows s).vil.rts } } := by
  unfold rtsFollows
  split_ifs <;> rfl

theorem untold_rtsFollows (s : State) : untold (rtsFollows s) = untold s := by rw [rtsFollows_frame]; rfl
@[simp] theorem rtsFollows_getSes (s : State) (k : Sess) : getSes (rtsFollows s) k = getSes s k := by rw [rtsFollows_frame]; rfl
@[simp] theorem rtsFollows_linkHold (s : State) (k : Sess) : linkHold (rtsFollows s) k = linkHold s k := by rw [rtsFollows_frame]; rfl
@[simp] theorem rtsFollows_outs (s : State) : (rtsFollows s).vil.outs = s.vil.outs := by rw [rtsFollows_frame]
@[simp] theorem rtsFollows_errPartial (s : State) : (rtsFollows s).vil.errPartial = s.vil.errPartial := by rw [rtsFollows_frame]

/-- Only QUIET is left by a byte. -/
theorem wakeBy_of_awake (h : s.ana.mode ≠ .quiet) (k : Sess) : wakeBy s k = s := if_neg h

theorem wakeBy_of_quiet (h : s.ana.mode = .quiet) (k : Sess) :
    wakeBy s k = { s with pwr := { s.pwr with waking := some (if isBus k then .can else .link) } } := if_pos h

/-! ### A byte of a UART (R119, R157, R158, R711) -/

/-- The state with a framing error or a break counted. -/
def byteCounted (s : State) (k : Sess) (code : BitVec 9) : State :=
  if code = 0x100 || code = 0x101 then countFerr s k else s

theorem byteCounted_frame (s : State) (k : Sess) (code : BitVec 9) : byteCounted s k code =
    { s with vil := { s.vil with ferr0 := (byteCounted s k code).vil.ferr0, ferr1 := (byteCounted s k code).vil.ferr1 } } := by
  unfold byteCounted countFerr
  split_ifs <;> rfl

/-- A byte that is heard in QUIET is held by the LINK island. -/
theorem uartIn_quiet {p : Fin 2} {code : BitVec 9} (hs : served s (portOf p) = true) (hu : Machine.unheard s (portOf p) = false)
    (hm : s.ana.mode = .quiet) :
    uartIn s p code = rtsFollows (holdByte (byteCounted (wakeBy s (portOf p)) (portOf p) code) (portOf p) code) := by
  have hu' : Machine.unheard (wakeBy s (portOf p)) (portOf p) = false := by rw [wakeBy_of_quiet hm]; exact hu
  have hm' : (byteCounted (wakeBy s (portOf p)) (portOf p) code).ana.mode = .quiet := by
    rw [byteCounted_frame, wakeBy_of_quiet hm]; exact hm
  unfold uartIn
  simp only [hs, hu']
  exact if_pos hm'

/-- A byte that is heard in another mode comes at its crossing. -/
theorem uartIn_awake {p : Fin 2} {code : BitVec 9} (hs : served s (portOf p) = true) (hu : Machine.unheard s (portOf p) = false)
    (hm : s.ana.mode ≠ .quiet) :
    uartIn s p code = arrive (byteCounted s (portOf p) code) (194 + p.val) (code.setWidth 16) (some (mono (byteCounted s (portOf p) code))) .none := by
  have hm' : (byteCounted s (portOf p) code).ana.mode ≠ .quiet := by rw [byteCounted_frame]; exact hm
  unfold uartIn
  simp only [hs, wakeBy_of_awake hm, hu]
  exact if_neg hm'

/-- A port without a rate hears nothing but a break (R120). -/
theorem uartIn_deaf {p : Fin 2} {code : BitVec 9} (hu : Machine.unheard s (portOf p) = true) (hc : code ≠ 0x101)
    (hm : s.ana.mode ≠ .quiet) : uartIn s p code = s := by
  have hdeaf : (!Machine.unheard s (portOf p) || decide (code = 0x101)) = false := by rw [hu, decide_eq_false hc]; rfl
  unfold uartIn
  simp only [wakeBy_of_awake hm, hdeaf]
  exact ite_self s

theorem untold_setHold (s : State) (k : Sess) (l : List (BitVec 9)) : untold (setHold s k l) = untold s := by cases k <;> rfl

theorem linkHold_setHold (s : State) (p : Fin 2) (l : List (BitVec 9)) : linkHold (setHold s (portOf p) l) (portOf p) = l := by
  fin_cases p <;> rfl

theorem untold_holdByte (s : State) (k : Sess) (code : BitVec 9) : untold (holdByte s k code) = untold s := by
  have hcount : untold (countOverrun s k) = untold s := untold_modSes s k _
  unfold holdByte
  dsimp only
  split
  · exact untold_setHold _ _ _
  · exact (untold_setHold _ _ _).trans hcount

theorem linkHold_holdByte {p : Fin 2} (h : (linkHold s (portOf p)).length < 1024) (code : BitVec 9) :
    linkHold (holdByte s (portOf p) code) (portOf p) = linkHold s (portOf p) ++ [code] := by
  unfold holdByte
  dsimp only
  rw [if_pos h, linkHold_setHold]

/-- UART_BYTE in QUIET: the byte wakes the device and is held. -/
theorem exec_uartByte_quiet {p : Fin 2} {code : BitVec 9} (hs : served s (portOf p) = true)
    (hu : Machine.unheard s (portOf p) = false) (hm : s.ana.mode = .quiet) :
    ∃ t, exec (.uartByte p code) s = .next t ∧ t.pwr.waking = some .link ∧ t.ana = s.ana ∧
      ((linkHold s (portOf p)).length < 1024 → linkHold t (portOf p) = linkHold s (portOf p) ++ [code]) := by
  have hport : isBus (portOf p) = false := by fin_cases p <;> rfl
  have hwake : byteCounted (wakeBy s (portOf p)) (portOf p) code = { s with
      pwr := { s.pwr with waking := some .link }, vil := (byteCounted (wakeBy s (portOf p)) (portOf p) code).vil } := by
    rw [byteCounted_frame, wakeBy_of_quiet hm, hport]; rfl
  have hhold : linkHold (byteCounted (wakeBy s (portOf p)) (portOf p) code) (portOf p) = linkHold s (portOf p) := by
    rw [byteCounted_frame, wakeBy_of_quiet hm]; rfl
  generalize hw : byteCounted (wakeBy s (portOf p)) (portOf p) code = w at hwake hhold
  have hkept : untold (rtsFollows (holdByte w (portOf p) code)) = untold w := (untold_rtsFollows _).trans (untold_holdByte _ _ _)
  have hpwr : (rtsFollows (holdByte w (portOf p) code)).pwr = w.pwr := (congrArg State.pwr hkept :)
  have hana : (rtsFollows (holdByte w (portOf p) code)).ana = w.ana := (congrArg State.ana hkept :)
  refine ⟨_, congrArg Host.Outcome.next (uartIn_quiet hs hu hm), ?_, ?_, fun hl => ?_⟩ <;> rw [hw]
  · rw [hpwr, hwake]
  · rw [hana, hwake]
  · rw [rtsFollows_linkHold, linkHold_holdByte (hhold.symm ▸ hl), hhold]

/-- UART_BYTE in another mode: a record of the byte stands in the buffer of WORK0 (R157). -/
theorem exec_uartByte_awake {p : Fin 2} {code : BitVec 9} (hs : served s (portOf p) = true)
    (hu : Machine.unheard s (portOf p) = false) (hm : s.ana.mode ≠ .quiet) (hb : bufFull s (194 + p.val) = false)
    (hw : waitsBehind s (194 + p.val) = false) :
    ∃ t r, exec (.uartByte p code) s = .next t ∧ r ∈ t.ana.bufW0 ∧ r.x = 194 + p.val ∧ r.stamp = mono s ∧ r.ptick = some (mono s) := by
  have hcounted := byteCounted_frame s (portOf p) code
  have hruns : coreRuns s = true := by simp only [served, Bool.and_eq_true] at hs; tauto
  have hguard : guardOn s = true := by simp [guardOn, hruns, hm]
  have hused : xUsed (194 + p.val) = true ∧ (xDest (194 + p.val)).testBit 1 = true := by fin_cases p <;> decide
  have e := uartIn_awake (code := code) hs hu hm
  generalize byteCounted s (portOf p) code = w at hcounted e
  have hmono : mono w = mono s := by rw [hcounted]; rfl
  rw [arrive_of_room hused.1 (by rw [hcounted]; exact hguard) (by rw [hcounted]; exact hb) (by rw [hcounted]; exact hw)] at e
  obtain ⟨r, hx, hstamp, htick, -, -, -, -, -, hbuf, -⟩ :=
    passes_record (s := w) (x := 194 + p.val) (v := code.setWidth 16) (p := some (mono w)) (pay := .none) rfl
  exact ⟨_, r, congrArg Host.Outcome.next e, hbuf (hx ▸ hused.2), hx, hstamp.trans hmono, htick.trans (congrArg some hmono)⟩

/-! ### Lines (R121, R124, R132, R142) -/

/-- COMMAND_LINE: what a session has received is read. -/
theorem exec_commandLine_reads (hk : k ≠ .mac) (hs : served s k = true) (hm : s.ana.mode ≠ .quiet) :
    exec (.commandLine k none) s = .next (rtsFollows (sessionReads s k)) := by
  refine congrArg Host.Outcome.next ((if_neg (by simp [hk, hs])).trans ?_)
  exact if_neg hm

/-- COMMAND_LINE with a text on a UART: its bytes come one after the other. -/
theorem exec_commandLine_link {p : Fin 2} {text : String} (hs : served s (portOf p) = true) :
    exec (.commandLine (portOf p) (some text)) s =
      .next ((text.toList.map codeFor ++ [13]).foldl (fun u c => uartIn u p c) s) := by
  have hport : ∀ p : Fin 2, portOf p ≠ .mac ∧ isLink (portOf p) = true ∧ (if portOf p = .link0 then 0 else 1) = p := by decide
  obtain ⟨hmac, hlink, hp⟩ := hport p
  refine congrArg Host.Outcome.next ((if_neg (by simp [hmac, hs])).trans ((if_pos hlink).trans ?_))
  rw [hp]

/-- A code that finds room joins the codes that wait. -/
theorem rxIn_of_room (hu : untaggedOut s k = false) (hl : (getSes s k).waiting.length < 1024) (code : BitVec 9) (n : Nat) :
    rxIn s k code n = modSes s k fun x => { x with waiting := (getSes s k).waiting ++ [(code, n)] } := by
  unfold rxIn rxAdd
  rw [if_neg (by simp [hu])]
  exact if_pos hl

/-- Codes that find room join the codes that wait, in their order. -/
theorem foldl_rxIn_waiting (codes : List (BitVec 9)) (hu : untaggedOut s k = false)
    (hl : (getSes s k).waiting.length + codes.length ≤ 1024) :
    (getSes (codes.foldl (fun u c => rxIn u k c u.now) s) k).waiting = (getSes s k).waiting ++ codes.map (·, s.now) := by
  induction codes generalizing s with
  | nil => simp
  | cons c codes ih =>
    rw [List.length_cons] at hl
    have e := rxIn_of_room hu (by omega) c s.now
    have hses : (getSes (rxIn s k c s.now) k).waiting = (getSes s k).waiting ++ [(c, s.now)] := by rw [e, getSes_modSes_self]
    have hnow : (rxIn s k c s.now).now = s.now := by rw [e]; exact setSes_now _ _ _
    have hfree : untaggedOut (rxIn s k c s.now) k = false := by rw [e, untaggedOut_congr (modSes_outs _ _ _), hu]
    have hroom : (getSes (rxIn s k c s.now) k).waiting.length + codes.length ≤ 1024 := by
      rw [hses, List.length_append, List.length_singleton]; omega
    rw [List.foldl_cons, ih hfree hroom, hses, hnow, List.map_cons, List.append_assoc, List.singleton_append]

/-- COMMAND_LINE with a text on the bus: its codes and the CR that ends it wait to be read. -/
theorem exec_commandLine_bus {text : String} (hk : isBus k = true) (hs : served s k = true) (hm : s.ana.mode ≠ .quiet)
    (hu : untaggedOut s k = false) (hl : (getSes s k).waiting.length + text.toList.length < 1024) :
    ∃ t, exec (.commandLine k (some text)) s = .next t ∧
      (getSes t k).waiting = (getSes s k).waiting ++ (text.toList.map codeFor ++ [13]).map (·, s.now) := by
  have hport : k ≠ .mac ∧ isLink k = false := by revert hk; cases k <;> decide
  obtain ⟨hmac, hlink⟩ := hport
  have e : exec (.commandLine k (some text)) s =
      .next ((text.toList.map codeFor ++ [13]).foldl (fun u c => rxIn u k c u.now) s) :=
    congrArg Host.Outcome.next ((if_neg (by simp [hmac, hs])).trans ((if_neg (by simp [hlink])).trans (if_neg hm)))
  refine ⟨_, e, foldl_rxIn_waiting _ hu ?_⟩
  rw [List.length_append, List.length_map, List.length_singleton]
  omega

/-! ### A line that stands too long (R124, R137) -/

/-- What PARTIAL_TIMEOUT does with the text of the line: a typed line in framed mode is only counted, any other is refused. -/
def partialEnds (s : State) (k : Sess) (l : List Char) : State :=
  if typedDropped s k l then countTyped s k
  else { refuseHeld s k l "PARTIAL" with vil := { (refuseHeld s k l "PARTIAL").vil with errPartial := satInc 255 s.vil.errPartial } }

theorem exec_partialTimeout_of_due {a : Nat} {l : List Char} (hm : s.ana.mode ≠ .quiet) (hr : coreRuns s = true)
    (hp : partialLine s k = some (a, l)) (hc : comesAt s (a + partialLimit l) = some t) :
    exec (.partialTimeout k) s = .next (rtsFollows (partialDrop (partialEnds t k l) k)) := by
  have hdue : comesAt? s (partialDue s k) = some t := by rw [partialDue, hp]; exact hc
  have hline : partialLine t k = some (a, l) := by rw [comesAt_now hc]; exact hp
  refine congrArg Host.Outcome.next ((if_neg (by simp [hm, hr])).trans ((atTick_some hdue).trans ?_))
  rw [hline]
  rfl

theorem modSes_errPartial (s : State) (k : Sess) (f : Session → Session) : (modSes s k f).vil.errPartial = s.vil.errPartial := by
  cases k <;> rfl

/-- The discard of a partial line counts nothing. -/
theorem partialDrop_counts (s : State) (k : Sess) :
    (getSes (partialDrop s k) k).lostTyped = (getSes s k).lostTyped ∧ (partialDrop s k).vil.errPartial = s.vil.errPartial := by
  refine ⟨?_, modSes_errPartial _ _ _⟩
  unfold partialDrop
  dsimp only
  rw [getSes_modSes_self]
  split <;> rfl

/-- PARTIAL_TIMEOUT counts the line, with the typed lines discarded or with the partial ones. -/
theorem exec_partialTimeout_counts {a : Nat} {l : List Char} (hm : s.ana.mode ≠ .quiet) (hr : coreRuns s = true)
    (hp : partialLine s k = some (a, l)) (hc : comesAt s (a + partialLimit l) = some t) :
    ∃ u, exec (.partialTimeout k) s = .next u ∧
      (typedDropped s k l = true → (getSes u k).lostTyped = (getSes s k).lostTyped + 1 ∧ u.vil.errPartial = s.vil.errPartial) ∧
      (typedDropped s k l = false → u.vil.errPartial = satInc 255 s.vil.errPartial) := by
  have htyped : typedDropped t k l = typedDropped s k l := by rw [comesAt_now hc]; rfl
  have hses : getSes t k = getSes s k := by rw [comesAt_now hc]; rfl
  have hvil : t.vil = s.vil := by rw [comesAt_now hc]
  obtain ⟨hlost, herr⟩ := partialDrop_counts (partialEnds t k l) k
  refine ⟨_, exec_partialTimeout_of_due hm hr hp hc, fun h => ?_, fun h => ?_⟩
  · have hends : partialEnds t k l = countTyped t k := if_pos (htyped.trans h)
    rw [rtsFollows_getSes, rtsFollows_errPartial, hlost, herr, hends, countTyped, getSes_modSes_self, modSes_errPartial, hses, hvil]
    exact ⟨rfl, rfl⟩
  · have hends : (partialEnds t k l).vil.errPartial = satInc 255 t.vil.errPartial := by
      unfold partialEnds
      rw [if_neg (by simp [htyped, h])]
    rw [rtsFollows_errPartial, herr, hends, hvil]

/-! ### Ctrl-C (R132, R133) -/

/-- The echo of characters touches what is to be echoed and nothing else. -/
theorem echoChars_effect (s : State) (k : Sess) (l : List Nat) :
    (echoChars s k l).vil.outs = s.vil.outs ∧ ∃ e, getSes (echoChars s k l) k = { getSes s k with echo := e } := by
  unfold echoChars
  split
  · exact ⟨modSes_outs _ _ _, _, getSes_modSes_self _ _ _⟩
  · exact ⟨rfl, _, rfl⟩

/-- The line being received is emptied, and its echo taken back. -/
theorem emptyLine_effect (s : State) (k : Sess) :
    (emptyLine s k).vil.outs = s.vil.outs ∧ ∃ e, getSes (emptyLine s k) k = { lineClear (getSes s k) with echo := e } := by
  obtain ⟨houts, e, hses⟩ := echoChars_effect (modSes s k lineClear) k (eraseEcho (getSes s k).shown)
  rw [getSes_modSes_self] at hses
  exact ⟨houts.trans (modSes_outs _ _ _), e, hses⟩

/-- A partial line emptied keeps the commands and the lines that wait; where none waits, the line being received is emptied too. -/
theorem partialEmpty_effect (s : State) (k : Sess) (pre post : List (BitVec 9 × Nat)) :
    (partialEmpty s k pre post).vil.outs = s.vil.outs ∧ (getSes (partialEmpty s k pre post) k).waiting = keepLines pre ++ post ∧
    (pre.any (fun c => isTerm c.1) = false → (getSes s k).rxState = .ok →
      (getSes (partialEmpty s k pre post) k).rx = [] ∧ (getSes (partialEmpty s k pre post) k).rxStart = none) := by
  unfold partialEmpty
  extract_lets u
  have houts : u.vil.outs = s.vil.outs := modSes_outs _ _ _
  have hses : getSes u k = { getSes s k with waiting := keepLines pre ++ post } := getSes_modSes_self _ _ _
  obtain ⟨heouts, e, heses⟩ := emptyLine_effect u k
  have hwait : (getSes u k).waiting = keepLines pre ++ post := by rw [hses]
  have hewait : (getSes (emptyLine u k) k).waiting = keepLines pre ++ post := by rw [heses]; exact hwait
  have hclear : (getSes (emptyLine u k) k).rx = [] ∧ (getSes (emptyLine u k) k).rxStart = none := by rw [heses]; exact ⟨rfl, rfl⟩
  have hstate : (getSes u k).rxState = (getSes s k).rxState := by rw [hses]
  split
  · next hterm => exact ⟨houts, hwait, fun hnone => absurd hterm (by simp [hnone])⟩
  · split
    · exact ⟨heouts.trans houts, hewait, fun _ _ => hclear⟩
    · exact ⟨heouts.trans houts, hewait, fun _ _ => hclear⟩
    · next hok _ => exact ⟨houts, hwait, fun _ h => absurd (hstate.trans h) hok⟩

/-- Without an untagged command outstanding there is none to cancel. -/
theorem untaggedCancel_of_none (h : untaggedOut s k = false) : untaggedCancel s k = s := by
  have hnone : (outsOf s k).find? (fun o => o.tag = none) = none := by
    rw [untaggedOut, List.any_eq_false] at h
    exact List.find?_eq_none.mpr h
  unfold untaggedCancel
  rw [hnone]

/-- A WAIT that is cancelled is outstanding no more. -/
theorem untaggedCancel_ends_wait {o : Out} {w : Nat} (ho : (outsOf s k).find? (·.tag = none) = some o) (hw : o.work = .wait w) :
    ∀ p ∈ (untaggedCancel s k).vil.outs, p.id ≠ o.id := by
  have e : untaggedCancel s k = finish s o.id "FAIL CANCELLED" := by
    unfold untaggedCancel
    rw [ho]
    simp [cancelQuiet, cancelPlain, hw]
  rw [e]
  cases hf : findOut s o.id with
  | none => rw [finish_of_none hf]; simpa using List.find?_eq_none.mp hf
  | some p =>
    have hgone := finishOut_gone s p "FAIL CANCELLED"
    rw [(findOut_id hf).2] at hgone
    exact (finish_of_found hf _).none_of_id hgone

theorem exec_ctrlC_awake (hl : isLink k = true) (hs : served s k = true) (ht : (getSes s k).mode = .typed) (hm : s.ana.mode ≠ .quiet) :
    exec (.ctrlC k) s = .next (rtsFollows (untaggedCancel (partialEmpty s k (getSes s k).waiting []) k)) :=
  congrArg Host.Outcome.next ((if_neg (by simp [hl, hs, ht])).trans (if_neg hm))

/-- CTRL_C empties the line. -/
theorem exec_ctrlC_empties (hl : isLink k = true) (hs : served s k = true) (ht : (getSes s k).mode = .typed) (hm : s.ana.mode ≠ .quiet)
    (hu : untaggedOut s k = false) :
    ∃ t, exec (.ctrlC k) s = .next t ∧ (getSes t k).waiting = keepLines (getSes s k).waiting ∧
      ((getSes s k).waiting.any (fun c => isTerm c.1) = false → (getSes s k).rxState = .ok → (getSes t k).rx = [] ∧ (getSes t k).rxStart = none) := by
  obtain ⟨houts, hwait, hclear⟩ := partialEmpty_effect s k (getSes s k).waiting []
  refine ⟨_, exec_ctrlC_awake hl hs ht hm, ?_⟩
  rw [rtsFollows_getSes, untaggedCancel_of_none ((untaggedOut_congr houts k).trans hu)]
  exact ⟨hwait.trans (List.append_nil _), hclear⟩

/-- CTRL_C cancels an untagged WAIT. -/
theorem exec_ctrlC_cancels {o : Out} {w : Nat} (hl : isLink k = true) (hs : served s k = true) (ht : (getSes s k).mode = .typed)
    (hm : s.ana.mode ≠ .quiet) (ho : (outsOf s k).find? (·.tag = none) = some o) (hw : o.work = .wait w) :
    ∃ t, exec (.ctrlC k) s = .next t ∧ ∀ p ∈ t.vil.outs, p.id ≠ o.id := by
  have houts := (partialEmpty_effect s k (getSes s k).waiting []).1
  refine ⟨_, exec_ctrlC_awake hl hs ht hm, ?_⟩
  rw [rtsFollows_outs]
  refine untaggedCancel_ends_wait ?_ hw
  unfold outsOf at ho ⊢
  rw [houts]
  exact ho

/-! ### Rates (R117, R119, R120, R158) -/

theorem exec_autobaudDetect {rate r : Nat} (ha : autoRate s = true) (h0 : s.vil.rate1 = 0) (hr : coreRuns s = true)
    (hf : autoRates.find? (fun r => decide (rate * 100 ≤ 103 * r) && decide (97 * r ≤ rate * 100)) = some r) :
    exec (.autobaudDetect 0x0D rate) s = .next { s with vil := { s.vil with armed := false, rate1 := r } } := by
  refine congrArg Host.Outcome.next ((if_neg (by simp [ha, h0, hr])).trans ?_)
  rw [hf]

/-- A rate lost: its detection begins again, and what waits on LINK1 is discarded. -/
theorem rearm_effect (s : State) :
    (rearm s).vil.rate1 = 0 ∧ (rearm s).vil.armed = true ∧ (rearm s).vil.link1.out = [] ∧ (rearm s).vil.link1.nq = [] :=
  ⟨rfl, rfl, rfl, rfl⟩

theorem exec_autobaudRearm {low : Nat} (ha : autoRate s = true) (hl : 10 * tickMs ≤ low) (hr : coreRuns s = true) :
    exec (.autobaudRearm low) s = .next (rearm (countFerr (wakeBy s .link1) .link1)) :=
  congrArg Host.Outcome.next (if_pos (by simp [ha, hl, hr]))

theorem exec_rateChangeEffect_link0 {r : Nat} (h : s.vil.ratePend0 = some r) :
    exec (.rateChangeEffect 0) s = .next { s with vil := { s.vil with rate0 := r, ratePend0 := none } } := by
  refine congrArg Host.Outcome.next ((if_pos rfl).trans ?_)
  rw [h]

theorem exec_rateChangeEffect_link1 {r : Nat} (h : s.vil.ratePend1 = some (r + 1)) :
    exec (.rateChangeEffect 1) s = .next { s with vil := { s.vil with rate1 := r + 1, armed := false, ratePend1 := none } } := by
  refine congrArg Host.Outcome.next ((if_neg (by decide)).trans ?_)
  rw [h]
  rfl

theorem exec_rateChangeEffect_auto (h : s.vil.ratePend1 = some 0) :
    exec (.rateChangeEffect 1) s = .next { rearm s with vil := { (rearm s).vil with ratePend1 := none } } := by
  refine congrArg Host.Outcome.next ((if_neg (by decide)).trans ?_)
  rw [h]
  rfl

/-! ### Notices that leave (R148, R151) -/

/-- Where none has been discarded, none is told of. -/
theorem lostTold_of_none (h : (getSes s k).nlost = 0) : lostTold s k = s := if_neg (by simp [h])

/-- SYS.NOTICES-LOST takes a free entry, with the next number. -/
theorem lostTold_of_room (h : (getSes s k).nlost ≠ 0) (hl : (getSes s k).nq.length < 64) :
    ∃ x e, x.name = "SYS.NOTICES-LOST" ∧ x.seq = (getSes s k).seq.toNat ∧ getSes (lostTold s k) k =
      { getSes s k with nlost := 0, nq := (getSes s k).nq ++ [x], seq := (getSes s k).seq + 1, echo := e } := by
  have e : getSes (lostTold s k) k = getSes (noticeQueue (setSes s k { getSes s k with nlost := 0 }) k "SYS.NOTICES-LOST" none
      ("COUNT=" ++ natStr (getSes s k).nlost)) k := by
    unfold lostTold
    dsimp only
    rw [if_pos (by simp [Nat.pos_of_ne_zero h, hl])]
    rfl
  rw [e, noticeQueue, getSes_setSes_self, getSes_setSes_self]
  exact ⟨_, _, rfl, rfl, rfl⟩

/-- The lines to send stand as they were. -/
theorem lostTold_out (s : State) (k : Sess) : (getSes (lostTold s k) k).out = (getSes s k).out := by
  by_cases h : (getSes s k).nlost ≠ 0 ∧ (getSes s k).nq.length < 64
  · obtain ⟨x, e, -, -, hses⟩ := lostTold_of_room h.1 h.2
    rw [hses]
  · have hnone : lostTold s k = s := if_neg (by simpa [Nat.pos_iff_ne_zero] using h)
    rw [hnone]

theorem noticeGone_of_cons {n : Notice} {l : List Notice} (h : (getSes s k).nq = n :: l) :
    noticeGone s k = lostTold (modSes s k fun x => { x with nq := l }) k := by
  unfold noticeGone
  rw [h]

/-- The lines that go before a notice have left with it. -/
def linesLeft (s : State) (k : Sess) (n : Notice) : State :=
  let left := (getSes s k).out.filter fun l => n.epoch < l.epoch
  modSes s k fun x => { x with out := left, echo := if left.isEmpty then [] else x.echo }

theorem exec_noticeSent_link {n : Notice} {l : List Notice} (hm : maySend s k = true) (hb : isBus k = false) (hq : (getSes s k).nq = n :: l) :
    exec (.noticeSent k) s = .next (lostTold (modSes (linesLeft s k n) k fun x => { x with nq := l }) k) := by
  have hleft : (getSes (linesLeft s k n) k).nq = n :: l := by rw [linesLeft, getSes_modSes_self, hq]
  rw [← noticeGone_of_cons hleft]
  refine congrArg Host.Outcome.next ((if_neg (by simp [hm])).trans ?_)
  rw [hq]
  exact if_neg (by simp [hb])

/-- NOTICE_SENT on a UART: the notice leaves with the lines before it, and a free entry tells of the notices discarded. -/
theorem exec_noticeSent_leaves {n : Notice} {l : List Notice} (hm : maySend s k = true) (hb : isBus k = false) (hq : (getSes s k).nq = n :: l) :
    ∃ t, exec (.noticeSent k) s = .next t ∧ (∀ x ∈ (getSes t k).out, n.epoch < x.epoch) ∧
      ((getSes s k).nlost = 0 → (getSes t k).nq = l) ∧
      ((getSes s k).nlost ≠ 0 → l.length < 64 → (getSes t k).nlost = 0 ∧ ∃ x, (getSes t k).nq = l ++ [x] ∧ x.name = "SYS.NOTICES-LOST" ∧
        x.seq = (getSes s k).seq.toNat ∧ (getSes t k).seq = (getSes s k).seq + 1) := by
  obtain ⟨u, hu⟩ : ∃ u, u = modSes (linesLeft s k n) k fun x => { x with nq := l } := ⟨_, rfl⟩
  have hses : ∃ e, getSes u k = { getSes s k with nq := l, out := (getSes s k).out.filter fun l => n.epoch < l.epoch, echo := e } := by
    rw [hu, getSes_modSes_self, linesLeft, getSes_modSes_self]
    exact ⟨_, rfl⟩
  obtain ⟨e, hses⟩ := hses
  have hnq : (getSes u k).nq = l := by rw [hses]
  have hlost : (getSes u k).nlost = (getSes s k).nlost := by rw [hses]
  have hseq : (getSes u k).seq = (getSes s k).seq := by rw [hses]
  refine ⟨_, exec_noticeSent_link hm hb hq, fun x hx => ?_, fun h => ?_, fun h hl => ?_⟩
  · rw [← hu, lostTold_out, hses] at hx
    exact of_decide_eq_true (List.mem_filter.mp hx).2
  · rw [← hu, lostTold_of_none (hlost.trans h), hnq]
  · rw [← hu]
    obtain ⟨x, e', hname, hxseq, htold⟩ := lostTold_of_room (hlost.symm ▸ h) (hnq.symm ▸ hl)
    rw [htold, hnq, hseq]
    exact ⟨rfl, x, rfl, hname, hxseq.trans (congrArg BitVec.toNat hseq), rfl⟩

/-- NOTICE_SENT on the bus: a notice that the tunnel holds nothing more of leaves its queue. -/
theorem exec_noticeSent_bus {n : Notice} {l : List Notice} (hm : maySend s k = true) (hb : isBus k = true) (hq : (getSes s k).nq = n :: l)
    (hh : n.handed = true) (hw : tunWaits s k = []) (hf : tunFrags s k = []) : exec (.noticeSent k) s = .next (noticeGone s k) := by
  refine congrArg Host.Outcome.next ((if_neg (by simp [hm])).trans ?_)
  rw [hq]
  exact (if_pos hb).trans (if_pos (by simp [hh, hw, hf]))

end Sys2Proof.Laws

namespace Sys2Proof.Proofs
open Sys2Proof Sys2Proof.Machine Sys2Proof.Laws

/-- Settles O24, row by row. -/
theorem lineRowsComplete : Obligations.LineRowsComplete := by
  refine fun s s' => ⟨fun p code => exec_uartByte_quiet, fun p code => exec_uartByte_awake,
    fun code hu hc hm => congrArg Host.Outcome.next (uartIn_deaf (p := 1) hu hc hm), fun k => exec_commandLine_reads,
    fun p text => exec_commandLine_link, fun k text => exec_commandLine_bus, fun k a l => exec_partialTimeout_counts,
    fun k => exec_ctrlC_empties, fun k o w => exec_ctrlC_cancels, fun rate r => exec_autobaudDetect,
    fun low ha hl hr => ⟨_, exec_autobaudRearm ha hl hr, rearm_effect _⟩, fun r => exec_rateChangeEffect_link0,
    fun r => exec_rateChangeEffect_link1, fun h => ⟨_, exec_rateChangeEffect_auto h, rfl, rfl, rfl⟩,
    fun k n l => exec_noticeSent_leaves, fun k n l => exec_noticeSent_bus⟩

end Sys2Proof.Proofs
end
section
/-!
A state in which the command that the BLINK OFF of R613 cancels takes the BLINK OFF with it: the line of a MACRO run that answers to
the number that the BLINK OFF takes.
-/
namespace Sys2Proof.Laws
open Sys2Proof Sys2Proof.Machine

/-- A line of M00 in MACRO has placed the start of E000's slot, which waits for its leave. -/
def blinkStartOut : Out :=
  { id := 0, ses := .mac, tag := some 1001, framed := true, shared := true, verb := "BLINK", role := some .operator, epoch := 0,
    body := "", audits := [], work := .blink 0 }

/-- The run of M00 is to end the command numbered 1, which no session has given yet. -/
def danglingRun : State :=
  { State.reset with
    ana.mode := .run
    pwr.xtal := true
    lan.slots := [(0, { seg := 0, period := 200, a := 0, b := 1 })]
    lan.upds := [{ kind := .blink, els := [(0, 0)], cmd := some 0, slot := some 0 }]
    vil.link0.role := some .maker
    vil.macros := [(0, { lines := some ["BLINK E000 PERIOD=200ms LEVELS=0,1"], running := true, awaiting := true, cmd := some 1 })]
    vil.outs := [blinkStartOut]
    vil.nextId := 1 }

/-- A tagged line of LINK0. -/
def link0Line : Hdr := ⟨.link0, some 5, true⟩

theorem danglingRun_takes : danglingRun.takes link0Line (blinkOffSpec link0Line 0 danglingRun) := by
  refine ⟨⟨by decide, by decide, fun _ => by decide⟩, ?_, by decide⟩
  intro o ho
  obtain rfl := List.mem_singleton.mp ho
  decide

theorem danglingRun_slot : slotOf danglingRun 0 = some (0, { seg := 0, period := 200, a := 0, b := 1 }) := by decide

/-- The failure of the start ends the run of M00, and with it the BLINK OFF: no line of LINK0 reads DONE. -/
theorem danglingRun_blinkOff_lines {t : State} (h : exec (.blinkOff link0Line 0) danglingRun = .next t) :
    ∀ l ∈ (getSes t .link0).out, l.body ≠ "DONE" := by
  obtain rfl := Host.Outcome.next.inj h
  decide

end Sys2Proof.Laws

namespace Sys2Proof.Proofs
open Sys2Proof Sys2Proof.Machine Sys2Proof.Laws

/-- Refutes O32: BLINK OFF cancels a start that a line of M00 placed, the run of M00 ends with it, and where that run answers to the
number of the BLINK OFF, its final line is that of the run and not DONE.  No reachable state has such a run; the statement excludes the
number among the updates that wait and not among the runs of macros. -/
theorem not_workVerbsComplete : ¬ Obligations.WorkVerbsComplete := by
  intro h
  obtain ⟨-, -, -, -, -, -, -, -, hoff, -⟩ := h danglingRun link0Line
  obtain ⟨t, hexec, -, hends⟩ := hoff 0 _ _ danglingRun_takes danglingRun_slot fun u hu => by
    obtain rfl := List.mem_singleton.mp hu
    decide
  obtain ⟨-, -, hsent, -⟩ := hends
  obtain ⟨l, hl, -, -, hbody⟩ := hsent (by decide) (by decide)
  exact danglingRun_blinkOff_lines hexec l hl hbody

end Sys2Proof.Proofs
end
section
/-!
What a command leaves alone beside its lines, its entry, its notices and its records, and how a command that is taken waits or ends
with its lines (R140, R141, R172).
-/
namespace Sys2Proof.Laws
open Sys2Proof Sys2Proof.Machine
variable {s t u : State}

/-! ### What answering leaves alone -/

/-- A session without its lines, its notices and its freed tags. -/
def sesRest (x : Session) : Session :=
  { x with out := [], freed := [], active := 0, echo := [], nq := [], nlost := 0, seq := 0, lostNotices := 0 }

/-- The secure core without the audit journal. -/
def secRest (c : Sec) : Sec := { c with audit := [], auditSeq := 0, head := 0, overwritten := 0, wraps := 0, missed := 0, held := [] }

/-- The command processor without what answering a command can change. -/
def vilRest (v : Vil) : Vil :=
  { v with
    outs := [], nextId := 0, peakSlots := 0, triggers := [], macros := []
    link0 := sesRest v.link0, link1 := sesRest v.link1, bus1 := sesRest v.bus1, bus2 := sesRest v.bus2, bus3 := sesRest v.bus3
    bus4 := sesRest v.bus4, mac := sesRest v.mac }

/-- The state without what lines, notices, audit records and the acceptance and the end of commands can change: the run of M00 to M63 goes on
with the end of its line. -/
def unanswered (s : State) : State :=
  { s with vil := vilRest s.vil, sec := secRest s.sec, tst := { s.tst with log := [] }, pwr := { s.pwr with idleSince := 0 } }

theorem getSes_unanswered (s : State) (k : Sess) : getSes (unanswered s) k = sesRest (getSes s k) := by cases k <;> rfl

theorem unanswered_setSes {k : Sess} {x : Session} (h : sesRest x = sesRest (getSes s k)) : unanswered (setSes s k x) = unanswered s := by
  cases k <;> simp only [unanswered, vilRest, setSes, h] <;> rfl

theorem unanswered_modSes {k : Sess} {f : Session → Session} (h : ∀ x, sesRest (f x) = sesRest x) : unanswered (modSes s k f) = unanswered s :=
  unanswered_setSes (h _)

theorem unanswered_noticeQueue (s : State) (k : Sess) (n : String) (o : Option Obj) (a : String) :
    unanswered (noticeQueue s k n o a) = unanswered s :=
  unanswered_setSes rfl

theorem unanswered_noticeTo (n : String) (o : Option Obj) (a : String) (e : Bool) (s : State) (k : Sess) :
    unanswered (noticeTo n o a e s k) = unanswered s := by
  have hlost : unanswered (lostTold s k) = unanswered s := by
    unfold lostTold
    dsimp only
    split
    · exact (unanswered_noticeQueue _ _ _ _ _).trans (unanswered_setSes rfl)
    · rfl
  have hpush : unanswered (noticePush s k n o a) = unanswered s := by
    refine Eq.trans ?_ hlost
    unfold noticePush
    dsimp only
    split
    · exact unanswered_noticeQueue _ _ _ _ _
    · exact unanswered_modSes fun _ => rfl
  unfold noticeTo
  split
  · exact hpush
  · rfl

theorem unanswered_notify (s : State) (n : String) (o : Option Obj) (a : String) : unanswered (notify s n o a) = unanswered s := by
  have hf := foldl_keeps unanswered (unanswered_noticeTo n o a (toEvery n)) portSess s
  unfold notify
  dsimp only
  split
  · rfl
  · split <;> exact hf

/-- A record written changes the audit journal alone. -/
theorem unanswered_auditStore (s : State) (r : AuditRec) : unanswered (auditStore s r) = unanswered s := by
  unfold auditStore
  dsimp only
  split_ifs
  · exact unanswered_notify _ _ _ _
  · exact unanswered_notify _ _ _ _
  · rfl
  · rfl
  · exact unanswered_notify _ _ _ _
  · rfl

theorem unanswered_auditWrite (s : State) (r : AuditRec) : unanswered (auditWrite s r) = unanswered s := by
  unfold auditWrite
  dsimp only
  split
  · exact unanswered_auditStore _ _
  · exact (unanswered_auditStore _ _).trans (unanswered_auditStore _ _)

theorem unanswered_auditHold (s : State) (r : AuditRec) : unanswered (auditHold s r) = unanswered s := by
  unfold auditHold
  dsimp only
  split
  · exact unanswered_notify _ _ _ _
  · split_ifs <;> rfl

theorem unanswered_auditFlush (s : State) : unanswered (auditFlush s) = unanswered s := by
  have hmissed : unanswered (missedFirst s) = unanswered s := by
    unfold missedFirst
    split
    · rfl
    · split_ifs
      · rfl
      · exact unanswered_auditStore _ _
  unfold auditFlush
  split
  · exact (foldl_keeps unanswered unanswered_auditStore _ _).trans hmissed
  · rfl

@[simp] theorem unanswered_auditAdd (s : State) (kind ses role tag result : Nat) (reach : Bool) (text : String) :
    unanswered (auditAdd s kind ses role tag result reach text) = unanswered s := by
  unfold auditAdd
  dsimp only
  split_ifs
  · rfl
  · exact unanswered_auditHold _ _
  · exact (unanswered_auditWrite _ _).trans (unanswered_auditFlush s)
  · exact unanswered_auditFlush s
  · exact (unanswered_auditWrite _ _).trans (unanswered_auditFlush s)
  · exact unanswered_auditFlush s

theorem unanswered_sendLine (s : State) (k : Sess) (tag : Option Nat) (framed : Bool) (cls : Nat) (body : String) :
    unanswered (sendLine s k tag framed cls body) = unanswered s := by
  unfold sendLine sendOut
  dsimp only
  split
  · rfl
  · exact unanswered_setSes rfl

theorem unanswered_accept (s : State) (q : Hdr) (c : CmdSpec) : unanswered (accept s q c) = unanswered s := by
  have hheard : unanswered (lineHeard s q.ses s.now) = unanswered s := by
    unfold lineHeard
    split <;> rfl
  have hok : unanswered (okSent s q) = unanswered s :=
    Eq.trans (unanswered_modSes fun _ => rfl) ((unanswered_sendLine _ _ _ _ _ _).trans hheard)
  exact (accept_keeps unanswered_auditAdd s q c).trans hok

theorem unanswered_auditOut (s : State) (o : Out) (r : Nat) : unanswered (auditOut s o r) = unanswered s :=
  foldl_keeps (f := fun s k => auditAdd s k (sesIdx o.ses) (roleNum o.role) (auditTag o.tag) r (sReach s o.ses) o.body) unanswered
    (fun _ _ => unanswered_auditAdd _ _ _ _ _ _ _ _) _ s

theorem unanswered_finishOut (s : State) (o : Out) (body : String) : unanswered (finishOut s o body) = unanswered s := by
  have hd : unanswered (outDropped s o body) = unanswered s := by
    have hout : ∀ (u : State) (l : List Out), unanswered { u with vil := { u.vil with outs := l } } = unanswered u := fun _ _ => rfl
    refine (hout _ _).trans ?_
    split
    · exact Eq.refl _
    · exact unanswered_auditOut _ _ _
  cases h : o.orphan with
  | true => rw [finishOut_orphan h]; exact hd
  | false =>
    rw [finishOut_heard h]
    exact Eq.trans (unanswered_modSes fun _ => rfl) ((unanswered_sendLine _ _ _ _ _ _).trans hd)

theorem unanswered_startPending (s : State) : unanswered (startPending s) = unanswered s := by
  unfold startPending
  split
  · split <;> rfl
  · rfl

theorem unanswered_macroEnd (s : State) (m : Nat) (body : String) : unanswered (macroEnd s m body) = unanswered s := by
  unfold macroEnd
  dsimp only
  split
  · exact (unanswered_startPending _).trans (unanswered_finishOut _ _ _)
  · exact unanswered_startPending _

theorem unanswered_macroLineDone (s : State) (m : Nat) (body : String) : unanswered (macroLineDone s m body) = unanswered s := by
  unfold macroLineDone
  dsimp only
  split_ifs
  · rfl
  · exact unanswered_macroEnd _ _ _
  · exact unanswered_macroEnd _ _ _
  · rfl

theorem unanswered_finish (s : State) (id : Nat) (body : String) : unanswered (finish s id body) = unanswered s := by
  unfold finish
  split
  · rfl
  · dsimp only
    split
    · exact (unanswered_macroLineDone _ _ _).trans (unanswered_finishOut _ _ _)
    · exact unanswered_finishOut _ _ _

theorem unanswered_more (s : State) (id : Nat) (body : String) : unanswered (more s id body) = unanswered s := by
  unfold more
  split
  · rfl
  · split
    · rfl
    · exact unanswered_sendLine _ _ _ _ _ _

/-! What stands beside the answers stands as it was. -/

section
variable (h : unanswered t = unanswered s)
include h

theorem cfg_of_unanswered : t.cfg = s.cfg := (congrArg State.cfg h :)
theorem drv_of_unanswered : t.drv = s.drv := (congrArg State.drv h :)
theorem lve_of_unanswered : t.lve = s.lve := (congrArg State.lve h :)
theorem jrn_of_unanswered : t.jrn = s.jrn := (congrArg State.jrn h :)
theorem keys_of_unanswered : t.sec.keys = s.sec.keys := (congrArg (fun u => u.sec.keys) h :)
theorem locked_of_unanswered : t.sec.locked = s.sec.locked := (congrArg (fun u => u.sec.locked) h :)
theorem lockPend_of_unanswered : t.sec.lockPend = s.sec.lockPend := (congrArg (fun u => u.sec.lockPend) h :)
theorem writes_of_unanswered : t.vil.writes = s.vil.writes := (congrArg (fun u => u.vil.writes) h :)
theorem binds_of_unanswered : t.vil.binds = s.vil.binds := (congrArg (fun u => u.vil.binds) h :)

theorem sesRest_of_unanswered (k : Sess) : sesRest (getSes t k) = sesRest (getSes s k) := by
  rw [← getSes_unanswered, h, getSes_unanswered]

theorem role_of_unanswered (k : Sess) : (getSes t k).role = (getSes s k).role := (congrArg Session.role (sesRest_of_unanswered h k) :)
theorem mode_of_unanswered (k : Sess) : (getSes t k).mode = (getSes s k).mode := (congrArg Session.mode (sesRest_of_unanswered h k) :)

end

/-- A MORE line keeps the numbers, and the entries, of the commands. -/
theorem linesKept_more (s : State) (id : Nat) (body : String) : LinesKept s (more s id body) := by
  unfold more
  split
  · exact .refl s
  · split
    · exact .refl s
    · exact linesKept_sendLine _ _ _ _ _ _

theorem more_outs (s : State) (id : Nat) (body : String) : (more s id body).vil.outs = s.vil.outs := by
  unfold more
  split
  · rfl
  · split
    · rfl
    · exact sendLine_outs _ _ _ _ _ _

/-- A command that is accepted sends its MORE line and stays accepted. -/
theorem Accepted.more {q : Hdr} (h : Accepted s u q) (body : String) :
    Accepted s (Machine.more u s.vil.nextId body) q ∧ s.sends (Machine.more u s.vil.nextId body) q 1 ("MORE " ++ body) := by
  obtain ⟨o, hf, hses, htag, horp⟩ := h.out
  refine ⟨h.onward (linesKept_more _ _ _) fun p hp => ⟨p, ?_, rfl, rfl, rfl⟩, ?_⟩
  · rw [findOut, more_outs]; exact hp
  · unfold Machine.more
    rw [hf]
    dsimp only
    rw [horp, hses, htag]
    exact sends_sendLine h.isOpen h.rate _ _ _

/-- The MORE lines of a command, one after the other. -/
def moreLines (s : State) (id : Nat) (ms : List String) : State := ms.foldl (fun s m => more s id m) s

theorem linesKept_moreLines (s : State) (id : Nat) (ms : List String) : LinesKept s (moreLines s id ms) :=
  linesKept_foldl (fun s m => linesKept_more s id m) ms s

theorem Accepted.moreLines {q : Hdr} (h : Accepted s u q) (ms : List String) :
    Accepted s (moreLines u s.vil.nextId ms) q ∧ ∀ m ∈ ms, s.sends (moreLines u s.vil.nextId ms) q 1 ("MORE " ++ m) := by
  induction ms generalizing u with
  | nil => exact ⟨h, nofun⟩
  | cons m ms ih =>
    obtain ⟨hacc, hsent⟩ := h.more m
    obtain ⟨hacc', hall⟩ := ih hacc
    refine ⟨hacc', fun n hn => ?_⟩
    obtain rfl | hn := List.mem_cons.mp hn
    · exact (linesKept_moreLines _ _ ms).sends hsent
    · exact hall n hn

/-- A command ends with its MORE lines and its final line. -/
theorem Accepted.endsLines {q : Hdr} (h : Accepted s u q) (ms : List String) (body : String) :
    s.endsCmd (finish (Laws.moreLines u s.vil.nextId ms) s.vil.nextId body) q ms body := by
  obtain ⟨hacc, hall⟩ := h.moreLines ms
  obtain ⟨hok, -, hfin, hgone, hfreed⟩ := hacc.endsCmd body
  exact ⟨hok, fun m hm => (linesKept_finish _ _ _).sends (hall m hm), hfin, hgone, hfreed⟩

theorem settle_of_lines {id e : Nat} {o : Out} {ms : List String} {fin : String} (h : findOut s id = some o) (hw : o.work = .reply e ms fin)
    (he : e ≤ s.epoch) : settle s id = finish (moreLines s id ms) id fin := by
  unfold settle
  rw [h]
  dsimp only
  rw [hw]
  exact if_pos he

/-- A work that is no reply due in epoch `n`. -/
def waits (n : Nat) (w : Work) : Prop := ∀ e ms fin, w = .reply e ms fin → n < e

theorem settle_of_waits {id : Nat} {o : Out} (h : findOut s id = some o) (hw : waits s.epoch o.work) : settle s id = s := by
  unfold settle
  rw [h]
  dsimp only
  split
  · next hr => exact if_neg (Nat.not_le.mpr (hw _ _ _ hr))
  · rfl

/-! ### Store writes (R176) -/

@[simp] theorem queueStore_cfg (s : State) (id : Nat) (x : Eff) : (queueStore s id x).cfg = s.cfg := rfl
@[simp] theorem queueStore_sec (s : State) (id : Nat) (x : Eff) : (queueStore s id x).sec = s.sec := rfl
@[simp] theorem queueStore_binds (s : State) (id : Nat) (x : Eff) : (queueStore s id x).vil.binds = s.vil.binds := rfl
@[simp] theorem setWork_binds (s : State) (id : Nat) (w : Work) : (setWork s id w).vil.binds = s.vil.binds := rfl

theorem Accepted.queueStore {q : Hdr} (h : Accepted s u q) (id : Nat) (x : Eff) : Accepted s (queueStore u id x) q :=
  h.onward (linesKept_vil (fun k => by cases k <;> rfl) rfl (List.Subset.refl _)) fun o ho => ⟨o, ho, rfl, rfl, rfl⟩

/-- The change of a command joins the store writes. -/
theorem queues_of_unanswered (h : unanswered u = unanswered s) (x : Eff) (w : Work) :
    s.queues (setWork (queueStore u s.vil.nextId x) s.vil.nextId w) x := by
  have he : epochTick u u.epoch = epochTick s s.epoch := (congrArg (fun v => epochTick v v.epoch) h :)
  unfold State.queues
  rw [← writes_of_unanswered h, ← he]
  rfl

/-! ### A line whose command is taken -/

section
variable {i : Instr} {q : Hdr} {c : State → CmdSpec} {f : State → State → Nat → State × Work}

theorem line_eq (h : s.takes q (c s)) : lineIn i q s (fun s => submit s q (c s) (f s)) =
    settle (setWork (f s (accept s q (c s)) s.vil.nextId).1 s.vil.nextId (f s (accept s q (c s)) s.vil.nextId).2) s.vil.nextId :=
  (lineIn_of_hears h.1).trans (submit_of_takes h)

/-- A line whose command waits: what its work does at acceptance, and the work. -/
theorem line_waits {w : Work} (h : s.takes q (c s)) (hf : f s (accept s q (c s)) s.vil.nextId = (u, w)) (hu : Accepted s u q)
    (hw : waits s.epoch w) : (.next (lineIn i q s fun s => submit s q (c s) (f s)) : Host.Outcome State Fault Refusal) = .next (setWork u s.vil.nextId w) := by
  obtain ⟨o, ho, -⟩ := hu.out
  rw [line_eq h, hf]
  exact congrArg Host.Outcome.next (settle_of_waits (findOut_setWork_self ho w) (hu.epoch.symm ▸ hw))

/-- A line whose command ends in the epoch in which it is accepted, and what holds of every state in which it has so ended. -/
theorem line_ends {e : Nat} {ms : List String} {fin : String} {P : State → Prop} (h : s.takes q (c s))
    (hf : f s (accept s q (c s)) s.vil.nextId = (u, .reply e ms fin)) (hu : Accepted s u q) (he : e ≤ s.epoch)
    (hP : ∀ t, s.endsCmd t q ms fin → unanswered t = unanswered u → LinesKept u t → P t) :
    ∃ t, (.next (lineIn i q s fun s => submit s q (c s) (f s)) : Host.Outcome State Fault Refusal) = .next t ∧ P t := by
  obtain ⟨o, ho, -⟩ := hu.out
  refine ⟨_, ?_, hP _ ((hu.setWork (.reply e ms fin)).endsLines ms fin) ?_ ?_⟩
  · rw [line_eq h, hf]
    exact congrArg Host.Outcome.next (settle_of_lines (findOut_setWork_self ho _) rfl (hu.epoch.symm ▸ he))
  · exact (unanswered_finish _ _ _).trans (foldl_keeps unanswered (fun _ _ => unanswered_more _ _ _) ms _)
  · exact ((linesKept_setWork _ _ _).trans (linesKept_moreLines _ _ ms)).trans (linesKept_finish _ _ _)

/-- A line whose command takes effect at the next boundary. -/
theorem line_effect {x : Eff} {fin : String} {P : State → Prop} (h : s.takes q (c s))
    (hf : f s (accept s q (c s)) s.vil.nextId = (accept s q (c s), .effect ((accept s q (c s)).epoch + 1) x fin))
    (hP : ∀ t, s.holdsCmd t q (.effect (s.epoch + 1) x fin) → unanswered t = unanswered s → P t) :
    ∃ t, (.next (lineIn i q s fun s => submit s q (c s) (f s)) : Host.Outcome State Fault Refusal) = .next t ∧ P t := by
  have hacc := accepted_accept h
  have hholds := hacc.holdsCmd (.effect (s.epoch + 1) x fin)
  rw [← hacc.epoch] at hholds
  exact ⟨_, line_waits h hf hacc nofun, hP _ (hacc.epoch ▸ hholds) (unanswered_accept s q (c s))⟩

/-- A line whose command waits for its store write. -/
theorem line_stores {x : Eff} {fin : String} {P : State → Prop} (h : s.takes q (c s))
    (hf : f s (accept s q (c s)) s.vil.nextId = (queueStore (accept s q (c s)) s.vil.nextId x, .store x fin))
    (hP : ∀ t, s.holdsCmd t q (.store x fin) → s.queues t x → t.cfg = s.cfg ∧ t.sec.keys = s.sec.keys ∧ t.vil.binds = s.vil.binds → P t) :
    ∃ t, (.next (lineIn i q s fun s => submit s q (c s) (f s)) : Host.Outcome State Fault Refusal) = .next t ∧ P t := by
  have hu := (accepted_accept h).queueStore s.vil.nextId x
  have hrest := unanswered_accept s q (c s)
  refine ⟨_, line_waits h hf hu nofun, hP _ (hu.holdsCmd _) (queues_of_unanswered hrest _ _) ?_⟩
  rw [setWork_cfg, setWork_sec, setWork_binds, queueStore_cfg, queueStore_sec, queueStore_binds]
  exact ⟨cfg_of_unanswered hrest, keys_of_unanswered hrest, binds_of_unanswered hrest⟩

end

end Sys2Proof.Laws
end
section
/-!
The orders that a verb places on the drives (R196, R198, R199, R385).
-/
namespace Sys2Proof.Laws
open Sys2Proof Sys2Proof.Machine
variable {s t u : State}

theorem undriven_placeOrder (s : State) (d : Nat) (o : Order) : undriven (placeOrder s d o) = undriven s := rfl

/-- An order placed waits at its drive, behind those that wait. -/
theorem placeOrder_pend (s : State) (d : Nat) (o : Order) :
    (drOf (placeOrder s d o) d).pend = (drOf s d).pend ++ [{ o with sq := s.drv.sq }] :=
  congrArg Dr.pend (setDr_drOf_self s d _)

theorem drOf_placeOrder_ne {d e : Nat} (h : e ≠ d) (s : State) (o : Order) : drOf (placeOrder s d o) e = drOf s e :=
  setDr_drOf_ne s d _ e h

/-- An order that waits goes on waiting where further orders are placed. -/
theorem pend_placeOrder_subset (s : State) (d e : Nat) (o : Order) : (drOf s e).pend ⊆ (drOf (placeOrder s d o) e).pend := by
  by_cases h : e = d
  · subst h
    rw [placeOrder_pend]
    exact List.subset_append_left _ _
  · rw [drOf_placeOrder_ne h]
    exact List.Subset.refl _

/-- An order placed on each drive of a list. -/
def ordersPlaced (g : State → Nat → Order) (ds : List Nat) (s : State) : State := ds.foldl (fun s d => placeOrder s d (g s d)) s

section
variable (g : State → Nat → Order) (ds : List Nat)

theorem undriven_ordersPlaced (s : State) : undriven (ordersPlaced g ds s) = undriven s :=
  foldl_keeps undriven (fun _ _ => undriven_placeOrder _ _ _) ds s

theorem pend_ordersPlaced_subset (s : State) (e : Nat) : (drOf s e).pend ⊆ (drOf (ordersPlaced g ds s) e).pend := by
  induction ds generalizing s with
  | nil => exact List.Subset.refl _
  | cons d ds ih => exact List.Subset.trans (pend_placeOrder_subset s d e _) (ih _)

theorem drOf_ordersPlaced_ne {e : Nat} (h : e ∉ ds) (s : State) : drOf (ordersPlaced g ds s) e = drOf s e := by
  induction ds generalizing s with
  | nil => rfl
  | cons d ds ih =>
    rw [List.mem_cons, not_or] at h
    obtain ⟨hne, hnot⟩ := h
    exact (ih hnot _).trans (drOf_placeOrder_ne hne _ _)

/-- Each drive of the list has the order, whatever number it takes. -/
theorem mem_pend_ordersPlaced {P : Nat → Order → Prop} (hg : ∀ v, undriven v = undriven s → ∀ d n, P d { g v d with sq := n }) :
    ∀ v, undriven v = undriven s → ∀ d ∈ ds, ∃ x ∈ (drOf (ordersPlaced g ds v) d).pend, P d x := by
  induction ds with
  | nil => exact fun _ _ _ hd => absurd hd List.not_mem_nil
  | cons e ds ih =>
    intro v hv d hd
    obtain rfl | hd := List.mem_cons.mp hd
    · refine ⟨_, pend_ordersPlaced_subset g ds _ d ?_, hg v hv d v.drv.sq⟩
      rw [placeOrder_pend]
      exact List.mem_append_right _ (List.mem_singleton.mpr rfl)
    · exact ih _ ((undriven_placeOrder v e _).trans hv) d hd

end

/-- Orders on drives bear on no command. -/
theorem Accepted.ordersPlaced {q : Hdr} (h : Accepted s u q) (g : State → Nat → Order) (ds : List Nat) : Accepted s (ordersPlaced g ds u) q :=
  have hu := undriven_ordersPlaced g ds u
  h.of_vil (congrArg State.vil hu :) (congrArg State.epoch hu :)

theorem drOf_congr (h : t.drv = s.drv) (d : Nat) : drOf t d = drOf s d := by unfold drOf; rw [h]

theorem halted_congr (h : t.ana = s.ana) : halted t = halted s := by unfold halted modeIs; rw [h]

/-- The target of a MOVE reads the configuration alone. -/
theorem moveTarget_congr (h : t.cfg = s.cfg) (d : Nat) (dest : MoveTo) : moveTarget t d dest = moveTarget s d dest := by
  cases dest <;> simp only [moveTarget, cfgPct, cfgInt, cfgNano, cfgVal, h]

/-- The order of a MOVE on a drive. -/
def moveOrder (q : Hdr) (id : Nat) (dest : MoveTo) (tilt : Option Nat) (s : State) (d : Nat) : Order :=
  { sessionOrder s q id with target := moveTarget s d dest, tilt := tilt }

/-- The order of a STOP on a drive. -/
def stopOrder (q : Hdr) (id : Nat) (s : State) (_d : Nat) : Order := { sessionOrder s q id with stop := true }

/-- The order of a LEARN on a drive. -/
def learnOrder (q : Hdr) (id : Nat) (s : State) (_d : Nat) : Order := { sessionOrder s q id with learn := true }

/-- Drives that an accepted command does not name keep their orders. -/
theorem drOf_ordersPlaced_accept {d : Nat} {ds : List Nat} (hd : d ∉ ds) (s : State) (q : Hdr) (c : CmdSpec) (g : State → Nat → Order) (id : Nat)
    (w : Work) : drOf (setWork (ordersPlaced g ds (accept s q c)) id w) d = drOf s d :=
  (drOf_ordersPlaced_ne g ds hd _).trans (drOf_congr (drv_of_unanswered (unanswered_accept s q c)) d)

/-! ### STOP (R198) -/

/-- What a STOP of drives does once it is accepted. -/
def stopTaken (q : Hdr) (many : Bool) (ds : List Nat) (s : State) (id : Nat) : State × Work :=
  if halted s && !many then (s, doneNow ("DONE POS=" ++ posStr (posNow s (ds.headD 0)).1) s)
  else if halted s then (s, .reply s.epoch (ds.map fun d => objName (drvObj d) ++ " " ++ ("DONE POS=" ++ posStr (posNow s d).1)) "DONE")
  else if ds.isEmpty then (s, doneNow "DONE" s)
  else (ordersPlaced (stopOrder q id) ds s, .drives many (ds.map fun d => { drive := d }))

/-- The drives of a STOP, and whether its result is that of several. -/
def stopDrives (o : Option ObjRange) (s : State) : List Nat := match o with | some o => rangeDrives o | none => usedDrives s
def stopMany (o : Option ObjRange) : Bool := match o with | some o => o.isRange | none => true

theorem exec_stop (q : Hdr) (o : Option ObjRange) (s : State) : exec (.stop q o) s =
    .next (lineIn (.stop q o) q s fun v => submit v q (stopSpec o v) (stopTaken q (stopMany o) (stopDrives o s))) := rfl

/-- In a mode in which the drives are halted a STOP reports where they stand. -/
theorem stopTaken_halted {many : Bool} {ds : List Nat} {q : Hdr} {id : Nat} (h : halted s = true) :
    ∃ ms fin, stopTaken q many ds s id = (s, .reply s.epoch ms fin) := by
  unfold stopTaken
  rw [h]
  cases many <;> exact ⟨_, _, rfl⟩

/-- Otherwise it places its order on each drive. -/
theorem stopTaken_runs {many : Bool} {ds : List Nat} {q : Hdr} {id : Nat} (h : halted s = false) (hne : ds ≠ []) :
    stopTaken q many ds s id = (ordersPlaced (stopOrder q id) ds s, .drives many (ds.map fun d => { drive := d })) := by
  unfold stopTaken
  rw [h, List.isEmpty_eq_false_iff.mpr hne]
  rfl

theorem stopTaken_none {many : Bool} {q : Hdr} {id : Nat} (h : halted s = false) : stopTaken q many [] s id = (s, doneNow "DONE" s) := by
  unfold stopTaken
  rw [h]
  rfl

/-- A STOP where the drives run: each drive named has its order, and the others keep theirs. -/
theorem stop_orders {q : Hdr} {o : Option ObjRange} (h : s.takes q (stopSpec o s)) (hh : halted s = false) (hne : stopDrives o s ≠ []) :
    ∃ t, exec (.stop q o) s = .next t ∧ s.holdsCmd t q (.drives (stopMany o) ((stopDrives o s).map fun d => { drive := d })) ∧
      (∀ d ∈ stopDrives o s, ∃ x ∈ (drOf t d).pend, x.cmd = some s.vil.nextId ∧ x.stop = true) ∧
      ∀ d, d ∉ stopDrives o s → drOf t d = drOf s d := by
  have hhalt := (halted_congr (accept_ana s q (stopSpec o s))).trans hh
  have hp := (accepted_accept h).ordersPlaced (stopOrder q s.vil.nextId) (stopDrives o s)
  refine ⟨_, (exec_stop q o s).trans (line_waits h (stopTaken_runs hhalt hne) hp nofun), hp.holdsCmd _, ?_, ?_⟩
  · exact mem_pend_ordersPlaced _ _ (P := fun _ x => x.cmd = some s.vil.nextId ∧ x.stop = true) (fun _ _ _ _ => ⟨rfl, rfl⟩) _ rfl
  · exact fun d hd => drOf_ordersPlaced_accept hd s q _ _ _ _

end Sys2Proof.Laws

namespace Sys2Proof.Proofs
open Sys2Proof Sys2Proof.Machine Sys2Proof.Laws

/-- Settles O31, from the orders that each verb places on its drives. -/
theorem driveVerbsComplete : Obligations.DriveVerbsComplete := by
  refine fun s q => ⟨fun o dest tilt h => ?_, fun o h hne hh => stop_orders h hh hne, fun o h hh => ?_, fun h hh hne => ?_,
    fun h hh hne => ?_, fun o h => ?_, fun d h => ?_⟩
  · have hp := (accepted_accept h).ordersPlaced (moveOrder q s.vil.nextId dest tilt) (rangeDrives o)
    refine ⟨_, line_waits h rfl hp nofun, hp.holdsCmd _, ?_, fun d hd => drOf_ordersPlaced_accept hd s q _ _ _ _⟩
    refine mem_pend_ordersPlaced _ _ (P := fun d x => x.cmd = some s.vil.nextId ∧ x.target = moveTarget _ d dest ∧ x.tilt = tilt ∧
      x.stop = false ∧ x.epoch = s.epoch + 1)
      (fun v hv d n => ⟨rfl, moveTarget_congr (congrArg State.cfg hv :) d dest, rfl, rfl, ?_⟩) _ rfl
    have he : v.epoch = _ := (congrArg State.epoch hv :)
    exact congrArg (· + 1) (he.trans (accepted_accept h).epoch)
  · have hacc := accepted_accept h
    obtain ⟨ms, fin, htaken⟩ := stopTaken_halted (many := stopMany o) (ds := stopDrives o s) (q := q) (id := s.vil.nextId)
      ((halted_congr (accept_ana s q (stopSpec o s))).trans hh)
    obtain ⟨t, hexec, hends⟩ := line_ends (f := fun _ => stopTaken q (stopMany o) (stopDrives o s)) (P := fun t => s.endsCmd t q ms fin ∧ t.drv = s.drv)
      h htaken hacc hacc.epoch.le fun t hends hrest _ => ⟨hends, drv_of_unanswered (hrest.trans (unanswered_accept s q _))⟩
    exact ⟨t, ms, fin, (exec_stop q o s).trans hexec, hends⟩
  · have hacc := accepted_accept h
    have htaken := stopTaken_none (many := true) (q := q) (id := s.vil.nextId) ((halted_congr (accept_ana s q (stopSpec none s))).trans hh)
    rw [← (hne : stopDrives none s = [])] at htaken
    exact line_ends (f := fun _ => stopTaken q (stopMany none) (stopDrives none s)) h htaken hacc hacc.epoch.le fun _ hends _ _ => hends
  · obtain ⟨t, hexec, hholds, horders, -⟩ := stop_orders (o := none) h hh hne
    exact ⟨t, hexec, hholds, fun d hd => (horders d hd).imp fun _ ⟨hx, hcmd, hstop⟩ => ⟨hx, hstop, hcmd⟩⟩
  · exact line_effect h rfl fun t hholds hrest => ⟨hholds, drv_of_unanswered hrest⟩
  · have hp := (accepted_accept h).ordersPlaced (learnOrder q s.vil.nextId) [d.val]
    have horder := mem_pend_ordersPlaced (learnOrder q s.vil.nextId) [d.val] (P := fun _ x => x.cmd = some s.vil.nextId ∧ x.learn = true)
      (fun _ _ _ _ => ⟨rfl, rfl⟩) (accept s q (learnSpec d s)) rfl d.val (List.mem_singleton.mpr rfl)
    exact ⟨_, line_waits (u := ordersPlaced (learnOrder q s.vil.nextId) [d.val] _) h rfl hp nofun, hp.holdsCmd _, horder,
      fun e he => drOf_ordersPlaced_accept (mt List.mem_singleton.mp he) s q _ _ _ _⟩

end Sys2Proof.Proofs
end
section
/-!
How the verbs of a session, of its keys and of the lock do at acceptance, and what CANCEL does to another command (R159, R179 to R181,
R186, R217, R245, R248).
-/
namespace Sys2Proof.Laws
open Sys2Proof Sys2Proof.Machine
variable {s t u : State} {fin : String}

/-! ### The commands of a state in which one more is accepted -/

theorem accept_outs (s : State) (q : Hdr) (c : CmdSpec) : (accept s q c).vil.outs = s.vil.outs ++ [outOf s q c] := by
  have h : (okSent s q).vil.outs = s.vil.outs := by rw [okSent, modSes_outs, sendLine_outs, lineHeard_vil]
  exact (outs_of_unheard (unheard_accept s q c)).trans (congrArg (· ++ [outOf s q c]) h)

/-- A command that was outstanding is so beside one that is accepted. -/
theorem findOut_accept {id : Nat} {o : Out} (h : findOut s id = some o) (q : Hdr) (c : CmdSpec) : findOut (accept s q c) id = some o := by
  unfold findOut at h ⊢
  rw [accept_outs, List.find?_append, h, Option.some_or]

/-- Among the commands of a session, but for the one accepted, a tag is found as before. -/
theorem find_outsOf_accept (hids : s.idsOk) (q : Hdr) (c : CmdSpec) (tag : Nat) :
    ((outsOf (accept s q c) q.ses).find? fun o => o.tag = some tag && o.id != s.vil.nextId) = (outsOf s q.ses).find? (·.tag = some tag) := by
  have hold : ∀ o ∈ outsOf s q.ses, (decide (o.tag = some tag) && o.id != s.vil.nextId) = decide (o.tag = some tag) := fun o ho => by
    have hne := Nat.ne_of_lt (hids o (List.mem_filter.mp ho).1)
    simp [hne]
  have hnew : ([outOf s q c].filter fun o => o.ses = q.ses && !o.orphan).find? (fun o => o.tag = some tag && o.id != s.vil.nextId) = none := by
    refine List.find?_eq_none.mpr fun o ho => ?_
    obtain rfl := List.mem_singleton.mp (List.mem_filter.mp ho).1
    simp [outOf]
  rw [outsOf, accept_outs, List.filter_append, List.find?_append, hnew, Option.or_none]
  exact List.find?_congr hold

/-! ### The end of another command -/

/-- An entry changed in nothing by which its command is known. -/
def sameHead (o p : Out) : Prop := p.id = o.id ∧ p.ses = o.ses ∧ p.tag = o.tag ∧ p.orphan = o.orphan

theorem auditsWritten_sameHead (id : Nat) (o : Out) : sameHead o (auditsWritten id o) := by
  unfold auditsWritten
  split <;> exact ⟨rfl, rfl, rfl, rfl⟩

theorem finishOut_outs (s : State) (o : Out) (body : String) : (finishOut s o body).vil.outs = (outDropped s o body).vil.outs := by
  cases h : o.orphan with
  | true => rw [finishOut_orphan h]
  | false => rw [finishOut_heard h, modSes_outs, sendLine_outs]

/-- The commands other than the one that ends stay, but for audit records that are written. -/
theorem outDropped_outs (s : State) (o : Out) (body : String) :
    ∃ f : Out → Out, (∀ p, sameHead p (f p)) ∧ (outDropped s o body).vil.outs = (s.vil.outs.map f).filter fun p => p.id != o.id := by
  unfold outDropped
  dsimp only
  split
  · exact ⟨id, fun _ => ⟨rfl, rfl, rfl, rfl⟩, by rw [List.map_id]⟩
  · exact ⟨auditsWritten o.id, auditsWritten_sameHead _, congrArg _ (auditOut_outs _ _ _)⟩

theorem findOut_finishOut_ne {o p : Out} {n : Nat} (hn : n ≠ o.id) (h : findOut s n = some p) (body : String) :
    ∃ r, findOut (finishOut s o body) n = some r ∧ sameHead p r := by
  obtain ⟨f, hf, houts⟩ := outDropped_outs s o body
  refine ⟨f p, ?_, hf p⟩
  have hpred : ∀ a : Out, ((f a).id != o.id && decide ((f a).id = n)) = decide (a.id = n) := fun a => by
    obtain ⟨e, -⟩ := hf a
    rw [e]
    by_cases ha : a.id = n
    · simp [ha, hn]
    · simp [ha]
  unfold findOut at h ⊢
  rw [finishOut_outs, houts, List.find?_filter, List.find?_map]
  simp only [Function.comp_def, Bool.decide_and, Bool.decide_eq_true, hpred, h, Option.map_some]

/-- The end of another command, on a session other than MACRO, leaves an accepted one accepted. -/
theorem Accepted.finishOther {q : Hdr} {id : Nat} {o : Out} (h : Accepted s u q) (ho : findOut u id = some o) (hm : o.ses ≠ .mac)
    (hne : s.vil.nextId ≠ id) (body : String) : Accepted s (finish u id body) q := by
  have hf : finish u id body = finishOut u o body := by
    unfold finish
    rw [ho]
    exact if_neg hm
  rw [hf]
  refine h.onward (linesKept_finishOut _ _ _) fun p hp => ?_
  obtain ⟨-, hid⟩ := findOut_id ho
  obtain ⟨r, hr, -, hses, htag, horp⟩ := findOut_finishOut_ne (hid.symm ▸ hne) hp body
  exact ⟨r, hr, hses, htag, horp⟩

/-- Where a command that ends is heard, its tag is free again. -/
theorem finishOut_freed {o : Out} (h : o.orphan = false) (s : State) (body : String) :
    (o.tag, s.epoch) ∈ (getSes (finishOut s o body) o.ses).freed := by
  rw [finishOut_heard h, getSes_modSes_self, (linesKept_sendLine _ _ _ _ _ _).epoch, (linesKept_outDropped s o body).epoch]
  exact List.mem_cons_self

/-- A command found and ended is outstanding no more, and where it is heard its tag is free. -/
theorem finish_found {id : Nat} {o : Out} (h : findOut s id = some o) (body : String) :
    (∀ p ∈ (finish s id body).vil.outs, p.id ≠ id) ∧ (o.orphan = false → (o.tag, s.epoch) ∈ (getSes (finish s id body) o.ses).freed) := by
  have hk := finish_of_found h body
  obtain ⟨-, hid⟩ := findOut_id h
  exact ⟨hk.none_of_id (hid ▸ finishOut_gone s o body), fun horp => hk.freed _ (finishOut_freed horp s body)⟩

/-! ### HELLO (R165, R179) -/

/-- A line forced into a form is one line more, and nothing else of the sessions changes. -/
theorem linesKept_sendForced (s : State) (q : Hdr) (cls : Nat) (body : String) : LinesKept s (sendForced s q cls body) := by
  unfold sendForced sendOut
  dsimp only
  split
  · exact .refl s
  · exact linesKept_setSes rfl (fun _ h => mem_outInsert.mpr (.inr h)) (List.Subset.refl _)

theorem sends_sendForced {q : Hdr} (hi : (getSes s q.ses).isOpen = true) (cls : Nat) (body : String) : s.sends (sendForced s q cls body) q cls body := by
  intro hk hm
  unfold sendForced sendOut
  dsimp only
  rw [if_neg (by simp [hi, hm, hk]), getSes_setSes_self]
  exact ⟨_, mem_outInsert.mpr (.inl rfl), rfl, rfl, rfl⟩

theorem sendForced_outs (s : State) (q : Hdr) (cls : Nat) (body : String) : (sendForced s q cls body).vil.outs = s.vil.outs := by
  unfold sendForced sendOut
  dsimp only
  split
  · rfl
  · cases q.ses <;> rfl

theorem linesKept_helloForms (s : State) (k : Sess) (m : LineMode) : LinesKept s (helloForms s k m) := by
  unfold helloForms
  split
  · exact .refl s
  · refine linesKept_outs fun n h => ?_
    simp only [List.map_map, List.mem_map, Function.comp_apply] at h ⊢
    obtain ⟨o, ho, rfl⟩ := h
    exact ⟨o, ho, by split <;> rfl⟩

theorem helloForms_outs_length (s : State) (k : Sess) (m : LineMode) : (helloForms s k m).vil.outs.length = s.vil.outs.length := by
  unfold helloForms
  split
  · rfl
  · exact List.length_map _

/-- What lies beside the sessions and the anatomy changes no line. -/
theorem linesKept_beside (hv : t.vil = s.vil) (ha : t.ana = s.ana) (hn : t.now = s.now) (he : t.epoch = s.epoch) : LinesKept s t := by
  have hses : ∀ k, getSes t k = getSes s k := fun k => by cases k <;> simp only [getSes, hv]
  exact ⟨ha, hn, he, congrArg Vil.rate1 hv, fun k => congrArg _ (hses k), fun k => hses k ▸ List.Subset.refl _, fun k => hses k ▸ List.Subset.refl _,
    hv ▸ List.Subset.refl _⟩

theorem linesKept_lineHeard (s : State) (k : Sess) (n : Nat) : LinesKept s (lineHeard s k n) := by
  unfold lineHeard
  split
  · exact linesKept_beside rfl rfl rfl rfl
  · exact .refl s

/-- HELLO answers with both its lines and sets the session's mode and level. -/
theorem hello_done {q : Hdr} {mode : Option LineMode} {level : Option Nat} (h : s.hears q.ses) (hq : q.ses ≠ .mac)
    (hfail : firstFail s q (helloSpec q mode level) = none) :
    ∃ t, exec (.hello q mode level) s = .next t ∧ (getSes t q.ses).mode = mode.getD (getSes s q.ses).mode ∧
      (getSes t q.ses).level = helloLevel (getSes s q.ses) level ∧ (q.tag, s.epoch) ∈ (getSes t q.ses).freed ∧ s.sends t q 0 "OK" ∧
      t.vil.outs.length = s.vil.outs.length := by
  have hexec : exec (.hello q mode level) s = .next (helloDone s q mode level) := by
    refine congrArg Host.Outcome.next ((if_neg hq).trans ((lineIn_of_hears h).trans ?_))
    rw [hfail]
  obtain ⟨hserved, -⟩ := h
  have hok := sends_sendForced (served_isOpen hserved) (s := s) (q := q) 0 "OK"
  refine ⟨_, hexec, ?_⟩
  unfold helloDone
  extract_lets x m l u v
  have hv : LinesKept s v := (linesKept_sendForced s q _ _).trans (linesKept_sendForced u q _ _)
  have houts : v.vil.outs = s.vil.outs := (sendForced_outs _ _ _ _).trans (sendForced_outs _ _ _ _)
  have hsent : s.sends v q 0 "OK" := (linesKept_sendForced u q _ _).sends hok
  clear_value v
  have hw := (linesKept_helloForms v q.ses m).trans (linesKept_lineHeard (helloForms v q.ses m) q.ses v.now)
  have hmod : LinesKept (lineHeard (helloForms v q.ses m) q.ses v.now) (modSes (lineHeard (helloForms v q.ses m) q.ses v.now) q.ses fun x =>
      { x with mode := m, level := l, active := v.now, freed := (q.tag, v.epoch) :: x.freed }) :=
    linesKept_setSes rfl (List.Subset.refl _) (List.subset_cons_self _ _)
  rw [getSes_modSes_self, modSes_outs, lineHeard_vil, helloForms_outs_length, houts, hv.epoch]
  exact ⟨rfl, rfl, List.mem_cons_self, hv.epoch ▸ (hw.trans hmod).sends hsent, rfl⟩

/-! ### LOGOUT (R181) -/

/-- What LOGOUT does at acceptance. -/
def loggedOut (q : Hdr) (s : State) : State :=
  let r := (getSes s q.ses).role
  let s := keeperEnds (modSes s q.ses fun x => { x with role := none }) q.ses
  let s := { s with sec := { s.sec with exported := tdel s.sec.exported (sesIdx q.ses) } }
  let s := auditAdd s 5 (sesIdx q.ses) (roleNum r) (auditTag q.tag) 0 (sReach s q.ses) "LOGOUT"
  purgeNotices s q.ses

theorem purgeNotices_role (s : State) (k : Sess) : (getSes (purgeNotices s k) k).role = (getSes s k).role := by
  cases k <;> rfl

theorem loggedOut_role (q : Hdr) (s : State) : (getSes (loggedOut q s) q.ses).role = none := by
  unfold loggedOut
  dsimp only
  rw [purgeNotices_role, role_of_unanswered (unanswered_auditAdd _ _ _ _ _ _ _ _)]
  exact (congrArg Session.role (getSes_modSes_self s q.ses _) :)

theorem Accepted.purgeNotices {q : Hdr} (h : Accepted s u q) (k : Sess) : Accepted s (purgeNotices u k) q :=
  Accepted.of_vil (u := modSes u k fun x => { x with nq := x.nq.filter _ }) (h.of_unheard (unheard_modSes fun _ => rfl)) rfl rfl

theorem Accepted.loggedOut {q : Hdr} (h : Accepted s u q) : Accepted s (loggedOut q u) q := by
  have hrole : Accepted s (modSes u q.ses fun x => { x with role := none }) q :=
    h.onward (linesKept_setSes rfl (List.Subset.refl _) (List.Subset.refl _)) fun o ho =>
      ⟨o, by unfold findOut; rw [modSes_outs]; exact ho, rfl, rfl, rfl⟩
  have hkeeper : Accepted s (keeperEnds (modSes u q.ses fun x => { x with role := none }) q.ses) q := hrole.of_vil rfl rfl
  unfold Laws.loggedOut
  dsimp only
  refine Accepted.purgeNotices (Accepted.of_unheard ?_ (unheard_auditAdd _ _ _ _ _ _ _ _)) _
  exact hkeeper.of_vil rfl rfl

/-! ### WAIT, LOCK (R217, R248) -/

theorem epochTick_accept (s : State) (q : Hdr) (c : CmdSpec) (e : Nat) : epochTick (accept s q c) e = epochTick s e :=
  (congrArg (epochTick · e) (unaccepted_accept s q c) :)

/-- The lock asked for and not applied yet (R248). -/
def lockAsked (s : State) : State := { s with sec := { s.sec with lockPend := true } }

theorem queues_lockAsked (h : s.queues (setWork (queueStore u s.vil.nextId .lock) s.vil.nextId (.store .lock fin)) .lock) :
    s.queues (setWork (queueStore (lockAsked u) s.vil.nextId .lock) s.vil.nextId (.store .lock fin)) .lock := h

theorem locked_setWork_lockAsked {id : Nat} {x : Eff} {w : Work} : (setWork (queueStore (lockAsked s) id x) id w).sec.locked = s.sec.locked := rfl

/-! ### CANCEL (R159, R186) -/

/-- What CANCEL does at acceptance. -/
def cancelTaken (q : Hdr) (tag : Nat) (s : State) (id : Nat) : State × Work :=
  match (outsOf s q.ses).find? fun o => o.tag = some tag && o.id != id with
  | none => (s, doneNow "FAIL STATE" s)
  | some o =>
    if waitOver s o then (finish s o.id "DONE", doneNow "FAIL STATE" s)
    else if o.work = .send then sendCancel s o.id id
    else match cancelPlain s o with
      | some s' => (s', doneNow "DONE" s')
      | none => (s, doneNow "FAIL STATE NOCANCEL" s)

theorem exec_cancel (q : Hdr) (tag : Nat) (s : State) :
    exec (.cancel q tag) s = .next (lineIn (.cancel q tag) q s fun v => submit v q (cancelSpec tag) (cancelTaken q tag)) := rfl

section
variable {q : Hdr} {tag id : Nat} {o : Out} {w : Nat} (hf : ((outsOf s q.ses).find? fun o => o.tag = some tag && o.id != id) = some o) (hw : o.work = .wait w)
include hf hw

/-- A WAIT whose boundary has come ends as it would without CANCEL. -/
theorem cancelTaken_over (h : w ≤ s.now) : cancelTaken q tag s id = (finish s o.id "DONE", doneNow "FAIL STATE" s) := by
  have hover : waitOver s o = true := by unfold waitOver; rw [hw]; exact decide_eq_true h
  unfold cancelTaken
  rw [hf]
  exact if_pos hover

theorem cancelTaken_waits (h : s.now < w) :
    cancelTaken q tag s id = (finish s o.id "FAIL CANCELLED", doneNow "DONE" (finish s o.id "FAIL CANCELLED")) := by
  have hover : ¬ waitOver s o = true := by unfold waitOver; rw [hw]; simpa using h
  unfold cancelTaken
  rw [hf]
  refine (if_neg hover).trans ((if_neg (by rw [hw]; exact Work.noConfusion)).trans ?_)
  unfold cancelPlain
  rw [hw]

end

/-- A CANCEL that finds no command of its tag. -/
theorem cancelTaken_none {q : Hdr} {tag id : Nat} (hf : ((outsOf s q.ses).find? fun o => o.tag = some tag && o.id != id) = none) :
    cancelTaken q tag s id = (s, doneNow "FAIL STATE" s) := by
  unfold cancelTaken
  rw [hf]

/-- A CANCEL of a WAIT ends it, and then itself. -/
theorem cancel_ends {q : Hdr} {tag : Nat} {o : Out} {body fin : String} (h : s.takes q (cancelSpec tag)) (hq : q.ses ≠ .mac)
    (hfind : (outsOf s q.ses).find? (·.tag = some tag) = some o) (ho : findOut s o.id = some o)
    (htaken : cancelTaken q tag (accept s q (cancelSpec tag)) s.vil.nextId =
      (finish (accept s q (cancelSpec tag)) o.id body, .reply (accept s q (cancelSpec tag)).epoch [] fin)) :
    ∃ t, exec (.cancel q tag) s = .next t ∧ (∀ p ∈ t.vil.outs, p.id ≠ o.id) ∧
      (o.orphan = false → (some tag, s.epoch) ∈ (getSes t q.ses).freed) ∧ s.endsCmd t q [] fin := by
  obtain ⟨-, hids, -⟩ := id h
  have hacc := accepted_accept h
  have hmem := List.mem_filter.mp (List.mem_of_find?_eq_some hfind)
  have hses : o.ses = q.ses := by simp only [Bool.and_eq_true, decide_eq_true_eq] at hmem; tauto
  have htag : o.tag = some tag := by simpa using List.find?_some hfind
  have hfound := findOut_accept ho q (cancelSpec tag)
  obtain ⟨hgone, hfreed⟩ := finish_found hfound body
  have hne : s.vil.nextId ≠ o.id := (Nat.ne_of_lt (hids o hmem.1)).symm
  rw [htag, hses, hacc.epoch] at hfreed
  rw [exec_cancel]
  exact line_ends (f := fun _ => cancelTaken q tag) h htaken (hacc.finishOther hfound (hses ▸ hq) hne body) hacc.epoch.le fun t hends _ hk =>
    ⟨hk.none_of_id hgone, fun horp => hk.freed _ (hfreed horp), hends⟩

end Sys2Proof.Laws

namespace Sys2Proof.Proofs
open Sys2Proof Sys2Proof.Machine Sys2Proof.Laws

/-- Settles O27, from what each verb does at acceptance. -/
theorem sessionVerbsComplete : Obligations.SessionVerbsComplete := by
  refine fun s q => ⟨fun mode level h hq hfail => ?_, fun r h => ?_, fun r codes h => ?_, fun h => ?_, fun r codes h => ?_, fun h => ?_,
    fun tag h hnone => ?_, fun tag o w h hq hfind ho hw => ?_, fun ms h => ?_⟩
  · exact hello_done h hq hfail
  · have hacc := accepted_accept h
    refine ⟨_, line_waits h rfl hacc nofun, ?_⟩
    rw [hacc.epoch]
    exact hacc.holdsCmd _
  · have hacc := accepted_accept h
    refine ⟨_, line_waits h rfl hacc nofun, ?_⟩
    rw [hacc.epoch]
    exact hacc.holdsCmd _
  · have hacc := (accepted_accept h).loggedOut
    exact line_ends h rfl hacc hacc.epoch.le fun t hends hrest _ => ⟨(role_of_unanswered hrest _).trans (loggedOut_role q _), hends⟩
  · exact line_stores h rfl fun t hholds hqueues ⟨_, hkeys, _⟩ => ⟨hholds, hqueues, hkeys⟩
  · have hlock : Accepted s (lockAsked (accept s q (lockConfigSpec q s))) q := (accepted_accept h).of_vil rfl rfl
    have hrest := unanswered_accept s q (lockConfigSpec q s)
    have hstored := hlock.queueStore s.vil.nextId .lock
    exact ⟨_, line_waits (u := queueStore (lockAsked _) s.vil.nextId .lock) h rfl hstored nofun, hstored.holdsCmd _, rfl,
      locked_setWork_lockAsked.trans (locked_of_unanswered hrest), queues_lockAsked (queues_of_unanswered hrest _ _)⟩
  · obtain ⟨-, hids, -⟩ := id h
    have hacc := accepted_accept h
    exact line_ends h (cancelTaken_none ((find_outsOf_accept hids q (cancelSpec tag) tag).trans hnone)) hacc hacc.epoch.le fun t hends _ _ => hends
  · obtain ⟨-, hids, -⟩ := id h
    have hnow := accept_now s q (cancelSpec tag)
    have hin := (find_outsOf_accept hids q (cancelSpec tag) tag).trans hfind
    obtain hlt | hle := Nat.lt_or_ge s.now w
    · have htaken := cancelTaken_waits hin hw (hnow.symm ▸ hlt)
      rw [doneNow, (linesKept_finish _ _ _).epoch] at htaken
      obtain ⟨t, hexec, hgone, hfreed, hends⟩ := cancel_ends h hq hfind ho htaken
      exact ⟨t, hexec, hgone, hfreed, fun _ => hends, fun hle => absurd hlt (Nat.not_lt.mpr hle)⟩
    · obtain ⟨t, hexec, hgone, hfreed, hends⟩ := cancel_ends h hq hfind ho (cancelTaken_over hin hw (hnow.symm ▸ hle))
      exact ⟨t, hexec, hgone, hfreed, fun hlt => absurd hlt (Nat.not_lt.mpr hle), fun _ => hends⟩
  · have hacc := accepted_accept h
    refine ⟨_, line_waits h rfl hacc nofun, ?_⟩
    rw [hacc.epoch, epochTick_accept]
    exact hacc.holdsCmd _

end Sys2Proof.Proofs
end
section
/-!
What the verbs that report leave alone, and the room of their lines (R123, R183 to R189, R194, R210).
-/
namespace Sys2Proof.Laws
open Sys2Proof Sys2Proof.Machine
variable {s t u : State} {q : Hdr} {c : CmdSpec}

/-- The room of a command's lines is that of its session's mode, which acceptance leaves alone. -/
theorem lineRoom_accept (s : State) (q : Hdr) (c : CmdSpec) : lineRoom (accept s q c) q = lineRoom s q := by
  unfold lineRoom
  rw [mode_of_unanswered (unanswered_accept s q c)]

theorem macroText_congr (h : t.vil.macros = s.vil.macros) (m : Nat) : macroText t m = macroText s m := by
  unfold macroText macroSt
  rw [h]

/-- Acceptance leaves the macros as they are. -/
theorem accept_macros (s : State) (q : Hdr) (c : CmdSpec) : (accept s q c).vil.macros = s.vil.macros := by
  have hses : ∀ (s : State) k x, (setSes s k x).vil.macros = s.vil.macros := fun s k x => by cases k <;> rfl
  have hsend : ∀ (s : State) k tag fr cls body, (sendLine s k tag fr cls body).vil.macros = s.vil.macros := fun s k tag fr cls body => by
    unfold sendLine sendOut
    dsimp only
    split
    · rfl
    · exact hses _ _ _
  have hok : (okSent s q).vil.macros = s.vil.macros := by
    rw [okSent, modSes, hses, hsend, lineHeard_vil]
  have h : (accept s q c).vil.macros = (outPlaced s q c).vil.macros := (congrArg (fun u => u.vil.macros) (unheard_accept s q c) :)
  exact h.trans hok

/-! ### Register reads (R194, R43) -/

/-- What a register read leaves alone. -/
def unread (s : State) : Vil × Nat := (s.vil, s.epoch)

theorem unread_regLatch (s : State) (addr : Nat) : unread (regLatch s addr) = unread s := by
  unfold regLatch
  split
  · rfl
  · split <;> rfl
  · split
    · unfold nextState execPeekLatch
      dsimp only
      split <;> rfl
    · rfl
  · split <;> rfl
  · rfl

theorem unread_jrnPut (s : State) (kind bits : Nat) (words : List Nat) : unread (jrnPut s kind bits words) = unread s := by
  unfold jrnPut
  split <;> rfl

theorem unread_odRead (s : State) (off v : Nat) : unread (odRead s off v).1 = unread s := by
  unfold odRead
  dsimp only
  split_ifs <;> rfl

theorem unread_regRead (s : State) (addr : Nat) : unread (regRead s addr).1 = unread s := by
  have hl := unread_regLatch s addr
  have hod : ∀ v, unread (match regBlock addr with
      | some (11, off, _) => odRead (regLatch s addr) off v
      | _ => (regLatch s addr, v)).1 = unread s := fun v => by
    split
    · exact (unread_odRead _ _ _).trans hl
    · exact hl
  unfold regRead
  dsimp only
  split
  · exact (unread_jrnPut _ _ _ _).trans (hod _)
  · exact hod _

theorem unread_regReads (l : List Nat) (s : State) (acc : List Nat) : unread (regReads l s acc).1 = unread s := by
  induction l generalizing s acc with
  | nil => rfl
  | cons a l ih => exact (ih _ _).trans (unread_regRead s a)

/-- Reads of registers bear on no command. -/
theorem Accepted.regReads (h : Accepted s u q) (l : List Nat) (acc : List Nat) : Accepted s (regReads l u acc).1 q :=
  have hr := unread_regReads l u acc
  h.of_vil (congrArg Prod.fst hr) (congrArg Prod.snd hr)

/-! ### GET and SHOW (R185, R187) -/

/-- A query of an object of WORK0 is answered at once. -/
theorem queryWork_here {o : ObjRange} (h : inWork0 o.kind = true) (s : State) (q : Hdr) (attrs : List String) :
    queryWork s q o attrs = .reply s.epoch (queryLines s (lineRoom s q) o attrs).1 (queryLines s (lineRoom s q) o attrs).2 := if_pos h

/-- A query of another island's object waits for that island. -/
theorem queryWork_away {o : ObjRange} (h : inWork0 o.kind = false) (s : State) (q : Hdr) (attrs : List String) :
    queryWork s q o attrs = .query (s.epoch + 1) o attrs := if_neg (by simp [h])

end Sys2Proof.Laws

namespace Sys2Proof.Proofs
open Sys2Proof Sys2Proof.Machine Sys2Proof.Laws

/-- Settles O28, from the lines of each report. -/
theorem reportVerbsComplete : Obligations.ReportVerbsComplete := by
  refine fun s q => ⟨fun h => ?_, fun h => ?_, fun word h => ?_, fun m h => ?_, fun h => ?_, fun o attrs h haway => ?_, fun o attrs h hhere => ?_,
    fun o aspect h haway => ?_, fun o aspect h hhere => ?_, fun addr count h => ?_, fun what h => ?_⟩
  all_goals have hacc := accepted_accept h
  · exact line_ends h (by rw [← lineRoom_accept s q versionSpec]) hacc hacc.epoch.le fun _ hends _ _ => hends
  · exact line_ends h (by rw [← lineRoom_accept s q statusSpec]) hacc hacc.epoch.le fun _ hends _ _ => hends
  · exact line_ends h rfl hacc hacc.epoch.le fun _ hends _ _ => hends
  · exact line_ends h (by rw [← macroText_congr (accept_macros s q (macroListSpec m))]) hacc hacc.epoch.le fun _ hends _ _ => hends
  · exact line_ends h (by rw [← binds_of_unanswered (unanswered_accept s q onListSpec)]) hacc hacc.epoch.le fun _ hends _ _ => hends
  · refine ⟨_, line_waits h (congrArg (Prod.mk _) (queryWork_away haway _ _ _)) hacc nofun, ?_⟩
    rw [hacc.epoch]
    exact hacc.holdsCmd _
  · exact line_ends h (by rw [← lineRoom_accept s q (getAttrSpec o attrs), queryWork_here hhere]) hacc hacc.epoch.le fun _ hends _ _ => hends
  · refine ⟨_, line_waits h (congrArg (Prod.mk _) (queryWork_away haway _ _ _)) hacc nofun, ?_⟩
    rw [hacc.epoch]
    exact hacc.holdsCmd _
  · exact line_ends h (by rw [← lineRoom_accept s q (showObjSpec o aspect), queryWork_here hhere]) hacc hacc.epoch.le fun _ hends _ _ => hends
  · have hread := hacc.regReads (regAddrs addr.toNat (max 1 (min 16 count))) []
    exact line_ends h rfl hread hread.epoch.le fun _ hends _ _ => hends
  · refine ⟨_, _, _, _, line_waits h rfl hacc nofun, hacc.holdsCmd _, ?_⟩
    cases what with
    | ring | audit => rfl
    | slot n =>
      dsimp only
      cases slotValid (accept s q (exportDataSpec q (.slot n) s)) n.val <;> rfl

end Sys2Proof.Proofs
end
section
/-!
What the verbs that change attributes, latches and macros do at acceptance (R175, R188, R204, R214, R258).
-/
namespace Sys2Proof.Laws
open Sys2Proof Sys2Proof.Machine
variable {s t u : State} {q : Hdr} {l : Pairs}

/-! ### Step 9 of a SET -/

/-- A command that passes every check passes step 9. -/
theorem takes_p9 {c : CmdSpec} (h : s.takes q c) : c.p9 = none := by
  obtain ⟨-, -, hfail⟩ := h
  cases hp : c.p9 with
  | none => rfl
  | some e =>
    simp only [firstFail, hp] at hfail
    repeat' split at hfail
    all_goals cases hfail

/-- The first of conditions that none of them meets. -/
theorem firstOf_none {l : List (Bool × String)} (h : firstOf l = none) : ∀ p ∈ l, p.1 = false := by
  induction l with
  | nil => exact fun _ hp => absurd hp List.not_mem_nil
  | cons a l ih =>
    obtain ⟨b, e⟩ := a
    cases b with
    | true => exact absurd h (Option.some_ne_none e)
    | false =>
      intro p hp
      obtain rfl | hp := List.mem_cons.mp hp
      · rfl
      · exact ih h p hp

/-- A SET that passes step 9 names no attributes that are read only. -/
theorem writable_of_takes {o : ObjRange} {pairs : List (String × Tok)} (hl : chkOk (readPairs s (rangeObjs o) pairs) = some l)
    (h : s.takes q (setSpec q o pairs s)) : ∀ p ∈ l, pairRo p.1.1 p.1.2 = false := by
  have h9 : setStep9 s q ((chkOk (readPairs s (rangeObjs o) pairs)).getD []) = none := takes_p9 h
  rw [hl] at h9
  have hro := firstOf_none h9 (l.any fun p => pairRo p.1.1 p.1.2, "RO") (by simp)
  exact fun p hp => by simpa using (List.any_eq_false.mp hro) p hp

/-! ### Values that act and are not held (R175, R272, R344, R345) -/

/-- The kinds of the objects whose values a SET writes at acceptance. -/
def swiftKinds : List ObjKind := [.session, .macroObj, .bus, .filter, .point, .lan, .seg, .onObj, .macrosObj, .chan, .counter]

/-- Such an object's attributes persist, are read only, or act and are not held. -/
theorem swiftKinds_attrs : ∀ k ∈ swiftKinds, ∀ d ∈ attrsOf k, d.persists = true ∨ d.role = none ∨ liveAttr ⟨k, 0⟩ d.name = true := by decide

theorem attrDef_mem {k : ObjKind} {a : String} {d : AttrDef} (h : attrDef k a = some d) : d.persists = true ∨ d ∈ attrsOf k ∧ d.name = a := by
  unfold attrDef at h
  split at h
  · next hf =>
    obtain rfl := Option.some.inj h
    exact .inr ⟨List.mem_of_find?_eq_some hf, by simpa using List.find?_some hf⟩
  · split at h
    · split at h
      · obtain rfl := Option.some.inj h
        exact .inl rfl
      · cases h
    · cases h

/-- Of such an object's attributes, one that neither persists nor is read only acts and is not held. -/
theorem liveAttr_of_swift {o : Obj} {a : String} (hk : o.kind ∈ swiftKinds) (hp : attrPersists o a = false) (hr : pairRo o a = false) :
    liveAttr o a = true := by
  unfold attrPersists at hp
  unfold pairRo at hr
  cases hd : attrDef o.kind a with
  | none => rw [hd] at hp; cases hp
  | some d =>
    rw [hd] at hp hr
    obtain hper | ⟨hmem, rfl⟩ := attrDef_mem hd
    · exact absurd hper (by simp [hp])
    · obtain hper | hrole | hlive := swiftKinds_attrs o.kind hk d hmem
      · exact absurd hper (by simp [hp])
      · exact absurd hr (by simp [hrole])
      · exact hlive

/-- What a value that acts leaves alone. -/
def unacted (s : State) : Cfg × Vil × Nat := (s.cfg, s.vil, s.epoch)

theorem unacted_setOd (s : State) (n : Nat) (on : Bool) : unacted (setOd s n on) = unacted s := by
  cases on <;> rfl

theorem unacted_liveSet (s : State) (o : Obj) (v : Val) : unacted (liveSet s o v) = unacted s := by
  unfold liveSet
  split
  · rfl
  · exact unacted_setOd _ _ _
  · rfl
  · rfl
  · rfl
  · rfl
  · rfl

section
variable (hk : ∀ p ∈ l, p.1.1.kind ∈ swiftKinds) (hp : ∀ p ∈ l, attrPersists p.1.1 p.1.2 = false) (hr : ∀ p ∈ l, pairRo p.1.1 p.1.2 = false)
include hk hp hr

theorem unacted_pairs (s : State) : unacted (l.foldl pairSet s) = unacted s := by
  induction l generalizing s with
  | nil => rfl
  | cons p l ih =>
    have hlive := liveAttr_of_swift (hk p List.mem_cons_self) (hp p List.mem_cons_self) (hr p List.mem_cons_self)
    have hone : unacted (pairSet s p) = unacted s := by
      unfold pairSet
      dsimp only
      rw [if_pos hlive]
      exact unacted_liveSet _ _ _
    exact (ih (fun x hx => hk x (List.mem_cons_of_mem _ hx)) (fun x hx => hp x (List.mem_cons_of_mem _ hx))
      (fun x hx => hr x (List.mem_cons_of_mem _ hx)) _).trans hone

/-- The values of such a line act, and the configuration and the command processor stay as they are. -/
theorem unacted_pairsSet (s : State) : unacted (pairsSet s l) = unacted s := by
  have hback : backupChange (ctLine s) l = ctLine s := by
    have hnone : lineVal l pwrObj "BACKUP" = none := by
      unfold lineVal
      rw [Option.map_eq_none_iff, List.find?_eq_none]
      intro p hmem e
      have hper := hp p hmem
      rw [show p.1 = (pwrObj, "BACKUP") by simpa using e] at hper
      revert hper
      decide
    unfold backupChange
    rw [hnone]
  have hset : unacted (l.foldl pairSet (ctLine s)) = unacted s := unacted_pairs hk hp hr _
  have hcfg : cfgAfter s (l.foldl pairSet (ctLine s)) = l.foldl pairSet (ctLine s) := if_pos (congrArg Prod.fst hset).symm
  have hany : (l.any fun p => attrPersists p.1.1 p.1.2) = false := List.any_eq_false.mpr fun p hmem => by simp [hp p hmem]
  have hzone : ∀ t (p : (Obj × String) × Val), unacted (if p.1.1.kind = .zone && p.1.2 = "OVERRIDE" then overrideSet t p.1.1.n else t) = unacted t :=
    fun t p => by split <;> rfl
  unfold pairsSet
  dsimp only
  rw [hback, hcfg, hany]
  exact (foldl_keeps unacted hzone l _).trans hset

theorem Accepted.pairsSet (h : Accepted s u q) : Accepted s (pairsSet u l) q :=
  have e := unacted_pairsSet hk hp hr u
  h.of_vil (congrArg (fun x => x.2.1) e :) (congrArg (fun x => x.2.2) e :)

end

/-! ### SET (R188) -/

theorem exec_setAttr {o : ObjRange} {pairs : List (String × Tok)} (hl : chkOk (readPairs s (rangeObjs o) pairs) = some l) (hq : s.hears q.ses)
    (ha : ackAlone o pairs l = none) : exec (.setAttr q o pairs) s =
      .next (lineIn (.setAttr q o pairs) q s fun v => submit v q (setSpec q o pairs v) fun a id => setWorkFor a id l) := by
  refine congrArg Host.Outcome.next ((lineIn_of_hears hq).trans (Eq.trans ?_ (lineIn_of_hears hq).symm))
  dsimp only
  rw [hl, Option.getD_some, ha]

section
variable {id : Nat}

theorem setWorkFor_heavy (h : setHeavy s l = true) : setWorkFor s id l = (auxRequest s .manual (some id), .aux l) := if_pos h

variable (h : setHeavy s l = false)
include h

theorem setWorkFor_persists (hp : (l.any fun p => attrPersists p.1.1 p.1.2) = true) :
    setWorkFor s id l = (queueStore s id (.attrs l), .store (.attrs l) "DONE") :=
  (if_neg (by simp [h])).trans (if_pos hp)

variable (hp : (l.any fun p => attrPersists p.1.1 p.1.2) = false)
include hp

theorem setWorkFor_counters (hc : (l.all fun p => p.1.1.kind = .counter) = true) :
    setWorkFor s id l = (pairsSet s l, .reply (s.epoch + if blockS s 7 then 2 else 1) [] "DONE") := by
  unfold setWorkFor
  rw [h, hp, hc]
  rfl

variable (hc : (l.all fun p => p.1.1.kind = .counter) = false)
include hc

theorem setWorkFor_elsewhere (hh : setHere s l = false) : setWorkFor s id l = (s, .effect (s.epoch + 1) (.attrs l) "DONE") := by
  unfold setWorkFor
  rw [h, hp, hc, hh]
  rfl

theorem setWorkFor_tripped (hh : setHere s l = true) (ht : tripBlocks s l s.epoch = true) : setWorkFor s id l = (s, doneNow "FAIL STATE TRIPPED" s) := by
  unfold setWorkFor
  rw [h, hp, hc, hh, ht]
  rfl

theorem setWorkFor_here (hh : setHere s l = true) (ht : tripBlocks s l s.epoch = false) :
    setWorkFor s id l = (pairsSet s l, doneNow "DONE" (pairsSet s l)) := by
  unfold setWorkFor
  rw [h, hp, hc, hh, ht]
  rfl

end

theorem swift_of_counters (h : (l.all fun p => p.1.1.kind = .counter) = true) : ∀ p ∈ l, p.1.1.kind ∈ swiftKinds := fun p hp => by
  have hk : p.1.1.kind = .counter := by simpa using List.all_eq_true.mp h p hp
  rw [hk]
  decide

theorem swift_of_setHere (h : setHere s l = true) : ∀ p ∈ l, p.1.1.kind ∈ swiftKinds := fun p hp => by
  have hk := List.all_eq_true.mp h p hp
  rw [Bool.or_eq_true, Bool.and_eq_true, decide_eq_true_eq] at hk
  obtain hin | ⟨hchan, -⟩ := hk
  · exact List.mem_append_left [.chan, .counter] (List.contains_iff_mem.mp hin)
  · rw [hchan]
    decide

theorem waits_reply {n e : Nat} {ms : List String} {fin : String} (h : n < e) : waits n (.reply e ms fin) := by
  rintro _ _ _ ⟨⟩
  exact h

theorem blockS_accept (s : State) (q : Hdr) (c : CmdSpec) (n : Nat) : blockS (accept s q c) n = blockS s n :=
  (congrArg (fun u => blockS u n) (unanswered_accept s q c) :)

/-- A line of SET whose values persist or ask for leave, or that its island takes at the next boundary or later. -/
theorem set_waits {o : ObjRange} {pairs : List (String × Tok)} (hl : chkOk (readPairs s (rangeObjs o) pairs) = some l)
    (h : s.takes q (setSpec q o pairs s)) (ha : ackAlone o pairs l = none) {w : Work}
    (hf : setWorkFor (accept s q (setSpec q o pairs s)) s.vil.nextId l = (u, w)) (hu : Accepted s u q) (hw : waits s.epoch w) :
    exec (.setAttr q o pairs) s = .next (setWork u s.vil.nextId w) :=
  (exec_setAttr hl h.1 ha).trans (line_waits (f := fun _ a id => setWorkFor a id l) h hf hu hw)

theorem accepted_auxRequest (h : Accepted s u q) (cls : LClass) (cmd : Option Nat) : Accepted s (auxRequest u cls cmd) q := h.of_vil rfl rfl

/-- SET AUX=on posts its request (R188). -/
theorem auxRequest_posted (s : State) (cls : LClass) (cmd : Option Nat) (id : Nat) (w : Work) :
    (setWork (auxRequest s cls cmd) id w).lve.posted.length = s.lve.posted.length + 1 := List.length_append

theorem auxRequest_cfg (s : State) (cls : LClass) (cmd : Option Nat) (id : Nat) (w : Work) : (setWork (auxRequest s cls cmd) id w).cfg = s.cfg := rfl

theorem armed_of_unanswered (h : unanswered t = unanswered s) : t.tst.armed = s.tst.armed := (congrArg (fun u => u.tst.armed) h :)

/-! ### ACK (R204) -/

theorem Accepted.notify (h : Accepted s u q) (n : String) (o : Option Obj) (a : String) : Accepted s (notify u n o a) q :=
  h.of_unheard (unheard_notify _ _ _ _)

theorem Accepted.latchClears (h : Accepted s u q) (o : TripOut) : Accepted s (latchClears u o) q := by
  unfold Machine.latchClears
  dsimp only
  refine Accepted.notify ?_ _ _ _
  cases o with
  | feed f => exact h.of_vil rfl rfl
  | port p => exact h.of_vil rfl rfl

/-- What keeps an accepted command for each of a list keeps it for all of them. -/
theorem Accepted.foldl {α : Type} {f : State → α → State} (hf : ∀ v a, Accepted s v q → Accepted s (f v a) q) (as : List α) (h : Accepted s u q) :
    Accepted s (as.foldl f u) q := by
  induction as generalizing u with
  | nil => exact h
  | cons a as ih => exact ih (hf u a h)

theorem Accepted.ackOne (h : Accepted s u q) (p : Obj × String) : Accepted s (ackOne u p) q := by
  unfold Machine.ackOne
  split_ifs
  · exact Accepted.foldl (fun _ o hv => hv.latchClears o) _ h
  · exact h.of_vil rfl rfl
  · exact h.of_vil rfl rfl
  · exact h.of_vil rfl rfl
  · unfold lanAck
    refine Accepted.notify ?_ _ _ _
    exact h.of_vil rfl rfl
  · exact h

theorem Accepted.ackApply (h : Accepted s u q) (o : Obj) (fault : Option String) : Accepted s (ackApply u o fault) q :=
  Accepted.foldl (fun _ p hv => hv.ackOne p) _ h

/-- ACK of an object of WORK0, and of another island's. -/
def ackTaken (o : Obj) (fault : Option String) (s : State) (_id : Nat) : State × Work :=
  if inWork0 o.kind then (ackApply s o fault, doneNow "DONE" (ackApply s o fault)) else (s, .effect (s.epoch + 1) (.ack o fault) "DONE")

theorem exec_ack (q : Hdr) (o : Obj) (fault : Option String) (s : State) :
    exec (.ack q o fault) s = .next (lineIn (.ack q o fault) q s fun v => submit v q (ackSpec q o fault v) (ackTaken o fault)) := rfl

/-! ### MACRO RUN (R214, R215) -/

theorem macroSt_congr (h : t.vil.macros = s.vil.macros) (m : Nat) : macroSt t m = macroSt s m := by unfold macroSt; rw [h]

theorem runningMacros_congr (h : t.vil.macros = s.vil.macros) : runningMacros t = runningMacros s := by unfold runningMacros; rw [h]

/-- A command found by its number is found by its number and its work. -/
theorem find_work {id : Nat} {o : Out} (h : findOut s id = some o) (w : Work) (hw : o.work = w) :
    (s.vil.outs.find? fun p => p.id = id && p.work = w) = some o := by
  obtain ⟨hid, as, bs, houts, hne⟩ := List.find?_eq_some_iff_append.mp h
  refine List.find?_eq_some_iff_append.mpr ⟨?_, as, bs, houts, fun a ha => ?_⟩
  · simpa [hw] using hid
  · have hne := hne a ha
    simp only [Bool.not_eq_true'] at hne
    simp only [hne, Bool.false_and, Bool.not_false]

/-- One of the macros that has lines and may run starts (R215). -/
theorem macroStart_runs {m : Nat} {cmd : Option Nat} (hrun : (macroSt s m).running = false) (hpend : (macroSt s m).pend = false)
    (hfew : runningMacros s < 8) (htext : macroText s m ≠ []) : macroStart s m cmd =
      (setMacro s m { macroSt s m with running := true, line := 1, awaiting := false, runs := satInc 65535 (macroSt s m).runs, cmd := cmd }, true) := by
  unfold macroStart
  dsimp only
  rw [hrun, hpend, List.isEmpty_eq_false_iff.mpr htext, if_pos (by simp [hfew])]
  rfl

theorem macroSt_setMacro_self (s : State) (m : Nat) (x : MacroSt) : macroSt (setMacro s m x) m = x := tget_tset_self _ _ _ _

/-- The state of the macros bears on no command. -/
theorem holdsCmd_setMacro {w : Work} (h : s.holdsCmd t q w) (m : Nat) (x : MacroSt) : s.holdsCmd (setMacro t m x) q w := by
  obtain ⟨hok, hout⟩ := h
  have hk : LinesKept t (setMacro t m x) := linesKept_vil (fun k => by cases k <;> rfl) rfl (List.Subset.refl _)
  exact ⟨hk.sends hok, hout⟩

/-- A MACRO RUN that may start its run does so, and its command waits for the run's end. -/
theorem exec_macroRun_starts {m : Fin 64} (h : s.takes q (macroRunSpec m)) (hrun : (macroSt s m).running = false) (hpend : (macroSt s m).pend = false)
    (hfew : runningMacros s < 8) (htext : macroText s m ≠ []) : exec (.macroRun q m) s =
      .next (setMacro (setWork (accept s q (macroRunSpec m)) s.vil.nextId (.macroRun m)) m
        { macroSt s m with running := true, line := 1, awaiting := false, runs := satInc 65535 (macroSt s m).runs, cmd := some s.vil.nextId }) := by
  have hacc := accepted_accept h
  obtain ⟨o, ho, -⟩ := hacc.out
  have hfound := findOut_setWork_self ho (.macroRun m)
  have hsub : submit s q (macroRunSpec m) (fun a _ => (a, .macroRun m)) = setWork (accept s q (macroRunSpec m)) s.vil.nextId (.macroRun m) :=
    (submit_of_takes h).trans (settle_of_work hfound fun _ _ _ => Work.noConfusion)
  have hmac : (setWork (accept s q (macroRunSpec m)) s.vil.nextId (.macroRun m)).vil.macros = s.vil.macros := accept_macros s q _
  have hst : macroSt (setWork (accept s q (macroRunSpec m)) s.vil.nextId (.macroRun m)) m = macroSt s m := macroSt_congr hmac m
  have hcount : runningMacros (setWork (accept s q (macroRunSpec m)) s.vil.nextId (.macroRun m)) = runningMacros s :=
    runningMacros_congr hmac
  refine congrArg Host.Outcome.next ((lineIn_of_hears h.1).trans ?_)
  dsimp only
  rw [hsub, find_work hfound _ rfl]
  dsimp only
  rw [macroStart_runs (hst ▸ hrun) (hst ▸ hpend) (hcount ▸ hfew) (macroText_congr hmac m ▸ htext), if_pos rfl, hst, (findOut_id ho).2]

end Sys2Proof.Laws

namespace Sys2Proof.Proofs
open Sys2Proof Sys2Proof.Machine Sys2Proof.Laws

/-- Settles O29, from what each verb does at acceptance. -/
theorem changeVerbsComplete : Obligations.ChangeVerbsComplete := by
  refine fun s q => ⟨fun o pairs l hl h ha => ⟨fun hheavy => ?_, fun hlight hper => ?_, fun hlight hper hc => ?_,
      fun hlight hper hc => ⟨fun haway => ?_, fun hhere htrip => ?_, fun hhere htrip => ?_⟩⟩,
    fun o pairs n hq ha => ?_, fun o h => ?_, fun h => ?_, fun addr value mask m h hm => ?_, fun n h => ?_, fun n h => ?_, fun o f h haway => ?_,
    fun o f h hhere => ?_, fun h => ?_, fun y mo d hr mi sec u h => ?_, fun m line h => ?_, fun m h => ?_, fun ev ob m h => ?_, fun ev ob h => ?_,
    fun m h hrun hpend hfew htext => ?_⟩
  · have hacc := accepted_auxRequest (accepted_accept h) .manual (some s.vil.nextId)
    have hrest := unanswered_accept s q (setSpec q o pairs s)
    refine ⟨_, set_waits hl h ha (setWorkFor_heavy hheavy) hacc nofun, hacc.holdsCmd _, ?_, ?_⟩
    · rw [auxRequest_posted, lve_of_unanswered hrest]
    · rw [auxRequest_cfg, cfg_of_unanswered hrest]
  · rw [exec_setAttr hl h.1 ha]
    exact line_stores (f := fun _ a id => setWorkFor a id l) h (setWorkFor_persists hlight hper) fun t hholds hqueues ⟨hcfg, _⟩ => ⟨hholds, hqueues, hcfg⟩
  · have hnone := fun p hp => by simpa using List.any_eq_false.mp hper p hp
    have hacc := (accepted_accept h).pairsSet (swift_of_counters hc) hnone (writable_of_takes hl h)
    have hw := setWorkFor_counters (id := s.vil.nextId) hlight hper hc
    rw [(accepted_accept h).epoch, blockS_accept] at hw
    exact ⟨_, set_waits hl h ha hw hacc (waits_reply (by split <;> omega)), hacc.holdsCmd _⟩
  · rw [exec_setAttr hl h.1 ha]
    exact line_effect (f := fun _ a id => setWorkFor a id l) h (setWorkFor_elsewhere hlight hper hc haway) fun t hholds hrest =>
      ⟨hholds, cfg_of_unanswered hrest⟩
  · have hacc := accepted_accept h
    rw [exec_setAttr hl h.1 ha]
    exact line_ends (f := fun _ a id => setWorkFor a id l) h (setWorkFor_tripped hlight hper hc hhere (hacc.epoch.symm ▸ htrip)) hacc hacc.epoch.le
      fun t hends hrest _ => ⟨hends, cfg_of_unanswered (hrest.trans (unanswered_accept s q _))⟩
  · have hnone := fun p hp => by simpa using List.any_eq_false.mp hper p hp
    have hacc := (accepted_accept h).pairsSet (swift_of_setHere hhere) hnone (writable_of_takes hl h)
    rw [exec_setAttr hl h.1 ha]
    exact line_ends (f := fun _ a id => setWorkFor a id l) h (setWorkFor_here hlight hper hc hhere ((accepted_accept h).epoch.symm ▸ htrip)) hacc
      hacc.epoch.le fun t hends _ _ => hends
  · refine congrArg Host.Outcome.next ((lineIn_of_hears hq).trans (Eq.trans ?_ (lineIn_of_hears hq).symm))
    dsimp only
    rw [ha]
  · exact line_stores h rfl fun t hholds hqueues ⟨hcfg, _⟩ => ⟨hholds, hqueues, hcfg⟩
  · exact line_stores h rfl fun t hholds hqueues ⟨hcfg, _⟩ => ⟨hholds, hqueues, hcfg⟩
  · refine line_effect h ?_ fun t hholds _ => hholds
    rw [hm]
    cases mask <;> rfl
  · exact line_effect h rfl fun t hholds _ => hholds
  · exact line_effect h rfl fun t hholds _ => hholds
  · rw [exec_ack]
    exact line_effect (f := fun _ => ackTaken o f) h (if_neg (by simp [haway])) fun t hholds _ => hholds
  · have hacc := (accepted_accept h).ackApply o f
    rw [exec_ack]
    exact line_ends (f := fun _ => ackTaken o f) h (if_pos hhere) hacc hacc.epoch.le fun t hends _ _ => hends
  · exact line_effect h rfl fun t hholds hrest => ⟨hholds, armed_of_unanswered hrest⟩
  · exact line_effect h rfl fun t hholds _ => hholds
  · exact exists_comm.mp ⟨(roleFor (accept s q (macroAddSpec q m line s)) q).getD .installer,
      line_stores h rfl fun t hholds hqueues _ => ⟨hqueues, hholds⟩⟩
  · exact exists_comm.mp ⟨(roleFor (accept s q (macroClearSpec m s)) q).getD .installer,
      line_stores h rfl fun t hholds hqueues _ => ⟨hqueues, hholds⟩⟩
  · exact line_stores h rfl fun t hholds hqueues ⟨_, _, hbinds⟩ => ⟨hholds, hqueues, hbinds⟩
  · exact line_stores h rfl fun t hholds hqueues ⟨_, _, hbinds⟩ => ⟨hholds, hqueues, hbinds⟩
  · exact ⟨_, exec_macroRun_starts h hrun hpend hfew htext, holdsCmd_setMacro ((accepted_accept h).holdsCmd _) _ _,
      congrArg MacroSt.running (macroSt_setMacro_self _ _ _), congrArg MacroSt.line (macroSt_setMacro_self _ _ _),
      congrArg MacroSt.cmd (macroSt_setMacro_self _ _ _)⟩

end Sys2Proof.Proofs
end
section
/-!
What the rows do that end roles, challenges, blocks and store writes, and that start and go on with macros (R176, R214, R216, R217, R244,
R245, R247, R248).
-/
namespace Sys2Proof.Laws
open Sys2Proof Sys2Proof.Machine
variable {s t u : State}

/-! ### The end of a role (R247) -/

theorem getSes_notifyAt (s : State) (e : Nat) (n : String) (o : Option Obj) (a : String) (k : Sess) : getSes (notifyAt s e n o a) k = getSes s k := by
  cases k <;> rfl

/-- A role that ends is a role no more, whatever notice tells it. -/
theorem roleEnd_role (s : State) (k : Sess) (reason : String) : (getSes (roleEnd s k reason) k).role = none := by
  unfold roleEnd
  split
  · assumption
  · have hnone : ∀ c : Sec, (getSes { keeperEnds (modSes s k fun x => { x with role := none }) k with sec := c } k).role = none := fun c =>
      (congrArg Session.role (getSes_modSes_self s k fun x => { x with role := none }) :)
    dsimp only
    split
    · rw [getSes_notifyAt, purgeNotices_role, role_of_unanswered (unanswered_auditAdd _ _ _ _ _ _ _ _)]
      exact hnone _
    · rw [role_of_unanswered (unanswered_notify _ _ _ _), purgeNotices_role, role_of_unanswered (unanswered_auditAdd _ _ _ _ _ _ _ _)]
      exact hnone _

/-- The store writes that wait and the keys, which the end of a role leaves alone. -/
def writesAndKeys (s : State) : List StoreWrite × Tbl (BitVec 256) := (s.vil.writes, s.sec.keys)

theorem writesAndKeys_of_unanswered (h : unanswered t = unanswered s) : writesAndKeys t = writesAndKeys s :=
  congrArg₂ Prod.mk (writes_of_unanswered h) (keys_of_unanswered h)

theorem writesAndKeys_setSes (s : State) (k : Sess) (x : Session) : writesAndKeys (setSes s k x) = writesAndKeys s := by cases k <;> rfl

theorem writesAndKeys_roleEnd (s : State) (k : Sess) (reason : String) : writesAndKeys (roleEnd s k reason) = writesAndKeys s := by
  have hpurge : ∀ s, writesAndKeys (purgeNotices s k) = writesAndKeys s := fun s => writesAndKeys_setSes s k _
  have hadd : ∀ (s : State) (kind ses role tag result : Nat) (reach : Bool) (text : String),
      writesAndKeys (auditAdd s kind ses role tag result reach text) = writesAndKeys s :=
    fun _ _ _ _ _ _ _ _ => writesAndKeys_of_unanswered (unanswered_auditAdd _ _ _ _ _ _ _ _)
  have hnone : writesAndKeys (modSes s k fun x => { x with role := none }) = writesAndKeys s := writesAndKeys_setSes s k _
  unfold roleEnd
  split
  · rfl
  · dsimp only
    split
    · exact (hpurge _).trans ((hadd _ _ _ _ _ _ _ _).trans hnone)
    · exact (writesAndKeys_of_unanswered (unanswered_notify _ _ _ _)).trans ((hpurge _).trans ((hadd _ _ _ _ _ _ _ _).trans hnone))

theorem exec_roleInactivityExpiry {k : Sess} {r : Role} {n : Nat} (hk : k ≠ .mac) (hr : (getSes s k).role = some r) (ho : outsOf s k = [])
    (hn : idleLimit s r = some n) : exec (.roleInactivityExpiry k) s =
      .next (if (getSes s k).active + n ≤ epochTick s s.epoch then roleEnd s k "INACTIVE" else s) := by
  refine congrArg Host.Outcome.next ?_
  rw [hr]
  dsimp only
  rw [ho, if_neg (by simp [hk]), hn]

/-! ### Store writes (R176) -/

/-- The write in progress is the first where none has ended. -/
theorem writeEnds_head {w : StoreWrite} {l : List StoreWrite} (hw : s.vil.writes = w :: l) (hn : w.ok = none) (ok : Bool) :
    writeEnds s ok = { s with vil := { s.vil with writes := { w with ok := some ok } :: l } } := by
  unfold writeEnds
  dsimp only
  rw [hw, List.takeWhile_cons_of_neg (by simp [hn])]
  rfl

theorem writing_head {w : StoreWrite} {l : List StoreWrite} (hw : s.vil.writes = w :: l) (hn : w.ok = none) : writing s = true := by
  unfold writing
  rw [hw, List.any_cons, hn]
  rfl

/-- Writes that have not ended change nothing. -/
theorem writesTake_waiting (h : ∀ x ∈ s.vil.writes, x.ok = none) (n : Nat) : writesTake n s = s := by
  cases n with
  | zero => rfl
  | succ n =>
    unfold writesTake
    split
    · rfl
    · next w l hw =>
      rw [h w (hw ▸ List.mem_cons_self)]

/-- What a write that has ended does. -/
def writeTaken (id : Nat) (x : Eff) (ok : Bool) (s : State) : State := if ok then storeDone s id x else storeFailed s id x

/-- The record of the boundary at which a write has ended, which waits no more. -/
def writeGone (s : State) (l : List StoreWrite) (ok : Bool) : State := storeRecord { s with vil := { s.vil with writes := l } } ok

theorem writesTake_ended {w : StoreWrite} {l : List StoreWrite} {ok : Bool} (n : Nat) (hw : s.vil.writes = w :: l) (ho : w.ok = some ok) :
    writesTake (n + 1) s = writesTake n (writeTaken w.id w.eff ok (writeGone s l ok)) := by
  rw [writesTake, hw]
  dsimp only
  rw [ho]
  rfl

theorem writeGone_self (s : State) (l m : List StoreWrite) (ok : Bool) : writeGone { s with vil := { s.vil with writes := m } } l ok = writeGone s l ok :=
  rfl

/-- At a boundary the write that ends takes effect, and the others wait on where their list is left alone. -/
theorem storeWrite_takes {w : StoreWrite} {l : List StoreWrite} {ok : Bool} (hc : coreRuns s = true) (hp : s.pwr.committed = false)
    (hw : s.vil.writes = w :: l) (hn : w.ok = none) (hl : ∀ x ∈ l, x.ok = none) (hb : s.now = epochTick s s.epoch)
    (hkeep : (writeTaken w.id w.eff ok (writeGone s l ok)).vil.writes = l) :
    exec (.storeWriteComplete ok) s = .next (writeTaken w.id w.eff ok (writeGone s l ok)) := by
  refine congrArg Host.Outcome.next ((if_neg (by simp [hc, hp, writing_head hw hn])).trans ?_)
  rw [writeEnds_head hw hn]
  refine (if_pos hb).trans ((writesTake_ended l.length rfl rfl).trans ?_)
  rw [writeGone_self]
  exact writesTake_waiting (by rw [hkeep]; exact hl) l.length

theorem storeWrite_waits {w : StoreWrite} {l : List StoreWrite} {ok : Bool} (hc : coreRuns s = true) (hp : s.pwr.committed = false)
    (hw : s.vil.writes = w :: l) (hn : w.ok = none) (hb : s.now ≠ epochTick s s.epoch) :
    exec (.storeWriteComplete ok) s = .next { s with vil := { s.vil with writes := { w with ok := some ok } :: l } } := by
  refine congrArg Host.Outcome.next ((if_neg (by simp [hc, hp, writing_head hw hn])).trans ?_)
  rw [writeEnds_head hw hn]
  exact if_neg hb

/-- The record of a write changes the journal alone. -/
theorem storeRecord_frame (s : State) (ok : Bool) : storeRecord s ok = { s with jrn := (storeRecord s ok).jrn } := by
  unfold storeRecord jrnPut
  dsimp only
  split <;> rfl

theorem storeRecord_storeSeq (s : State) (ok : Bool) : (storeRecord s ok).jrn.storeSeq = s.jrn.storeSeq + 1 := by
  unfold storeRecord jrnPut
  dsimp only
  split <;> rfl

theorem writeGone_writes (s : State) (l : List StoreWrite) (ok : Bool) : (writeGone s l ok).vil.writes = l := by
  rw [writeGone, storeRecord_frame]

theorem writeGone_rest (s : State) (l : List StoreWrite) (ok : Bool) : (writeGone s l ok).cfg = s.cfg ∧
    (writeGone s l ok).sec.locked = s.sec.locked ∧ (writeGone s l ok).sec.keys = s.sec.keys := by
  rw [writeGone, storeRecord_frame]
  exact ⟨rfl, rfl, rfl⟩

/-- A write that fails ends its command and changes nothing (R176). -/
theorem storeFailed_unanswered (s : State) (id : Nat) (x : Eff) :
    ∃ p, unanswered (storeFailed s id x) = unanswered { s with sec := { s.sec with lockPend := p } } := by
  unfold storeFailed
  dsimp only
  split
  · exact ⟨false, unanswered_finish _ _ _⟩
  · exact ⟨s.sec.lockPend, unanswered_finish _ _ _⟩

/-- A write for which no command waits any more takes effect. -/
theorem writeTaken_unheard {w : StoreWrite} {l : List StoreWrite} (h : findOut s w.id = none) :
    writeTaken w.id w.eff true (writeGone s l true) = applyEff (writeGone s l true) w.id w.eff := by
  have hnone : findOut (writeGone s l true) w.id = none := by
    rw [writeGone, storeRecord_frame]
    exact h
  refine (if_pos rfl).trans ?_
  unfold storeDone
  rw [hnone]

/-- The lock takes effect (R248). -/
theorem applyEff_lock (s : State) (id : Nat) : (applyEff s id .lock).sec.locked = true ∧ (applyEff s id .lock).sec.lockPend = false ∧
    (applyEff s id .lock).vil.writes = s.vil.writes := by
  have h : unanswered (applyEff s id .lock) = unanswered { s with sec := { s.sec with locked := true, lockPend := false } } := unanswered_notify _ _ _ _
  exact ⟨locked_of_unanswered h, lockPend_of_unanswered h, (writes_of_unanswered h :)⟩

/-- A key is stored (R245). -/
theorem applyEff_key (s : State) (id : Nat) (r : Role) (codes : List Word) : (applyEff s id (.key r codes)).vil.writes = s.vil.writes ∧
    tget 0 (applyEff s id (.key r codes)).sec.keys (roleNum (some r)) = codes256 codes := by
  have hfold : ∀ (k : Sess) (v : State), writesAndKeys (portSess.foldl (fun s k' => if k' != k && (getSes s k').role = some r then roleEnd s k' "KEY" else s) v) =
      writesAndKeys v := fun k v => foldl_keeps writesAndKeys (fun s k' => by
        split
        · exact writesAndKeys_roleEnd _ _ _
        · rfl) _ _
  have h := hfold ((findOut s id).map (·.ses) |>.getD .mac)
    { s with sec := { s.sec with keys := tset s.sec.keys (roleNum (some r)) (codes256 codes), chal := s.sec.chal.filter fun p => p.2.role != r } }
  refine ⟨congrArg Prod.fst h, ?_⟩
  have hkeys : (applyEff s id (.key r codes)).sec.keys = tset s.sec.keys (roleNum (some r)) (codes256 codes) := congrArg Prod.snd h
  rw [hkeys, tget_tset_self]

/-- A write that fails at a boundary leaves the configuration, the lock and the keys as they were. -/
theorem storeWrite_fails {w : StoreWrite} {l : List StoreWrite} (hc : coreRuns s = true) (hp : s.pwr.committed = false)
    (hw : s.vil.writes = w :: l) (hn : w.ok = none) (hl : ∀ x ∈ l, x.ok = none) (hb : s.now = epochTick s s.epoch) :
    ∃ t, exec (.storeWriteComplete false) s = .next t ∧ t.vil.writes = l ∧ t.jrn.storeSeq = s.jrn.storeSeq + 1 ∧ t.cfg = s.cfg ∧
      t.sec.locked = s.sec.locked ∧ t.sec.keys = s.sec.keys := by
  obtain ⟨p, hrest⟩ := storeFailed_unanswered (writeGone s l false) w.id w.eff
  have hwrites : (writeTaken w.id w.eff false (writeGone s l false)).vil.writes = l :=
    (writes_of_unanswered hrest).trans (writeGone_writes s l false)
  obtain ⟨hcfg, hlocked, hkeys⟩ := writeGone_rest s l false
  exact ⟨_, storeWrite_takes hc hp hw hn hl hb hwrites, hwrites, (congrArg Jrn.storeSeq (jrn_of_unanswered hrest)).trans (storeRecord_storeSeq _ _),
    (cfg_of_unanswered hrest).trans hcfg, (locked_of_unanswered hrest).trans hlocked,
    (keys_of_unanswered hrest).trans hkeys⟩

/-! ### Macros (R214, R216) -/

/-- A trigger that acts starts its run where that may start. -/
theorem exec_macroTrigger {m : Fin 64} {tr : Trigger} (ht : (s.vil.triggers.find? fun t => t.m = m.val && t.epoch ≤ s.epoch) = some tr)
    (hrun : (macroSt s m).running = false) (hpend : (macroSt s m).pend = false) (hfew : runningMacros s < 8) (htext : macroText s m ≠ []) :
    exec (.macroTrigger m) s = .next (setMacro { s with vil := { s.vil with triggers := s.vil.triggers.erase tr } } m
      { macroSt s m with running := true, line := 1, awaiting := false, runs := satInc 65535 (macroSt s m).runs, cmd := none }) := by
  refine congrArg Host.Outcome.next ?_
  rw [ht]
  exact congrArg Prod.fst (macroStart_runs (s := { s with vil := { s.vil with triggers := s.vil.triggers.erase tr } }) hrun hpend hfew htext)

section
variable {m : Fin 64} (hc : coreRuns s = true) (hw : s.ana.workersReset = none) (hp : s.pwr.committed = false) (hrun : (macroSt s m).running = true)
  (hawait : (macroSt s m).awaiting = false)
include hc hw hp hrun hawait

/-- A run that awaits nothing goes on while WORK0 runs. -/
theorem macroGoes : ¬ (!(macroSt s m).running || (macroSt s m).awaiting || !coreRuns s || s.ana.workersReset.isSome || s.pwr.committed) = true := by
  simp [hc, hw, hp, hrun, hawait]

theorem exec_macroLine_ends (ht : (macroText s m)[(macroSt s m).line - 1]? = none) : exec (.macroLine m) s = .next (macroEnd s m "DONE") := by
  refine congrArg Host.Outcome.next ((if_neg (macroGoes hc hw hp hrun hawait)).trans ?_)
  rw [ht]

theorem exec_macroLine_does {text : String} {i : Instr} {w : String} (ht : (macroText s m)[(macroSt s m).line - 1]? = some text)
    (hread : readVerb (setMacro s m { macroSt s m with awaiting := true }) ⟨.mac, some (1000 * (m.val + 1) + (macroSt s m).line), true⟩ true
      (getSes (setMacro s m { macroSt s m with awaiting := true }) .mac).level (lineTokens text.toList 1).1 (endCol text.toList 1) = .ok (w, i)) :
    exec (.macroLine m) s = .next (verbDo i (setMacro s m { macroSt s m with awaiting := true })) := by
  refine congrArg Host.Outcome.next ((if_neg (macroGoes hc hw hp hrun hawait)).trans ?_)
  rw [ht]
  dsimp only
  rw [hread]

end

end Sys2Proof.Laws

namespace Sys2Proof.Proofs
open Sys2Proof Sys2Proof.Machine Sys2Proof.Laws

/-- Settles O25, row by row. -/
theorem sessionTimerRowsComplete : Obligations.SessionTimerRowsComplete := by
  refine fun s s' => ⟨fun k r n hk hr ho hn => ⟨fun hle => ?_, fun hlt => ?_⟩, fun k p hfind hcome hruns => ?_, fun bus r hcome => ?_,
    fun k tag o w hfind hw ho hcome => ?_, fun w l hc hp hw hn hl => ⟨fun ok hb => storeWrite_waits hc hp hw hn hb, fun hb => storeWrite_fails hc hp hw hn hl hb,
      fun hb hnone => ⟨fun heff => ?_, fun r codes heff => ?_⟩⟩,
    fun m tr ht hrun hpend hfew htext => ?_, fun m text i w hc hw hp hrun hawait ht => exec_macroLine_does hc hw hp hrun hawait ht,
    fun m hc hw hp hrun hawait ht => exec_macroLine_ends hc hw hp hrun hawait ht⟩
  · exact ⟨_, (exec_roleInactivityExpiry hk hr ho hn).trans (congrArg _ (if_pos hle)), roleEnd_role s k _⟩
  · exact (exec_roleInactivityExpiry hk hr ho hn).trans (congrArg _ (if_neg (Nat.not_le.mpr hlt)))
  · have hruns' : responseRuns s' k p.2 = false := by rw [comesAt_now hcome]; exact hruns
    refine congrArg Host.Outcome.next ?_
    rw [hfind]
    refine (atTick_some (o := some p.2.until_) hcome).trans (if_neg ?_)
    simp [hruns']
  · refine ⟨_, congrArg Host.Outcome.next (atTick_some hcome), ?_⟩
    obtain ⟨n, -, hn⟩ := comesAt?_cases hcome
    obtain rfl := comesAt_now hn
    exact tget_tset_self _ _ _ _
  · obtain rfl := comesAt_now hcome
    obtain ⟨hgone, hfreed⟩ := finish_found (s := { s with now := max s.now w }) ho "DONE"
    have hid : (o.ses = k ∧ o.tag = tag) ∧ o.verb = "WAIT" := by simpa using List.find?_some hfind
    obtain ⟨⟨rfl, rfl⟩, -⟩ := hid
    refine ⟨_, congrArg Host.Outcome.next ?_, hgone, fun horp _ => hfreed horp⟩
    rw [hfind]
    dsimp only
    rw [hw]
    exact atTick_some (o := some w) hcome
  · obtain ⟨hlocked, hpend, hwrites⟩ := applyEff_lock (writeGone s l true) w.id
    have htaken : writeTaken w.id w.eff true (writeGone s l true) = applyEff (writeGone s l true) w.id .lock := (writeTaken_unheard hnone).trans (by rw [heff])
    rw [writeGone_writes, ← htaken] at hwrites
    rw [← htaken] at hlocked hpend
    exact ⟨_, storeWrite_takes hc hp hw hn hl hb hwrites, hlocked, hpend, hwrites⟩
  · obtain ⟨hwrites, hkey⟩ := applyEff_key (writeGone s l true) w.id r codes
    have htaken : writeTaken w.id w.eff true (writeGone s l true) = applyEff (writeGone s l true) w.id (.key r codes) := (writeTaken_unheard hnone).trans (by rw [heff])
    rw [writeGone_writes, ← htaken] at hwrites
    rw [← htaken] at hkey
    exact ⟨_, storeWrite_takes hc hp hw hn hl hb hwrites, hkey⟩
  · exact ⟨_, exec_macroTrigger ht hrun hpend hfew htext, congrArg MacroSt.running (macroSt_setMacro_self _ _ _),
      congrArg MacroSt.line (macroSt_setMacro_self _ _ _), rfl⟩

end Sys2Proof.Proofs
end

section
/-!
What every step keeps of the configuration lock (R248).
-/
namespace Sys2Proof.Laws
open Sys2Proof Sys2Proof.Machine
variable {s t : State}

/-! ### Predicates that every step keeps -/

/-- The idle tick keeps a predicate that `Keeps` and the advance to a boundary keep. -/
theorem idleTick_preserves {P : State → Prop} (hkeeps : ∀ {a b}, Keeps a b → P a → P b) (hadvance : ∀ {a}, P a → P (epochAdvances a))
    (hs : P s) : P (idleTick s) :=
  keeps_idleTick.elim (fun k => hkeeps k hs) fun k => hkeeps k (hadvance hs)

/-- A command keeps a predicate that `Keeps` keeps, and with it the three changes that come before it: the advance to a boundary,
the release of the core die, and the closing of feeds at a zero crossing. -/
theorem exec_preserves {P : State → Prop} {c : Instr} (hkeeps : ∀ {a b}, Keeps a b → P a → P b)
    (hadvance : ∀ {a}, P a → P (epochAdvances a)) (hrelease : ∀ {a}, P a → P (coreReleased a))
    (hshut : ∀ {a l}, P a → P (feedsShut a l)) (hs : P s) (h : exec c s = .next t) : P t := by
  by_cases hb : c = .epochBoundary
  · subst hb
    obtain rfl | k := keeps_execEpochBoundary h
    · exact hs
    · exact hkeeps k (hadvance hs)
  by_cases hr : c = .coreResetRelease
  · subst hr
    obtain k | ⟨u, k, l⟩ := keeps_execCoreResetRelease h
    · exact hkeeps k hs
    · exact hkeeps l (hrelease (hkeeps k hs))
  by_cases hz : ∃ raw, c = .zeroCrossing raw
  · obtain ⟨raw, rfl⟩ := hz
    exact hkeeps (keeps_execZeroCrossing h) (hshut hs)
  · exact hkeeps (keeps_exec hb hr (not_exists.mp hz) h) hs

/-! ### The configuration lock -/

/-- No command undoes the lock. -/
theorem exec_locked {c : Instr} (hs : s.sec.locked = true) (h : exec c s = .next t) : t.sec.locked = true :=
  exec_preserves (P := fun u => u.sec.locked = true) Keeps.lock id id id hs h

theorem idleTick_locked (hs : s.sec.locked = true) : (idleTick s).sec.locked = true :=
  idleTick_preserves (P := fun u => u.sec.locked = true) Keeps.lock id hs

theorem step_locked (hs : s.sec.locked = true) (h : step s = .next t) : t.sec.locked = true := by
  obtain ⟨-, rfl⟩ | ⟨c, l, -, hc⟩ := step_cases h
  · exact idleTick_locked hs
  · exact exec_locked (s := { s with pending := l }) hs hc

end Sys2Proof.Laws

namespace Sys2Proof.Proofs
open Sys2Proof Sys2Proof.Machine Sys2Proof.Laws

/-- Settles O7: every command and the idle tick keep a set lock, the release of a reset among them, since the lock is stored. -/
theorem noStepClearsTheConfigurationLock : Obligations.NoStepClearsTheConfigurationLock :=
  fun _ _ h hs => step_locked hs h

end Sys2Proof.Proofs
end
section
/-!
What the rows of the converters' scan, of the universal channels, of bursts, link samples, calibration and the reference, and of the line
feeds do, and what they leave alone (R271, R275 to R291, R370 to R376).
-/
namespace Sys2Proof.Laws
open Sys2Proof Sys2Proof.Machine
variable {s t : State}

/-! ### What notices leave alone of the converters, Churn and the drives -/

@[simp] theorem notify_cnv (s : State) (n : String) (o : Option Obj) (a : String) : (notify s n o a).cnv = s.cnv :=
  (congrArg State.cnv (untold_notify s n o a) :)

@[simp] theorem notify_drv (s : State) (n : String) (o : Option Obj) (a : String) : (notify s n o a).drv = s.drv :=
  (congrArg State.drv (untold_notify s n o a) :)

/-- The coming of an instant changes nothing of the converters. -/
theorem comesAt_cnv {n : Nat} (h : comesAt s n = some t) : t.cnv = s.cnv := by rw [comesAt_now h]

/-! ### Words and tests -/

/-- A word changes nothing of the converters. -/
@[simp] theorem churnWordIn_cnv (m : String) (s : State) (k : Nat) (w : XWord) (ext : Nat) (f : WFlags) (n : Nat) :
    (churnWordIn m s k w ext f n).cnv = s.cnv := by
  unfold churnWordIn
  dsimp only
  split_ifs <;> simp

@[simp] theorem churnWord_cnv (s : State) (k : Nat) (w : XWord) (ext : Nat) (f : WFlags) (n : Nat) : (churnWord s k w ext f n).cnv = s.cnv :=
  churnWordIn_cnv _ _ _ _ _ _ _

/-- A test of a sensor changes the verdict of its channel and what leads to it, and of the converters nothing else (R293). -/
theorem verdictTest_cnv (s : State) (u v : Nat) :
    ∃ w n, (verdictTest s u v).cnv = (setChan s u { chanSt s u with verdict := w, cand := v, agree := n }).cnv := by
  unfold verdictTest
  extract_lets c n c'
  split
  · refine ⟨v, min n 3, ?_⟩
    split <;> rw [notify_cnv]
  · exact ⟨c.verdict, min n 3, rfl⟩

theorem chanSt_of_cnv (h : t.cnv = s.cnv) (u : Nat) : chanSt t u = chanSt s u := (congrArg (fun c : Cnv => tget {} c.chans u) h :)

theorem grpSt_of_cnv (h : t.cnv = s.cnv) (g : Nat) : grpSt t g = grpSt s g := (congrArg (fun c : Cnv => tget {} c.grps g) h :)

/-- What a test leaves of its channel, of the other channels and of the groups. -/
theorem verdictTest_reads (s : State) (u v : Nat) :
    (∃ w n, chanSt (verdictTest s u v) u = { chanSt s u with verdict := w, cand := v, agree := n }) ∧
      (∀ x, x ≠ u → chanSt (verdictTest s u v) x = chanSt s x) ∧ ∀ g, grpSt (verdictTest s u v) g = grpSt s g := by
  obtain ⟨w, n, e⟩ := verdictTest_cnv s u v
  refine ⟨⟨w, n, ?_⟩, fun x hx => ?_, fun g => grpSt_of_cnv e g⟩
  · rw [chanSt_of_cnv e, setChan_chanSt_self]
  · rw [chanSt_of_cnv e, setChan_chanSt_ne _ _ _ _ hx]

theorem verdictTest_held (s : State) (u v : Nat) : (verdictTest s u v).cnv.held = s.cnv.held := by
  obtain ⟨w, n, e⟩ := verdictTest_cnv s u v
  exact (congrArg Cnv.held e :)

/-! ### The windows of the scan (R276) -/

/-- The results that wait, and the length of the last window. -/
def windowsDone (s : State) : List IcRes × Nat := (s.cnv.held, s.cnv.len)

/-- The state without the converters. -/
def unconverted (s : State) : State := { s with cnv := {} }

theorem pwr_of_unconverted (h : unconverted t = unconverted s) : t.pwr = s.pwr := (congrArg State.pwr h :)
theorem drv_of_unconverted (h : unconverted t = unconverted s) : t.drv = s.drv := (congrArg State.drv h :)

/-- A window that begins changes neither the results that wait nor the length of the last window, and the converters alone. -/
theorem winStart_keeps (s : State) (sync : Bool) (n : Nat) :
    windowsDone (winStart s sync n) = windowsDone s ∧ unconverted (winStart s sync n) = unconverted s := by
  unfold winStart
  dsimp only
  split_ifs
  · exact ⟨rfl, rfl⟩
  · exact ⟨rfl, rfl⟩
  · exact ⟨rfl, rfl⟩
  · exact ⟨rfl, rfl⟩
  · split <;> exact ⟨rfl, rfl⟩

theorem windowsDone_icFree (s : State) : windowsDone (icFree s) = windowsDone s := by
  unfold icFree
  split
  · exact (winStart_keeps _ _ _).1
  · rfl

/-- A window that kept its use ends with its result held. -/
theorem windowsDone_winEnd {w : IcWin} (hw : s.cnv.win = some w) (hv : w.void = false) (raw : Nat) (nosync : Bool) (n : Nat) :
    windowsDone (winEnd s raw nosync n) = (s.cnv.held ++ [⟨w, n, raw, nosync⟩], n - w.start) := by
  unfold winEnd
  rw [hw]
  dsimp only
  rw [hv]
  rfl

theorem unconverted_winEnd (s : State) (raw : Nat) (nosync : Bool) (n : Nat) : unconverted (winEnd s raw nosync n) = unconverted s := by
  unfold winEnd
  split
  · rfl
  · dsimp only
    split <;> rfl

/-- A crossing that reaches the SENSE island changes the converters alone. -/
theorem unconverted_icCrossing (s : State) (raw : Nat) : unconverted (icCrossing s raw) = unconverted s := by
  unfold icCrossing
  split
  · rfl
  · dsimp only
    split
    · split_ifs
      · rfl
      · exact (winStart_keeps _ _ _).2.trans (unconverted_winEnd _ _ _ _)
      · rfl
    · split_ifs
      · exact (winStart_keeps _ _ _).2
      · rfl

theorem exec_icFreeWindowEnd_of_due {w : IcWin} {raw : BitVec 20} (hw : s.cnv.win = some w) (hf : w.sync = false) (hs : sensing s = true)
    (hc : comesAt s (w.start + 20 * tickMs) = some t) : exec (.icFreeWindowEnd raw) s = .next (icFree (winEnd t raw.toNat true t.now)) := by
  refine congrArg Host.Outcome.next ?_
  rw [hw]
  exact (if_neg (by simp [hf, hs])).trans (atTick_some (o := some _) hc)

/-! ### Results (R278) -/

theorem windowTest_held (s : State) (u raw : Nat) (m : String) : (windowTest s u raw m).cnv.held = s.cnv.held := by
  unfold windowTest
  split
  · rfl
  · split
    · exact verdictTest_held _ _ _
    · split
      · exact verdictTest_held _ _ _
      · rfl

theorem probeResult_held (s : State) (u raw : Nat) : (probeResult s u raw).cnv.held = s.cnv.held := by
  unfold probeResult
  dsimp only
  split
  · rfl
  · split
    · exact verdictTest_held _ _ _
    · exact verdictTest_held _ _ _

/-- A result that leaves takes none of those that wait with it. -/
theorem resRelease_held (s : State) (r : IcRes) (late : Bool) : (resRelease s r late).cnv.held = s.cnv.held := by
  unfold resRelease
  dsimp only
  split
  · split <;> rfl
  · split
    · rfl
    · split
      · split
        · exact probeResult_held _ _ _
        · rfl
      · rw [churnWordIn_cnv, windowTest_held]
        split <;> rfl

theorem heldRelease_cons {r : IcRes} {l : List IcRes} (h : s.cnv.held = r :: l) (late : Bool) :
    heldRelease s late = resRelease { s with cnv := { s.cnv with held := l } } r late := by
  unfold heldRelease
  rw [h]

theorem exec_icResultRelease {r : IcRes} {l : List IcRes} (h : s.cnv.held = r :: l) (hs : sensing s = true) :
    exec .icResultRelease s = .next (resRelease { s with cnv := { s.cnv with held := l } } r false) :=
  congrArg Host.Outcome.next ((if_pos hs).trans (heldRelease_cons h false))

theorem exec_icReleaseTimeout_of_due {r : IcRes} {l : List IcRes} (h : s.cnv.held = r :: l) (hs : sensing s = true)
    (hc : comesAt s (r.stop + 2 * tickMs) = some t) :
    exec .icReleaseTimeout s = .next (resRelease { t with cnv := { t.cnv with held := l } } r true) := by
  have ht : t.cnv.held = r :: l := (congrArg Cnv.held (comesAt_cnv hc)).trans h
  refine congrArg Host.Outcome.next ?_
  rw [h]
  exact (if_pos hs).trans ((atTick_some (o := some _) hc).trans (heldRelease_cons ht true))

/-! ### Trips of the open-drain outputs (R271) -/

/-- An open-drain output switched off by its trip. -/
def odOff (c : ChanSt) : ChanSt := { c with out := 0, trip := true, fresh := false }

/-- A trip of an output counts in its group, and its test changes neither the other channels nor what the trip left. -/
theorem exec_odTrip {c : Fin 96} {ma : BitVec 12} (hm : chanMode s c = "ODOUT") (ho : (chanSt s c).out ≠ 0) (hma : 130 < ma.toNat) :
    ∃ t, exec (.odTrip c ma) s = .next t ∧ (chanSt t c).out = 0 ∧ (chanSt t c).trip = true ∧
      (grpSt t (c.val / 8)).trips = satInc 255 (grpSt s (c.val / 8)).trips ∧ ∀ u, u ≠ c.val → chanSt t u = chanSt s u := by
  have hgo : ¬(chanMode s c != "ODOUT" || decide ((chanSt s c).out = 0) || decide (ma.toNat ≤ 130)) = true := by
    simp [hm, ho, hma]
  refine ⟨_, congrArg Host.Outcome.next (if_neg hgo), ?_⟩
  dsimp only
  generalize hu : setGrp (setChan s c _) _ _ = u
  obtain ⟨⟨w, n, hself⟩, hother, hgrp⟩ := verdictTest_reads u c 3
  have hoff : chanSt u c = odOff (chanSt s c) := by
    rw [← hu]
    exact setChan_chanSt_self _ _ _
  simp only [chanSt_of_cnv (notify_cnv _ _ _ _), grpSt_of_cnv (notify_cnv _ _ _ _)]
  rw [hself, hoff, hgrp]
  refine ⟨rfl, rfl, ?_, fun x hx => ?_⟩
  · rw [← hu, setGrp_grpSt_self]
    rfl
  · rw [hother x hx, ← hu]
    exact setChan_chanSt_ne _ _ _ _ hx

theorem exec_odTrip_below {c : Fin 96} {ma : BitVec 12} (h : ma.toNat ≤ 130) : exec (.odTrip c ma) s = .next s :=
  congrArg Host.Outcome.next (if_pos (by simp [h]))

/-- What a trip of a group does to one of its channels. -/
def odTripped (s : State) (u : Nat) : State := if chanMode s u = "ODOUT" then setChan s u (odOff (chanSt s u)) else s

/-- An output that a trip has switched off. -/
def odIsOff (s : State) (u : Nat) : Prop := (chanSt s u).out = 0 ∧ (chanSt s u).trip = true

theorem chanMode_odTripped (s : State) (u x : Nat) : chanMode (odTripped s u) x = chanMode s x := by
  unfold odTripped
  split <;> rfl

theorem grpSt_odTripped (g : Nat) (s : State) (u : Nat) : grpSt (odTripped s u) g = grpSt s g := by
  unfold odTripped
  split <;> rfl

theorem odTripped_self {u : Nat} (hm : chanMode s u = "ODOUT") : odIsOff (odTripped s u) u := by
  unfold odTripped odIsOff
  rw [if_pos hm, setChan_chanSt_self]
  exact ⟨rfl, rfl⟩

theorem odTripped_keeps_off {u x : Nat} (h : odIsOff s x) : odIsOff (odTripped s u) x := by
  unfold odTripped
  split
  · by_cases hx : x = u
    · subst hx
      unfold odIsOff
      rw [setChan_chanSt_self]
      exact ⟨rfl, rfl⟩
    · unfold odIsOff
      rw [setChan_chanSt_ne _ _ _ _ hx]
      exact h
  · exact h

/-- The channels of a list that are open-drain outputs are off after the trip of all of them. -/
theorem foldl_odTripped_off {u : Nat} (l : List Nat) (hm : chanMode s u = "ODOUT") (h : u ∈ l ∨ odIsOff s u) : odIsOff (l.foldl odTripped s) u := by
  induction l generalizing s with
  | nil => exact h.resolve_left List.not_mem_nil
  | cons x l ih =>
    refine ih ((chanMode_odTripped s x u).trans hm) ?_
    obtain hu | hoff := h
    · obtain rfl | hl := List.mem_cons.mp hu
      · exact .inr (odTripped_self hm)
      · exact .inl hl
    · exact .inr (odTripped_keeps_off hoff)

/-- A group as its trip leaves it. -/
def grpOff (s : State) (g ma : Nat) : State :=
  setGrp (setGrp s g { grpSt s g with ma := ma }) g
    { grpSt s g with ma := ma, tripped := true, tripEpoch := some s.epoch, trips := satInc 255 (grpSt s g).trips }

theorem exec_groupTrip {g : Fin 12} {ma : BitVec 12} (h : 400 < ma.toNat) :
    ∃ a, exec (.groupTrip g ma) s = .next (notify (((List.range 8).map (8 * g.val + ·)).foldl odTripped (grpOff s g ma.toNat)) "CNV.GROUP-TRIP" none a) :=
  ⟨_, congrArg Host.Outcome.next (if_neg (Nat.not_le_of_lt h))⟩

/-- A trip of a group is counted, and switches every open-drain output of the group off. -/
theorem exec_groupTrip_effect {g : Fin 12} {ma : BitVec 12} (h : 400 < ma.toNat) :
    ∃ t, exec (.groupTrip g ma) s = .next t ∧ (grpSt t g).tripped = true ∧ (grpSt t g).trips = satInc 255 (grpSt s g).trips ∧ (grpSt t g).ma = ma.toNat ∧
      ∀ u, u / 8 = g.val → chanMode s u = "ODOUT" → (chanSt t u).out = 0 ∧ (chanSt t u).trip = true := by
  obtain ⟨a, e⟩ := exec_groupTrip (s := s) h
  refine ⟨_, e, ?_⟩
  simp only [chanSt_of_cnv (notify_cnv _ _ _ _), grpSt_of_cnv (notify_cnv _ _ _ _)]
  rw [foldl_keeps (grpSt · g) (grpSt_odTripped g), grpOff, setGrp_grpSt_self]
  refine ⟨rfl, rfl, rfl, fun u hu hm => foldl_odTripped_off _ hm (.inl (List.mem_map.mpr ⟨u % 8, ?_, ?_⟩))⟩
  · exact List.mem_range.mpr (Nat.mod_lt u (by decide))
  · rw [← hu]
    exact Nat.div_add_mod u 8

/-! ### The fast converter (R280, R281) -/

/-- A trigger of an acquisition begins its burst where no burst is in progress and none waits. -/
theorem fcTrigger_starts {a : Nat} (hp : s.cnv.phase ≠ 1 ∨ 32 ≤ a) (hb : s.cnv.burst = none) (hq : s.cnv.fcPend = []) :
    fcTrigger s a = burstStart s a := by
  have hphase : ¬(decide (s.cnv.phase = 1) && decide (a < 32)) = true := by
    simpa [Decidable.imp_iff_not_or] using hp
  unfold fcTrigger
  rw [if_neg hphase, if_neg (by simp [hq, hb]), hb]

section
variable {fi : Fin 32} (hs : sensing s = true) (ha : acqActive s (acqOf s fi) = true) (hb : s.cnv.burst = none) (hq : s.cnv.fcPend = [])
include hs ha hb hq

/-- A quad of the firmware is acquired once its share of FC's time allows (R282). -/
theorem exec_fcTrigger_own (hown : 32 ≤ acqOf s fi) (hc : comesAt s s.cnv.fcOwnFrom = some t) :
    exec (.fcTrigger fi none) s = .next (burstStart t (acqOf s fi)) := by
  have hcnv := comesAt_cnv hc
  refine congrArg Host.Outcome.next ?_
  dsimp only
  rw [if_neg (by simp [hs, ha]), if_pos hown, if_pos rfl]
  exact (atTick_some (o := some _) hc).trans (fcTrigger_starts (.inr hown) (by rw [hcnv, hb]) (by rw [hcnv, hq]))

/-- The first trigger of a FREE acquisition acts at once (log 89). -/
theorem exec_fcTrigger_free (hown : acqOf s fi < 32) (hp : s.cnv.phase ≠ 1) (hf : cfgIs s (fiObj (acqOf s fi)) "TRIG" "FREE" = true)
    (hl : s.cnv.fcLast.find? (·.1 = acqOf s fi) = none) :
    ∃ l, exec (.fcTrigger fi none) s = .next (burstStart { s with cnv := { s.cnv with fcLast := l } } (acqOf s fi)) := by
  have hperiod : ∃ l, fcPeriod (acqOf s fi) s = burstStart { s with cnv := { s.cnv with fcLast := l } } (acqOf s fi) :=
    ⟨_, fcTrigger_starts (s := { s with cnv := { s.cnv with fcLast := _ } }) (.inl hp) hb hq⟩
  obtain ⟨l, hperiod⟩ := hperiod
  refine ⟨l, congrArg Host.Outcome.next (Eq.trans ?_ hperiod)⟩
  dsimp only
  rw [if_neg (by simp [hs, ha]), if_neg (Nat.not_le_of_lt hown), if_pos hf, hl]
  exact atTick_some (o := some _) (comesAt_past (Nat.le_refl _))

theorem exec_fcTrigger_counter {c : Fin 16} (hown : acqOf s fi < 32) (hp : s.cnv.phase ≠ 1) (hd : s.cnv.fcDue.contains (acqOf s fi) = true)
    (ht : cfgObj s (fiObj (acqOf s fi)) "TRIG" = some ⟨.counter, c.val⟩) : exec (.fcTrigger fi (some c)) s =
      .next (burstStart { s with cnv := { s.cnv with fcDue := s.cnv.fcDue.filter (· != acqOf s fi) } } (acqOf s fi)) := by
  have hgo : (s.cnv.fcDue.contains (acqOf s fi) &&
      decide (cfgObj s (fiObj (acqOf s fi)) "TRIG" = (some c).map (fun c => ⟨.counter, c.val⟩))) = true := by
    rw [hd, ht]
    simp
  refine congrArg Host.Outcome.next ?_
  dsimp only
  rw [if_neg (by simp [hs, ha]), if_neg (Nat.not_le_of_lt hown), if_pos hgo]
  exact fcTrigger_starts (s := { s with cnv := { s.cnv with fcDue := _ } }) (.inl hp) hb hq

end

/-- The samples of a burst change nothing of the converters. -/
theorem fcSamples_cnv (b : FcBurst) (l : List (BitVec 12)) (s : State) (j : Nat) : (fcSamples b s j l).cnv = s.cnv := by
  induction l generalizing s j with
  | nil => rfl
  | cons c l ih => exact (ih _ _).trans (churnWord_cnv _ _ _ _ _ _)

/-- The state at the end of a burst, before its samples. -/
def burstEnded (b : FcBurst) (s : State) : State :=
  { s with cnv := { s.cnv with burst := none, fcOwnFrom := if b.owned then b.start + 5 * (s.now - b.start) else s.cnv.fcOwnFrom } }

/-- A burst that none waits for ends with its samples. -/
theorem burstOver_last (b : FcBurst) (codes : List (BitVec 12)) (h : s.cnv.fcPend = []) : burstOver b codes s = fcSamples b (burstEnded b s) 0 codes := by
  have hpend : (fcSamples b (burstEnded b s) 0 codes).cnv.fcPend = [] := (congrArg Cnv.fcPend (fcSamples_cnv b codes _ 0)).trans h
  unfold burstOver
  extract_lets c u
  split
  · next a l hwait => cases hpend.symm.trans hwait
  · rfl

theorem exec_fcBurstEnd_of_due {b : FcBurst} {codes : List (BitVec 12)} (hb : s.cnv.burst = some b) (hs : sensing s = true)
    (hf : burstFits b codes.length = true)
    (hc : comesAt s (b.start + spanTicks (burstSpan (if b.simul then codes.length / 4 else codes.length) b.simul)) = some t) :
    exec (.fcBurstEnd codes) s = .next (burstOver b codes t) := by
  refine congrArg Host.Outcome.next ?_
  rw [hb]
  exact (if_neg (by simp [hs, hf])).trans (atTick_some (o := some _) hc)

/-! ### The line converters (R284) -/

theorem lcFeeds_cnv (lv : XWord) (m : Bool) (l : List XWord) (s : State) (f : Nat) : (lcFeeds lv m s f l).cnv = s.cnv := by
  induction l generalizing s f with
  | nil => rfl
  | cons i l ih =>
    unfold lcFeeds
    split
    · exact (ih _ _).trans ((churnWord_cnv _ _ _ _ _ _).trans (churnWord_cnv _ _ _ _ _ _))
    · rfl

theorem foldl_cellLost_cnv (n : Nat) (l : List Nat) (s : State) : (l.foldl (fun s k => cellLost s (128 + k) n) s).cnv = s.cnv :=
  foldl_keeps State.cnv (fun _ _ => setCell_cnv _ _ _) l s

/-- A sample set leaves its sequence number and nothing else in the converters. -/
theorem lcSet_cnv (s : State) (sq : BitVec 16) (lv : XWord) (li : List XWord) : (lcSet s sq lv li).cnv = { s.cnv with lcSeq := some sq } := by
  unfold lcSet
  dsimp only
  rw [lcFeeds_cnv, churnWord_cnv]
  split
  · rfl
  · exact foldl_cellLost_cnv _ _ _

/-! ### Calibration and the reference (R285, R287) -/

/-- The phases that a calibration has completed, and the constants that wait. -/
def phasesDone (s : State) : Nat × List (Nat × List Int) := (s.cnv.phases, s.cnv.pendCal)

theorem phasesDone_fcMissed (s : State) (_ : Nat) : phasesDone (fcMissed s) = phasesDone s := rfl

theorem phasesDone_phaseNext (s : State) : phasesDone (phaseNext s) = phasesDone s := by
  unfold phaseNext
  dsimp only
  split
  · exact foldl_keeps phasesDone phasesDone_fcMissed _ _
  · rfl

@[simp] theorem grantBack_cnv (s : State) (h : Holder) : (grantBack s h).cnv = s.cnv := by
  unfold grantBack
  split
  · split
    · rfl
    · unfold grantMark
      rw [leaveLog_frame]
  · rfl

@[simp] theorem leaveReturn_cnv (s : State) (h : Holder) : (leaveReturn s h).cnv = s.cnv := by
  unfold leaveReturn
  split
  · rfl
  · exact grantBack_cnv s h

@[simp] theorem leaveWithdraw_cnv (s : State) (h : Holder) : (leaveWithdraw s h).cnv = s.cnv := by
  have hlog : ∀ l : List LReq, (l.foldl (fun s r => leaveLog s h r.op 7) s).cnv = s.cnv :=
    fun l => foldl_keeps State.cnv (fun s r => by rw [leaveLog_frame]) l s
  unfold leaveWithdraw withdrawOf
  dsimp only
  split
  · rw [grantBack_cnv]
    exact hlog _
  · exact hlog _

/-- A phase that completes is counted, and its constants wait. -/
theorem phasesDone_phaseEnd (vals : List Int) (s : State) : phasesDone (phaseEnd vals s) = (s.cnv.phase, s.cnv.pendCal ++ [(s.cnv.phase, vals)]) := by
  unfold phaseEnd
  dsimp only
  split
  · exact phasesDone_phaseNext _
  · unfold phasesDone
    rw [leaveReturn_cnv]

/-- The commands that wait on a calibration end without a change of the converters. -/
theorem calEnds_cnv (s : State) (body : String) : (calEnds s body).cnv = s.cnv := by
  have hfinish : ∀ (s : State) (o : Out), (finish s o.id body).cnv = s.cnv := fun s o => (congrArg State.cnv (unanswered_finish s o.id body) :)
  exact foldl_keeps State.cnv hfinish _ s

theorem refFault_ref (s : State) : (refFault s).cnv.ref = .fault := by
  unfold refFault
  dsimp only
  split
  · unfold calAbort
    rw [calEnds_cnv]
    dsimp only
    rw [leaveWithdraw_cnv, leaveReturn_cnv]
    dsimp only
    rw [notify_cnv]
  · rw [notify_cnv]

/-! ### The travels and the feeds of a drive (R370 to R372) -/

/-- The state without the models of the drives. -/
def unmodelled (s : State) : State := { s with drv := { s.drv with drives := [] } }

theorem unmodelled_travelBegins (s : State) (d : Nat) (dir : Bool) : unmodelled (travelBegins s d dir) = unmodelled s := rfl

theorem unmodelled_travelFreezes (s : State) (d : Nat) : unmodelled (travelFreezes s d) = unmodelled s := by
  unfold travelFreezes
  split <;> rfl

/-- The state without the feeds, their dead times and the models of the drives. -/
def unfed (s : State) : State := { s with drv := { s.drv with drives := [], feeds := [], dead := [] } }

theorem feeds_of_unmodelled (h : unmodelled t = unmodelled s) : t.drv.feeds = s.drv.feeds := (congrArg (fun u => u.drv.feeds) h :)
theorem unfed_of_unmodelled (h : unmodelled t = unmodelled s) : unfed t = unfed s := (congrArg unfed h :)

theorem pwr_of_unfed (h : unfed t = unfed s) : t.pwr = s.pwr := (congrArg State.pwr h :)
theorem cross1_of_unfed (h : unfed t = unfed s) : t.drv.cross1 = s.drv.cross1 := (congrArg (fun u => u.drv.cross1) h :)

theorem feedOf_of_feeds (h : t.drv.feeds = s.drv.feeds) (f : Nat) : feedOf t f = feedOf s f := by
  unfold feedOf
  rw [h]

/-- Whether a feed belongs to a pair is a matter of the configuration. -/
theorem paired_of_unfed (h : unfed t = unfed s) (f : Nat) : paired t f = paired s f := (congrArg (paired · f) h :)

theorem partner_ne (f : Nat) : partner f ≠ f := by
  unfold partner
  split <;> omega

/-- The state as the opening of a feed leaves its feeds and dead times. -/
def feedOpened (s : State) (f : Nat) (dead : Tbl (Option Nat)) : State :=
  { s with drv := { s.drv with feeds := tset s.drv.feeds f { feedOf s f with closed := false, openCmd := none }, dead := dead } }

/-- A feed that the line die opens stands open without its open command; beside it the dead times and the models change alone. -/
theorem feedOpens_unmodelled (s : State) (f : Nat) : ∃ dead, unmodelled (feedOpens s f) = unmodelled (feedOpened s f dead) := by
  unfold feedOpens
  extract_lets x u d _ v
  have hv : ∃ dead, unmodelled v = unmodelled (feedOpened s f dead) := by
    unfold v
    split <;> exact ⟨_, rfl⟩
  clear_value v d
  split
  · next h =>
    rw [Bool.not_eq_true'] at h
    refine ⟨s.drv.dead, ?_⟩
    have hx : { x with openCmd := none } = { x with closed := false, openCmd := none } := by rw [← h]
    rw [hx]
    rfl
  · obtain ⟨dead, hv⟩ := hv
    refine ⟨dead, ?_⟩
    split
    · split
      · exact hv
      · exact (unmodelled_travelFreezes _ _).trans hv
    · exact hv

theorem feedOpens_feeds (s : State) (f : Nat) :
    (feedOpens s f).drv.feeds = tset s.drv.feeds f { feedOf s f with closed := false, openCmd := none } := by
  obtain ⟨dead, h⟩ := feedOpens_unmodelled s f
  exact (feeds_of_unmodelled h :)

theorem unfed_feedOpens (s : State) (f : Nat) : unfed (feedOpens s f) = unfed s := by
  obtain ⟨dead, h⟩ := feedOpens_unmodelled s f
  exact (unfed_of_unmodelled h :)

theorem feedOpens_self (s : State) (f : Nat) : feedOf (feedOpens s f) f = { feedOf s f with closed := false, openCmd := none } := by
  rw [feedOf, feedOpens_feeds s f, tget_tset_self]

theorem feedOpens_ne (s : State) {f g : Nat} (h : g ≠ f) : feedOf (feedOpens s f) g = feedOf s g := by
  rw [feedOf, feedOpens_feeds s f, tget_tset_ne _ _ _ h, feedOf]

theorem exec_feedOpen {f : Fin 8} {a : Nat} (h : (feedOf s f).openCmd = some a) : exec (.feedOpen f) s = .next (feedOpens s f) :=
  congrArg Host.Outcome.next (if_pos (by rw [h]; rfl))

theorem exec_feedOpenTimeout_of_due {f : Fin 8} {a : Nat} (h : (feedOf s f).openCmd = some a) (hc : comesAt s (a + 11 * tickMs) = some t) :
    exec (.feedOpenTimeout f) s = .next (feedOpens t f) := by
  refine congrArg Host.Outcome.next ?_
  rw [h]
  exact atTick_some (o := some _) hc

/-! ### Zero crossings (R370, R372) -/

theorem unfed_feedCloses (s : State) (f : Nat) : unfed (feedCloses s f) = unfed s := by
  unfold feedCloses
  dsimp only
  split
  · rfl
  · split_ifs
    · rfl
    · rfl
    · rfl
    · split
      · split
        · exact Eq.trans (unfed_of_unmodelled (unmodelled_travelBegins _ _ _)) rfl
        · rfl
      · rfl

theorem feedCloses_idle {f : Nat} (h : (feedOf s f).closeCmd = none) : feedCloses s f = s := by
  unfold feedCloses
  dsimp only
  rw [h]

/-- A feed that nothing holds open closes 50 µs after its command at the earliest. -/
theorem feedCloses_feeds {f a : Nat} (hc : (feedOf s f).closeCmd = some a) (ho : (feedOf s f).closed = false) (ha : a + 400 ≤ s.now)
    (hh : feedHeld s f = false) : (feedCloses s f).drv.feeds =
      tset s.drv.feeds f { feedOf s f with closed := true, closeCmd := none, openCmd := none, closes := satInc 65535 (feedOf s f).closes } := by
  unfold feedCloses
  dsimp only
  rw [hc]
  dsimp only
  rw [if_neg (by simp [ho]), if_neg (by simp [hh, ha])]
  split
  · split
    · exact feeds_of_unmodelled (unmodelled_travelBegins _ _ _)
    · rfl
  · rfl

theorem foldl_feedCloses_idle (l : List Nat) (h : ∀ g, (feedOf s g).closeCmd = none) : l.foldl feedCloses s = s := by
  induction l with
  | nil => rfl
  | cons g l ih => rw [List.foldl_cons, feedCloses_idle (h g), ih]

/-- Where one feed alone has a close command and it is carried out, the crossing carries out no other. -/
theorem foldl_feedCloses_alone {f : Nat} {l : List Nat} (hf : f ∈ l) (hs : ∀ g, g ≠ f → (feedOf s g).closeCmd = none)
    (hu : ∀ g, (feedOf (feedCloses s f) g).closeCmd = none) : l.foldl feedCloses s = feedCloses s f := by
  induction l with
  | nil => exact absurd hf List.not_mem_nil
  | cons g l ih =>
    rw [List.foldl_cons]
    by_cases hg : g = f
    · rw [hg]
      exact foldl_feedCloses_idle l hu
    · rw [feedCloses_idle (hs g hg)]
      exact ih ((List.mem_cons.mp hf).resolve_left (Ne.symm hg))

/-- The line die has seen a crossing. -/
def crossed (s : State) : State :=
  { s with pwr := { s.pwr with lastCross := some s.now }, drv := { s.drv with cross2 := s.drv.cross1, cross1 := some s.now } }

theorem zeroCrossing_unconverted (s : State) (raw : Nat) : unconverted (zeroCrossing s raw) = unconverted ((List.range 8).foldl feedCloses (crossed s)) :=
  unconverted_icCrossing _ raw

theorem zeroCrossing_seen (s : State) (raw : Nat) : (zeroCrossing s raw).pwr.lastCross = some s.now ∧ (zeroCrossing s raw).drv.cross1 = some s.now := by
  have hfed : unfed ((List.range 8).foldl feedCloses (crossed s)) = unfed (crossed s) := foldl_keeps unfed unfed_feedCloses _ _
  have hun := zeroCrossing_unconverted s raw
  rw [pwr_of_unconverted hun, drv_of_unconverted hun, pwr_of_unfed hfed, cross1_of_unfed hfed]
  exact ⟨rfl, rfl⟩

/-- The one close command that waits is carried out, where nothing holds its feed open. -/
theorem zeroCrossing_closes {f : Fin 8} {a : Nat} (raw : Nat) (hothers : ∀ g : Nat, g ≠ f.val → (feedOf s g).closeCmd = none)
    (hc : (feedOf s f).closeCmd = some a) (ha : a + 400 ≤ s.now) (ho : (feedOf s f).closed = false) (hh : feedHeld (crossed s) f = false) :
    (feedOf (zeroCrossing s raw) f).closed = true ∧ (feedOf (zeroCrossing s raw) f).closeCmd = none := by
  have hfeeds := feedCloses_feeds (s := crossed s) hc ho ha hh
  have hself : feedOf (feedCloses (crossed s) f) f = { feedOf s f with
      closed := true, closeCmd := none, openCmd := none, closes := satInc 65535 (feedOf s f).closes } := by
    rw [feedOf, hfeeds, tget_tset_self]
    rfl
  have hidle : ∀ g, (feedOf (feedCloses (crossed s) f) g).closeCmd = none := fun g => by
    by_cases hg : g = f.val
    · rw [hg, hself]
    · rw [feedOf, hfeeds, tget_tset_ne _ _ _ hg]
      exact hothers g hg
  have hfold : (List.range 8).foldl feedCloses (crossed s) = feedCloses (crossed s) f :=
    foldl_feedCloses_alone (List.mem_range.mpr f.isLt) hothers hidle
  have hdrv := drv_of_unconverted (zeroCrossing_unconverted s raw)
  rw [feedOf_of_feeds (congrArg Drv.feeds hdrv), hfold, hself]
  exact ⟨rfl, rfl⟩

/-! ### The Snuffer (R375, R376) -/

/-- The state as a trip leaves it, before the pair of its feed opens. -/
def feedTripped (s : State) (f : Nat) : State :=
  setFeed (feedOpens s f) f { feedOf (feedOpens s f) f with
    trip := true, closeCmd := none, openCmd := none, tripAt := (feedOpens s f).now :: lastDay (feedOpens s f) (feedOf s f).tripAt,
    trips := satInc 255 (feedOf s f).trips }

theorem feedTrips_drv (s : State) (f : Nat) :
    (feedTrips s f).drv = (if paired s f then feedOpens (feedTripped s f) (partner f) else feedTripped s f).drv := by
  have hpaired : paired (feedTripped s f) f = paired s f := paired_of_unfed (unfed_feedOpens s f) f
  rw [← hpaired]
  unfold feedTrips
  dsimp only
  rw [(arrive_frame _ _ _ _ _).1]
  rfl

/-- A trip opens its feed, latches and is counted; the other feed of a pair opens with it. -/
theorem feedTrips_effect (s : State) (f : Nat) : (feedOf (feedTrips s f) f).closed = false ∧ (feedOf (feedTrips s f) f).trip = true ∧
    (feedOf (feedTrips s f) f).trips = satInc 255 (feedOf s f).trips ∧
    (paired s f = true → (feedOf (feedTrips s f) (partner f)).closed = false) := by
  have hread : ∀ g, feedOf (feedTrips s f) g = feedOf (if paired s f then feedOpens (feedTripped s f) (partner f) else feedTripped s f) g :=
    fun g => feedOf_of_feeds (congrArg Drv.feeds (feedTrips_drv s f)) g
  have hself : feedOf (feedTrips s f) f = feedOf (feedTripped s f) f := by
    rw [hread]
    split
    · exact feedOpens_ne _ (partner_ne f).symm
    · rfl
  rw [hself, feedTripped, setFeed_feedOf_self, feedOpens_self]
  refine ⟨rfl, rfl, rfl, fun hp => ?_⟩
  rw [hread, if_pos hp, feedOpens_self]

theorem exec_feedTrip {f : Fin 8} {ma : Nat} (hc : (feedOf s f).closed = true) (hm : 100 * (feedOf s f).lim < ma) (ht : (feedOf s f).trip = false) :
    exec (.feedTrip f ma) s = .next (feedTrips s f) :=
  congrArg Host.Outcome.next (if_pos (by simp [hc, hm, ht]))

theorem exec_feedTrip_below {f : Fin 8} {ma : Nat} (h : ma ≤ 100 * (feedOf s f).lim) : exec (.feedTrip f ma) s = .next s :=
  congrArg Host.Outcome.next (if_neg (by simp [h]))

theorem exec_feedLimit {f : Fin 8} {v : Word} (h : 10 ≤ v.toNat % 128 ∧ v.toNat % 128 ≤ 80) :
    exec (.snufferLimitWrite (.feed f) v) s = .next (setFeed s f { feedOf s f with limNext := some (v.toNat % 128) }) :=
  congrArg Host.Outcome.next (if_pos (by simpa using h))

theorem exec_feedLimit_outside {f : Fin 8} {v : Word} (h : v.toNat % 128 < 10 ∨ 80 < v.toNat % 128) :
    exec (.snufferLimitWrite (.feed f) v) s = .next s :=
  congrArg Host.Outcome.next (if_neg (by simp only [Bool.and_eq_true, decide_eq_true_eq]; omega))

theorem latchClears_feed (s : State) (f : Fin 8) : (feedOf (latchClears s (.feed f)) f).trip = false := by
  unfold latchClears
  dsimp only
  rw [feedOf_of_feeds (congrArg Drv.feeds (notify_drv _ _ _ _)), setFeed_feedOf_self]

end Sys2Proof.Laws

namespace Sys2Proof.Proofs
open Sys2Proof Sys2Proof.Machine Sys2Proof.Laws

/-- Settles O33: a window's end holds its result, and the oldest result leaves alone. -/
theorem scanRowsComplete : Obligations.ScanRowsComplete := by
  intro s s'
  refine ⟨fun w raw hw hsync hvoid hs hc => ?_, fun r l hl hs => ⟨_, exec_icResultRelease hl hs, rfl, resRelease_held _ _ _⟩,
    fun r l hl hs hc => ⟨_, exec_icReleaseTimeout_of_due hl hs hc, rfl, resRelease_held _ _ _⟩⟩
  have hwin : s'.cnv.win = some w := (congrArg Cnv.win (comesAt_cnv hc)).trans hw
  obtain ⟨hheld, hlen⟩ := Prod.mk.inj ((windowsDone_icFree _).trans (windowsDone_winEnd hwin hvoid raw.toNat true s'.now))
  rw [comesAt_cnv hc] at hheld
  exact ⟨_, exec_icFreeWindowEnd_of_due hw hsync hs hc, hheld, hlen⟩

/-- Settles O34, row by row. -/
theorem channelRowsComplete : Obligations.ChannelRowsComplete := by
  intro s
  exact ⟨fun lv hs => ⟨_, congrArg Host.Outcome.next (if_pos hs), rfl⟩, fun c ma hm ho hma => exec_odTrip hm ho hma,
    fun c ma h => exec_odTrip_below h, fun g ma h => exec_groupTrip_effect h,
    fun g ma h => ⟨_, congrArg Host.Outcome.next (if_pos h), setGrp_grpSt_self _ _ _, rfl⟩⟩

/-- Settles O35, row by row. -/
theorem burstAndCalibrationRowsComplete : Obligations.BurstAndCalibrationRowsComplete := by
  intro s s'
  refine ⟨fun fi hs ha hb hq => ⟨fun hown hc => ?_, fun hown hp hf hl => ?_, fun c hown hp hd ht => ?_⟩, fun b codes hb hs hf hq hc => ?_,
    fun sq lv li hs hl => ⟨_, congrArg Host.Outcome.next (if_pos (by simp [hs, hl])), by rw [lcSet_cnv]⟩, fun vals h2 hs hf hc => ?_,
    fun hs hr => ⟨_, congrArg Host.Outcome.next (if_pos (by simp [hs, hr])), refFault_ref s⟩,
    fun hs hr => ⟨_, congrArg Host.Outcome.next (if_pos (by simp [hs, hr])), ?_⟩⟩
  · exact ⟨_, _, exec_fcTrigger_own hs ha hb hq hown hc, rfl, decide_eq_true hown, by simp [hown], rfl⟩
  · obtain ⟨l, he⟩ := exec_fcTrigger_free hs ha hb hq hown hp hf hl
    exact ⟨_, _, he, rfl, decide_eq_false (Nat.not_le_of_lt hown), if_neg (Nat.not_le_of_lt hown), rfl⟩
  · exact ⟨_, _, exec_fcTrigger_counter hs ha hb hq hown hp hd ht, rfl, decide_eq_false (Nat.not_le_of_lt hown), if_neg (Nat.not_le_of_lt hown), rfl⟩
  · have he := exec_fcBurstEnd_of_due hb hs hf hc
    obtain rfl := comesAt_now hc
    exact ⟨_, _, he, burstOver_last b codes hq, rfl, rfl, rfl⟩
  · have he : exec (.calPhaseEnd vals) s = .next (phaseEnd vals s') :=
      congrArg Host.Outcome.next ((if_pos (by simp [h2, hs, hf])).trans (atTick_some hc))
    obtain ⟨n, -, hn⟩ := comesAt?_cases hc
    obtain rfl := comesAt_now hn
    obtain ⟨hphases, hpend⟩ := Prod.mk.inj (phasesDone_phaseEnd vals { s with now := max s.now n })
    exact ⟨_, he, hphases, hpend ▸ List.mem_append_right _ (List.mem_singleton.mpr rfl)⟩
  · rw [notify_cnv]
    exact (refOk_effect s).1

/-- Settles O41, row by row. -/
theorem feedRowsComplete : Obligations.FeedRowsComplete := by
  intro s s' f
  refine ⟨fun raw => ⟨_, rfl, zeroCrossing_seen s _⟩, fun raw a hothers hc ha ho hh => ⟨_, rfl, zeroCrossing_closes _ hothers hc ha ho hh⟩,
    fun hcfg hline => ?_, fun a ha => ?_, fun a ha hc => ?_,
    fun ma hc hm ht => ⟨_, exec_feedTrip hc hm ht, feedTrips_effect s f⟩, fun ma h => exec_feedTrip_below h, fun v hlo hhi => ?_,
    fun v h => exec_feedLimit_outside h, fun hc => ⟨_, congrArg Host.Outcome.next (atTick_some hc), latchClears_feed s' f⟩⟩
  · refine ⟨_, congrArg Host.Outcome.next (if_pos (by simp [hcfg, hline])), ?_⟩
    rw [feedCommand, setFeed_feedOf_self]
    exact ⟨rfl, rfl⟩
  · refine ⟨_, exec_feedOpen ha, ?_⟩
    rw [feedOpens_self]
    exact ⟨rfl, rfl⟩
  · refine ⟨_, exec_feedOpenTimeout_of_due ha hc, ?_⟩
    rw [feedOpens_self]
    exact ⟨rfl, rfl⟩
  · refine ⟨_, exec_feedLimit ⟨hlo, hhi⟩, ?_⟩
    rw [setFeed_feedOf_self]
    exact ⟨rfl, rfl⟩

end Sys2Proof.Proofs
end

section
/-!
What the rows of the counters do: how a counter advances, how captures are sent as records, and what compare writes and clears leave of a
chain (R339 to R366).
-/
namespace Sys2Proof.Laws
open Sys2Proof Sys2Proof.Machine
variable {s : State}

/-! ### One counter changed -/

@[simp] theorem modCt_ctSt_self (s : State) (n : Nat) (f : CtSt → CtSt) : ctSt (modCt s n f) n = f (ctSt s n) := setCt_ctSt_self _ _ _

/-- What the new state of one counter leaves alone is left alone in every counter. -/
theorem setCt_keeps {α : Type} (g : CtSt → α) {n : Nat} {c : CtSt} (h : g c = g (ctSt s n)) (m : Nat) : g (ctSt (setCt s n c) m) = g (ctSt s m) := by
  by_cases hm : m = n
  · rw [hm, setCt_ctSt_self, h]
  · rw [setCt_ctSt_ne _ _ _ _ hm]

/-! ### Advancing (R339, R348) -/

theorem ctSt_stepAdvance_self (s : State) (n : Nat) : ctSt (stepAdvance s n).1 n =
    { ctSt s n with count := (ctSt s n).count + 1, ovfs := if (ctSt s n).count = 0xFFFF then satInc 65535 (ctSt s n).ovfs else (ctSt s n).ovfs } :=
  setCt_ctSt_self _ _ _

theorem ctSt_stepAdvance_ne (s : State) {n m : Nat} (h : m ≠ n) : ctSt (stepAdvance s n).1 m = ctSt s m := setCt_ctSt_ne _ _ _ _ h

theorem stepAdvance_wraps (s : State) (n : Nat) : (stepAdvance s n).2 = decide ((ctSt s n).count = 0xFFFF) := rfl

theorem toNat_succ_of_below {c : BitVec 16} (h : c ≠ 0xFFFF) : (c + 1).toNat = c.toNat + 1 := by bv_omega

theorem exec_counterAdvance_of_event {n : Fin 16} {u : State} (hc : counting s = true) (hsrc : ctSource s n ≠ "OFF") (hcas : isCascade s n = false)
    (hin : ctNoInput s n = false) (hev : clkEvent (edgeBegins s) n = some u) :
    exec (.counterAdvance n) s = .next (countParks (edgeTakes u (fun m => m == n.val) noEvent)) := by
  refine congrArg Host.Outcome.next ((if_neg (by simp [hc, hsrc, hcas, hin])).trans ?_)
  rw [hev]

/-- Until the prescaler has counted the clocks of one event, a source clock changes nothing. -/
theorem exec_counterAdvance_of_none {n : Fin 16} (hev : clkEvent (edgeBegins s) n = none) : exec (.counterAdvance n) s = .next s := by
  refine congrArg Host.Outcome.next ?_
  rw [hev, ite_self]

/-! ### The prescalers (R344, R353) -/

/-- A counter without what its prescaler can change. -/
def unprescaled (c : CtSt) : CtSt := { c with phase := none, residue := 0 }

theorem fields_of_unprescaled {c d : CtSt} (h : unprescaled c = unprescaled d) : c.cmp = d.cmp ∧ c.writes = d.writes ∧ c.count = d.count :=
  ⟨(congrArg CtSt.cmp h :), (congrArg CtSt.writes h :), (congrArg CtSt.count h :)⟩

theorem unprescaled_ctPark (s : State) (n m : Nat) : unprescaled (ctSt (ctPark s n) m) = unprescaled (ctSt s m) := by
  unfold ctPark
  dsimp only
  split
  · exact setCt_keeps unprescaled (by rfl) m
  · exact setCt_keeps unprescaled (by rfl) m
  · rfl

/-- The prescalers that follow whether their counters run change nothing else of any counter. -/
theorem unprescaled_countParks (s : State) (m : Nat) : unprescaled (ctSt (countParks s) m) = unprescaled (ctSt s m) :=
  foldl_keeps (fun s => unprescaled (ctSt s m)) (fun s n => unprescaled_ctPark s n m) _ s

/-! ### Records (R351) -/

/-- A counter without what the record last sent leaves in it. -/
def unsent (c : CtSt) : CtSt := { c with lastVal := 0, lastKind := 0, lastTick := 0 }

theorem fields_of_unsent {c d : CtSt} (h : unsent c = unsent d) : c.sampled = d.sampled ∧ c.count = d.count :=
  ⟨(congrArg CtSt.sampled h :), (congrArg CtSt.count h :)⟩

@[simp] theorem ctSt_sendRecord (s : State) (x : Nat) (v : BitVec 16) (tick : Nat) (p : Pay) (m : Nat) : ctSt (sendRecord s x v tick p) m = ctSt s m := rfl

/-- The records of a capture change nothing of any counter but its last record. -/
theorem unsent_sendMembers (b : Nat) (e : CtCap) (l : List (BitVec 16)) (m : Nat) (s : State) (i : Nat) :
    unsent (ctSt (sendMembers b e s i l) m) = unsent (ctSt s m) := by
  induction l generalizing s i with
  | nil => rfl
  | cons v l ih =>
    rw [sendMembers, ih, ctSt_sendRecord]
    exact setCt_keeps unsent (by rfl) m

/-- A capture of a counter without a chain above it is one record, which stands as the last one of its counter. -/
theorem ctSt_sendMembers_single (s : State) (b : Nat) (e : CtCap) (v : BitVec 16) :
    ctSt (sendMembers b e s 0 [v]) b = { ctSt s b with lastVal := v, lastKind := e.kind, lastTick := e.tick } := by
  rw [sendMembers, sendMembers, ctSt_sendRecord, Nat.add_zero, modCt_ctSt_self]

theorem ctSt_queueSend_single {m : Nat} {e : CtCap} {l : List CtCap} {v : BitVec 16} (hq : (ctSt s m).queue = e :: l) (hv : e.vals = [v]) :
    ctSt (queueSend s m) m = { ctSt s m with queue := l, lostNoted := if l.isEmpty then false else (ctSt s m).lostNoted,
                                             lastVal := v, lastKind := e.kind, lastTick := e.tick } := by
  simp only [queueSend, hq, hv]
  rw [ctSt_sendMembers_single, modCt_ctSt_self]

theorem ctSt_epochSend_single {n : Nat} {e : CtCap} {v : BitVec 16} (hf : (ctSt s n).filt = some e) (hv : e.vals = [v]) :
    ctSt (epochSend s n) n = { ctSt s n with filt := none, lastVal := v, lastKind := e.kind, lastTick := e.tick } := by
  simp only [epochSend, hf, hv]
  rw [ctSt_sendMembers_single, modCt_ctSt_self]

/-- A SAMPLE record marks its epoch in its counter, and changes nothing else of it but the make-up flag and its last record. -/
theorem unsent_epochSend_sample {n : Nat} (hf : (ctSt s n).filt = none) (hd : sampleDue s n = true) :
    unsent (ctSt (epochSend s n) n) = unsent { ctSt s n with sampled := some s.epoch, makeup := false } := by
  simp only [epochSend, hf, hd, if_true, sampleSend]
  rw [unsent_sendMembers, setCt_ctSt_self]

theorem exec_captureRecordSend_of_next {a m : Nat} (hc : counting s = true) (ht : nearTick s = false) (ho : outFree s = true)
    (hn : nextCapture s = some (a, m)) : exec .captureRecordSend s = .next (queueSend s m) := by
  refine congrArg Host.Outcome.next ((if_neg (by simp [hc, ht, ho])).trans ?_)
  rw [hn]

/-! ### Compare writes (R345) -/

theorem cmpLine_single {n a k : Nat} {v : BitVec 16} (hw : (ctSt s n).writes = [⟨.cmp v, a, k⟩]) (ha : a ≤ s.now) : cmpLine s n = some k := by
  simp [cmpLine, hw, ha]

theorem ctSt_writesWhere_single {p : CtFlight → Bool} {n : Nat} {v : BitVec 16} {a k : Nat} (hw : (ctSt s n).writes = [⟨.cmp v, a, k⟩])
    (hp : p ⟨.cmp v, a, k⟩ = true) : ctSt (writesWhere p s n) n = { ctSt s n with writes := [], cmp := v } := by
  simp only [writesWhere, hw, List.filter_cons_of_pos hp, List.filter_nil, List.mergeSort_singleton, List.foldl_cons, List.foldl_nil, writeApply]
  rw [modCt_ctSt_self, modCt_ctSt_self]
  simp [hp]

theorem exec_compareWriteEffect_single {n : Fin 16} {v : BitVec 16} {a k : Nat} (hr : coreRuns s = true) (hq : ctSleeping s = false)
    (hw : (ctSt s n).writes = [⟨.cmp v, a, k⟩]) (ha : a ≤ s.now) :
    exec (.compareWriteEffect n) s = .next (countParks (writesWhere (fun w => w.line ≤ k && w.at_ ≤ s.now) s n)) := by
  refine congrArg Host.Outcome.next ((if_neg (by simp [hr, hq])).trans ?_)
  rw [cmpLine_single hw ha]

/-! ### Clears (R342, R344) -/

/-- What a clear of the chain does to one of its members. -/
def memberCleared (s : State) (n : Nat) : State :=
  modCt s n fun c => { c with count := 0, residue := 0, phase := c.phase.map fun _ => (clkRate s n * s.now : Nat) }

theorem chainClear_eq (s : State) (b : Nat) : chainClear s b = (chainOf s b).foldl memberCleared s := rfl

/-- A counter that a clear has emptied. -/
def ctEmpty (s : State) (m : Nat) : Prop := (ctSt s m).count = 0 ∧ (ctSt s m).residue = 0

theorem memberCleared_self (s : State) (m : Nat) : ctEmpty (memberCleared s m) m := by
  rw [ctEmpty, memberCleared, modCt_ctSt_self]
  exact ⟨rfl, rfl⟩

theorem memberCleared_keeps_empty {m : Nat} (n : Nat) (h : ctEmpty s m) : ctEmpty (memberCleared s n) m := by
  by_cases hm : m = n
  · exact hm ▸ memberCleared_self s m
  · rw [ctEmpty, memberCleared, modCt, setCt_ctSt_ne _ _ _ _ hm]
    exact h

theorem foldl_memberCleared_empty {m : Nat} (l : List Nat) (h : m ∈ l ∨ ctEmpty s m) : ctEmpty (l.foldl memberCleared s) m := by
  induction l generalizing s with
  | nil => exact h.resolve_left List.not_mem_nil
  | cons n l ih =>
    refine ih ?_
    obtain hl | he := h
    · obtain rfl | hl := List.mem_cons.mp hl
      · exact .inr (memberCleared_self s m)
      · exact .inl hl
    · exact .inr (memberCleared_keeps_empty n he)

/-- A clear empties every member of the chain. -/
theorem chainClear_member {b m : Nat} (h : m ∈ chainOf s b) : ctEmpty (chainClear s b) m := by
  rw [chainClear_eq]
  exact foldl_memberCleared_empty _ (.inl h)

theorem mem_chainOf_bottom (s : State) (b : Nat) : b ∈ chainOf s b :=
  List.mem_map.mpr ⟨0, List.mem_range.mpr (Nat.succ_pos _), rfl⟩

end Sys2Proof.Laws

namespace Sys2Proof.Proofs
open Sys2Proof Sys2Proof.Machine Sys2Proof.Laws

/-- Settles O39, by whether the counter stands at its largest value. -/
theorem countersWrapAndCountOverflows : Obligations.CountersWrapAndCountOverflows := by
  intro s n
  rw [ctSt_stepAdvance_self, stepAdvance_wraps]
  refine ⟨fun htop => ?_, fun hbelow => ?_, fun m hm => ctSt_stepAdvance_ne s hm⟩
  · exact ⟨by rw [htop]; rfl, decide_eq_true htop, if_pos htop⟩
  · exact ⟨toNat_succ_of_below hbelow, decide_eq_false hbelow, if_neg hbelow⟩

/-- Settles O38, row by row. -/
theorem counterRowsComplete : Obligations.CounterRowsComplete := by
  intro s n
  refine ⟨fun u r hc => ⟨_, congrArg Host.Outcome.next (if_neg (by simp [hc])), rfl⟩,
    fun u hc hsrc hcas hin hev => exec_counterAdvance_of_event hc hsrc hcas hin hev,
    exec_counterAdvance_of_none,
    fun hc ha => ⟨_, congrArg Host.Outcome.next (if_pos (by simp [hc, ha])), rfl⟩,
    fun hc hcas hcap hfr hin => ⟨_, congrArg Host.Outcome.next (if_neg (by simp [hc, hcas, hcap, hfr, hin])), rfl⟩,
    fun a m e l v hc ht ho hn hq hv => ⟨_, exec_captureRecordSend_of_next hc ht ho hn, ?_⟩,
    fun hc he hd => congrArg Host.Outcome.next (if_pos (by simp [hc, he, hd])),
    fun hc he hf => congrArg Host.Outcome.next (if_pos (by simp [hc, he, Option.isSome_iff_ne_none, hf])),
    fun hf hd => fields_of_unsent (unsent_epochSend_sample hf hd),
    fun e v hf hv => ?_,
    fun v a k hr hq hw ha => ⟨_, exec_compareWriteEffect_single hr hq hw ha, ?_⟩,
    fun hr hq => ⟨_, congrArg Host.Outcome.next (if_neg (by simp [hr, hq])), chainClear_member (mem_chainOf_bottom _ _)⟩,
    fun v hr ho => ⟨_, congrArg Host.Outcome.next (if_pos (by simp [hr, ho])), ?_⟩,
    fun hr => ⟨_, congrArg Host.Outcome.next (if_pos hr), ?_⟩⟩
  · rw [ctSt_queueSend_single hq hv]
    exact ⟨rfl, rfl, rfl, rfl⟩
  · rw [ctSt_epochSend_single hf hv]
    exact ⟨rfl, rfl, rfl⟩
  · have hpark := unprescaled_countParks (writesWhere (fun w => w.line ≤ k && w.at_ ≤ s.now) s n) n
    rw [ctSt_writesWhere_single hw (by simp [ha])] at hpark
    exact fields_of_unprescaled hpark
  · rw [ctWrite, modCt_ctSt_self]
    exact ⟨rfl, rfl⟩
  · rw [capLatch, modCt_ctSt_self]

end Sys2Proof.Proofs
end

section
/-!
Which feeds a command can close (R370), and how the line die interlocks the two feeds of a pair at a zero crossing (R371).
-/
namespace Sys2Proof.Laws
open Sys2Proof Sys2Proof.Machine
variable {s t : State}

/-! ### Commands that close no feed -/

theorem Keeps.feedClosed (h : Keeps s t) {f : Nat} (hf : t.feedClosed f) : s.feedClosed f := h.feeds f hf

/-- The boundary, the release of the core die and every command but a zero crossing leave open what stands open: neither the advance to
a boundary nor the release itself touches a feed. -/
theorem exec_closes_no_feed {c : Instr} {f : Nat} (hz : ∀ raw, c ≠ .zeroCrossing raw) (h : exec c s = .next t) (hf : t.feedClosed f) :
    s.feedClosed f := by
  by_cases hb : c = .epochBoundary
  · subst hb
    obtain rfl | k := keeps_execEpochBoundary h
    · exact hf
    · have hadvanced : (epochAdvances s).feedClosed f := k.feedClosed hf
      exact hadvanced
  by_cases hr : c = .coreResetRelease
  · subst hr
    obtain k | ⟨u, k, l⟩ := keeps_execCoreResetRelease h
    · exact k.feedClosed hf
    · have hreleased : (coreReleased u).feedClosed f := l.feedClosed hf
      exact k.feedClosed hreleased
  · exact (keeps_exec hb hr hz h).feedClosed hf

/-! ### The pair -/

theorem partner_partner (f : Nat) : partner (partner f) = f := by
  unfold partner
  split <;> split <;> omega

theorem partner_half (f : Nat) : partner f / 2 = f / 2 := by
  unfold partner
  split <;> omega

theorem paired_partner (s : State) (f : Nat) : paired s (partner f) = paired s f := by
  unfold paired
  rw [partner_half]

/-- A crossing leaves a feed as it is; or it writes the feed as closed, one that stood closed already or that nothing held open, and
beside it the models of the drives change alone. -/
theorem feedCloses_cases (s : State) (f : Nat) :
    feedCloses s f = s ∨ ((feedOf s f).closed = true ∨ feedHeld s f = false) ∧
      ∃ x : Feed, x.closed = true ∧ unmodelled (feedCloses s f) = unmodelled (setFeed s f x) := by
  unfold feedCloses
  dsimp only
  split
  · exact .inl rfl
  · split_ifs with hclosed hcmd hheld
    · exact .inr ⟨.inl hclosed, { feedOf s f with closeCmd := none }, hclosed, rfl⟩
    · exact .inl rfl
    · exact .inl rfl
    · have hfree : feedHeld s f = false := by
        simp only [Bool.or_eq_true, not_or, Bool.not_eq_true] at hheld
        exact hheld.2
      refine .inr ⟨.inr hfree, ?_⟩
      split
      · split
        · exact ⟨_, rfl, unmodelled_travelBegins _ _ _⟩
        · exact ⟨_, rfl, rfl⟩
      · exact ⟨_, rfl, rfl⟩

theorem feedCloses_ne {f g : Nat} (h : g ≠ f) : feedOf (feedCloses s f) g = feedOf s g := by
  obtain he | ⟨-, x, -, he⟩ := feedCloses_cases s f
  · rw [he]
  · exact (feedOf_of_feeds (feeds_of_unmodelled he) g).trans (setFeed_feedOf_ne _ _ _ _ h)

/-- A held feed that stands open goes on standing open, its close command with it. -/
theorem feedCloses_held {f : Nat} (ho : (feedOf s f).closed = false) (hh : feedHeld s f = true) : feedCloses s f = s :=
  (feedCloses_cases s f).resolve_right fun ⟨hgo, _⟩ => by simp [ho, hh] at hgo

/-- A zero crossing opens no feed. -/
theorem feedCloses_keeps_closed {f : Nat} (g : Nat) (h : s.feedClosed f) : (feedCloses s g).feedClosed f := by
  by_cases hg : f = g
  · subst hg
    obtain he | ⟨-, x, hx, he⟩ := feedCloses_cases s f
    · rwa [he]
    · rwa [State.feedClosed, feedOf_of_feeds (feeds_of_unmodelled he), setFeed_feedOf_self]
  · rwa [State.feedClosed, feedCloses_ne hg]

theorem feedCloses_dead (s : State) (f : Nat) : (feedCloses s f).drv.dead = s.drv.dead := by
  obtain he | ⟨-, x, -, he⟩ := feedCloses_cases s f
  · rw [he]
  · exact (congrArg (fun u => u.drv.dead) he :)

/-! ### The interlock -/

/-- The two feeds of a pair are not closed together. -/
def pairApart (s : State) (f : Nat) : Prop := ¬(s.feedClosed f ∧ s.feedClosed (partner f))

theorem pairApart_partner (f : Nat) : pairApart s (partner f) ↔ pairApart s f := by
  unfold pairApart
  rw [partner_partner, and_comm]

/-- A feed is held while its partner is closed or the dead time of its partner's opening runs. -/
def pairHolds (s : State) (f : Nat) : Prop := s.feedClosed (partner f) ∨ pairDeadNow s f = true

theorem feedHeld_of_pairHolds {f : Nat} (hp : paired s f = true) (h : pairHolds s f) : feedHeld s f = true := by
  unfold feedHeld
  obtain hclosed | hdead := h
  · rw [State.feedClosed] at hclosed
    simp [hp, hclosed]
  · simp [hp, hdead]

theorem pairDeadNow_feedCloses (s : State) (f g : Nat) : pairDeadNow (feedCloses s g) f = pairDeadNow s f := by
  have hnow : (feedCloses s g).now = s.now := (congrArg State.now (unfed_feedCloses s g) :)
  unfold pairDeadNow feedDead
  rw [feedCloses_dead, hnow]

/-- A feed closes only where its partner stands open. -/
theorem feedCloses_self_pairApart {f : Nat} (hp : paired s f = true) (h : pairApart s f) : pairApart (feedCloses s f) f := by
  by_cases hopen : (feedOf s f).closed = false ∧ feedHeld s f = true
  · rwa [feedCloses_held hopen.1 hopen.2]
  · rintro ⟨-, hpartner⟩
    rw [State.feedClosed, feedCloses_ne (partner_ne f)] at hpartner
    by_cases hclosed : s.feedClosed f
    · exact h ⟨hclosed, hpartner⟩
    · exact hopen ⟨Bool.eq_false_iff.mpr hclosed, feedHeld_of_pairHolds hp (.inl hpartner)⟩

theorem feedCloses_pairApart {f : Nat} (g : Nat) (hp : paired s f = true) (h : pairApart s f) : pairApart (feedCloses s g) f := by
  by_cases hg : g = f
  · subst hg
    exact feedCloses_self_pairApart hp h
  by_cases hgp : g = partner f
  · subst hgp
    exact (pairApart_partner f).mp (feedCloses_self_pairApart ((paired_partner s f).trans hp) ((pairApart_partner f).mpr h))
  · rwa [pairApart, State.feedClosed, State.feedClosed, feedCloses_ne (Ne.symm hg), feedCloses_ne (Ne.symm hgp)]

theorem foldl_feedCloses_pairApart {f : Nat} (l : List Nat) (hp : paired s f = true) (h : pairApart s f) : pairApart (l.foldl feedCloses s) f := by
  induction l generalizing s with
  | nil => exact h
  | cons g l ih => exact ih ((paired_of_unfed (unfed_feedCloses s g) f).trans hp) (feedCloses_pairApart g hp h)

theorem feedCloses_pairHolds {f : Nat} (g : Nat) (h : pairHolds s f) : pairHolds (feedCloses s g) f :=
  h.imp (feedCloses_keeps_closed g) (pairDeadNow_feedCloses s f g).trans

theorem foldl_feedCloses_held {f : Nat} (l : List Nat) (hp : paired s f = true) (ho : (feedOf s f).closed = false) (h : pairHolds s f) :
    feedOf (l.foldl feedCloses s) f = feedOf s f := by
  induction l generalizing s with
  | nil => rfl
  | cons g l ih =>
    have hkept : feedOf (feedCloses s g) f = feedOf s f := by
      by_cases hg : g = f
      · subst hg
        rw [feedCloses_held ho (feedHeld_of_pairHolds hp h)]
      · exact feedCloses_ne (Ne.symm hg)
    have hrest := ih ((paired_of_unfed (unfed_feedCloses s g) f).trans hp) (hkept ▸ ho) (feedCloses_pairHolds g h)
    exact hrest.trans hkept

theorem feedOf_zeroCrossing (s : State) (raw f : Nat) : feedOf (zeroCrossing s raw) f = feedOf ((List.range 8).foldl feedCloses (crossed s)) f :=
  feedOf_of_feeds (congrArg Drv.feeds (drv_of_unconverted (zeroCrossing_unconverted s raw))) f

/-- No zero crossing closes the two feeds of a pair together (R371). -/
theorem zeroCrossing_pairApart {f : Nat} (raw : Nat) (hp : paired s f = true) (h : pairApart s f) : pairApart (zeroCrossing s raw) f := by
  rw [pairApart, State.feedClosed, State.feedClosed, feedOf_zeroCrossing, feedOf_zeroCrossing]
  exact foldl_feedCloses_pairApart (s := crossed s) (List.range 8) hp h

/-- An open feed of a pair, and the close command that waits for it, come unchanged through a zero crossing while the partner is closed
or the dead time of its opening runs (R371). -/
theorem zeroCrossing_pairWaits {f : Nat} (raw : Nat) (hp : paired s f = true) (ho : ¬s.feedClosed f) (h : pairHolds s f) :
    feedOf (zeroCrossing s raw) f = feedOf s f :=
  (feedOf_zeroCrossing s raw f).trans (foldl_feedCloses_held (s := crossed s) (List.range 8) hp (Bool.eq_false_iff.mpr ho) h)

/-- A feed that stands closed, in the dead time of its partner's opening, with a further close command: the drive D00 is a pair of LF2
and LF3. -/
def closedInDeadTime : State :=
  { State.reset with
    cfg := [((drvObj 0, "KIND"), [.word "PAIR"]), ((drvObj 0, "OUTPUT"), [.obj ⟨.feed, 2⟩, .obj ⟨.feed, 3⟩])]
    drv.feeds := [(2, { closed := true, closeCmd := some 0 })]
    drv.dead := [(3, some 1)] }

theorem closedInDeadTime_holds : paired closedInDeadTime 2 = true ∧ pairDeadNow closedInDeadTime 2 = true := by decide

/-- The crossing drops the command of a feed that stands closed already. -/
theorem closedInDeadTime_drops {t : State} (h : exec (.zeroCrossing 0) closedInDeadTime = .next t) :
    (feedOf closedInDeadTime 2).closeCmd = some 0 ∧ (feedOf t 2).closeCmd = none := by
  obtain rfl := Host.Outcome.next.inj h
  decide

end Sys2Proof.Laws

namespace Sys2Proof.Proofs
open Sys2Proof Sys2Proof.Machine Sys2Proof.Laws

/-- Settles O8, from what every command keeps of the feeds that stand open. -/
theorem onlyAZeroCrossingClosesAFeed : Obligations.OnlyAZeroCrossingClosesAFeed :=
  fun _ _ _ _ hz h hf => exec_closes_no_feed hz h hf

/-- Refutes O59: while the dead time of the partner's opening runs, or the partner is closed, a close command waits unchanged for a
feed that stands open (`zeroCrossing_pairWaits`); for a feed that stands closed the crossing drops it. The clause speaks of both. The
two feeds are still never closed together (`zeroCrossing_pairApart`). -/
theorem not_lineDieInterlocksThePair : ¬ Obligations.LineDieInterlocksThePair := by
  intro h
  obtain ⟨hpair, hdead⟩ := closedInDeadTime_holds
  obtain ⟨-, hwaits, -⟩ := h closedInDeadTime _ 0 2 hpair rfl
  have hkept := hwaits (.inr hdead)
  obtain ⟨hset, hnone⟩ := closedInDeadTime_drops rfl
  exact absurd ((congrArg Feed.closeCmd hkept).symm.trans hnone) (by simp [hset])

end Sys2Proof.Proofs
end

section
/-!
What the rows of the ports and of the barrier link do, and what they leave alone (R371 to R379).
-/
namespace Sys2Proof.Laws
open Sys2Proof Sys2Proof.Machine
variable {s t : State}

/-- The coming of an instant changes nothing of the drives. -/
theorem comesAt_drv {n : Nat} (h : comesAt s n = some t) : t.drv = s.drv := by rw [comesAt_now h]

theorem atTick_of_comesAt {n : Nat} {f : State → State} (h : comesAt s n = some t) : atTick s (some n) f = f t := atTick_some (o := some n) h

theorem portOf_of_ports (h : t.drv.ports = s.drv.ports) (p : Nat) : portOf_ t p = portOf_ s p := by
  unfold portOf_
  rw [h]

theorem portOf_of_comesAt {n : Nat} (h : comesAt s n = some t) (p : Nat) : portOf_ t p = portOf_ s p :=
  portOf_of_ports (congrArg Drv.ports (comesAt_drv h)) p

theorem arrive_drv (s : State) (x : Nat) (v : XWord) (p : Option Nat) (pay : Pay) : (arrive s x v p pay).drv = s.drv :=
  (congrArg State.drv (arrive_frame s x v p pay).1 :)

/-! ### DC ports (R373 to R376) -/

/-- A port as its stop leaves it, but for the brake and the dead time that the drive gives. -/
theorem portStop_self (s : State) (p : Nat) : ∃ brake dead, portOf_ (portStop s p) p =
    { portOf_ s p with run := false, duty := 0, rampEnd := none, pend := none, brake := brake, deadUntil := dead } := by
  unfold portStop
  extract_lets x d brake u
  have hu : portOf_ u p = { x with
      run := false, duty := 0, rampEnd := none, pend := none, brake := if x.run then brake else x.brake
      deadUntil := if x.run then some (s.now + deadTicks s d) else x.deadUntil } := setPort_portOf_self _ _ _
  refine ⟨_, _, Eq.trans ?_ hu⟩
  clear_value u brake d
  split
  · split
    · exact portOf_of_ports (congrArg (fun v => v.drv.ports) (unmodelled_travelFreezes _ _) :) p
    · rfl
  · rfl

/-- A trip stops its port, latches and is counted (R375). -/
theorem portTrips_effect (s : State) (p : Nat) : (portOf_ (portTrips s p) p).trip = true ∧ (portOf_ (portTrips s p) p).run = false ∧
    (portOf_ (portTrips s p) p).trips = satInc 255 (portOf_ s p).trips := by
  obtain ⟨brake, dead, hstop⟩ := portStop_self s p
  have hoff : (portOf_ (gatesOff s p) p).run = false := by
    rw [gatesOff, setPort_portOf_self, hstop]
  unfold portTrips
  dsimp only
  rw [portOf_of_ports (congrArg Drv.ports (arrive_drv _ _ _ _ _)), setPort_portOf_self]
  exact ⟨rfl, hoff, rfl⟩

theorem exec_rampEnd_of_due {p : Fin 4} {a : Nat} (h : (portOf_ s p).rampEnd = some a) (hc : comesAt s a = some t) :
    exec (.rampEnd p) s = .next (setPort t p { portOf_ t p with duty := (portOf_ t p).target, rampEnd := none }) := by
  refine congrArg Host.Outcome.next ?_
  rw [h]
  exact atTick_of_comesAt hc

theorem exec_portTrip {p : Fin 4} {mv : Int} (hm : (portOf_ s p).lim < mv.natAbs) (ht : (portOf_ s p).trip = false) :
    exec (.portTrip p mv) s = .next (portTrips s p) :=
  congrArg Host.Outcome.next (if_pos (by simp [hm, ht]))

theorem exec_portTrip_below {p : Fin 4} {mv : Int} (h : mv.natAbs ≤ (portOf_ s p).lim) : exec (.portTrip p mv) s = .next s :=
  congrArg Host.Outcome.next (if_neg (by simp [h]))

theorem exec_portLimit {p : Fin 4} {v : Word} (h : 20 ≤ v.toNat % 256 ∧ v.toNat % 256 ≤ 250) :
    exec (.snufferLimitWrite (.port p) v) s = .next (setPort s p { portOf_ s p with limNext := some (v.toNat % 256) }) :=
  congrArg Host.Outcome.next (if_pos (by simpa using h))

theorem latchClears_port (s : State) (p : Fin 4) : (portOf_ (latchClears s (.port p)) p).trip = false := by
  unfold latchClears
  dsimp only
  rw [portOf_of_ports (congrArg Drv.ports (notify_drv _ _ _ _)), setPort_portOf_self]

/-- The dead time of a port for which no start waits. -/
theorem exec_portDeadTimeEnd_of_due {p : Fin 4} {a : Nat} (h : (portOf_ s p).deadUntil = some a) (hp : (portOf_ s p).pend = none)
    (hc : comesAt s a = some t) : exec (.deadTimeEnd (.port p)) s = .next (setPort t p { portOf_ t p with deadUntil := none }) := by
  refine congrArg Host.Outcome.next ?_
  dsimp only
  rw [h]
  refine (atTick_of_comesAt hc).trans ?_
  rw [portOf_of_comesAt hc, hp]

/-! ### Encoders (R374) -/

/-- The models of the drives but for the tick of the last count tell the leg in progress. -/
theorem headLeg_counted (s : State) (p : Nat) (x : Port) (d n : Nat) :
    headLeg (modDr (setPort s p x) d fun r => { r with lastCount := n }) d = headLeg s d := by
  unfold headLeg modDr
  rw [setDr_drOf_self]
  rfl

theorem exec_encoderEdge_of_undriven {p : Fin 4} (ea eb : Bool) (h : portDrive s p = none) :
    exec (.encoderEdge p ea eb) s = .next (setPort s p { portOf_ s p with ea := ea, eb := eb }) := by
  refine congrArg Host.Outcome.next ?_
  rw [h]

/-- An edge counts at a drive that is in no leg, and ends none. -/
theorem exec_encoderEdge_of_standing {p : Fin 4} {ea eb : Bool} {d : Nat} {n : Int} (hd : portDrive s p = some d) (hl : headLeg s d = none)
    (hn : edgeStep (cfgIs s (drvObj d) "ENCTYPE" "PULSE") (portOf_ s p) ea eb = some n) :
    ∃ t, exec (.encoderEdge p ea eb) s = .next t ∧
      portOf_ t p = { portOf_ s p with ea := ea, eb := eb, enc := (BitVec.ofInt 32 ((portOf_ s p).enc + n)).toInt } := by
  refine ⟨_, rfl, ?_⟩
  rw [hd]
  dsimp only
  rw [hn]
  dsimp only
  split_ifs with hzero
  · rw [show headLeg (setPort s p _) d = none from hl]
    exact setPort_portOf_self _ _ _
  · rw [headLeg_counted, hl]
    exact setPort_portOf_self _ _ _

/-! ### The barrier link (R377 to R379) -/

/-- When the line die was last heard, and last heard from. -/
def lineHeard (s : State) : Nat × Nat := (s.drv.lastHb, s.drv.lastWord)

theorem lineHeard_arrive (s : State) (x : Nat) (v : XWord) (p : Option Nat) (pay : Pay) : lineHeard (arrive s x v p pay) = lineHeard s := by
  rw [lineHeard, arrive_drv, lineHeard]

/-- The line die answers with the status word of a feed (R403). -/
def feedAnswers (s : State) (f : Nat) : State :=
  arrive (setFeed s f { feedOf s f with word := feedWord s f }) (180 + f) (feedWord s f) (some (mono s)) .none

theorem lineHeard_feedAnswers (s : State) (f : Nat) : lineHeard (feedAnswers s f) = lineHeard s := lineHeard_arrive _ _ _ _ _

theorem lineHeard_barrierHeartbeat (s : State) : lineHeard (barrierHeartbeat s) = (s.now, s.now) := by
  unfold barrierHeartbeat
  extract_lets gap back d u v
  have hv : lineHeard v = (s.now, s.now) :=
    foldl_keeps (f := feedAnswers) lineHeard lineHeard_feedAnswers (List.range 8) u
  clear_value v
  split
  · exact hv
  · exact (lineHeard_arrive _ _ _ _ _).trans hv

/-- A feed that is told to open: no close command waits, and where it is closed an open command does. -/
def feedStopped (s : State) (f : Nat) : Prop :=
  (feedOf s f).closeCmd = none ∧ ((feedOf s f).closed = true → (feedOf s f).openCmd.isSome = true)

theorem feedStopped_feedStop (s : State) (f : Nat) : feedStopped (feedStop s f) f := by
  unfold feedStopped feedStop
  dsimp only
  rw [setFeed_feedOf_self]
  refine ⟨rfl, fun hclosed => ?_⟩
  dsimp only at hclosed ⊢
  rw [if_pos hclosed]
  rfl

theorem feedStop_keeps_stopped {f : Nat} (g : Nat) (h : feedStopped s f) : feedStopped (feedStop s g) f := by
  by_cases hg : f = g
  · exact hg ▸ feedStopped_feedStop s f
  · rw [feedStopped, feedStop, setFeed_feedOf_ne _ _ _ _ hg]
    exact h

theorem foldl_feedStop_stopped {f : Nat} (l : List Nat) (h : f ∈ l ∨ feedStopped s f) : feedStopped (l.foldl feedStop s) f := by
  induction l generalizing s with
  | nil => exact h.resolve_left List.not_mem_nil
  | cons g l ih =>
    refine ih ?_
    obtain hl | hs := h
    · obtain rfl | hl := List.mem_cons.mp hl
      · exact .inr (feedStopped_feedStop s f)
      · exact .inl hl
    · exact .inr (feedStop_keeps_stopped g hs)

theorem feedStopped_of_feeds (h : t.drv.feeds = s.drv.feeds) {f : Nat} (hs : feedStopped s f) : feedStopped t f := by
  rwa [feedStopped, feedOf_of_feeds h]

theorem unfed_feedsStop (s : State) : unfed ((List.range 8).foldl feedStop s) = unfed s :=
  foldl_keeps unfed (f := feedStop) (fun _ _ => rfl) _ s

/-- The line die without heartbeats is unconfigured, and opens every feed (R377). -/
theorem lineSilent_effect (s : State) : (lineSilent s).drv.configured = false ∧ ∀ f < 8, feedStopped (lineSilent s) f := by
  refine ⟨?_, fun f hf => foldl_feedStop_stopped _ (.inl (List.mem_range.mpr hf))⟩
  exact (congrArg (fun u => u.drv.configured) (unfed_feedsStop { s with drv := { s.drv with configured := false } }) :)

@[simp] theorem icFree_drv (s : State) : (icFree s).drv = s.drv := by
  unfold icFree
  split
  · exact drv_of_unconverted (winStart_keeps _ _ _).2
  · rfl

/-- The end of a synchronised window changes nothing of the drives. -/
@[simp] theorem icCut_drv (s : State) : (icCut s).drv = s.drv := by
  unfold icCut
  split
  · dsimp only
    split
    · rw [icFree_drv, drv_of_unconverted (unconverted_winEnd _ _ _ _), drawn_drv]
    · rfl
  · exact icFree_drv s

/-- The loss of the link is reported and counted (R378). -/
theorem linkLost_effect (s : State) : (linkLost s).drv.lost = true ∧ (linkLost s).drv.losses = satInc 255 s.drv.losses := by
  unfold linkLost
  extract_lets until_ u v
  have hu : unmodelled u = unmodelled s := foldl_keeps unmodelled (fun w d => by split <;> rfl) _ s
  have hlosses : u.drv.losses = s.drv.losses := (congrArg (fun w => w.drv.losses) hu :)
  rw [icCut_drv, arrive_drv]
  exact ⟨rfl, congrArg (satInc 255) hlosses⟩

theorem versionCheck_drv (s : State) : (versionCheck s).drv = s.drv := (congrArg State.drv (untold_versionCheck s) :)

/-- The line die is configured again with all feeds open (R379). -/
theorem linkBack_effect (s : State) : (versionCheck (linkBack s)).drv.lost = false ∧ (versionCheck (linkBack s)).drv.configured = true ∧
    ∀ f < 8, feedStopped (versionCheck (linkBack s)) f := by
  unfold linkBack
  extract_lets d u v
  have hv : unfed v = unfed u := unfed_feedsStop u
  have hdrv : (versionCheck (notifyLate (arrive v 201 1 none .none) "DRV.LINE-BACK")).drv = v.drv :=
    (versionCheck_drv _).trans (arrive_drv v 201 1 none .none)
  rw [hdrv]
  refine ⟨(congrArg (fun w => w.drv.lost) hv :), (congrArg (fun w => w.drv.configured) hv :), fun f hf => ?_⟩
  exact feedStopped_of_feeds (congrArg Drv.feeds hdrv) (foldl_feedStop_stopped _ (.inl (List.mem_range.mpr hf)))

theorem exec_barrierHeartbeat (hr : coreRuns s = true) (hl : s.pwr.linkUp = true) : exec .barrierHeartbeat s = .next (barrierHeartbeat s) :=
  congrArg Host.Outcome.next (if_pos (by simp [hr, hl]))

theorem exec_heartbeatLoss_of_due (hg : s.drv.configured = true) (hc : comesAt s (s.drv.lastHb + 5 * tickMs) = some t) :
    exec .heartbeatLoss s = .next (lineSilent t) :=
  congrArg Host.Outcome.next ((if_pos hg).trans (atTick_of_comesAt hc))

theorem exec_barrierLinkLost_of_due (hr : coreRuns s = true) (hl : s.pwr.linkUp = true) (hn : s.drv.lost = false)
    (hc : comesAt s (s.drv.lastWord + 5 * tickMs) = some t) : exec .barrierLinkLost s = .next (linkLost t) :=
  congrArg Host.Outcome.next ((if_pos (by simp [hr, hl, hn])).trans (atTick_of_comesAt hc))

theorem exec_barrierLinkBack_of_due {a : Nat} (hr : coreRuns s = true) (hn : s.drv.lost = true) (hb : s.drv.backSince = some a)
    (hc : comesAt s (a + 100 * tickMs) = some t) : exec .barrierLinkBack s = .next (versionCheck (linkBack t)) := by
  refine congrArg Host.Outcome.next ((if_pos (by simp [hr, hn])).trans ?_)
  rw [hb]
  exact atTick_of_comesAt hc

end Sys2Proof.Laws

namespace Sys2Proof.Proofs
open Sys2Proof Sys2Proof.Machine Sys2Proof.Laws

/-- Settles O42, row by row. -/
theorem portRowsComplete : Obligations.PortRowsComplete := by
  intro s s' p
  refine ⟨fun a ha hc => ⟨_, exec_rampEnd_of_due ha hc, ?_⟩, fun mv hm ht => ⟨_, exec_portTrip hm ht, portTrips_effect s p⟩,
    fun mv h => exec_portTrip_below h, fun v hlo hhi => ⟨_, exec_portLimit ⟨hlo, hhi⟩, ?_⟩,
    fun hc => ⟨_, congrArg Host.Outcome.next (atTick_some hc), latchClears_port s' p⟩,
    fun a ha hp hc => ⟨_, exec_portDeadTimeEnd_of_due ha hp hc, ?_⟩,
    fun q hc => ⟨_, congrArg Host.Outcome.next (atTick_some hc), rfl⟩,
    fun ea eb h => ⟨_, exec_encoderEdge_of_undriven ea eb h, ?_⟩, fun ea eb d n hd hl hn => ?_⟩
  · rw [setPort_portOf_self, portOf_of_comesAt hc]
    exact ⟨rfl, rfl⟩
  · rw [setPort_portOf_self]
    exact ⟨rfl, rfl⟩
  · rw [setPort_portOf_self]
  · rw [setPort_portOf_self]
    exact ⟨rfl, rfl⟩
  · obtain ⟨t, hexec, hport⟩ := exec_encoderEdge_of_standing hd hl hn
    exact ⟨t, hexec, congrArg Port.enc hport⟩

/-- Settles O43, row by row. -/
theorem barrierRowsComplete : Obligations.BarrierRowsComplete := by
  intro s s'
  refine ⟨fun hr hl => ⟨_, exec_barrierHeartbeat hr hl, Prod.mk.inj (lineHeard_barrierHeartbeat s)⟩,
    fun hg hc => ⟨_, exec_heartbeatLoss_of_due hg hc, lineSilent_effect s'⟩, fun hr hl hn hc => ⟨_, exec_barrierLinkLost_of_due hr hl hn hc, ?_⟩,
    fun a hr hn hb hc => ⟨_, exec_barrierLinkBack_of_due hr hn hb hc, linkBack_effect s'⟩⟩
  rw [← comesAt_drv hc]
  exact linkLost_effect s'

end Sys2Proof.Proofs
end

section
/-!
What the rows of a drive's travel, of the protections and of the holds do at their time (R380 to R392, R398).
-/
namespace Sys2Proof.Laws
open Sys2Proof Sys2Proof.Machine
variable {s t : State} {d : Fin 32} {l : Leg}

theorem drOf_of_comesAt {n : Nat} (h : comesAt s n = some t) (d : Nat) : drOf t d = drOf s d := by
  rw [drOf, comesAt_drv h, drOf]

/-! ### The ends of travels (R380, R381, R385) -/

/-- A travel whose model decides ends at the boundary of its model. -/
theorem exec_travelEnd_of_due (hr : coreRuns s = true) (hl : headLeg s d = some l)
    (hend : (endModel s d && isEnd l.target && l.tilt.isNone) = false) (henc : (encModel s d && l.tilt.isNone) = false)
    (hm : posModel s d ≠ "NONE") (hlearn : (drOf s d).learnRun = 0) (hc : comesAt s (epochCeil s (modelEnds s d l)) = some t) :
    exec (.travelEnd d) s = .next (legEnds t d (if isEnd l.target && l.tilt.isNone then some l.target else none)) := by
  refine congrArg Host.Outcome.next ((if_neg (by simp [hr])).trans ?_)
  rw [Bool.and_assoc] at hend
  rw [hl]
  dsimp only
  rw [if_neg (by simp [hend, henc, hm, hlearn])]
  exact atTick_of_comesAt hc

/-- What a collapse of the current tells outside LEARN: the end, or a cut-out far from it. -/
def collapses (s : State) (d : Nat) : State :=
  if posGap (posNow s d).1 (if (drOf s d).dir then 10000 else 0) ≤ 100 * cfgPct s (drvObj d) "ENDWIN" then
    legEnds s d (some (if (drOf s d).dir then 10000 else 0))
  else driveFault s d "FAIL FAULT CUTOUT"

theorem exec_endstopCollapse_of_due {a : Nat} (hr : coreRuns s = true) (hm : endModel s d = true) (hl : headLeg s d = some l)
    (ha : (drOf s d).lowSince = some a) (hlearn : (drOf s d).learnRun = 0) (hc : comesAt s (a + 200 * tickMs) = some t) :
    exec (.endstopCollapse d) s = .next (collapses t d) := by
  have hrun : (drOf t d).learnRun = 0 := by rw [drOf_of_comesAt hc, hlearn]
  refine congrArg Host.Outcome.next ((if_neg (by simp [hr, hm])).trans ?_)
  rw [hl]
  dsimp only
  rw [ha]
  refine (atTick_of_comesAt hc).trans ?_
  exact if_neg (by simp [hrun])

theorem exec_endstopTimeout_of_due (hr : coreRuns s = true) (hm : endModel s d = true) (hlearn : (drOf s d).learnRun = 0)
    (hl : headLeg s d = some l) (hend : isEnd l.target = true) (ht : l.tilt = none)
    (hc : comesAt s (epochCeil s (modelEnds s d l)) = some t) :
    exec (.endstopTimeout d) s = .next (driveFault (notifyLate t "DRV.ENDSTOP" (some (drvObj d))) d "FAIL FAULT ENDSTOP") := by
  refine congrArg Host.Outcome.next ((if_neg (by simp [hr, hm, hlearn])).trans ?_)
  rw [hl]
  dsimp only
  rw [if_neg (by simp [hend, ht])]
  exact atTick_of_comesAt hc

theorem exec_learnRunTimeout_of_due (hr : coreRuns s = true) (hlearn : (drOf s d).learnRun ≠ 0) (hrun : (drOf s d).running = true)
    (hc : comesAt s (epochCeil s ((drOf s d).t0 + 600000 * tickMs)) = some t) :
    exec (.learnRunTimeout d) s = .next (driveFault t d "FAIL FAULT ENDSTOP") :=
  congrArg Host.Outcome.next ((if_neg (by simp [hr, hlearn, hrun])).trans (atTick_of_comesAt hc))

/-! ### Obstacles and sags (R387, R390) -/

theorem exec_stall_of_due (hr : coreRuns s = true) (hk : driveKind s d = "DC") (hm : encModel s d = true) (hl : headLeg s d = some l)
    (hc : comesAt s (epochCeil s (max (drOf s d).lastCount ((drOf s d).t0 + cfgTicks s (drvObj d) "RAMP") + 300 * tickMs)) = some t) :
    exec (.stall d) s = .next (stalled t d) :=
  congrArg Host.Outcome.next ((if_neg (by simp [hr, hk, hm, hl])).trans (atTick_of_comesAt hc))

/-- The evaluation of a travel is noted. -/
def evalNoted (s : State) (d : Nat) : State := modDr s d fun r => { r with evalAt := s.now }

/-- The kind of a drive and the records of its port are those of the instant before. -/
theorem measured_evalNoted {n : Nat} (hc : comesAt s n = some t) (d : Nat) :
    driveKind (evalNoted t d) d = driveKind s d ∧ portMeas (evalNoted t d) d = portMeas s d := by
  rw [comesAt_now hc]
  exact ⟨rfl, rfl⟩

theorem exec_obstacleEvaluation_of_due (hr : coreRuns s = true) (hk : driveKind s d = "PAIR" ∨ (driveKind s d = "DC" ∧ portMeas s d ≠ []))
    (hm : modelOnly s = false) (hl : headLeg s d = some l) (hc : comesAt s (epochCeil s ((drOf s d).evalAt + 10 * tickMs)) = some t) :
    exec (.obstacleEvaluation d) s = .next (evaluates (evalNoted t d) d l (driveMeasures (evalNoted t d) d)) := by
  obtain ⟨hkind, hmeas⟩ := measured_evalNoted hc d
  have hkinds : ¬(!coreRuns s || !(decide (driveKind s d = "PAIR") || decide (driveKind s d = "DC")) || modelOnly s) = true := by
    obtain hk | ⟨hk, -⟩ := hk <;> simp [hr, hm, hk]
  have hsome : ¬(decide (driveKind (evalNoted t d) d = "DC") && (portMeas (evalNoted t d) d).isEmpty) = true := by
    rw [hkind, hmeas]
    obtain hk | ⟨-, hmeas⟩ := hk
    · simp [hk]
    · simp [hmeas]
  refine congrArg Host.Outcome.next ((if_neg hkinds).trans ?_)
  rw [hl]
  exact (atTick_of_comesAt hc).trans (if_neg hsome)

/-- The stop for a sag is noted. -/
def sagNoted (s : State) : State := { s with drv := { s.drv with sagActed := true } }

theorem usedDrives_of_cfg (h : t.cfg = s.cfg) : usedDrives t = usedDrives s := by
  unfold usedDrives driveKind cfgWord cfgVal
  rw [h]

theorem sagStops_cfg (s : State) (d : Nat) : (sagStops s d).cfg = s.cfg := by
  unfold sagStops
  extract_lets r told u
  have hu : u.cfg = s.cfg := (congrArg State.cfg (jrnTrigger_frame s 6) :)
  clear_value u told
  split
  · exact hu
  · rfl

/-- The drives that take their turn after a sag stop are those of the same configuration. -/
theorem usedDrives_foldl_sagStops (l : List Nat) : usedDrives (l.foldl sagStops s) = usedDrives s :=
  usedDrives_of_cfg (foldl_keeps State.cfg sagStops_cfg l s)

theorem exec_sagStop_of_known (hr : coreRuns s = true) (hq : modeIs s [.quiet, .start, .off] = false) (hm : modelOnly s = false)
    (hk : sagKnown s = true) :
    exec .sagStop s = .next ((usedDrives (sagNoted s)).foldl driveNow ((usedDrives (sagNoted s)).foldl sagStops (sagNoted s))) := by
  have hgo : ¬(!coreRuns s || modeIs s [.quiet, .start, .off] || modelOnly s || !sagKnown s) = true := by simp [hr, hq, hm, hk]
  refine congrArg Host.Outcome.next ((if_neg hgo).trans ?_)
  exact congrArg (List.foldl driveNow _) (usedDrives_foldl_sagStops (usedDrives (sagNoted s)))

/-! ### Protections (R391, R392) -/

theorem protSt_of_drv (h : t.drv = s.drv) (p : Nat) : protSt t p = protSt s p := by
  rw [protSt, h, protSt]

/-- A protection takes the state ACTIVE. -/
theorem protState_active (s : State) (p : Nat) : (protSt (protState s p 1) p).state = 1 := by
  unfold protState
  dsimp only
  split
  · next h => exact h
  · rw [if_neg (by decide), jrnTrigger_frame]
    exact congrArg ProtSt.state (setProt_protSt_self s p _)

theorem exec_protectionOnDelay_of_due {q : Prot} {a : Nat} (h0 : (protSt s (protIdx q)).state = 0) (hq : s.ana.mode ≠ .quiet)
    (ha : (protSt s (protIdx q)).onSince = some a) (hc : comesAt s (a + cfgTicks s (protObj (protIdx q)) "ONDLY") = some t) :
    exec (.protectionOnDelay q) s = .next (protState t (protIdx q) 1) := by
  refine congrArg Host.Outcome.next ((if_neg (by simp [h0, hq])).trans ?_)
  rw [ha]
  exact atTick_of_comesAt hc

theorem exec_protectionOffDelay_of_due {q : Prot} {a : Nat} (h1 : (protSt s (protIdx q)).state = 1) (hq : s.ana.mode ≠ .quiet)
    (ha : (protSt s (protIdx q)).offSince = some a) (hc : comesAt s (a + cfgTicks s (protObj (protIdx q)) "OFFDLY") = some t) :
    exec (.protectionOffDelay q) s = .next (protState t (protIdx q) 0) := by
  refine congrArg Host.Outcome.next ((if_neg (by simp [h1, hq])).trans ?_)
  rw [ha]
  exact atTick_of_comesAt hc

/-! ### Holds (R398) -/

/-- The end of a hold leaves the other drives alone. -/
theorem holdEnd_effect (s : State) (d : Nat) (why : String) :
    (drOf (holdEnd s d why) d).hold = none ∧ ∀ e, e ≠ d → drOf (holdEnd s d why) e = drOf s e := by
  unfold holdEnd
  split
  · next h => exact ⟨Option.isNone_iff_eq_none.mp h, fun _ _ => rfl⟩
  · exact ⟨congrArg Dr.hold (setDr_drOf_self s d _), fun e he => setDr_drOf_ne s d _ e he⟩

theorem exec_holdExpiry_of_due {r a : Nat} (hr : coreRuns s = true) (hh : (drOf s d).hold = some (r, a)) (hc : comesAt s a = some t) :
    exec (.holdExpiry d) s = .next (holdEnd t d "EXPIRED") := by
  refine congrArg Host.Outcome.next ((if_neg (by simp [hr])).trans ?_)
  rw [hh]
  exact atTick_of_comesAt hc

end Sys2Proof.Laws

namespace Sys2Proof.Proofs
open Sys2Proof Sys2Proof.Machine Sys2Proof.Laws

/-- Settles O44, row by row. -/
theorem travelRowsComplete : Obligations.TravelRowsComplete := by
  intro s s' d
  refine ⟨fun l hr hl hend henc hm hlearn hc => ⟨_, exec_travelEnd_of_due hr hl hend henc hm hlearn hc, rfl⟩,
    fun l a hr hm hl ha hlearn hc hnear => ⟨_, exec_endstopCollapse_of_due hr hm hl ha hlearn hc, ?_⟩,
    fun l a hr hm hl ha hlearn hc hfar => ⟨_, exec_endstopCollapse_of_due hr hm hl ha hlearn hc, ?_⟩,
    fun l hr hm hlearn hl hend ht hc => ⟨_, exec_endstopTimeout_of_due hr hm hlearn hl hend ht hc, rfl⟩,
    fun hr hlearn hrun hc => ⟨_, exec_learnRunTimeout_of_due hr hlearn hrun hc, rfl⟩,
    fun l hr hk hm hl hc => ⟨_, exec_stall_of_due hr hk hm hl hc, rfl⟩,
    fun l hr hk hm hl hc => ⟨_, _, exec_obstacleEvaluation_of_due hr hk hm hl hc, rfl, rfl⟩,
    fun hr hq hm hk => ⟨_, _, exec_sagStop_of_known hr hq hm hk, rfl, rfl⟩,
    fun q a h0 hq ha hc => ⟨_, exec_protectionOnDelay_of_due h0 hq ha hc, protState_active s' (protIdx q)⟩,
    fun q a h1 hq ha hc => ⟨_, exec_protectionOffDelay_of_due h1 hq ha hc, rfl⟩,
    fun r a hr hh hc => ⟨_, exec_holdExpiry_of_due hr hh hc, ?_⟩⟩
  · rw [← drOf_of_comesAt hc] at hnear ⊢
    exact if_pos hnear
  · rw [← drOf_of_comesAt hc] at hfar
    exact if_neg hfar
  · obtain ⟨hnone, hothers⟩ := holdEnd_effect s' d "EXPIRED"
    exact ⟨hnone, fun e he => (hothers e he).trans (drOf_of_comesAt hc e)⟩

end Sys2Proof.Proofs
end

section
/-!
What the rows of the thermal models do at their time: the step (R419), the ambients (R421 to R423), THERMO (R428), the state
records (R433) and the thresholds that are written (R451).
-/
namespace Sys2Proof.Laws
open Sys2Proof Sys2Proof.Machine
variable {s t : State}

/-- The coming of an instant changes nothing of the thermal models. -/
theorem comesAt_thm {n : Nat} (h : comesAt s n = some t) : t.thm = s.thm := by rw [comesAt_now h]

@[simp] theorem notify_thm (s : State) (n : String) (o : Option Obj) (a : String) : (notify s n o a).thm = s.thm :=
  (congrArg State.thm (untold_notify s n o a) :)

theorem therOf_of_models (h : t.thm.models = s.thm.models) (m : Nat) : therOf t m = therOf s m := by
  rw [therOf, h, therOf]

/-! ### The step (R419) -/

/-- The grid of the steps has gone on by one. -/
def stepNoted (s : State) : State := { s with thm := { s.thm with stepAt := s.thm.stepAt + stepTicks } }

theorem exec_thermalStep_of_due {pe : List Int} (hc : comesAt s (s.thm.stepAt + stepTicks) = some t) :
    exec (.thermalStep pe) s = .next (thermalStep pe (stepNoted t)) :=
  congrArg Host.Outcome.next (atTick_of_comesAt hc)

/-- The models of the feeds after one step. -/
def feedModelsStep (pe : List Int) (s : State) : State := (List.range 8).foldl (fun s m => therStep (pe.getD m 0) s m) s

/-- The models of the ports after one step. -/
def portModelsStep (pe : List Int) (s : State) : State :=
  (List.range 4).foldl (fun s p => therStep (pe.getD (8 + p) 0) s (8 + p)) s

/-- The step is that of the feeds' models, then that of the ports' and the module's where the core die runs outside QUIET. -/
theorem thermalStep_eq (pe : List Int) (s : State) :
    thermalStep pe s = if !coreRuns (feedModelsStep pe s) || (feedModelsStep pe s).ana.mode = .quiet then feedModelsStep pe s
      else moduleStep (portModelsStep pe (feedModelsStep pe s)) := by
  unfold thermalStep feedModelsStep portModelsStep
  rfl

/-- The step ends with the feeds' models, unless the core die runs outside QUIET (R434, R435). -/
theorem thermalStep_effect {pe : List Int} {v : State} (hv : feedModelsStep pe s = v) :
    ((coreRuns v = false ∨ v.ana.mode = .quiet) → thermalStep pe s = v) ∧
    (coreRuns v = true → v.ana.mode ≠ .quiet → thermalStep pe s = moduleStep (portModelsStep pe v)) := by
  rw [thermalStep_eq, hv]
  exact ⟨fun hhalt => if_pos (by simpa using hhalt), fun hr hq => if_neg (by simp [hr, hq])⟩

/-! ### Ambients (R421 to R423) -/

/-- One change of each model in a list. -/
def modThers (g : State → Nat → TherM → TherM) (l : List Nat) (s : State) : State :=
  l.foldl (fun s m => modTher s m (g s m)) s

/-- A change of models is not an ambient word of its own. -/
theorem modThers_ambAt (g : State → Nat → TherM → TherM) (l : List Nat) (s : State) : (modThers g l s).thm.ambAt = s.thm.ambAt :=
  foldl_keeps (f := fun s m => modTher s m (g s m)) (fun s => s.thm.ambAt) (fun _ _ => rfl) l s

theorem therOf_modThers_notMem {g : State → Nat → TherM → TherM} {l : List Nat} {m : Nat} (h : m ∉ l) :
    therOf (modThers g l s) m = therOf s m := by
  induction l generalizing s with
  | nil => rfl
  | cons n l ih =>
    obtain ⟨hn, hl⟩ := List.ne_and_not_mem_of_not_mem_cons h
    exact (ih hl).trans (setTher_therOf_ne s n _ m hn)

/-- Each model takes a change once, where the change does not look at the models that changed before. -/
theorem therOf_modThers_mem {g : State → Nat → TherM → TherM} {l : List Nat} {m : Nat} (hg : ∀ s n x, g (setTher s n x) = g s)
    (hd : l.Nodup) (h : m ∈ l) : therOf (modThers g l s) m = g s m (therOf s m) := by
  induction l generalizing s with
  | nil => exact absurd h List.not_mem_nil
  | cons n l ih =>
    obtain ⟨hn, hd⟩ := List.nodup_cons.mp hd
    obtain rfl | hl := List.mem_cons.mp h
    · exact (therOf_modThers_notMem hn).trans (setTher_therOf_self s m _)
    · have hne : m ≠ n := fun e => hn (e ▸ hl)
      refine (ih hd hl).trans ?_
      change g (setTher s n _) m (therOf (setTher s n _) m) = _
      rw [hg, setTher_therOf_ne s n _ m hne]

/-- KEEPER's ambient becomes the line die's. -/
def ambWord (_ : State) (_ : Nat) (x : TherM) : TherM := { x with ta := x.taK }

/-- Without ambient words a model takes AMBHOT. -/
def ambHot (s : State) (m : Nat) (x : TherM) : TherM := { x with ta := degC (cfgDeg s (therObj m) "AMBHOT") }

/-- An ambient word is noted. -/
def ambNoted (s : State) : State := { s with thm := { s.thm with ambAt := s.now } }

theorem exec_ambientWord_of_due (hr : coreRuns s = true) (hq : s.ana.mode ≠ .quiet) (hl : s.pwr.linkUp = true) (hn : s.drv.lost = false)
    (hc : comesAt s (s.thm.ambAt + 100 * tickMs) = some t) :
    exec .ambientWord s = .next (modThers ambWord (List.range 8) (ambNoted t)) :=
  congrArg Host.Outcome.next ((if_neg (by simp [hr, hq, hl, hn])).trans (atTick_of_comesAt hc))

theorem exec_ambientTimeout_of_due (hq : s.ana.mode ≠ .quiet) (hc : comesAt s (s.thm.ambAt + 1000 * tickMs) = some t) :
    exec .ambientTimeout s = .next (modThers ambHot (List.range 8) t) :=
  congrArg Host.Outcome.next ((if_neg hq).trans (atTick_of_comesAt hc))

theorem therOf_ambWord {m : Nat} (hm : m < 8) :
    therOf (modThers ambWord (List.range 8) s) m = { therOf s m with ta := (therOf s m).taK } :=
  therOf_modThers_mem (fun _ _ _ => rfl) List.nodup_range (List.mem_range.mpr hm)

theorem therOf_ambHot {m : Nat} (hm : m < 8) :
    (therOf (modThers ambHot (List.range 8) s) m).ta = degC (cfgDeg s (therObj m) "AMBHOT") :=
  congrArg TherM.ta (therOf_modThers_mem (fun _ _ _ => rfl) List.nodup_range (List.mem_range.mpr hm))

theorem cfgDeg_of_comesAt {n : Nat} (h : comesAt s n = some t) (o : Obj) (a : String) : cfgDeg t o a = cfgDeg s o a := by
  rw [comesAt_now h]
  rfl

/-! ### THERMO (R428) -/

/-- The holds that follow the levels leave the force bits alone. -/
theorem hotRefresh_force (s : State) : (hotRefresh s).thm.force = s.thm.force := by
  unfold hotRefresh
  refine foldl_keeps (fun s : State => s.thm.force) (fun s n => ?_) _ _
  split
  · rfl
  · exact (congrArg (fun s : State => s.thm.force) (undriven_gatesOff s (n - 8)) :)

/-- A force bit cleared, and no other. -/
theorem forceSet_off_force {m n : Nat} (hn : n < 12) :
    (forceSet s m false).thm.force.getLsbD n = (s.thm.force.getLsbD n && decide (n ≠ m)) := by
  rw [forceSet, hotRefresh_force]
  have hbit : (decide (n < m) || !decide (n - m = 0)) = !decide (n = m) := by
    rw [Bool.eq_iff_iff]
    simp only [Bool.or_eq_true, Bool.not_eq_true', decide_eq_true_eq, decide_eq_false_iff_not]
    omega
  simp [hn, hbit]

theorem exec_thermoClear_of_due {m : Fin 12} {a : Nat} (hr : coreRuns s = true) (hf : s.thm.force.getLsbD m = true)
    (ha : (therOf s m).closedSince = some a) (hc : comesAt s (a + 10000 * tickMs) = some t) :
    exec (.thermoClear m) s = .next (notify (forceSet t m false) "THM.THERMO" (some (therObj m)) "STATE=CLOSED") := by
  refine congrArg Host.Outcome.next ((if_neg (by simp [hr, hf])).trans ?_)
  rw [ha]
  exact atTick_of_comesAt hc

/-! ### State records (R433, R437) -/

/-- A state record is noted. -/
def recNoted (s : State) : State := { s with thm := { s.thm with recAt := s.now } }

theorem exec_thermalStateRecord_of_due (hr : coreRuns s = true) (hc : comesAt s (s.thm.recAt + 60000 * tickMs) = some t) :
    exec .thermalStateRecord s = .next (therRecord (recNoted t)) :=
  congrArg Host.Outcome.next ((if_neg (by simp [hr])).trans (atTick_of_comesAt hc))

theorem journalOpen_recNoted {n : Nat} (hc : comesAt s n = some t) : journalOpen (recNoted t) = journalOpen s := by
  rw [comesAt_now hc]
  rfl

theorem therRecord_of_open (h : journalOpen s = true) :
    therRecord s = { s with thm := { s.thm with rec_ := some (therImage s), recHeld := none } } := if_pos h

theorem therRecord_of_closed (h : journalOpen s = false) :
    therRecord s = { s with thm := { s.thm with recHeld := some (therImage s) } } := if_neg (by simp [h])

theorem therRecord_recAt (s : State) : (therRecord s).thm.recAt = s.thm.recAt := by
  unfold therRecord
  split <;> rfl

/-! ### Thresholds written (R451) -/

theorem exec_thmThresholdWrite_of_ok {m : Fin 13} {v mask : Word} (h : thrOk m (thrWritten s m v mask) = true) :
    exec (.thmThresholdWrite m v mask) s = .next (thrSet s m (some (thrWritten s m v mask))) :=
  congrArg Host.Outcome.next (if_pos h)

theorem exec_thmThresholdWrite_of_bad {m : Fin 13} {v mask : Word} (h : thrOk m (thrWritten s m v mask) = false) :
    exec (.thmThresholdWrite m v mask) s = .next s :=
  congrArg Host.Outcome.next (if_neg (by simp [h]))

/-- The thresholds of a drive's model are its own. -/
theorem thrSet_effect {m : Nat} (hm : m ≠ 12) (thr : Option (Nat × Nat × Nat)) :
    (therOf (thrSet s m thr) m).thr = thr ∧ ∀ n, n ≠ m → therOf (thrSet s m thr) n = therOf s n := by
  rw [thrSet, if_neg hm]
  exact ⟨congrArg TherM.thr (setTher_therOf_self s m _), fun n hn => setTher_therOf_ne s m _ n hn⟩

end Sys2Proof.Laws

namespace Sys2Proof.Proofs
open Sys2Proof Sys2Proof.Machine Sys2Proof.Laws

/-- Settles O45, row by row. -/
theorem thermalRowsComplete : Obligations.ThermalRowsComplete := by
  intro s s'
  refine ⟨fun pe hc => ⟨_, stepNoted s', exec_thermalStep_of_due hc, ?_, thermalStep_effect rfl⟩,
    fun hr hq hl hn hc => ⟨_, exec_ambientWord_of_due hr hq hl hn hc, modThers_ambAt _ _ _, fun m hm => ?_⟩,
    fun hq hc => ⟨_, exec_ambientTimeout_of_due hq hc, fun m hm => ?_⟩,
    fun m a hr hf ha hc => ⟨_, exec_thermoClear_of_due hr hf ha hc, ?_, fun n hn hne => ?_⟩,
    fun hr hc => ⟨_, exec_thermalStateRecord_of_due hr hc, therRecord_recAt _, fun ho => ?_, fun ho => ?_⟩,
    fun m v mask hok hm => ⟨_, exec_thmThresholdWrite_of_ok hok, thrSet_effect hm _⟩,
    fun v mask hok => ⟨_, exec_thmThresholdWrite_of_ok hok, rfl, rfl⟩,
    fun m v mask hbad => exec_thmThresholdWrite_of_bad hbad⟩
  · rw [stepNoted, comesAt_thm hc]
  · have hsame : therOf (ambNoted s') m = therOf s m := therOf_of_models (congrArg Thm.models (comesAt_thm hc)) m
    rw [therOf_ambWord hm, hsame]
  · rw [therOf_ambHot hm, cfgDeg_of_comesAt hc]
  · rw [notify_thm, forceSet_off_force m.isLt]
    simp
  · rw [notify_thm, forceSet_off_force hn, comesAt_thm hc]
    simp [hne]
  · rw [therRecord_of_open ((journalOpen_recNoted hc).trans ho)]
    exact ⟨rfl, rfl⟩
  · rw [therRecord_of_closed ((journalOpen_recNoted hc).trans ho)]
    exact ⟨rfl, (congrArg Thm.rec_ (comesAt_thm hc) :)⟩

end Sys2Proof.Proofs
end

section
/-!
What the frames that the profile sends leave alone, and what a sealed order does (R508, R527 to R530).
-/
namespace Sys2Proof.Laws
open Sys2Proof Sys2Proof.Machine
variable {s t : State}

/-! ### Frames sent -/

/-- The state without the profile's frames that wait for a buffer and without those that are loaded. -/
def unframed (s : State) : State := setBus s fun b => { b with waits := [], tbs := [] }

theorem unframed_waitLoad (n : Nat) (s : State) : unframed (waitLoad n s) = unframed s := by
  induction n generalizing s with
  | zero => rfl
  | succ n ih =>
    unfold waitLoad
    split
    · split
      · exact ih _
      · rfl
    · rfl

/-- A frame of the profile waits or is loaded, and nothing else changes. -/
theorem unframed_profSend (s : State) (f : TxFrame) (w : TxWhat) : unframed (profSend s f w) = unframed s := by
  unfold profSend
  split
  · rfl
  · extract_lets b same
    split
    · rfl
    · exact unframed_waitLoad _ _

/-! ### Notices, records and store writes beside the bus -/

@[simp] theorem notify_bus (s : State) (n : String) (o : Option Obj) (a : String) : (notify s n o a).bus = s.bus :=
  (congrArg State.bus (untold_notify s n o a) :)

/-- A record for the journal changes the journal alone. -/
theorem jrnPut_frame (s : State) (k b : Nat) (w : List Nat) : jrnPut s k b w = { s with jrn := (jrnPut s k b w).jrn } := by
  unfold jrnPut
  split <;> rfl

@[simp] theorem jrnPut_bus (s : State) (k b : Nat) (w : List Nat) : (jrnPut s k b w).bus = s.bus := by rw [jrnPut_frame]
@[simp] theorem jrnPut_cfg (s : State) (k b : Nat) (w : List Nat) : (jrnPut s k b w).cfg = s.cfg := by rw [jrnPut_frame]
@[simp] theorem jrnPut_epoch (s : State) (k b : Nat) (w : List Nat) : (jrnPut s k b w).epoch = s.epoch := by rw [jrnPut_frame]

@[simp] theorem storeInternal_bus (s : State) (x : Eff) : (storeInternal s x).bus = s.bus := by
  unfold storeInternal
  split <;> rfl

@[simp] theorem storeInternal_epoch (s : State) (x : Eff) : (storeInternal s x).epoch = s.epoch := by
  unfold storeInternal
  split <;> rfl

/-! ### Sealed orders (R527 to R530) -/

/-- The sender of a sealed order, a byte of its data, and its counter (R527). -/
def sealSrc (id : BitVec 29) : Nat := id.toNat / 256 % 64
def sealByte (d : List Byte) (k : Nat) : Nat := (d.getD k 0).toNat
def sealCounter (d : List Byte) : Nat := natBE ((d.drop 4).take 4)

/-- A sealed order has come to its checks: the journal tells whether its message code is right. -/
def sealChecked (s : State) (id : BitVec 29) (d : List Byte) : State := jrnPut s 7 (2 + 256 * sealSrc id + 65536 * b2n (sealMacOk s id d))

/-- A sealed order that has passed its checks is placed. -/
def sealTaken (s : State) (id : BitVec 29) (d : List Byte) : State :=
  sealPlace (sealChecked s id d) (sealSrc id) (sealByte d 0) (sealByte d 1) (sealByte d 2) (sealByte d 3) (sealCounter d)

/-- The counter of a sealed order is accepted and stored, and its number is taken. -/
def sealCounted (s : State) (src d counter : Nat) : State :=
  storeInternal (setBus s fun x => { x with
    seals := tset x.seals src counter, sealNo := x.sealNo + 1, orders := x.orders ++ [⟨x.sealNo, src, d, counter⟩] }) (.sealCount src counter)

/-- The order that a sealed order places on its drive. -/
def sealOrder (s : State) (d code pos tilt : Nat) : Order :=
  let o : Order := { src := 9, rank := 1, epoch := s.epoch + 1, sealed_ := some (s.bus.sealNo - 1) }
  match sealDest code pos with
  | some m => { o with target := moveTarget s d m, tilt := if tilt = 0xFF then none else some tilt }
  | none => { o with stop := true }

theorem sealPlace_eq (s : State) (src d code pos tilt counter : Nat) : sealPlace s src d code pos tilt counter =
    sealAck (placeOrder (sealCounted s src d counter) d (sealOrder (sealCounted s src d counter) d code pos tilt)) src d 0 counter := rfl

theorem unframed_sealAck (s : State) (src d result counter : Nat) : unframed (sealAck s src d result counter) = unframed s :=
  unframed_profSend _ _ _

theorem sealNo_of_unframed (h : unframed t = unframed s) : t.bus.sealNo = s.bus.sealNo := (congrArg (fun u => u.bus.sealNo) h :)
theorem seals_of_unframed (h : unframed t = unframed s) : t.bus.seals = s.bus.seals := (congrArg (fun u => u.bus.seals) h :)
theorem drv_of_unframed (h : unframed t = unframed s) : t.drv = s.drv := (congrArg State.drv h :)

theorem sealFails_sealNo (s : State) (src : Nat) : (sealFails s src).bus.sealNo = s.bus.sealNo := by
  unfold sealFails
  extract_lets u again
  split
  · rw [notify_bus]; rfl
  · rfl

theorem sealOrder_names (s : State) (d code pos tilt : Nat) :
    (sealOrder s d code pos tilt).sealed_ = some (s.bus.sealNo - 1) ∧ (sealOrder s d code pos tilt).epoch = s.epoch + 1 := by
  unfold sealOrder
  split <;> exact ⟨rfl, rfl⟩

/-- A sealed order that is placed has its counter accepted and takes a number. -/
theorem sealPlace_counts (s : State) (src d code pos tilt counter : Nat) :
    tget 0 (sealPlace s src d code pos tilt counter).bus.seals src = counter ∧
      (sealPlace s src d code pos tilt counter).bus.sealNo = s.bus.sealNo + 1 := by
  rw [sealPlace_eq, seals_of_unframed (unframed_sealAck _ _ _ _ _), sealNo_of_unframed (unframed_sealAck _ _ _ _ _)]
  have hbus := storeInternal_bus (setBus s fun x => { x with
    seals := tset x.seals src counter, sealNo := x.sealNo + 1, orders := x.orders ++ [⟨x.sealNo, src, d, counter⟩] }) (.sealCount src counter)
  refine ⟨?_, (congrArg Bus.sealNo hbus :)⟩
  calc tget 0 (sealCounted s src d counter).bus.seals src
      = tget 0 (tset s.bus.seals src counter) src := congrArg (fun b : Bus => tget 0 b.seals src) hbus
    _ = counter := tget_tset_self _ _ _ _

/-- A sealed order that is placed waits at its drive with its number, for the next epoch. -/
theorem sealPlace_pend (s : State) (src d code pos tilt counter : Nat) :
    ∃ x ∈ (drOf (sealPlace s src d code pos tilt counter) d).pend, x.sealed_ = some s.bus.sealNo ∧ x.epoch = s.epoch + 1 := by
  obtain ⟨hsealed, hepoch⟩ := sealOrder_names (sealCounted s src d counter) d code pos tilt
  have hno : (sealCounted s src d counter).bus.sealNo = s.bus.sealNo + 1 := (congrArg Bus.sealNo (storeInternal_bus _ _) :)
  have hnow : (sealCounted s src d counter).epoch = s.epoch := storeInternal_epoch _ _
  rw [hno, Nat.add_sub_cancel] at hsealed
  rw [hnow] at hepoch
  rw [sealPlace_eq, drOf_congr (drv_of_unframed (unframed_sealAck _ _ _ _ _)), placeOrder_pend]
  exact ⟨_, List.mem_append_right _ (List.mem_singleton.mpr rfl), hsealed, hepoch⟩

/-- A sealed order that has passed its checks has its counter accepted, takes a number, and waits with it at its drive. -/
theorem sealTaken_effect (s : State) (id : BitVec 29) (d : List Byte) :
    tget 0 (sealTaken s id d).bus.seals (sealSrc id) = sealCounter d ∧ (sealTaken s id d).bus.sealNo = s.bus.sealNo + 1 ∧
      ∃ x ∈ (drOf (sealTaken s id d) (sealByte d 0)).pend, x.sealed_ = some s.bus.sealNo ∧ x.epoch = s.epoch + 1 := by
  have hbus : (sealChecked s id d).bus = s.bus := jrnPut_bus _ _ _ _
  have hepoch : (sealChecked s id d).epoch = s.epoch := jrnPut_epoch _ _ _ _
  obtain ⟨hcounter, hno⟩ := sealPlace_counts (sealChecked s id d) (sealSrc id) (sealByte d 0) (sealByte d 1) (sealByte d 2)
    (sealByte d 3) (sealCounter d)
  rw [hbus] at hno
  have hpend := sealPlace_pend (sealChecked s id d) (sealSrc id) (sealByte d 0) (sealByte d 1) (sealByte d 2) (sealByte d 3) (sealCounter d)
  rw [hbus, hepoch] at hpend
  exact ⟨hcounter, hno, hpend⟩

/-- SEALED_ORDER takes no number, or its message code is right, its counter is new, and it is placed. -/
theorem exec_sealedOrder_cases {id : BitVec 29} {fdf : Bool} {d : List Byte} (h : exec (.sealedOrder id fdf d) s = .next t) :
    t.bus.sealNo = s.bus.sealNo ∨
      sealMacOk s id d = true ∧ tget 0 s.bus.seals (sealSrc id) < sealCounter d ∧ t = sealTaken s id d := by
  obtain rfl := Host.Outcome.next.inj h
  have hchecked : (sealChecked s id d).bus = s.bus := jrnPut_bus _ _ _ _
  have hack : ∀ n r c, (sealAck (sealChecked s id d) (sealSrc id) n r c).bus.sealNo = s.bus.sealNo := fun n r c =>
    (sealNo_of_unframed (unframed_sealAck _ _ _ _ _)).trans (congrArg Bus.sealNo hchecked)
  dsimp only
  split
  · exact .inl rfl
  split
  · exact .inl rfl
  split
  · exact .inl rfl
  split
  · exact .inl ((sealFails_sealNo _ _).trans (congrArg Bus.sealNo hchecked))
  next hmac =>
  split
  · exact .inl (hack _ _ _)
  next hcounter =>
  split
  · exact .inl (hack _ _ _)
  split
  · exact .inl (hack _ _ _)
  · rw [jrnPut_bus, Nat.not_le] at hcounter
    exact .inr ⟨by simpa using hmac, hcounter, rfl⟩

end Sys2Proof.Laws

namespace Sys2Proof.Proofs
open Sys2Proof Sys2Proof.Machine Sys2Proof.Laws

/-- Settles O49: of all that SEALED_ORDER can do, the placing alone takes a number. -/
theorem sealedOrdersNeverRepeat : Obligations.SealedOrdersNeverRepeat := by
  rintro s t id d _ _ rfl rfl h hno
  obtain hsame | ⟨hmac, hnew, rfl⟩ := exec_sealedOrder_cases h
  · exact absurd hsame hno
  · exact ⟨hmac, hnew, (sealTaken_effect s id d).1⟩

end Sys2Proof.Proofs
end

section
/-!
What the rows of the CAN controller do: frames received and their queues (R502 to R506), transmit buffers (R507 to R510), errors and
bus-off (R511, R512), joining, sleep and wake (R514, R515).
-/
namespace Sys2Proof.Laws
open Sys2Proof Sys2Proof.Machine
variable {s t : State}

@[simp] theorem arrive_bus (s : State) (x : Nat) (v : XWord) (p : Option Nat) (pay : Pay) : (arrive s x v p pay).bus = s.bus :=
  (congrArg State.bus (arrive_frame s x v p pay).1 :)

@[simp] theorem arrive_now (s : State) (x : Nat) (v : XWord) (p : Option Nat) (pay : Pay) : (arrive s x v p pay).now = s.now :=
  (congrArg State.now (arrive_frame s x v p pay).1 :)

@[simp] theorem txOutcome_bus (s : State) (tb code sof sub : Nat) : (txOutcome s tb code sof sub).bus = s.bus := arrive_bus _ _ _ _ _
@[simp] theorem txOutcome_now (s : State) (tb code sof sub : Nat) : (txOutcome s tb code sof sub).now = s.now := arrive_now _ _ _ _ _

/-! ### Frames received (R502 to R506) -/

/-- A frame received is counted; one that no filter takes too; and the hits of a filter are. -/
def rxCounted (s : State) : State := setBus s fun b => { b with rx := satInc 0xFFFFFFFF b.rx }
def missCounted (s : State) : State := setBus (rxCounted s) fun b => { b with unmatched := satInc 0xFFFF b.unmatched }
def hitCounted (s : State) (n : Nat) : State := setBus (rxCounted s) fun b => { b with hits := tset b.hits n (satInc 0xFFFF (tget 0 b.hits n)) }

section
variable {f : CanFrame} {n : Nat} (hears : busHears s = true) (hfd : f.fdf = false ∨ cfgOn s busObj "FD" = true)
include hears hfd

theorem frameHeard : ¬(!busHears s || (f.fdf && !cfgOn s busObj "FD")) = true := by
  rcases hfd with h | h <;> simp [hears, h]

theorem exec_canFrameValid_remote (hr : f.remote = true) : exec (.canFrameValid f) s = .next (missCounted s) :=
  congrArg Host.Outcome.next ((if_neg (frameHeard hears hfd)).trans (if_pos hr))

/-- Outside QUIET a frame that a filter passes to a queue enters it. -/
theorem exec_canFrameValid_queued (hr : f.remote = false) (hq : s.ana.mode ≠ .quiet) (hn : (List.range 48).find? (filterMatches s f) = some n)
    (hd : (filterOf s n).2.2.2 ≠ 3) :
    exec (.canFrameValid f) s = .next (queueAdd (hitCounted s n) ((filterOf s n).2.2.2 = 2) ⟨f, n, mono s⟩) := by
  have hfind : (List.range 48).find? (filterMatches (rxCounted s) f) = some n := hn
  refine congrArg Host.Outcome.next ((if_neg (frameHeard hears hfd)).trans ((if_neg (by simp [hr])).trans ?_))
  change (match (List.range 48).find? (filterMatches (rxCounted s) f) with | none => _ | some n => _) = _
  rw [hfind]
  exact (if_neg hd).trans (if_neg hq)

end

/-- A frame that finds room in a queue stands behind the others, and the other queue and the hits stay. -/
theorem queueAdd_A {q : QFrame} (h : s.bus.qA.length < 16) :
    (queueAdd s false q).bus.qA = s.bus.qA ++ [q] ∧ (queueAdd s false q).bus.qB = s.bus.qB ∧ (queueAdd s false q).bus.hits = s.bus.hits := by
  have hroom : ¬16 ≤ s.bus.qA.length := Nat.not_le.mpr h
  simp [queueAdd, hroom]

theorem queueAdd_B {q : QFrame} (h : s.bus.qB.length < 48) :
    (queueAdd s true q).bus.qB = s.bus.qB ++ [q] ∧ (queueAdd s true q).bus.qA = s.bus.qA := by
  have hroom : ¬48 ≤ s.bus.qB.length := Nat.not_le.mpr h
  simp [queueAdd, hroom]

theorem hitCounted_bus (s : State) (n : Nat) : (hitCounted s n).bus.qA = s.bus.qA ∧ (hitCounted s n).bus.qB = s.bus.qB ∧
    tget 0 (hitCounted s n).bus.hits n = satInc 0xFFFF (tget 0 s.bus.hits n) :=
  ⟨rfl, rfl, tget_tset_self _ _ _ _⟩

/-- The oldest frame has left its queue. -/
def drainedA (s : State) (l : List QFrame) : State :=
  setBus s fun y => { y with qA := l, passA := y.passA + 1, epiA := y.epiA && !l.isEmpty }
def drainedB (s : State) (l : List QFrame) : State :=
  setBus s fun y => { y with qB := l, passB := y.passB + 1, epiB := y.epiB && !l.isEmpty }

section
variable {q : QFrame} {l : List QFrame} (hr : coreRuns s = true) (hm : s.ana.mode ≠ .quiet)
include hr hm

theorem exec_queueDrain_A (hq : s.bus.qA = q :: l) (hp : s.bus.passA < 4) (hb : bufFull s 191 = false) :
    exec (.queueDrain false) s = .next (arrive (drainedA s l) 191 (frameWord q) (some q.at_) (.can q.f q.bf false)) := by
  refine congrArg Host.Outcome.next ?_
  change (match s.bus.qA with | [] => _ | q :: rest => _) = _
  rw [hq]
  exact if_neg (by simp [hr, hm, hp, hb])

theorem exec_queueDrain_B (hq : s.bus.qB = q :: l) (hp : s.bus.passB < 8) (hb : bufFull s 192 = false) :
    exec (.queueDrain true) s = .next (arrive (drainedB s l) 192 (frameWord q) (some q.at_) (.can q.f q.bf false)) := by
  refine congrArg Host.Outcome.next ?_
  change (match s.bus.qB with | [] => _ | q :: rest => _) = _
  rw [hq]
  exact if_neg (by simp [hr, hm, hp, hb])

end

/-- WORK0 takes a frame that no owned filter passed. -/
theorem exec_userFrame {bf : Fin 48} (f : CanFrame) (hr : coreRuns s = true) (hw : s.ana.workersReset = none)
    (hm : modeIs s [.off, .quiet, .replay] = false) (ho : filterOwned s bf = false) :
    exec (.userFrame bf f) s = .next (if filterNotify s bf then frameNotice s bf f else busUnused s) :=
  congrArg Host.Outcome.next (if_neg (by simp [hr, hw, hm, ho]))

/-! ### Transmit buffers (R507 to R510) -/

/-- The buffer's frame is gone, or has begun; the one-shot attempt that an error ended is noted. -/
def txGone (s : State) (tb : Nat) : State := setBus s fun x => { x with tbs := tdel x.tbs tb }
def txBegan (s : State) (tb : Nat) (b : TxBuf) : State := setBus s fun x => { x with tbs := tset x.tbs tb { b with begun := true } }
def txErred (s : State) (tb : Nat) : State := setBus (txGone s tb) fun x => { x with lastErr := some (tb, s.now) }

/-- A frame sent is counted, and its transmitter delay is measured where it has one. -/
def txnCounted (s : State) (tb : Nat) : State := setBus (txGone s tb) fun x => { x with txn := satInc 0xFFFFFFFF x.txn }
def txMeasured (s : State) (b : TxBuf) : State :=
  if b.f.brs && tdcOn s then drawn (setBus s fun x => { x with delay := freeBits 8 s }) else s

/-- What a frame sent means to the part that sent it. -/
def txTold (s : State) (w : TxWhat) (sof sub : Nat) : State :=
  match w with | .timeref sq => timerefSent s sq sof sub | .frag c sq => fragSent s c sq | _ => s

/-- An attempt that was lost, or that an error ended. -/
def txMissed (s : State) (tb : Nat) (b : TxBuf) (sof sub : Nat) : TxRes → State
  | .error => txOutcome (if b.oneshot then txErred s tb else txBegan s tb b) tb 3 sof sub
  | _ => txOutcome (if b.oneshot then txGone s tb else txBegan s tb b) tb 2 sof sub

section
variable {tb : Fin 8} {b : TxBuf} {sof : Nat} (sub : Fin 10) (hb : tbOf s tb = some b) (ho : txOffered s tb b sof = true)
include hb ho

theorem exec_canTxComplete_done : exec (.canTxComplete tb .done sof sub) s =
    .next (txTold (txOutcome (txMeasured (txnCounted s tb) b) tb 1 sof sub) b.what sof sub) := by
  refine congrArg Host.Outcome.next ?_
  change (match tbOf s tb with | none => _ | some b => _) = _
  rw [hb]
  exact if_neg (by simp [ho])

theorem exec_canTxComplete_missed {r : TxRes} (hr : r = .lost ∨ r = .error) :
    exec (.canTxComplete tb r sof sub) s = .next (txMissed s tb b sof sub r) := by
  refine congrArg Host.Outcome.next ?_
  change (match tbOf s tb with | none => _ | some b => _) = _
  rw [hb]
  refine (if_neg (by simp [ho])).trans ?_
  obtain rfl | rfl := hr <;> rfl

end

theorem txMeasured_buffers (s : State) (b : TxBuf) : (txMeasured s b).bus.txn = s.bus.txn ∧ (txMeasured s b).bus.tbs = s.bus.tbs := by
  unfold txMeasured
  split <;> exact ⟨rfl, rfl⟩

theorem fragSent_buffers (s : State) (c sq : Nat) : (fragSent s c sq).bus.txn = s.bus.txn ∧ (fragSent s c sq).bus.tbs = s.bus.tbs := by
  unfold fragSent
  dsimp only
  split <;> exact ⟨rfl, rfl⟩

theorem timerefSent_txn (s : State) (sq sof sub : Nat) : (timerefSent s sq sof sub).bus.txn = s.bus.txn :=
  (congrArg Bus.txn (arrive_bus s 196 4 (some sof) .none) :)

/-- Only a TIMEREF loads a buffer in its turn, that of its TIMEFUP. -/
theorem txTold_buffers (s : State) (w : TxWhat) (sof sub : Nat) :
    (txTold s w sof sub).bus.txn = s.bus.txn ∧ ((∀ n, w ≠ .timeref n) → (txTold s w sof sub).bus.tbs = s.bus.tbs) := by
  unfold txTold
  split
  · next n => exact ⟨timerefSent_txn _ _ _ _, fun h => absurd rfl (h n)⟩
  · exact ⟨(fragSent_buffers _ _ _).1, fun _ => (fragSent_buffers _ _ _).2⟩
  · exact ⟨rfl, fun _ => rfl⟩

/-- A frame that has not been sent leaves its buffer where it is to be sent once, and is kept, begun, where it is to be sent again. -/
theorem txMissed_buffers (s : State) (tb : Nat) (b : TxBuf) (sof sub : Nat) (r : TxRes) :
    (txMissed s tb b sof sub r).bus.txn = s.bus.txn ∧
      (b.oneshot = true → (txMissed s tb b sof sub r).bus.tbs = tdel s.bus.tbs tb) ∧
      (b.oneshot = false → (txMissed s tb b sof sub r).bus.tbs = tset s.bus.tbs tb { b with begun := true }) := by
  cases r <;> cases hone : b.oneshot <;> simp [txMissed, hone, txErred, txBegan, txGone]

/-! ### Errors and bus-off (R511, R512) -/

theorem busOff_of_hears (h : busHears s = true) : s.bus.busOff = false := by
  simp [busHears] at h
  exact h.2

/-- The counters of errors, and what they make of the state. -/
def errCounted (s : State) (tec rec_ : Nat) : State := setBus s fun x => { x with tec := tec, rec_ := rec_ }

/-- A change of the state is told. -/
def stateTold (old : Nat) (s : State) : State := if busState s = old then s else busNote s

theorem stateTold_bus (old : Nat) (s : State) : (stateTold old s).bus = s.bus := by
  unfold stateTold
  split <;> rfl

theorem exec_busErrorState (hh : busHears s = true) (tec rec_ : Nat) : exec (.busErrorState tec rec_) s =
    .next (stateTold (busState s) (if 256 ≤ tec then busOffEnters (errCounted s tec rec_) else errCounted s tec rec_)) :=
  congrArg Host.Outcome.next (if_neg (by simp [hh]))

/-- Bus-off begins now, and empties what waits and what is loaded. -/
theorem busOffEnters_effect (s : State) : (busOffEnters s).bus.busOff = true ∧ (busOffEnters s).bus.offAt = s.now ∧
    (busOffEnters s).bus.sends = [] ∧ (busOffEnters s).bus.tbs = [] := by
  refine ⟨rfl, ?_, rfl, rfl⟩
  unfold busOffEnters
  extract_lets loaded told ended times cause
  have htold : told.now = s.now := foldl_keeps State.now (fun _ _ => txOutcome_now _ _ _ _ _) _ _
  have hended : ended.now = told.now := foldl_keeps State.now (fun u b => by split <;> rfl) _ _
  exact hended.trans htold

theorem exec_busOffDelayExpiry_of_due (hoff : s.bus.busOff = true) (hrec : s.bus.recovering = false) (hl : s.bus.latch = false)
    (hr : coreRuns s = true) (hc : comesAt s (s.bus.offAt + cfgTicks s busObj "BOFFDLY") = some t) :
    exec .busOffDelayExpiry s = .next { t with bus := { t.bus with recovering := true } } :=
  congrArg Host.Outcome.next ((if_neg (by simp [hoff, hrec, hl, hr])).trans (atTick_of_comesAt hc))

/-- The recovery has ended: no error is counted, and the tunnels' timers restart (R540). -/
def busRecovered (s : State) : State :=
  setBus s fun x => { x with
    busOff := false, recovering := false, tec := 0, rec_ := 0
    tuns := s.bus.tuns.map fun p => (p.1, { p.2 with sentAt := s.now, heardAt := s.now }) }

theorem exec_busOffRecovered (hoff : s.bus.busOff = true) (hrec : s.bus.recovering = true) (hr : coreRuns s = true) :
    exec .busOffRecovered s = .next (busNote (busRecovered s)) :=
  congrArg Host.Outcome.next (if_neg (by simp [hoff, hrec, hr]))

/-! ### Joining, sleep and wake (R514, R515) -/

def busJoined (s : State) : State :=
  setBus s fun x => { x with joined := true, joining := false, tec := 0, rec_ := 0, hbDue := some (epochTick s (s.epoch + 1)) }

theorem exec_busJoin (hj : s.bus.joining = true) (ha : s.bus.asleep = false) (hr : coreRuns s = true) (hc : s.pwr.committed = false) :
    exec .busJoin s = .next (busJoined s) :=
  congrArg Host.Outcome.next (if_neg (by simp [hj, ha, hr, hc]))

theorem exec_busSleep (hq : s.ana.mode = .quiet) (ha : s.bus.asleep = false) (hb : s.bus.sleepBy.isSome = true) :
    exec .busSleep s = .next (busSleeps s) :=
  congrArg Host.Outcome.next (if_neg (by simp [hq, ha, Option.isSome_iff_ne_none.mp hb]))

/-- The setting of WAKEMODE that arms a wake (Table BUS-4). -/
def wakeModeOf : CanWakeKind → String | .pattern => "PATTERN" | _ => "FRAME"

/-- The wake that WAKEMODE arms wakes the device, and its cause is told. -/
theorem exec_canWake_of_armed {k : CanWakeKind} (ha : s.bus.asleep = true) (hq : s.ana.mode = .quiet)
    (hm : cfgWord s busObj "WAKEMODE" = wakeModeOf k) :
    ∃ t, exec (.canWake k) s = .next t ∧ t.pwr.waking = some .can ∧ t.bus.wakeCause = wakeKindCode k :=
  ⟨_, congrArg Host.Outcome.next (if_neg (by cases k <;> simp [ha, hq, hm, wakeModeOf])), rfl, rfl⟩

end Sys2Proof.Laws

namespace Sys2Proof.Proofs
open Sys2Proof Sys2Proof.Machine Sys2Proof.Laws

/-- Settles O47, row by row. -/
theorem controllerRowsComplete : Obligations.ControllerRowsComplete := by
  intro s s'
  refine ⟨fun f hh hfd hr => ⟨_, exec_canFrameValid_remote hh hfd hr, rfl, rfl, rfl, rfl⟩,
    fun f n hh hfd hr hq hn hd hl => ?_,
    fun f n hh hfd hr hq hn hd hl => ?_,
    fun q l hq hr hm hp hb => ⟨_, exec_queueDrain_B hr hm hq hp hb, ?_⟩,
    fun q l hq hr hm hp hb => ⟨_, exec_queueDrain_A hr hm hq hp hb, ?_⟩,
    fun bf f hr hw hm ho hn => ⟨_, exec_userFrame f hr hw hm ho, if_pos hn⟩,
    fun bf f hr hw hm ho hn => ⟨_, exec_userFrame f hr hw hm ho, if_neg (by simp [hn])⟩,
    fun tb b sof sub hb ho => ⟨_, exec_canTxComplete_done sub hb ho, ?_⟩,
    fun tb b sof sub r hb ho hr => ⟨_, exec_canTxComplete_missed sub hb ho hr, txMissed_buffers _ _ _ _ _ _⟩,
    fun tec rec_ hh ht => ⟨_, exec_busErrorState hh tec rec_, ?_⟩,
    fun tec rec_ hh ht => ⟨_, exec_busErrorState hh tec rec_, ?_⟩,
    fun hoff hrec hl hr hc => exec_busOffDelayExpiry_of_due hoff hrec hl hr hc,
    fun hoff hrec hr => ⟨_, exec_busOffRecovered hoff hrec hr, rfl, rfl, rfl, rfl⟩,
    fun hj ha hr hc => ⟨_, exec_busJoin hj ha hr hc, rfl, rfl, rfl, rfl⟩,
    fun hq ha hb => ⟨_, exec_busSleep hq ha hb, rfl, rfl, rfl⟩,
    exec_canWake_of_armed (k := .pattern), exec_canWake_of_armed (k := .frame), exec_canWake_of_armed (k := .errors)⟩
  · obtain ⟨hqA, hqB, hhits⟩ := hitCounted_bus s n
    obtain ⟨hin, hother, hsame⟩ := queueAdd_A (s := hitCounted s n) (q := ⟨f, n, mono s⟩) (by rw [hqA]; exact hl)
    refine ⟨_, exec_canFrameValid_queued hh hfd hr hq hn (by simp [hd]), ?_⟩
    rw [decide_eq_false (by simp [hd]), hin, hother, hsame]
    exact ⟨congrArg (· ++ _) hqA, hqB, hhits⟩
  · obtain ⟨hqA, hqB, -⟩ := hitCounted_bus s n
    obtain ⟨hin, hother⟩ := queueAdd_B (s := hitCounted s n) (q := ⟨f, n, mono s⟩) (by rw [hqB]; exact hl)
    refine ⟨_, exec_canFrameValid_queued hh hfd hr hq hn (by simp [hd]), ?_⟩
    rw [decide_eq_true hd, hin, hother]
    exact ⟨congrArg (· ++ _) hqB, hqA⟩
  · rw [arrive_bus]
    exact ⟨rfl, rfl, rfl⟩
  · rw [arrive_bus]
    exact ⟨rfl, rfl, rfl⟩
  · obtain ⟨htxn, htbs⟩ := txTold_buffers (txOutcome (txMeasured (txnCounted s tb) b) tb 1 sof sub) b.what sof sub
    obtain ⟨hmtxn, hmtbs⟩ := txMeasured_buffers (txnCounted s tb) b
    rw [txOutcome_bus] at htxn htbs
    exact ⟨htxn.trans hmtxn, fun hw => (htbs hw).trans hmtbs⟩
  · rw [stateTold_bus, if_neg (Nat.not_le.mpr ht)]
    exact ⟨rfl, rfl, busOff_of_hears hh, rfl⟩
  · rw [stateTold_bus, if_pos ht]
    exact busOffEnters_effect (errCounted s tec rec_)

end Sys2Proof.Proofs
end

section
/-!
What the rows of the Aravo profile and of the tunnels do: heartbeats (R518, R519), points (R520, R521), sessions, fragments and their
acknowledgements (R522 to R526), and what a sealed order needs to be placed (R527 to R529).
-/
namespace Sys2Proof.Laws
open Sys2Proof Sys2Proof.Machine
variable {s t : State}

theorem comesAt_bus {n : Nat} (h : comesAt s n = some t) : t.bus = s.bus := by rw [comesAt_now h]

/-! ### A cancellation takes no time -/

@[simp] theorem modSes_now (s : State) (k : Sess) (f : Session → Session) : (modSes s k f).now = s.now := setSes_now _ _ _
@[simp] theorem finish_now (s : State) (id : Nat) (body : String) : (finish s id body).now = s.now := (linesKept_finish s id body).now
@[simp] theorem notify_now (s : State) (n : String) (o : Option Obj) (a : String) : (notify s n o a).now = s.now :=
  (congrArg State.now (untold_notify s n o a) :)
@[simp] theorem addCause_now (s : State) (r : Nat) (m : Mode) : (addCause s r m).now = s.now := by rw [addCause_frame]
@[simp] theorem macroEnd_now (s : State) (m : Nat) (body : String) : (macroEnd s m body).now = s.now :=
  (congrArg State.now (unanswered_macroEnd s m body) :)

@[simp] theorem grantBack_now (s : State) (h : Holder) : (grantBack s h).now = s.now := by
  unfold grantBack
  split
  · split
    · rfl
    · unfold grantMark
      rw [leaveLog_frame]
  · rfl

@[simp] theorem leaveWithdraw_now (s : State) (h : Holder) : (leaveWithdraw s h).now = s.now := by
  have hlog : ∀ l : List LReq, (l.foldl (fun s r => leaveLog s h r.op 7) s).now = s.now :=
    fun l => foldl_keeps State.now (fun s r => by rw [leaveLog_frame]) l s
  unfold leaveWithdraw withdrawOf
  dsimp only
  split
  · exact (grantBack_now _ _).trans (hlog _)
  · exact hlog _

theorem placeOrder_modDr_now (s : State) (d : Nat) (f : Dr → Dr) (o : Order) : (placeOrder (modDr s d f) d o).now = s.now := rfl

@[simp] theorem driveCancel_now (s : State) (id : Nat) : (driveCancel s id).now = s.now := by
  refine foldl_keeps State.now (fun u d => ?_) _ s
  extract_lets r v
  have hwaits : v.now = u.now := by
    dsimp only [v]
    split
    · exact placeOrder_modDr_now _ _ _ _
    · rfl
  split
  · split
    · exact (placeOrder_modDr_now _ _ _ _).trans hwaits
    · exact hwaits
  · exact hwaits

@[simp] theorem replayEnds_now (s : State) (body : String) (res island : Nat) : (replayEnds s body res island).now = s.now := by
  have hcmd : (match replayCmd s with | some id => finish s id body | none => s).now = s.now := by
    split
    · exact finish_now _ _ _
    · rfl
  unfold replayEnds
  dsimp only
  split
  · rw [addCause_now]
    split
    · exact hcmd
    · exact (notify_now _ _ _ _).trans hcmd
  · exact hcmd

theorem macroCancel_now (s : State) (m id : Nat) : (macroCancel s m id).now = s.now := by
  unfold macroCancel
  dsimp only
  split
  · exact macroEnd_now _ _ _
  · split
    · exact (finish_now _ _ _).trans rfl
    · exact finish_now _ _ _

theorem calCancel_now {id : Nat} (h : calCancel s id = some t) : t.now = s.now := by
  unfold calCancel at h
  split at h <;> cases h
  split
  · exact finish_now _ _ _
  · exact (leaveWithdraw_now _ _).trans (finish_now s id _)

theorem bistCancel_now {id : Nat} (h : bistCancel s id = some t) : t.now = s.now := by
  unfold bistCancel at h
  split at h <;> cases h
  split
  · exact finish_now _ _ _
  · exact (leaveWithdraw_now _ _).trans (finish_now s id _)

theorem slotFreed_now (s : State) (k : Option Nat) : (slotFreed s k).now = s.now := by cases k <;> rfl

theorem lanEnds_now (s : State) (cmd : Option Nat) (body : String) : (lanEnds s cmd body).now = s.now := by
  cases cmd
  · rfl
  · exact finish_now _ _ _

theorem lanCancel_now {id : Nat} (h : lanCancel s id = some t) : t.now = s.now := by
  unfold lanCancel at h
  split at h
  · cases h
  · split at h
    · split at h <;> cases h
      rw [lanEnds_now, slotFreed_now]
      dsimp only [lanPop, setLan_now]
      split <;> rfl
    · split at h
      · split at h <;> cases h
        rw [lanEnds_now, slotFreed_now, setLan_now]
      · cases h

theorem frzCancel_now {id : Nat} (h : frzCancel s id = some t) : t.now = s.now := by
  unfold frzCancel at h
  split at h
  · split at h <;> cases h
    rw [finish_now, setJrn_now]
    split
    · exact leaveWithdraw_now _ _
    · rfl
  · cases h

theorem cancelPlain_now {o : Out} (h : cancelPlain s o = some t) : t.now = s.now := by
  have hsome : ∀ {u : State}, u.now = s.now → some u = some t → t.now = s.now := fun hu e => Option.some.inj e ▸ hu
  have hmoves : (finish (driveCancel s o.id) o.id "FAIL CANCELLED").now = s.now := (finish_now _ _ _).trans (driveCancel_now _ _)
  unfold cancelPlain at h
  split at h
  · exact hsome (finish_now _ _ _) h
  · split at h
    · exact hsome hmoves h
    · cases h
  · exact hsome hmoves h
  · exact hsome (finish_now _ _ _) h
  · exact hsome (replayEnds_now _ _ _ _) h
  · exact hsome (macroCancel_now _ _ _) h
  · exact calCancel_now h
  · exact bistCancel_now h
  · exact lanCancel_now h
  · exact lanCancel_now h
  · exact frzCancel_now h
  · cases h

theorem sendCancel_now (s : State) (id cancel : Nat) : (sendCancel s id cancel).1.now = s.now := by
  unfold sendCancel
  split
  · exact (finish_now _ _ _).trans rfl
  · extract_lets begun v
    split
    · exact txOutcome_now _ _ _ _ _
    · exact txOutcome_now _ _ _ _ _

theorem cancelQuiet_now (s : State) (o : Out) : (cancelQuiet s o).now = s.now := by
  unfold cancelQuiet
  split
  · exact sendCancel_now _ _ _
  · cases h : cancelPlain s o with
    | none => rfl
    | some u => exact cancelPlain_now h

theorem emptyLine_now (s : State) (k : Sess) : (emptyLine s k).now = s.now := by
  unfold emptyLine echoChars
  split <;> simp

theorem partialEmpty_now (s : State) (k : Sess) (pre post : List (BitVec 9 × Nat)) : (partialEmpty s k pre post).now = s.now := by
  unfold partialEmpty
  dsimp only
  split
  · exact modSes_now _ _ _
  · split <;> simp [emptyLine_now]

theorem untaggedCancel_now (s : State) (k : Sess) : (untaggedCancel s k).now = s.now := by
  unfold untaggedCancel
  split
  · exact cancelQuiet_now _ _
  · rfl

/-- A code that reaches its session takes no time, the cancellation by a Ctrl-C neither. -/
theorem rxIn_now (s : State) (k : Sess) (code : BitVec 9) (n : Nat) : (rxIn s k code n).now = s.now := by
  unfold rxIn
  split
  · exact (untaggedCancel_now _ _).trans (partialEmpty_now _ _ _ _)
  · unfold rxAdd countOverrun
    dsimp only
    split <;> simp

/-- Codes that reach their session at one tick carry it. -/
theorem foldl_rxIn_now {n : Nat} (k : Sess) (l : List Byte) (h : s.now = n) :
    l.foldl (fun u b => rxIn u k (b.setWidth 9) n) s = l.foldl (fun u b => rxIn u k (b.setWidth 9) u.now) s := by
  induction l generalizing s with
  | nil => rfl
  | cons b l ih =>
    rw [List.foldl_cons, List.foldl_cons, ih ((rxIn_now _ _ _ _).trans h), h]

/-! ### Heartbeats and points (R518 to R521) -/

/-- The next HEARTBEAT is due one interval after this one, or after now where that has passed. -/
def hbNoted (s : State) (v : Int) : State :=
  let due := s.bus.hbDue.getD s.now + (v / 125).toNat
  setBus s fun x => { x with hbDue := some (if due ≤ s.now then s.now + (v / 125).toNat else due) }

theorem exec_busHeartbeatSend_of_due {v : Int} {a : Nat} (hv : cfgNano s busObj "HBINT" = some v) (hn : nodeAddr s ≠ 0) (hb : busSends s = true)
    (hk : s.bus.conflict = false) (hr : coreRuns s = true) (hw : s.ana.workersReset = none) (ha : s.bus.hbDue = some a) (hc : comesAt s a = some t) :
    exec .busHeartbeatSend s = .next (profFrame (hbNoted t v) 6 0x04 0 0 (heartbeatData t)) := by
  refine congrArg Host.Outcome.next ?_
  rw [hv]
  refine (if_neg (by simp [hn, hb, hk, hr, hw])).trans ?_
  rw [ha]
  exact atTick_of_comesAt hc

theorem exec_heartbeatReceived_other {src : Fin 64} (h : src.val ≠ nodeAddr s) : exec (.heartbeatReceived src) s = .next s :=
  congrArg Host.Outcome.next (if_pos (by simp [h]))

/-- A heartbeat with the node's own address is a conflict. -/
theorem exec_heartbeatReceived_own {src : Fin 64} (ht : busTakes s = true) (h : src.val = nodeAddr s) :
    ∃ t, exec (.heartbeatReceived src) s = .next t ∧ t.bus.conflict = true :=
  ⟨_, congrArg Host.Outcome.next (if_neg (by simp [ht, h])), rfl⟩

theorem exec_pointPublish_of_due {p : Fin 32} {v : Int × Nat} (hv : pointValue s p = some v) (ht : busTakes s = true) (hb : busSends s = true)
    (hk : s.bus.conflict = false) (hn : s.now = epochTick s s.epoch) (hd : pointDue s p v = true) : exec (.pointPublish p) s =
    .next (pointFrame (setBus s fun b => { b with points := tset b.points p { val := some v, at_ := s.now, sq := ((pointSt s p).sq + 1) % 256 } })
      p 0 v (pointSt s p).sq) := by
  refine congrArg Host.Outcome.next ?_
  rw [hv]
  exact if_neg (by simp [ht, hb, hk, hn, hd])

theorem exec_pointreq_of_known {i : Byte} {p : Nat} (src : Fin 64) (ht : busTakes s = true)
    (hp : (List.range 32).find? (fun p => cfgNat s (pointObj p) "INDEX" = i.toNat && (cfgObj s (pointObj p) "SOURCE").isSome) = some p) :
    exec (.pointreq src i) s = .next (setBus s fun x => { x with answers := x.answers ++ [(s.epoch + 1, p, src.val)] }) := by
  refine congrArg Host.Outcome.next ((if_neg (by simp [ht])).trans ?_)
  rw [hp]

/-! ### Tunnel sessions (R522, R526) -/

/-- A session opens with a sender, without a past. -/
def tunOpened (s : State) (src c : Nat) : State :=
  modSes (setTun s c { node := src, heardAt := s.now }) (tunSess c) fun x => { sesEmpty x with active := s.now }

/-- Its opening is told. -/
def tunTold (s : State) (src c : Nat) : State := sesNotice (tunOpened s src c) c ("STATE=OPEN NODE=" ++ natStr src)

/-- An OPEN is answered by the lowest session that is free. -/
theorem exec_tunnelOpen_of_free {src : Fin 64} {c : Nat} (ht : busTakes s = true) (hl : cfgOn s busObj "LISTEN" = false)
    (hu : cfgOn s busObj "TUNNEL" = true) (hk : s.bus.conflict = false) (hn : s.bus.tuns.find? (·.2.node = src.val) = none)
    (hc : (List.range 4).find? (fun c => (tunOf s c).isNone) = some c) :
    exec (.tunnelOpen src) s = .next (tunCtl (tunTold s src c) src c [2, c + 1, 4, fragMax (tunTold s src c)]) := by
  refine congrArg Host.Outcome.next ((if_neg (by simp [ht])).trans ((if_neg (by simp [hl])).trans ((if_neg (by simp [hu])).trans
    ((if_neg (by simp [hk])).trans ?_))))
  rw [hn]
  dsimp only
  rw [hc]
  rfl

theorem unnoticed_of_unheard (h : unheard t = unheard s) (k : Sess) : unnoticed (getSes t k) = unnoticed (getSes s k) := by
  rw [← getSes_unheard, h, getSes_unheard]

theorem getSes_of_unframed (h : unframed t = unframed s) (k : Sess) : getSes t k = getSes s k := (congrArg (getSes · k) h :)

/-- A session that has opened is open, framed and without a role. -/
theorem tunTold_session (s : State) (src c node : Nat) (data : List Nat) :
    unnoticed (getSes (tunCtl (tunTold s src c) node c data) (tunSess c)) =
      unnoticed { sesEmpty (getSes (setTun s c { node := src, heardAt := s.now }) (tunSess c)) with active := s.now } := by
  have hframe : unframed (tunCtl (tunTold s src c) node c data) = unframed (tunTold s src c) := unframed_profSend _ _ _
  rw [getSes_of_unframed hframe, unnoticed_of_unheard (t := tunTold s src c) (unheard_notify _ _ _ _), tunOpened, getSes_modSes_self]

theorem exec_tunnelClose_of_open {ses : Fin 4} {src : Fin 64} {u : Tun} (ht : busTakes s = true) (hu : tunFor s ses src = some u) :
    exec (.tunnelClose ses src) s = .next (tunClose s ses "PEER") := by
  refine congrArg Host.Outcome.next ((if_neg (by simp [ht])).trans ?_)
  rw [hu]

theorem exec_tunnelIdle_of_due {ses : Fin 4} {u : Tun} (hu : tunOf s ses = some u) (ht : busTakes s = true) (hb : s.bus.busOff = false)
    (hc : comesAt s (u.heardAt + cfgTicks s busObj "TUNIDLE") = some t) : exec (.tunnelIdle ses) s = .next (tunClose t ses "IDLE") := by
  refine congrArg Host.Outcome.next ?_
  rw [hu]
  exact (if_neg (by simp [ht, hb])).trans (atTick_of_comesAt hc)

/-! ### Fragments and acknowledgements (R523 to R525) -/

theorem fragTakes_of_next {ses sq at_ : Nat} {u : Tun} {b : List Byte} (hsq : sq = u.inSeq) (hl : b.length ≤ rxFree s (tunSess ses)) :
    fragTakes s ses u sq b at_ = b.foldl (fun s b => rxIn s (tunSess ses) (b.setWidth 9) at_)
      (setTun s ses { u with inSeq := (u.inSeq + 1) % 64, ackDue := true, heardAt := s.now }) :=
  if_pos (by simp [hsq, hl])

theorem fragTakes_of_other {ses sq at_ : Nat} {u : Tun} {b : List Byte} (h : sq ≠ u.inSeq ∨ rxFree s (tunSess ses) < b.length) :
    fragTakes s ses u sq b at_ = setTun s ses { u with ackDue := true, heardAt := s.now } :=
  if_neg (by
    obtain hsq | hl := h
    · simp [hsq]
    · simp [Nat.not_le.mpr hl])

section
variable {ses : Fin 4} {src sq : Fin 64} {b : List Byte} {u : Tun} (ht : busTakes s = true) (hb : b ≠ []) (hl : b.length ≤ 63)
  (hu : tunFor s ses src = some u)
include ht hb hl hu

theorem exec_tunnelFragment_of_open : exec (.tunnelFragment ses src sq b) s = .next
    (if s.now = epochTick s s.epoch then tunBoundary (linesStep (fragTakes s ses u sq b (s.now - 1))) else fragTakes s ses u sq b s.now) := by
  refine congrArg Host.Outcome.next ((if_neg (by simp [ht])).trans ((if_neg (by simp [hb, hl])).trans ?_))
  rw [hu]

theorem exec_tunnelFragment_atBoundary (hn : s.now = epochTick s s.epoch) : exec (.tunnelFragment ses src sq b) s =
    .next (tunBoundary (linesStep (fragTakes s ses u sq b (s.now - 1)))) := by
  rw [exec_tunnelFragment_of_open ht hb hl hu, if_pos hn]

theorem exec_tunnelFragment_inside (hn : s.now ≠ epochTick s s.epoch) : exec (.tunnelFragment ses src sq b) s =
    .next (fragTakes s ses u sq b s.now) := by
  rw [exec_tunnelFragment_of_open ht hb hl hu, if_neg hn]

end

theorem exec_tunnelAck_of_window {ses : Fin 4} {src next : Fin 64} {u : Tun} {l : List Frag} (ht : busTakes s = true)
    (hu : tunFor s ses src = some u) (hl : ackLeaves next u.unacked = some l) : exec (.tunnelAck ses src next) s =
    .next (fragPump 4 (setTun s ses { u with heardAt := s.now, unacked := l, resends := 0, sentAt := s.now }) ses) := by
  refine congrArg Host.Outcome.next ((if_neg (by simp [ht])).trans ?_)
  rw [hu]
  dsimp only
  rw [hl]

/-- Fragments that no acknowledgement has moved for 100 ms are sent again, five times; then the session closes. -/
theorem exec_tunnelResend_of_due {ses : Fin 4} {u : Tun} (hu : tunOf s ses = some u) (hne : u.unacked ≠ []) (ht : busTakes s = true)
    (hb : s.bus.busOff = false) (hc : comesAt s (u.sentAt + 100 * tickMs) = some t) : exec (.tunnelResend ses) s =
    .next (if 5 ≤ u.resends then tunClose t ses "NOACK"
      else u.unacked.foldl (fun s f => fragSend s ses u f) (setTun t ses { u with resends := u.resends + 1, sentAt := t.now })) := by
  refine congrArg Host.Outcome.next ?_
  rw [hu]
  exact (if_neg (by simp [hne, ht, hb])).trans (atTick_of_comesAt hc)

/-! ### What a sealed order needs (R527 to R529) -/

theorem exec_sealedOrder_unserved {id : BitVec 29} {fdf : Bool} {d : List Byte} (ht : busTakes s = true)
    (h : cfgOn s busObj "SEAL" = false ∨ cfgOn s busObj "LISTEN" = true) : exec (.sealedOrder id fdf d) s = .next (busUnused s) :=
  congrArg Host.Outcome.next ((if_neg (by simp [ht])).trans (if_pos (by rcases h with h | h <;> simp [h])))

/-- What a sealed order may ask of a drive reads the configuration alone. -/
theorem sealValues_congr (h : t.cfg = s.cfg) (d code pos tilt : Nat) : sealValues t d code pos tilt = sealValues s d code pos tilt := by
  have hkind : driveKind t d = driveKind s d := by simp only [driveKind, cfgWord, cfgVal, h]
  have htilt : tiltTicks t d = tiltTicks s d := by simp only [tiltTicks, hkind, cfgTicks, cfgInt, cfgNano, cfgVal, h]
  have hrange : ∀ m a, moveRange t m a d = moveRange s m a d := fun m a => by
    simp only [moveRange, moveTarget_congr h, hkind, htilt]
  simp only [sealValues, hrange]

/-- A sealed order for this node whose message code is right, whose counter is new, and whose drive and values are admitted, is placed. -/
theorem exec_sealedOrder_of_right {id : BitVec 29} {d : List Byte} (ht : busTakes s = true) (hs : cfgOn s busObj "SEAL" = true)
    (hl : cfgOn s busObj "LISTEN" = false) (hkind : id.toNat / 1048576 % 64 = 0x10) (hdest : id.toNat / 16384 % 64 = nodeAddr s)
    (hlen : d.length = 16) (hmac : sealMacOk s id d = true) (hnew : tget 0 s.bus.seals (sealSrc id) < sealCounter d)
    (hdrive : (cfgObjs s busObj "SEALDRIVES").contains (drvObj (sealByte d 0)) = true)
    (hvals : sealValues s (sealByte d 0) (sealByte d 1) (sealByte d 2) (sealByte d 3) = true) :
    exec (.sealedOrder id true d) s = .next (sealTaken s id d) := by
  have hcfg : (sealChecked s id d).cfg = s.cfg := jrnPut_cfg _ _ _ _
  have hbus : (sealChecked s id d).bus = s.bus := jrnPut_bus _ _ _ _
  have hcounter : ¬sealCounter d ≤ tget 0 (sealChecked s id d).bus.seals (sealSrc id) := by rw [hbus]; exact Nat.not_le.mpr hnew
  have hdrives : cfgObjs (sealChecked s id d) busObj "SEALDRIVES" = cfgObjs s busObj "SEALDRIVES" := by unfold cfgObjs cfgVal; rw [hcfg]
  have hadmitted : ¬(!(cfgObjs (sealChecked s id d) busObj "SEALDRIVES").contains (drvObj (sealByte d 0))) = true := by
    rw [hdrives, hdrive]; decide
  have hfits : ¬(!sealValues (sealChecked s id d) (sealByte d 0) (sealByte d 1) (sealByte d 2) (sealByte d 3)) = true := by
    rw [sealValues_congr hcfg, hvals]; decide
  exact congrArg Host.Outcome.next ((if_neg (by simp [ht])).trans ((if_neg (by simp [hs, hl, hkind, hdest])).trans
    ((if_neg (by simp [hlen])).trans ((if_neg (by simp [hmac])).trans ((if_neg hcounter).trans ((if_neg hadmitted).trans (if_neg hfits)))))))

end Sys2Proof.Laws

namespace Sys2Proof.Proofs
open Sys2Proof Sys2Proof.Machine Sys2Proof.Laws

/-- Settles O48, row by row. -/
theorem profileRowsComplete : Obligations.ProfileRowsComplete := by
  intro s s'
  refine ⟨fun v a hv hn hb hk hr hw ha hc => ⟨_, exec_busHeartbeatSend_of_due hv hn hb hk hr hw ha hc, ?_⟩,
    fun src ht h => exec_heartbeatReceived_own ht h,
    fun src h => exec_heartbeatReceived_other h,
    fun p v hv ht hb hk hn hd => ⟨_, exec_pointPublish_of_due hv ht hb hk hn hd, rfl⟩,
    fun src i p ht hp => exec_pointreq_of_known src ht hp,
    fun src c ht hl hu hk hn hc => ?_,
    fun ses src sq b u ht hb hl hu => ⟨exec_tunnelFragment_atBoundary ht hb hl hu, fun hn h => ?_, fun hn hsq hroom => ?_⟩,
    fun ses src next u l ht hu hl => ⟨_, exec_tunnelAck_of_window ht hu hl, rfl⟩,
    fun ses u hu hne ht hb hs hc => ⟨_, exec_tunnelResend_of_due hu hne ht hb hc, if_neg (Nat.not_le.mpr hs)⟩,
    fun ses u hu hne ht hb hs hc => ⟨_, exec_tunnelResend_of_due hu hne ht hb hc, if_pos hs⟩,
    fun ses src u ht hu => ⟨_, exec_tunnelClose_of_open ht hu, rfl⟩,
    fun ses u hu ht hb hc => ⟨_, exec_tunnelIdle_of_due hu ht hb hc, rfl⟩,
    fun id fdf d ht h => ⟨_, exec_sealedOrder_unserved ht h, rfl⟩,
    fun id d ht hs hl hkind hdest hlen hmac hnew hdrive hvals =>
      ⟨_, exec_sealedOrder_of_right ht hs hl hkind hdest hlen hmac hnew hdrive hvals, sealTaken_effect s id d⟩⟩
  · have hdue : (profFrame (hbNoted s' v) 6 0x04 0 0 (heartbeatData s')).bus.hbDue = (hbNoted s' v).bus.hbDue :=
      (congrArg (fun u => u.bus.hbDue) (unframed_profSend _ _ _) :)
    rw [hdue, hbNoted, setBus_bus, comesAt_bus hc, ha]
    rfl
  · have hses := tunTold_session s src c src [2, c + 1, 4, fragMax (tunTold s src c)]
    exact ⟨_, exec_tunnelOpen_of_free ht hl hu hk hn hc,
      (congrArg Session.isOpen hses :), (congrArg Session.role hses :), (congrArg Session.mode hses :)⟩
  · rw [exec_tunnelFragment_inside ht hb hl hu hn, fragTakes_of_other h]
  · refine ⟨_, exec_tunnelFragment_inside ht hb hl hu hn, ?_⟩
    rw [fragTakes_of_next hsq hroom]
    exact foldl_rxIn_now (tunSess ses) b rfl

end Sys2Proof.Proofs
end

section
/-!
A step with a command waiting runs it (R18).
-/
namespace Sys2Proof.Laws
open Sys2Proof Sys2Proof.Machine
variable {s : State}

theorem step_of_pending {c : Instr} {l : List Instr} (h : s.pending = c :: l) : step s = exec c { s with pending := l } := by
  unfold step; rw [h]

end Sys2Proof.Laws

namespace Sys2Proof.Proofs
open Sys2Proof Sys2Proof.Machine Sys2Proof.Laws

/-- Settles O1: the branch of the step for a queue that is not empty. -/
theorem stepRunsTheFrontCommand : Obligations.StepRunsTheFrontCommand := fun _ _ => step_of_pending rfl

end Sys2Proof.Proofs
end

section
/-!
What the rows of the reference exchange leave alone, and their effect (R550 to R552, R555 to R559).
-/
namespace Sys2Proof.Laws
open Sys2Proof Sys2Proof.Machine
variable {s t : State}

/-! ### What arrivals and notices leave of time -/

@[simp] theorem arrive_tim (s : State) (x : Nat) (v : XWord) (p : Option Nat) (pay : Pay) : (arrive s x v p pay).tim = s.tim := by
  rw [(arrive_frame s x v p pay).1]

@[simp] theorem notify_tim (s : State) (n : String) (o : Option Obj) (a : String) : (notify s n o a).tim = s.tim :=
  (congrArg State.tim (untold_notify s n o a) :)

@[simp] theorem sourceNote_tim (s : State) (st : String) : (sourceNote s st).tim = s.tim := notify_tim _ _ _ _

/-- A change of quality that is noticed is not noticed again, and nothing else of time changes. -/
theorem qualNote_tim (s : State) : (qualNote s).tim = { s.tim with qualNoted := s.tim.quality } := by
  unfold qualNote
  split
  · next h => rw [h]
  · exact notify_tim _ _ _ _

/-- The quality follows the sources; the crystal term follows the quality, and network time is referred to now where it changes. -/
theorem qualRefresh_tim (s : State) : (qualRefresh s).tim =
    { s.tim with quality := timeQual s, hold := (qualRefresh s).tim.hold, base := (qualRefresh s).tim.base, refTick := (qualRefresh s).tim.refTick } := by
  unfold qualRefresh holdRefresh
  dsimp only
  split <;> rfl

@[simp] theorem masterNote_tim (s : State) : (masterNote s).tim = s.tim := by
  unfold masterNote
  split <;> rfl

/-- The master followed, and with a change of it the acquisition, are all that a refresh of the following changes of time. -/
theorem followRefresh_tim (s : State) : (followRefresh s).tim =
    { s.tim with follow := followOf s, acq := (followRefresh s).tim.acq, held := (followRefresh s).tim.held } := by
  unfold followRefresh
  dsimp only
  split
  · next h => rw [h]
  · rw [masterNote_tim]

/-! ### TIMEREF sent (R550, R551) -/

/-- A master's next TIMEREF: its number, and the instant of the one after it. -/
def timerefNext (s : State) : State :=
  { s with tim := { s.tim with outSeq := (s.tim.outSeq + 1) % 16, refDue := s.tim.refDue.map (· + (refintOwn s : Int) * 20000000) } }

theorem exec_timerefSend_of_due (hm : s.tim.isMaster = true) (hr : coreRuns s = true)
    (hc : comesAt? s (s.tim.refDue.map (tickOf s)) = some t) : exec .timerefSend s = .next (if busSends t then
      tb0Load (timerefNext t) 0x18 (timerefData t ((t.tim.outSeq + 1) % 16)) (.timeref ((t.tim.outSeq + 1) % 16)) else timerefNext t) :=
  congrArg Host.Outcome.next ((if_neg (by simp [hm, hr])).trans (atTick_some hc))

/-- A frame loaded stands in TB0. -/
theorem tb0Load_tbOf (s : State) (kind : Nat) (data : List Byte) (what : TxWhat) : tbOf (tb0Load s kind data what) 0 =
    some { f := { ident := aravoId 0 kind 0 (nodeAddr s) 0, data := data }, what := what, at_ := mono s } := by
  have hfront : ∀ (l : Tbl TxBuf) (b : TxBuf), ∃ l', tset l 0 b = (0, b) :: l' := fun l b => by
    unfold tset
    split
    · exact ⟨_, rfl⟩
    · split_ifs
      · exact ⟨_, rfl⟩
      · exact ⟨_, rfl⟩
      · omega
  unfold tbOf tb0Load
  dsimp only
  obtain ⟨l, hl⟩ := hfront s.bus.tbs { f := { ident := aravoId 0 kind 0 (nodeAddr s) 0, data := data }, what := what, at_ := mono s }
  rw [hl]
  rfl

/-! ### TIMEREF and TIMEFUP heard (R551 to R553) -/

/-- A reject is counted, and nothing else of time changes. -/
theorem timeReject_tim (s : State) (sof : Nat) : (timeReject s sof).tim = { s.tim with nRejects := satInc 0xFFFF s.tim.nRejects } :=
  arrive_tim _ _ _ _ _

theorem timeReject_now (s : State) (sof : Nat) : (timeReject s sof).now = s.now := by
  unfold timeReject; rw [(arrive_frame _ _ _ _ _).1]

/-- The TIMEREFs that wait for their TIMEFUP, and the candidates. -/
def timeHeard (s : State) : List TimeRef × List TimeCand := (s.tim.refs, s.tim.cands)

theorem followRefresh_heard (s : State) : timeHeard (followRefresh s) = timeHeard s := by
  unfold timeHeard; rw [followRefresh_tim]

theorem masterNote_heard (s : State) : timeHeard (masterNote s) = timeHeard s := by
  unfold timeHeard; rw [masterNote_tim]

/-- The candidate that a TIMEREF announces (Table TIM-4). -/
def candOf (s : State) (src : Nat) (data : List Byte) : TimeCand :=
  { node := src, master := (byteAt data 1).testBit 0, prio := byteAt data 2, refint := byteAt data 3, qual := byteAt data 1 / 4 % 4,
    unc := natBE (data.drop 4), at_ := s.now }

/-- An announcement heard takes the place of the sender's earlier one, and the TIMEREFs that wait stay. -/
theorem candHear_heard (s : State) (src : Nat) (data : List Byte) :
    timeHeard (candHear s src data) = (s.tim.refs, candOf s src data :: s.tim.cands.filter (·.node != src)) := by
  unfold candHear
  dsimp only
  refine (followRefresh_heard _).trans ?_
  split
  · exact masterNote_heard _
  · rfl

theorem candHear_refs (s : State) (src : Nat) (data : List Byte) : (candHear s src data).tim.refs = s.tim.refs :=
  (congrArg Prod.fst (candHear_heard s src data) :)

theorem candHear_cands (s : State) (src : Nat) (data : List Byte) :
    (candHear s src data).tim.cands = candOf s src data :: s.tim.cands.filter (·.node != src) :=
  (congrArg Prod.snd (candHear_heard s src data) :)

/-- The TIMEREF that a frame stamped at its SOF gives. -/
def refOf (s : State) (src : Nat) (data : List Byte) (sof sub : Nat) : TimeRef :=
  { src := src, sq := byteAt data 0, at_ := s.now, sof := sof, net := netAt s (s.rel + sof) + sub }

/-- It waits in the place of the sender's earlier one. -/
def refWaits (s : State) (r : TimeRef) : State := { s with tim := { s.tim with refs := r :: s.tim.refs.filter (·.src != r.src) } }

/-- A TIMEREF of the right layout waits for its TIMEFUP, and its sender is a candidate. -/
theorem exec_timerefReceived_of_ok (src : Fin 64) {data : List Byte} (sof : Nat) (sub : Fin 10) (hh : timeHears s = true)
    (ho : timerefOk data = true) : ∃ t, exec (.timerefReceived src data sof sub) s = .next t ∧
      refOf s src data sof sub ∈ t.tim.refs ∧ candOf s src data ∈ t.tim.cands := by
  obtain ⟨u, hu, hnow⟩ : ∃ u, u = (match s.tim.refs.find? (·.src = src.val) with | some o => timeReject s o.sof | none => s) ∧ u.now = s.now := by
    split
    · exact ⟨_, rfl, timeReject_now _ _⟩
    · exact ⟨_, rfl, rfl⟩
  have e : exec (.timerefReceived src data sof sub) s = .next (candHear (refWaits u (refOf s src data sof sub)) src data) := by
    rw [hu]
    exact congrArg Host.Outcome.next ((if_neg (by simp [hh])).trans (if_neg (by simp [ho])))
  refine ⟨_, e, ?_, ?_⟩
  · rw [candHear_refs]
    exact List.mem_cons_self
  · rw [candHear_cands, candOf, candOf, refWaits, hnow]
    exact List.mem_cons_self

theorem exec_timerefReceived_of_bad (src : Fin 64) {data : List Byte} (sof : Nat) (sub : Fin 10) (hh : timeHears s = true)
    (ho : timerefOk data = false) : exec (.timerefReceived src data sof sub) s = .next (timeReject s sof) :=
  congrArg Host.Outcome.next ((if_neg (by simp [hh])).trans (if_pos (by simp [ho])))

/-- A sample is formed: its TIMEREF waits no more. -/
theorem sampleForm_refs (s : State) (r : TimeRef) (data : List Byte) :
    (sampleForm s r data).tim.refs = s.tim.refs.filter (·.src != r.src) := by
  unfold sampleForm
  extract_lets c theta told u w v
  have hv : v.tim.refs = u.tim.refs := congrArg Tim.refs (arrive_tim _ _ _ _ _)
  split
  · exact hv
  · exact hv

/-- The TIMEREF that a TIMEFUP answers: one of its sender, with its number, at most 100 ms old (R552). -/
def refAnswered (s : State) (src : Fin 64) (data : List Byte) : Option TimeRef :=
  s.tim.refs.find? fun r => r.src = src.val && r.sq = byteAt data 0 % 16 && s.now ≤ r.at_ + 100 * tickMs

theorem refAnswered_src {src : Fin 64} {data : List Byte} {r : TimeRef} (h : refAnswered s src data = some r) : r.src = src.val := by
  have hall := List.find?_some h
  simp only [Bool.and_eq_true, decide_eq_true_eq] at hall
  obtain ⟨⟨hsrc, -⟩, -⟩ := hall
  exact hsrc

theorem exec_timefupReceived_of_match {src : Fin 64} {data : List Byte} {r : TimeRef} (hh : timeHears s = true) (ho : timefupOk data = true)
    (hr : refAnswered s src data = some r) : exec (.timefupReceived src data) s = .next (sampleForm s r data) := by
  show Host.Outcome.next (if !timeHears s then s else _) = _
  rw [if_neg (by simp [hh]), ho, if_pos rfl]
  unfold refAnswered at hr
  rw [hr]

theorem exec_timefupReceived_unmatched {src : Fin 64} {data : List Byte} (hh : timeHears s = true)
    (h : timefupOk data = false ∨ refAnswered s src data = none) : exec (.timefupReceived src data) s = .next (timeReject s (mono s)) := by
  have hnone : (if timefupOk data then refAnswered s src data else none) = none := by
    rcases h with h | h
    · rw [h]; rfl
    · rw [h, ite_self]
  unfold refAnswered at hnone
  show Host.Outcome.next (if !timeHears s then s else _) = _
  rw [if_neg (by simp [hh]), hnone]

/-! ### Samples (R555 to R557) -/

/-- What a row of the servo leaves of time: whether the bus is the source, the offset and the count of the samples acted on,
and the samples on their way. -/
def servoTold (s : State) : Bool × Int × Nat × List TimeSmp := (s.tim.bus, s.tim.offset, s.tim.nSamples, s.tim.samples)

theorem qualNote_servo (s : State) : servoTold (qualNote s) = servoTold s := by
  unfold servoTold; rw [qualNote_tim]

theorem qualRefresh_servo (s : State) : servoTold (qualRefresh s) = servoTold s := by
  unfold servoTold; rw [qualRefresh_tim]

theorem sourceNote_servo (s : State) (st : String) : servoTold (sourceNote s st) = servoTold s := by
  unfold servoTold; rw [sourceNote_tim]

theorem freqStep_servo (s : State) (theta : Int) : servoTold (freqStep s theta) = servoTold s := by
  unfold freqStep
  split <;> rfl

theorem offsetApply_servo (s : State) (theta anchor : Int) : servoTold (offsetApply s theta anchor) = servoTold s := by
  unfold offsetApply
  split
  · unfold slewStart
    dsimp only
    split <;> rfl
  · rfl

/-- A sample acted on makes the bus the source and θ the offset, and is counted. -/
theorem sampleAct_servo (s : State) (m : TimeSmp) :
    servoTold (sampleAct s m) = (true, m.theta, satInc 0xFFFF s.tim.nSamples, s.tim.samples) := by
  unfold sampleAct
  extract_lets t good u was v
  have hv : servoTold v = (true, m.theta, satInc 0xFFFF s.tim.nSamples, s.tim.samples) :=
    (qualNote_servo _).trans ((qualRefresh_servo _).trans ((freqStep_servo _ _).trans (offsetApply_servo u _ _)))
  split
  · exact (sourceNote_servo _ _).trans hv
  · exact hv

/-- A sample of another node than the master followed is discarded. -/
theorem sampleTake_of_other {m : TimeSmp} (h : s.tim.follow ≠ some m.src) : sampleTake s m = s :=
  if_pos (by simpa using h)

/-- The first sample of a master begins acquisition. -/
theorem sampleTake_of_first {m : TimeSmp} (h : s.tim.follow = some m.src) (ha : s.tim.acq = false) : sampleTake s m =
    sourceNote { s with tim := { s.tim with acq := true, held := some (m.src, m.theta) } } "ACQUIRING" :=
  (if_neg (by simp [h])).trans (if_pos (by simp [ha]))

/-- In acquisition a sample that agrees with the one before it is acted on; one that does not is held in its place. -/
theorem sampleTake_of_next {m : TimeSmp} (h : s.tim.follow = some m.src) (ha : s.tim.acq = true) : sampleTake s m =
    if agrees s m then sampleAct s m else { s with tim := { s.tim with held := some (m.src, m.theta) } } :=
  (if_neg (by simp [h])).trans (if_neg (by simp [ha]))

theorem sampleTake_samples (s : State) (m : TimeSmp) : (sampleTake s m).tim.samples = s.tim.samples := by
  by_cases h : s.tim.follow = some m.src
  · cases ha : s.tim.acq with
    | false => rw [sampleTake_of_first h ha, sourceNote_tim]
    | true =>
      rw [sampleTake_of_next h ha]
      split
      · exact (congrArg (fun x => x.2.2.2) (sampleAct_servo s m) :)
      · rfl
  · rw [sampleTake_of_other h]

/-- The oldest sample on its way is no longer on it. -/
def sampleOff (s : State) (l : List TimeSmp) : State := { s with tim := { s.tim with samples := l } }

theorem exec_timeSample_of_delivered {m : TimeSmp} {l : List TimeSmp} (hl : s.tim.samples = m :: l) (hr : coreRuns s = true)
    (hd : m.at_ < epochTick s s.epoch) : exec .timeSample s = .next (sampleTake (sampleOff s l) m) := by
  have e : sampleStep s = sampleTake (sampleOff s l) m := by
    unfold sampleStep
    rw [hl]
    exact if_pos hd
  exact congrArg Host.Outcome.next ((if_pos hr).trans e)

end Sys2Proof.Laws

namespace Sys2Proof.Proofs
open Sys2Proof Sys2Proof.Machine Sys2Proof.Laws

/-- Settles O50, row by row. -/
theorem timeExchangeRowsComplete : Obligations.TimeExchangeRowsComplete := by
  refine fun s s' => ⟨fun hm hr hc => ?_, fun src data sof sub hh ho => ?_, fun src data sof sub hh ho => ?_, fun src data r hh ho hf => ?_,
    fun src data hh h => ⟨_, exec_timefupReceived_unmatched hh h, timeReject_tim _ _, rfl⟩, fun m l hl hr hd => ?_⟩
  · obtain ⟨n, -, hn⟩ := comesAt?_cases hc
    have hs := comesAt_now hn
    refine ⟨_, exec_timerefSend_of_due hm hr hc, ?_⟩
    split
    · next hb => exact ⟨by rw [hs]; rfl, rfl, fun _ => ⟨_, tb0Load_tbOf _ _ _ _, by rw [hs], by rw [hs]; rfl, by rw [hs]⟩⟩
    · next hb => exact ⟨by rw [hs]; rfl, rfl, fun h => absurd h hb⟩
  · obtain ⟨t, e, hr, hc⟩ := exec_timerefReceived_of_ok src sof sub hh ho
    exact ⟨t, e, ⟨_, hr, rfl, rfl, rfl, rfl, rfl⟩, _, hc, rfl, rfl, rfl, rfl⟩
  · exact ⟨_, exec_timerefReceived_of_bad src sof sub hh ho, timeReject_tim _ _, rfl⟩
  · refine ⟨_, exec_timefupReceived_of_match hh ho hf, rfl, fun x hx => ?_⟩
    rw [sampleForm_refs, refAnswered_src hf] at hx
    simpa using (List.mem_filter.mp hx).2
  · refine ⟨_, exec_timeSample_of_delivered hl hr hd, sampleTake_samples _ m, fun h => sampleTake_of_other h, fun h ha => ?_, fun h ha hg => ?_⟩
    · rw [sampleTake_of_first (s := sampleOff s l) h ha, sourceNote_tim]
      exact ⟨rfl, rfl⟩
    · have hg' : agrees (sampleOff s l) m = true := hg
      have hact := (sampleTake_of_next (s := sampleOff s l) h ha).trans (if_pos hg')
      have hservo := sampleAct_servo (sampleOff s l) m
      rw [hact]
      exact ⟨(congrArg (·.1) hservo :), (congrArg (fun x => x.2.1) hservo :), (congrArg (fun x => x.2.2.1) hservo :)⟩

end Sys2Proof.Proofs
end

section
/-!
What the rows of election and of the quality do: the claim, the master that is heard no longer, the source that is lost, and the end
of holdover (R548, R553, R554, R557, R564).
-/
namespace Sys2Proof.Laws
open Sys2Proof Sys2Proof.Machine
variable {s t : State}

/-! ### Election (R553, R554) -/

/-- A candidate that claims is master, and its first TIMEREF is due. -/
def claimed (s : State) : State :=
  { s with tim := { s.tim with isMaster := true, follow := none, acq := false, held := none, refDue := some (nextHalf s) } }

theorem exec_masterClaim_of_due (hi : isCandidate s = true) (hr : coreRuns s = true) (hc : comesAt? s (claimAt s) = some t) :
    exec .masterClaim s = .next (masterNote (qualRefresh (claimed t))) :=
  congrArg Host.Outcome.next ((if_neg (by simp [hi, hr])).trans (atTick_some hc))

theorem exec_followedMasterUnheard_of_due {n : Nat} {c : TimeCand} (hf : s.tim.follow = some n)
    (hn : s.tim.cands.find? (·.node = n) = some c) (hc : comesAt s (c.at_ + 3 * refintTicks c.refint) = some t) :
    exec .followedMasterUnheard s = .next (followRefresh t) := by
  show Host.Outcome.next _ = _
  simp only [hf, hn]
  exact congrArg Host.Outcome.next (atTick_of_comesAt hc)

/-- A node that hears no candidate follows none. -/
theorem followOf_of_none (h : bestCand s = none) : followOf s = none := by
  unfold followOf
  rw [h]
  split <;> rfl

/-! ### Quality (R548, R557, R564) -/

/-- Without a source on the bus the quality is not LOCKED. -/
theorem timeQual_of_noBus (h : s.tim.bus = false) : timeQual s ≠ 3 := by
  unfold timeQual
  simp only [h, Bool.false_and, Bool.false_eq_true, if_false]
  split_ifs <;> decide

/-- A source that is lost acts no longer, and acquisition starts afresh. -/
def sourceGone (s : State) : State :=
  { s with tim := { s.tim with bus := false, acq := false, held := none, acted := none, good := 0 } }

theorem sourceLost_of_bus (h : s.tim.bus = true) : sourceLost s = qualNote (qualRefresh (sourceNote (sourceGone s) "LOST")) :=
  if_neg (by simp [h])

/-- What the loss of a source leaves of it, and that the quality is not LOCKED. -/
theorem sourceLost_effect (h : s.tim.bus = true) : (sourceLost s).tim.bus = false ∧ (sourceLost s).tim.acq = false ∧
    (sourceLost s).tim.held = none ∧ (sourceLost s).tim.good = 0 ∧ (sourceLost s).tim.quality ≠ 3 := by
  have hnote : (sourceNote (sourceGone s) "LOST").tim = (sourceGone s).tim := sourceNote_tim _ _
  have hq := timeQual_of_noBus (s := sourceNote (sourceGone s) "LOST") (by rw [hnote]; rfl)
  rw [sourceLost_of_bus h, qualNote_tim, qualRefresh_tim, hnote]
  exact ⟨rfl, rfl, rfl, rfl, hq⟩

theorem exec_timeSourceLost_of_due (hb : s.tim.bus = true) (hr : coreRuns s = true)
    (hc : comesAt? s (s.tim.acted.map (· + 5 * refintTicks s.tim.actedRef)) = some t) : exec .timeSourceLost s = .next (sourceLost t) :=
  congrArg Host.Outcome.next ((if_neg (by simp [hb, hr])).trans (atTick_some hc))

theorem exec_holdlimExpiry_of_due (hq : s.tim.quality = 2) (hr : coreRuns s = true)
    (hc : comesAt s (tickOf s (s.tim.anchor + holdLim s)) = some t) :
    exec .holdlimExpiry s = .next { t with tim := { t.tim with quality := 1 } } :=
  congrArg Host.Outcome.next ((if_neg (by simp [hq, hr])).trans (atTick_of_comesAt hc))

end Sys2Proof.Laws

namespace Sys2Proof.Proofs
open Sys2Proof Sys2Proof.Machine Sys2Proof.Laws

/-- Settles O51, row by row. -/
theorem timeElectionRowsComplete : Obligations.TimeElectionRowsComplete := by
  refine fun s s' => ⟨fun hi hr hc => ⟨_, exec_masterClaim_of_due hi hr hc, ?_⟩,
    fun n c hf hn hc => ⟨_, exec_followedMasterUnheard_of_due hf hn hc, rfl, fun h => ?_⟩,
    fun hb hr hc => ⟨_, exec_timeSourceLost_of_due hb hr hc, sourceLost_effect ?_⟩,
    fun hq hr hc => ⟨_, exec_holdlimExpiry_of_due hq hr hc, rfl⟩⟩
  · rw [masterNote_tim, qualRefresh_tim]
    exact ⟨rfl, rfl, rfl⟩
  · rw [followRefresh_tim]
    exact followOf_of_none h
  · obtain ⟨n, -, hn⟩ := comesAt?_cases hc
    rw [comesAt_now hn]
    exact hb

end Sys2Proof.Proofs
end

section
/-!
What the Lantern's operations leave alone, and what its rows do (R585, R587, R592, R595 to R599, R602 to R605, R608).
-/
namespace Sys2Proof.Laws
open Sys2Proof Sys2Proof.Machine
variable {s t : State}

/-! ### What the shared operations leave of the Lantern -/

@[simp] theorem arrive_lan (s : State) (x : Nat) (v : XWord) (p : Option Nat) (pay : Pay) : (arrive s x v p pay).lan = s.lan := by
  rw [(arrive_frame s x v p pay).1]

@[simp] theorem notify_lan (s : State) (n : String) (o : Option Obj) (a : String) : (notify s n o a).lan = s.lan :=
  (congrArg State.lan (untold_notify s n o a) :)

@[simp] theorem finish_lan (s : State) (id : Nat) (body : String) : (finish s id body).lan = s.lan :=
  (congrArg State.lan (unanswered_finish s id body) :)

@[simp] theorem grantBack_lan (s : State) (h : Holder) : (grantBack s h).lan = s.lan := by
  unfold grantBack
  split
  · split
    · rfl
    · unfold grantMark
      rw [leaveLog_frame]
  · rfl

@[simp] theorem leaveReturn_lan (s : State) (h : Holder) : (leaveReturn s h).lan = s.lan := by
  unfold leaveReturn
  split
  · rfl
  · exact grantBack_lan s h

@[simp] theorem panelWrite_lan (s : State) (prog : List (Nat × Nat)) : (panelWrite s prog).lan = s.lan := by
  unfold panelWrite storeInternal
  split <;> rfl

@[simp] theorem lanEnds_lan (s : State) (cmd : Option Nat) (body : String) : (lanEnds s cmd body).lan = s.lan := by
  cases cmd with
  | none => rfl
  | some id => exact finish_lan s id body

@[simp] theorem lanEndsNext_lan (s : State) (cmd : Option Nat) (body : String) : (lanEndsNext s cmd body).lan = s.lan := by
  cases cmd <;> rfl

/-- A post of the status changes of the Lantern the instant of the last post alone. -/
theorem lanPost_lan (s : State) : (lanPost s).lan = { s.lan with postAt := s.now } := arrive_lan _ _ _ _ _

/-! ### The queue of updates and the blink slots -/

/-- The Lantern without its queue of updates, its blink slots, and the update cut by an abort. -/
def unqueued (s : State) : Lan :=
  { s.lan with upds := [], phase := .idle, startAt := none, markSince := false, slots := [], cut := none, owed := false }

theorem unqueued_of_lan (h : t.lan = s.lan) : unqueued t = unqueued s := by unfold unqueued; rw [h]

theorem unqueued_lanEnds (s : State) (cmd : Option Nat) (body : String) : unqueued (lanEnds s cmd body) = unqueued s :=
  unqueued_of_lan (lanEnds_lan s cmd body)

theorem unqueued_lanEndsNext (s : State) (cmd : Option Nat) (body : String) : unqueued (lanEndsNext s cmd body) = unqueued s :=
  unqueued_of_lan (lanEndsNext_lan s cmd body)

theorem unqueued_leaveReturn (s : State) (h : Holder) : unqueued (leaveReturn s h) = unqueued s :=
  unqueued_of_lan (leaveReturn_lan s h)

theorem unqueued_notify (s : State) (n : String) (o : Option Obj) (a : String) : unqueued (notify s n o a) = unqueued s :=
  unqueued_of_lan (notify_lan s n o a)

theorem unqueued_slotFreed (s : State) (k : Option Nat) : unqueued (slotFreed s k) = unqueued s := by cases k <;> rfl

theorem unqueued_lanAsk (s : State) : unqueued (lanAsk s) = unqueued s := by
  unfold lanAsk
  dsimp only
  split
  · split
    · rfl
    · split <;> rfl
  · rfl

theorem unqueued_lanGives (s : State) (u : LanUpd) (again : Bool) : unqueued (lanGives s u again) = unqueued s := by
  unfold lanGives
  refine (unqueued_slotFreed _ _).trans ?_
  split <;> rfl

theorem unqueued_lanFails (s : State) (body : String) (again : Bool) : unqueued (lanFails s body again) = unqueued s := by
  unfold lanFails
  split
  · rfl
  · exact (unqueued_lanEnds _ _ _).trans (unqueued_lanGives s _ _)

theorem unqueued_lanFailsNext (s : State) (body : String) (again : Bool) : unqueued (lanFailsNext s body again) = unqueued s := by
  unfold lanFailsNext
  split
  · rfl
  · exact (unqueued_lanEndsNext _ _ _).trans (unqueued_lanGives s _ _)

theorem unqueued_slotArm (s : State) (k : Option Nat) : unqueued (slotArm s k) = unqueued s := by
  unfold slotArm
  split <;> rfl

theorem unqueued_updDone (s : State) : unqueued (updDone s) = unqueued s := by
  unfold updDone
  split
  · rfl
  · exact (unqueued_lanEndsNext _ _ _).trans ((unqueued_slotArm _ _).trans (unqueued_leaveReturn (lanPop s) _))

theorem unqueued_placeRefresh (s : State) : unqueued (placeRefresh s) = unqueued s := by
  unfold placeRefresh
  dsimp only
  split
  · exact (unqueued_lanEndsNext _ _ _).trans (unqueued_slotArm _ _)
  · exact (unqueued_lanAsk _).trans (unqueued_notify _ _ _ _)

/-! ### What is driven -/

/-- The Lantern without its queue and without what is driven. -/
def undriving (s : State) : Lan := { unqueued s with job := none, band := 0, driven := 0 }

theorem undriving_of_unqueued (h : unqueued t = unqueued s) : undriving t = undriving s := by unfold undriving; rw [h]

section
variable (h : undriving t = undriving s)
include h

theorem fault_of_undriving : t.lan.fault = s.lan.fault := (congrArg Lan.fault h :)
theorem nUpd_of_undriving : t.lan.nUpd = s.lan.nUpd := (congrArg Lan.nUpd h :)
theorem abort_of_undriving : t.lan.abort = s.lan.abort := (congrArg Lan.abort h :)

end

theorem undriving_lanTake (s : State) : undriving (lanTake s) = undriving s := by
  have hback : undriving (leaveReturn s .lantern) = undriving s := undriving_of_unqueued (unqueued_leaveReturn s _)
  unfold lanTake
  split_ifs
  · exact (undriving_of_unqueued (unqueued_lanFails _ _ _)).trans hback
  · exact hback
  · rfl
  · unfold lanStart
    split <;> rfl

theorem undriving_lanToggles (s : State) : undriving (lanToggles s) = undriving s := by
  unfold lanToggles
  dsimp only
  split <;> rfl

theorem undriving_lanNext (s : State) : undriving (lanNext s) = undriving s := by
  unfold lanNext
  refine (undriving_lanToggles _).trans ?_
  split
  · exact undriving_lanTake _
  · rfl

theorem undriving_toggleDue (k : Nat) (b : BlinkSt) (a : Nat) (s : State) :
    undriving (toggleDue k b a s) = { undriving s with nDrop := if b.waits then satInc 255 s.lan.nDrop else s.lan.nDrop } := by
  have hadd : ∀ (s : State) (k : Nat) (b : BlinkSt), undriving (toggleAdd s k b) = undriving s := fun s k b => by
    unfold toggleAdd
    split <;> rfl
  unfold toggleDue
  extract_lets u v w
  have hdrop : undriving u = { undriving s with nDrop := if b.waits then satInc 255 s.lan.nDrop else s.lan.nDrop } := by
    unfold u
    split <;> rfl
  rw [← hdrop]
  clear_value u v
  split
  · exact hadd _ _ _
  · exact undriving_lanToggles _

/-! ### The end of what is driven (R592, R596, R602) -/

/-- The last frame of an update counts it, and no abort is commanded any more. -/
theorem lanFinish_effect (s : State) (j : LanJob) :
    (lanFinish s j).lan.nUpd = satInc 65535 s.lan.nUpd ∧ (lanFinish s j).lan.abort = none := by
  unfold lanFinish
  extract_lets lvl u v
  have hv : undriving v = undriving u := undriving_of_unqueued (unqueued_of_lan (panelWrite_lan u []))
  have hended : undriving (if j.toggle then slotsToggled v j.slots else updDone v) = undriving v := by
    clear_value v
    split
    · rfl
    · exact undriving_of_unqueued (unqueued_updDone v)
  have hnext := (undriving_lanNext _).trans (hended.trans hv)
  exact ⟨nUpd_of_undriving hnext, abort_of_undriving hnext⟩

/-- An abort counts, ends what is driven, and starts the recovery. -/
theorem lanAborts_effect (s : State) (j : LanJob) (c : Nat) :
    (lanAborts s j c).lan.nAbort = satInc 255 s.lan.nAbort ∧ (lanAborts s j c).lan.job = none ∧ (lanAborts s j c).lan.recov = true ∧
      (lanAborts s j c).lan.aborted = true ∧ (lanAborts s j c).lan.abortAt = s.now := by
  unfold lanAborts
  extract_lets cutEls u cc v w x y z
  have hcc : cc.1.lan = u.lan ∧ cc.1.now = u.now := by
    unfold cc causeCode
    split <;> exact ⟨rfl, rfl⟩
  have hw : w.lan = v.lan ∧ w.now = v.now := ⟨panelWrite_lan _ _, by unfold w panelWrite storeInternal; split <;> rfl⟩
  have hcount : x.lan.nAbort = satInc 255 s.lan.nAbort := (congrArg Lan.nAbort hw.1).trans (congrArg Lan.nAbort hcc.1 :)
  have hjob : x.lan.job = none := (congrArg Lan.job hw.1).trans (congrArg Lan.job hcc.1 :)
  have haborted : x.lan.aborted = true := (congrArg Lan.aborted hw.1 :)
  have hat : x.lan.abortAt = s.now := hw.2.trans hcc.2
  have hy : unqueued y = unqueued x := by
    unfold y
    clear_value x cutEls
    split_ifs
    · rfl
    · exact unqueued_updDone x
    · split
      · exact unqueued_leaveReturn _ _
      · rfl
  rw [lanPost_lan]
  exact ⟨(congrArg Lan.nAbort hy :).trans hcount, (congrArg Lan.job hy :).trans hjob, (congrArg Lan.recov hy :),
    (congrArg Lan.aborted hy :).trans haborted, (congrArg Lan.abortAt hy :).trans hat⟩

/-! ### Frames (R592, R595, R602) -/

/-- What is driven, one frame on. -/
def framed (j : LanJob) : LanJob := { j with frame := j.frame + 1 }

/-- A frame of what is driven has ended: it is counted, the electrodes whose waveform is over hold their level, and the next frame
begins. -/
def frameCounted (s : State) (j : LanJob) : State :=
  countFrame (setLan s fun x =>
    { x with driven := j.frame + 1, lvl := (j.run.filter fun p => p.2.2.length ≤ j.frame + 1).foldl (fun t p => tset t p.1 p.2.1) x.lvl,
             job := some { framed j with frameEnd := some (s.now + j.frameT) } }) (framed j)

theorem countFrame_pwr (s : State) (j : LanJob) : (countFrame s j).pwr = s.pwr := by
  unfold countFrame
  split <;> rfl

theorem frameCounted_pwr (s : State) (j : LanJob) : (frameCounted s j).pwr = s.pwr := countFrame_pwr _ _

theorem frameCounted_now (s : State) (j : LanJob) : (frameCounted s j).now = s.now := by
  unfold frameCounted countFrame
  split <;> rfl

theorem unqueued_frameCounted (s : State) (j : LanJob) : unqueued (frameCounted s j) =
    { unqueued s with driven := j.frame + 1, lvl := (frameCounted s j).lan.lvl, job := some { framed j with frameEnd := some (s.now + j.frameT) } } := by
  unfold frameCounted countFrame
  split <;> rfl

section
variable {j : LanJob} (hj : s.lan.job = some j) (hc : comesAt? s j.frameEnd = some t)
include hj hc

/-- After a commit, what is driven stops at the end of the frame (R57). -/
theorem exec_lanFrameEnd_of_commit (hk : t.pwr.committed = true) :
    exec .lanFrameEnd s = .next (lanStops (frameCounted t j) (framed j)) := by
  show Host.Outcome.next _ = _
  simp only [hj]
  refine congrArg Host.Outcome.next ((atTick_some hc).trans (if_pos ?_))
  exact (congrArg Pwr.committed (frameCounted_pwr t j)).trans hk

/-- The last frame ends what is driven. -/
theorem exec_lanFrameEnd_of_last (hk : t.pwr.committed = false) (hl : j.total ≤ j.frame + 1) :
    exec .lanFrameEnd s = .next (lanPost (lanFinish (frameCounted t j) (framed j))) := by
  have hk' : ¬(frameCounted t j).pwr.committed = true := by rw [frameCounted_pwr, hk]; decide
  show Host.Outcome.next _ = _
  simp only [hj]
  exact congrArg Host.Outcome.next ((atTick_some hc).trans ((if_neg hk').trans (if_pos hl)))

/-- An abort that has been commanded is made at the end of the frame. -/
theorem exec_lanFrameEnd_of_abort {c : Nat} (hk : t.pwr.committed = false) (hl : j.frame + 1 < j.total) (ha : t.lan.abort = some c) :
    exec .lanFrameEnd s = .next (lanAborts (frameCounted t j) (framed j) c) := by
  have hk' : ¬(frameCounted t j).pwr.committed = true := by rw [frameCounted_pwr, hk]; decide
  have ha' : (frameCounted t j).lan.abort = some c := (congrArg Lan.abort (unqueued_frameCounted t j) :).trans ha
  have e : (match (frameCounted t j).lan.abort with
      | some c => lanAborts (frameCounted t j) (framed j) c
      | none => lanPost (frameCounted t j)) = lanAborts (frameCounted t j) (framed j) c := by rw [ha']
  show Host.Outcome.next _ = _
  simp only [hj]
  exact congrArg Host.Outcome.next ((atTick_some hc).trans ((if_neg hk').trans ((if_neg (Nat.not_le.mpr hl)).trans e)))

/-- Otherwise the next frame goes on. -/
theorem exec_lanFrameEnd_goes_on (hk : t.pwr.committed = false) (hl : j.frame + 1 < j.total) (ha : t.lan.abort = none) :
    exec .lanFrameEnd s = .next (lanPost (frameCounted t j)) := by
  have hk' : ¬(frameCounted t j).pwr.committed = true := by rw [frameCounted_pwr, hk]; decide
  have ha' : (frameCounted t j).lan.abort = none := (congrArg Lan.abort (unqueued_frameCounted t j) :).trans ha
  have e : (match (frameCounted t j).lan.abort with
      | some c => lanAborts (frameCounted t j) (framed j) c
      | none => lanPost (frameCounted t j)) = lanPost (frameCounted t j) := by rw [ha']
  show Host.Outcome.next _ = _
  simp only [hj]
  exact congrArg Host.Outcome.next ((atTick_some hc).trans ((if_neg hk').trans ((if_neg (Nat.not_le.mpr hl)).trans e)))

end

/-! ### The pump (R585, R604) -/

/-- The fault of the pump is latched, and nothing is driven any more. -/
def pumpLate (s : State) : State :=
  notifyLate (setLan s fun x => { x with job := none, abort := none, fault := true }) "LAN.PUMP" none "STATE=FAULT"

section
variable {j : LanJob} (hj : s.lan.job = some j) (he : j.frameEnd = none)
include hj he

/-- Rails that are ready in time end a test, or begin the frames. -/
theorem exec_pumpReady_of_start (hn : s.now ≤ j.pumpAt + 2 * tickMs) : exec .pumpReady s = .next (if j.test then
    recovEnds (setLan (railsRead s) fun x => { x with job := none }) else framesBegin (railsRead s) j) := by
  show Host.Outcome.next _ = _
  simp only [hj]
  exact congrArg Host.Outcome.next (if_neg (by simp [he, hn]))

/-- Rails that are late are latched as a fault. -/
theorem exec_pumpTimeout_of_due (hc : comesAt s (j.pumpAt + 2 * tickMs) = some t) :
    ∃ u, exec .pumpTimeout s = .next u ∧ u.lan.fault = true := by
  have hfails := (unqueued_lanFailsNext (leaveReturn (pumpLate t) .lantern) "FAIL STATE PUMP" true).trans (unqueued_leaveReturn _ _)
  show ∃ u, Host.Outcome.next _ = _ ∧ _
  simp only [hj, he]
  refine ⟨_, congrArg Host.Outcome.next (atTick_of_comesAt hc), ?_⟩
  split_ifs
  · exact (congrArg Lan.fault ((unqueued_lanEndsNext _ _ _).trans (unqueued_slotFreed _ _)) :)
  · exact fault_of_undriving (undriving_lanNext (pumpLate t))
  · exact fault_of_undriving ((undriving_lanNext _).trans (undriving_of_unqueued hfails))

end

/-- The frames begin: the targets are taken, and the first frame ends after FRAME. -/
theorem framesBegin_lan {j : LanJob} (h : j.total ≠ 0) (s : State) : (framesBegin s j).lan =
    { s.lan with tgt := j.run.foldl (fun t p => tset t p.1 p.2.1) s.lan.tgt, aborted := false,
                 job := some { j with frameEnd := some (s.now + j.frameT) } } := by
  unfold framesBegin
  dsimp only
  rw [if_neg h, panelWrite_lan]
  unfold setLan
  dsimp only
  rw [List.foldl_map]

/-- Recovery that is over stands no longer, and the abort with it. -/
theorem recovEnds_effect (s : State) : (recovEnds s).lan.recov = false ∧ (recovEnds s).lan.aborted = false := by
  unfold recovEnds
  dsimp only
  split
  · exact ⟨(congrArg Lan.recov (unqueued_placeRefresh _) :), (congrArg Lan.aborted (unqueued_placeRefresh _) :)⟩
  · exact ⟨rfl, rfl⟩

/-- A rail that dips while frames are driven commands an abort, before any other. -/
theorem exec_pumpDip_of_frames {j : LanJob} (hj : s.lan.job = some j) (he : j.frameEnd.isSome = true) (ht : j.test = false) :
    exec .pumpDip s = .next { s with lan := { s.lan with abort := some 1 } } := by
  have hok : pumpOk s = true := by unfold pumpOk; rw [hj]; exact he
  have hask : lanAbortAsk s 1 = { s with lan := { s.lan with abort := some 1 } } := by
    unfold lanAbortAsk
    rw [hj]
    dsimp only
    rw [if_neg (by simp [ht]), if_neg (by rw [Option.isNone_eq_false_iff.mpr he]; decide)]
    unfold setLan
    dsimp only
    cases s.lan.abort <;> rfl
  exact congrArg Host.Outcome.next ((if_pos hok).trans hask)

/-! ### Recovery, supply, blinks and the status (R598, R604, R605, R608) -/

theorem exec_recoveryEnd_of_due (hr : s.lan.recov = true) (hm : s.lan.marks = []) (hx : s.lan.xfail = false) (hj : s.lan.job = none)
    (hcr : coreRuns s = true) (hc : comesAt s (epochCeil s s.lan.recUntil) = some t) : exec .recoveryEnd s = .next (if s.lan.pumpCause then
      setLan t fun x => { x with job := some { test := true, pumpAt := t.now } } else recovEnds t) :=
  congrArg Host.Outcome.next ((if_neg (by simp [hr, hm, hx, hj, hcr])).trans (atTick_of_comesAt hc))

theorem exec_drawSupplyTimeout_of_due {c : LanCut} {id : Nat} (hcut : s.lan.cut = some c) (hr : s.lan.recov = true) (hs : c.slot = none)
    (hid : c.cmd = some id) (hc : comesAt s (epochCeil s (s.lan.abortAt + 10000 * tickMs)) = some t) : exec .drawSupplyTimeout s =
      .next (finish { t with lan := { t.lan with cut := none } } id "FAIL STATE SUPPLY") := by
  have hends : lanEnds (setLan t fun x => { x with cut := none }) c.cmd "FAIL STATE SUPPLY" =
      finish { t with lan := { t.lan with cut := none } } id "FAIL STATE SUPPLY" := by rw [hid]; rfl
  show Host.Outcome.next _ = _
  rw [hcut]
  exact congrArg Host.Outcome.next ((if_neg (by simp [hr, hs, hid])).trans ((atTick_of_comesAt hc).trans hends))

/-- A command that has been ended is outstanding no more. -/
theorem finish_gone (s : State) (id : Nat) (body : String) : ∀ p ∈ (finish s id body).vil.outs, p.id ≠ id := by
  cases h : findOut s id with
  | none =>
    rw [finish_of_none h]
    simpa using List.find?_eq_none.mp h
  | some o => exact (finish_found h body).1

theorem exec_blinkToggle_of_due {k : Fin 8} {p : Nat × BlinkSt} {a : Nat} (hp : s.lan.slots.find? (·.1 = k.val) = some p)
    (hn : p.2.next = some a) (ha : p.2.armed = true) (hm : lanModeOk s = true) (hr : coreRuns s = true) (hc : comesAt s a = some t) :
    exec (.blinkToggle k) s = .next (toggleDue k p.2 a t) := by
  show Host.Outcome.next _ = _
  simp only [hp, hn]
  exact congrArg Host.Outcome.next ((if_pos (by simp [ha, hm, hr])).trans (atTick_of_comesAt hc))

theorem exec_lanternStatusPost_of_due (hr : coreRuns s = true) (hq : s.ana.mode ≠ .quiet) (hc : comesAt s (s.lan.postAt + 50 * tickMs) = some t) :
    exec .lanternStatusPost s = .next (lanPost t) :=
  congrArg Host.Outcome.next ((if_pos (by simp [hr, hq])).trans (atTick_of_comesAt hc))

end Sys2Proof.Laws

namespace Sys2Proof.Proofs
open Sys2Proof Sys2Proof.Machine Sys2Proof.Laws

/-- Settles O53, row by row. -/
theorem lanternRowsComplete : Obligations.LanternRowsComplete := by
  refine fun s s' => ⟨fun j hj he hn => ⟨fun ht => ?_, fun ht hz => ?_⟩, fun j hj he hc => exec_pumpTimeout_of_due hj he hc,
    fun j hj hc => ?_, fun j hj he ht => exec_pumpDip_of_frames hj he ht, fun hr hm hx hj hcr hc => ⟨fun hp => ?_, fun hp => ?_⟩,
    fun c id hcut hr hs hid hc => ⟨_, exec_drawSupplyTimeout_of_due hcut hr hs hid hc, rfl, fun _ => finish_gone _ _ _⟩,
    fun k p a hp hn ha hm hr hc => ⟨_, exec_blinkToggle_of_due hp hn ha hm hr hc, rfl, ?_⟩,
    fun hr hq hc => exec_lanternStatusPost_of_due hr hq hc⟩
  · have e := exec_pumpReady_of_start hj he hn
    rw [if_pos ht] at e
    exact ⟨_, e, (recovEnds_effect _).1, (recovEnds_effect _).2, rfl⟩
  · have e := exec_pumpReady_of_start hj he hn
    rw [if_neg (by simp [ht])] at e
    refine ⟨_, e, ?_⟩
    rw [framesBegin_lan hz]
    exact ⟨rfl, rfl, rfl⟩
  · obtain ⟨n, -, hcome⟩ := comesAt?_cases hc
    have hpwr : s'.pwr = s.pwr := by rw [comesAt_now hcome]
    have hlan : s'.lan = s.lan := by rw [comesAt_now hcome]
    have hcounted := unqueued_frameCounted s' j
    refine ⟨fun hk => ?_, fun hk hl ha => ?_, fun c hk hl ha => ?_, fun hk hl => ?_⟩
    · exact ⟨_, exec_lanFrameEnd_of_commit hj hc (hpwr ▸ hk), (congrArg Lan.driven hcounted :), rfl, rfl⟩
    · refine ⟨_, exec_lanFrameEnd_goes_on hj hc (hpwr ▸ hk) hl (hlan ▸ ha), ?_⟩
      rw [lanPost_lan]
      exact ⟨(congrArg Lan.driven hcounted :), (congrArg Lan.job hcounted :)⟩
    · obtain ⟨hcount, hjob, hrecov, haborted, hat⟩ := lanAborts_effect (frameCounted s' j) (framed j) c
      refine ⟨_, exec_lanFrameEnd_of_abort hj hc (hpwr ▸ hk) hl (hlan ▸ ha), ?_, hjob, hrecov, haborted, hat.trans (frameCounted_now _ _)⟩
      have hsame : (frameCounted s' j).lan.nAbort = s'.lan.nAbort := (congrArg Lan.nAbort hcounted :)
      rw [hcount, hsame, hlan]
    · obtain ⟨hcount, habort⟩ := lanFinish_effect (frameCounted s' j) (framed j)
      refine ⟨_, exec_lanFrameEnd_of_last hj hc (hpwr ▸ hk) hl, ?_⟩
      rw [lanPost_lan]
      refine ⟨?_, habort⟩
      have hsame : (frameCounted s' j).lan.nUpd = s'.lan.nUpd := (congrArg Lan.nUpd hcounted :)
      rw [hcount, hsame, hlan]
  · have e := exec_recoveryEnd_of_due hr hm hx hj hcr hc
    rw [if_pos hp] at e
    exact e
  · have e := exec_recoveryEnd_of_due hr hm hx hj hcr hc
    rw [if_neg (by simp [hp])] at e
    exact ⟨_, e, recovEnds_effect _⟩
  · have hdrop : (toggleDue k p.2 a s').lan.nDrop = if p.2.waits then satInc 255 s'.lan.nDrop else s'.lan.nDrop :=
      (congrArg Lan.nDrop (undriving_toggleDue k p.2 a s') :)
    rw [hdrop, comesAt_now hc]

end Sys2Proof.Proofs
end

section
/-!
What the rows of the journal and of the self-test do: anchors, freezes and their copies, the stages of BIST, and the status of both
islands (R624, R628 to R630, R640, R657, R660, R677).
-/
namespace Sys2Proof.Laws
open Sys2Proof Sys2Proof.Machine
variable {s t : State}

/-! ### Anchors (R623, R624) -/

/-- The newest anchor after a cause is one of this epoch, and holds what the control islands hold now. -/
theorem jrnAnchor_newest (h : jrnOn s = true) (cause : Nat) :
    ∃ a l, (jrnAnchor s cause).jrn.anchors = a :: l ∧ a.epoch = s.epoch ∧ a.image = takeImage s := by
  unfold jrnAnchor
  rw [if_neg (by simp [h])]
  split
  · split
    · next hsame => exact ⟨_, _, rfl, by simpa using (Bool.and_eq_true_iff.mp hsame).1, rfl⟩
    · exact ⟨_, _, rfl, rfl, rfl⟩
  · exact ⟨_, _, rfl, rfl, rfl⟩

theorem jrnOn_of_anchorDue (h : anchorDue s = true) : jrnOn s = true := by
  unfold anchorDue at h
  simp only [Bool.and_eq_true] at h
  obtain ⟨⟨⟨hon, -⟩, -⟩, -⟩ := h
  exact hon

theorem exec_anchorInterval_of_due (hn : s.now = epochTick s s.epoch) (hd : anchorDue s = true) :
    exec .anchorInterval s = .next (jrnAnchor s 2) :=
  congrArg Host.Outcome.next (if_pos (by simp [← hn, hd]))

/-! ### What the journal's shared operations leave of the slots and of the freezes -/

/-- The slots, and the freezes that are not over. -/
def slotsAndFreezes (s : State) : Tbl Slot × List Frz := (s.jrn.slots, s.jrn.frz)

theorem leaveReturn_slotsAndFreezes (s : State) (h : Holder) : slotsAndFreezes (leaveReturn s h) = slotsAndFreezes s := by
  have hlog : ∀ op ev, slotsAndFreezes (leaveLog s h op ev) = slotsAndFreezes s := fun op ev => by
    unfold leaveLog jrnPut
    dsimp only
    split_ifs <;> rfl
  unfold leaveReturn grantBack
  split
  · rfl
  · split
    · split
      · rfl
      · exact hlog _ _
    · rfl

/-- A post of the status keeps its instant and its word, and nothing else of the journal changes. -/
theorem jrnPost_jrn (s : State) : (jrnPost s).jrn = { s.jrn with postAt := s.now, told := some (jrnStatus s) } := by
  unfold jrnPost
  rw [(arrive_frame _ _ _ _ _).1]
  rfl

theorem jrnTells_slotsAndFreezes (s : State) : slotsAndFreezes (jrnTells s) = slotsAndFreezes s := by
  unfold jrnTells
  split
  · unfold slotsAndFreezes; rw [jrnPost_jrn]
  · rfl

theorem slotAt_of_slots {l : Tbl Slot} (h : t.jrn.slots = l) (n : Nat) : slotAt t n = tget .empty l n := by unfold slotAt; rw [h]

/-! ### Freezes (R628 to R631) -/

theorem setFrz_frz {f : Frz} {l : List Frz} (h : s.jrn.frz = f :: l) (g : Frz) : (setFrz s g).jrn.frz = g :: l := by
  unfold setFrz
  rw [setJrn_jrn]
  dsimp only
  rw [h]

theorem exec_freezeBoundary_of_due {f : Frz} {l : List Frz} {r : LReq} (hr : coreRuns s = true) (hf : s.jrn.frz = f :: l)
    (hd : frzDue s f = true) (hq : leaveReq s .freeze .routine 100 f.cmd = some r) :
    exec .freezeBoundary s = .next (askLeave (setFrz s { f with phase := 1 }) (s.epoch + 1) r) := by
  have e : frzAsk s (s.epoch + 1) = askLeave (setFrz s { f with phase := 1 }) (s.epoch + 1) r := by
    unfold frzAsk
    rw [hf]
    dsimp only
    rw [if_pos hd, hq]
  exact congrArg Host.Outcome.next ((if_pos hr).trans e)

/-- A freeze that finds a slot, and a span to keep, begins to copy it there. -/
theorem copyBegins_of_slot {f : Frz} {n : Nat} {i : SlotImg} (hn : (if f.auto then autoSlot s else f.slot.or (lowestEmpty s)) = some n)
    (hi : slotImage s f = some i) :
    copyBegins s f = setFrz (setSlotAt s n .empty) { f with phase := 3, slot := some n, img := some i, copyAt := s.now } := by
  have hstarts : copyStarts s f n = setFrz (setSlotAt s n .empty) { f with phase := 3, slot := some n, img := some i, copyAt := s.now } := by
    unfold copyStarts; rw [hi]
  unfold copyBegins
  split_ifs at hn ⊢
  · rw [hn]; exact hstarts
  · rw [hn]; exact hstarts

theorem exec_freezeCopyStart_of_granted {f : Frz} {l : List Frz} (hf : s.jrn.frz = f :: l) (hp : f.phase = 2) (hb : f.boundary < s.epoch)
    (hr : coreRuns s = true) (hh : jrnHolds s = false) (hw : s.jrn.holding = false) :
    exec .freezeCopyStart s = .next (jrnTells (copyBegins s f)) := by
  show Host.Outcome.next _ = _
  simp only [hf]
  exact congrArg Host.Outcome.next (if_neg (by simp [hp, hb, hr, hh, hw]))

/-- A copy that ends makes its slot VALID and leaves the others, and its freeze is over. -/
theorem copyEnds_of_copy {f : Frz} {l : List Frz} {n : Nat} {i : SlotImg} (hf : s.jrn.frz = f :: l) (hn : f.slot = some n)
    (hi : f.img = some i) (hp : f.phase = 3) : slotsAndFreezes (copyEnds s) = (tset s.jrn.slots n (.kept i), l) := by
  have hback := leaveReturn_slotsAndFreezes s .freeze
  have hslots : (leaveReturn s .freeze).jrn.slots = s.jrn.slots := (congrArg Prod.fst hback :)
  have hfrz : (leaveReturn s .freeze).jrn.frz = f :: l := (congrArg Prod.snd hback :).trans hf
  have hpop : slotsAndFreezes (frzPop (frozenNote (setSlotAt (leaveReturn s .freeze) n (.kept i)) n i)) = (tset s.jrn.slots n (.kept i), l) := by
    rw [← hslots, show l = (leaveReturn s .freeze).jrn.frz.drop 1 by rw [hfrz]; rfl]
    rfl
  unfold copyEnds
  simp only [hf, hn, hi, hp]
  rw [if_neg (by decide)]
  split <;> exact hpop

theorem exec_freezeCopyComplete (hr : coreRuns s = true) : exec .freezeCopyComplete s = .next (jrnTells (copyEnds s)) :=
  congrArg Host.Outcome.next (if_pos hr)

theorem exec_journalStatusPost_of_due (hr : coreRuns s = true) (hq : s.ana.mode ≠ .quiet) (hc : comesAt s (s.jrn.postAt + 100 * tickMs) = some t) :
    exec .journalStatusPost s = .next (jrnPost t) :=
  congrArg Host.Outcome.next ((if_pos (by simp [hr, hq])).trans (atTick_of_comesAt hc))

/-! ### The stages of BIST (R657, R660, R665) -/

/-- The test in progress, whether fuse repair is armed, and the clock. -/
def testAt (s : State) : Option BistRun × Bool × Nat := (s.tst.run, s.tst.armed, s.now)

/-- Faults latched stop outputs, and leave the test in progress as it was. -/
theorem setFaults_testAt (s : State) (faults : BitVec 10) (holds : Tbl (BitVec 12)) : testAt (setFaults s faults holds) = testAt s := by
  unfold setFaults
  extract_lets u v
  have hfeeds : undriven v = undriven u := foldl_keeps undriven (fun s f => by split; exacts [undriven_feedStop s f, rfl]) _ u
  have hports := foldl_keeps (f := fun s p => if (bstHeld s).getLsbD (8 + p) then portStop s p else s) undriven
    (fun s p => by split; exacts [undriven_portStop s p, rfl]) (List.range 4) v
  exact (congrArg testAt (hports.trans hfeeds) :)

theorem stageLatches_testAt (s : State) (n : Nat) (feeds : BitVec 8) (ports : BitVec 4) : testAt (stageLatches s n feeds ports) = testAt s := by
  have hnotes : ∀ (s : State) (f : BitVec 10), testAt (faultNotes s f) = testAt s := fun s f =>
    foldl_keeps (f := fun s n => notifyLate s "BST.FAULT" none ("FAULT=" ++ bstNames.getD n "-")) testAt (fun _ _ => rfl) (faultBits f) s
  unfold stageLatches latchFaults
  dsimp only
  split
  · exact setFaults_testAt _ _ _
  · exact (hnotes _ _).trans (setFaults_testAt _ _ _)

/-- A post of the status keeps its instant, and nothing else of the self-test changes. -/
theorem bistPost_tst (s : State) (fail : Bool) : (bistPost s fail).tst = { s.tst with postAt := s.now } := by
  unfold bistPost
  rw [drawn_tst, (arrive_frame _ _ _ _ _).1]
  rfl

theorem bistPost_testAt (s : State) (fail : Bool) : testAt (bistPost s fail) = testAt s := by
  have hnow : (bistPost s fail).now = s.now := by
    unfold bistPost
    rw [drawn_now, (arrive_frame _ _ _ _ _).1]
    rfl
  unfold testAt
  rw [bistPost_tst, hnow]

/-- A test with what a stage has found. -/
def runFound (r : BistRun) (faults : BitVec 10) : BistRun := { r with found := r.found ||| (faults &&& stageBits r.stage) }

/-- What a stage has found is kept, latched and posted. -/
def stageChecked (s : State) (r : BistRun) (faults : BitVec 10) (feeds : BitVec 8) (ports : BitVec 4) : State :=
  let u := stageLatches (setTst s fun x => { x with run := some (runFound r faults) }) r.stage feeds ports
  bistPost u (stageFound u r.stage != 0)

theorem stageChecked_testAt (s : State) (r : BistRun) (faults : BitVec 10) (feeds : BitVec 8) (ports : BitVec 4) :
    testAt (stageChecked s r faults feeds ports) = (some (runFound r faults), s.tst.armed, s.now) :=
  (bistPost_testAt _ _).trans (stageLatches_testAt _ _ _ _)

/-- The next stage begins, or the stages are done. -/
def stageNext (s : State) : State :=
  match s.tst.run with
  | none => s
  | some r =>
    match stageAfter s r with
    | some n => setTst s fun x => { x with run := some { r with stage := n, stageAt := s.now, rerun := false, hit := 0 } }
    | none => setTst s fun x => { x with run := some { r with done := some "DONE" } }

/-- A stage other than those of SRAM and FUSE ends with what it found, and the next begins. -/
theorem stageEnds_eq {r : BistRun} (h : s.tst.run = some r) (h2 : r.stage ≠ 2) (h8 : r.stage ≠ 8) (faults : BitVec 10) (feeds : BitVec 8)
    (ports : BitVec 4) (rows : List (Nat × Nat)) : stageEnds faults feeds ports rows s = stageNext (stageChecked s r faults feeds ports) := by
  unfold stageEnds
  simp only [h, h2, h8, if_false]
  rfl

theorem stageNext_of_after {r : BistRun} {n : Nat} (h : s.tst.run = some r) (ha : stageAfter s r = some n) :
    (stageNext s).tst.run = some { r with stage := n, stageAt := s.now, rerun := false, hit := 0 } := by
  unfold stageNext
  simp only [h, ha]
  rfl

theorem stageNext_of_last {r : BistRun} (h : s.tst.run = some r) (ha : stageAfter s r = none) :
    (stageNext s).tst.run = some { r with done := some "DONE" } := by
  unfold stageNext
  simp only [h, ha]
  rfl

/-- No stage follows the seventh where fuse repair is not armed, or has no row to mend. -/
theorem stageAfter_seventh {r : BistRun} (h : r.stage = 7) (ha : s.tst.armed = false ∨ r.rows = []) : stageAfter s r = none := by
  unfold stageAfter
  rw [if_neg (by omega), if_neg]
  rcases ha with ha | ha <;> simp [ha]

theorem exec_bistStageEnd_of_due {r : BistRun} (hrun : s.tst.run = some r) (hw : r.waits = false) (hd : r.done = none)
    (hr : coreRuns s = true) (hm : s.ana.mode = .bist) (hc : comesAt s (r.stageAt + stageMs r.stage * tickMs) = some t)
    (faults : BitVec 10) (feeds : BitVec 8) (ports : BitVec 4) (rows : List (Fin 32 × Fin 256)) :
    exec (.bistStageEnd faults feeds ports rows) s = .next (stageEnds faults feeds ports (rows.map fun p => (p.1.val, p.2.val)) t) := by
  show Host.Outcome.next _ = _
  simp only [hrun]
  exact congrArg Host.Outcome.next ((if_neg (by simp [hw, hd, hr, hm])).trans (atTick_of_comesAt hc))

theorem exec_testStatusPost_of_due (hr : coreRuns s = true) (hq : s.ana.mode ≠ .quiet) (hc : comesAt s (s.tst.postAt + 100 * tickMs) = some t) :
    exec .testStatusPost s = .next (bistPost t false) :=
  congrArg Host.Outcome.next ((if_pos (by simp [hr, hq])).trans (atTick_of_comesAt hc))

end Sys2Proof.Laws

namespace Sys2Proof.Proofs
open Sys2Proof Sys2Proof.Machine Sys2Proof.Laws

/-- Settles O54, row by row. -/
theorem journalAndTestRowsComplete : Obligations.JournalAndTestRowsComplete := by
  refine fun s s' => ⟨fun hn hd => ?_, fun f l r hr hf hd hq => ⟨_, exec_freezeBoundary_of_due hr hf hd hq, setFrz_frz hf _, rfl⟩,
    fun f l n i hf hp hb hr hh hw hn hi => ?_, fun f l n i hf hn hi hp hr => ?_, fun hr hq hc => ?_,
    fun r fl fe po rows hrun hw hd hr hm hc h2 => ?_,
    fun hr hq hc => ⟨_, exec_testStatusPost_of_due hr hq hc, rfl, by rw [bistPost_tst]⟩⟩
  · obtain ⟨a, l, hal, he, hi⟩ := jrnAnchor_newest (jrnOn_of_anchorDue hd) 2
    exact ⟨_, a, l, exec_anchorInterval_of_due hn hd, hal, he, hi, jrnAnchor_frame s 2⟩
  · have e := exec_freezeCopyStart_of_granted hf hp hb hr hh hw
    rw [copyBegins_of_slot hn hi] at e
    refine ⟨_, e, ?_, ?_⟩
    · have hslots := (congrArg Prod.fst (jrnTells_slotsAndFreezes (setFrz (setSlotAt s n .empty)
        { f with phase := 3, slot := some n, img := some i, copyAt := s.now })) :)
      rw [slotAt_of_slots hslots]
      exact setSlotAt_slotAt_self s n .empty
    · exact (congrArg Prod.snd (jrnTells_slotsAndFreezes _) :).trans (setFrz_frz (s := setSlotAt s n .empty) hf _)
  · have hends := (jrnTells_slotsAndFreezes _).trans (copyEnds_of_copy hf hn hi hp)
    refine ⟨_, exec_freezeCopyComplete hr, ?_, fun k hk => ?_, (congrArg Prod.snd hends :)⟩
    · rw [slotAt_of_slots (congrArg Prod.fst hends :)]
      exact tget_tset_self _ _ _ _
    · rw [slotAt_of_slots (congrArg Prod.fst hends :)]
      exact tget_tset_ne _ _ _ hk
  · refine ⟨_, exec_journalStatusPost_of_due hr hq hc, rfl, ?_⟩
    rw [jrnPost_jrn]
    exact ⟨rfl, rfl⟩
  · have htst : s'.tst = s.tst := by rw [comesAt_now hc]
    have hrun' : s'.tst.run = some r := htst ▸ hrun
    have hchecked := stageChecked_testAt s' r fl fe po
    have hr' : (stageChecked s' r fl fe po).tst.run = some (runFound r fl) := (congrArg Prod.fst hchecked :)
    have harmed : (stageChecked s' r fl fe po).tst.armed = s'.tst.armed := (congrArg (fun x => x.2.1) hchecked :)
    have hnow : (stageChecked s' r fl fe po).now = s'.now := (congrArg (fun x => x.2.2) hchecked :)
    have e := exec_bistStageEnd_of_due hrun hw hd hr hm hc fl fe po rows
    refine ⟨fun h7 => ?_, fun h7 ha => ?_⟩
    · rw [stageEnds_eq hrun' h2 (by omega)] at e
      exact ⟨_, _, e, stageNext_of_after hr' (if_pos h7), rfl, hnow, rfl⟩
    · rw [stageEnds_eq hrun' h2 (by omega)] at e
      exact ⟨_, _, e, stageNext_of_last hr' (stageAfter_seventh h7 (ha.imp_left fun h => by rw [harmed, htst, h])), rfl, rfl⟩

end Sys2Proof.Proofs
end
